-- ==== Sys2Proof/Word.lean ====
section
/-! DEFINITION. Word.lean: the word types of the controller's registers, records and memories. -/
namespace Sys2Proof

/-- A 32-bit register of the BAR0 window (R44). -/
abbrev Word := BitVec 32

/-- A byte of DRAM, of a record or of a dictionary value. -/
abbrev Byte := BitVec 8

/-- A device time: nanoseconds in 64 bits (R176). -/
abbrev Time := BitVec 64

end Sys2Proof
end

