-- ==== Sys2Proof/Syntax.lean ====
section
/-! DEFINITION. Syntax.lean: the commands of the controller, and what some of them carry. -/
namespace Sys2Proof

/-- One channel bit of a sector as it is read (R485 to R488): the ADC sample, the envelope of the signal, and the
detector's decision with its log-likelihood ratio. -/
structure RBit where
  x : Int
  env : Nat
  d : Bool
  llr : Int := 0
  deriving DecidableEq, Repr

/-- One pass of a sector under the head: the channel bits from the sector's first bit on, and the time in µs since the
transfer's last pass ended, or since its piece or run began. -/
structure ReadPass where
  bits : List RBit
  us : Nat
  deriving DecidableEq, Repr

/-- A header of the servo stripe as it was read (R552): FRAME, TURN in Gray code, and P. -/
structure StripeHeader where
  frame : Nat
  turn : Nat
  p : Bool
  deriving DecidableEq, Repr

/-- A slot of the servo stripe that a window meets: a header slot, or a quartet with the rectified amplitudes of its
four bursts, `whole` where it lies wholly inside the window (R553, R558). -/
inductive StripeSlot where
  | header
  | quartet (whole : Bool) (a b c d : Nat)
  deriving DecidableEq, Repr

/-- The commands of the controller: one constructor for each row of spec/opcode_table.json, in the order of the
table. -/
inductive Instr where
  /-- REGISTER_WRITE (R1174): A BAR0 write to a register that has no row of its own stores the value, or discards it
  whole when it breaks the register's range or content rules. -/
  | registerWrite (off : BitVec 26) (be : BitVec 4) (v : Word)
  /-- LATCHED_LO_READ (R123): A read of the low word of a split 64-bit register latches its high word for the next
  read. -/
  | latchedLoRead (off : BitVec 26)
  /-- AXIS_FRAC_READ (R197): A read of CULM_AXk_FRAC returns the live fraction and latches the turn count and
  velocity. -/
  | axisFracRead (k : Fin 24)
  /-- TOKEN_RECORD_READ (R351): A read of word 0 of a token record latches words 1 to 7 of that record. -/
  | tokenRecordRead (k : Fin 1024)
  /-- SAMPLE_LINK_PACKET (R37): A sample-link packet arrives and is checked by CRC; a failed packet is discarded and
  repeated once. -/
  | sampleLinkPacket (ok : Bool) (slots : List (Fin 256))
  /-- LOCKSTEP_MISMATCH (R60): A pair mismatches; it is reset, and the other pair resumes its load from the last
  checkpoint. -/
  | lockstepMismatch (b : Bool)
  /-- PAIR_REJOIN (R61): A reset pair completes its reset and rejoins as standby, or resumes both loads when both
  pairs were in reset. -/
  | pairRejoin (b : Bool)
  /-- ENGINE_FIRMWARE_CYCLE (R58): The 250 µs engine-firmware cycle ends and each pair writes a checkpoint of its load
  to the handover memory. -/
  | engineFirmwareCycle
  /-- MODE_REQUEST (R78): A mode request through OD 1001:02 or SYS_MODE_REQ is judged against the current mode and
  starts, latches or refuses a transition. -/
  | modeRequest (od : Bool) (v : BitVec 8)
  /-- MODE_TRANSITION_COMPLETE (R91): A mode transition completes; SYS_MODE is updated, source 2 is raised, and a
  latched request is then judged. -/
  | modeTransitionComplete
  /-- READY_TIMEOUT (R93): OD 1001:0B passes without READY being reached; optional steps are failed, and the
  transition completes or returns to SERVICE with source 3. -/
  | readyTimeout
  /-- PRINT_LINGER_EXPIRY (R97): No token has been COMMITTED or IMAGED for OD 1001:08 and no pick is requested, so the
  controller moves from PRINT to READY. -/
  | printLingerExpiry
  /-- SAFE_RUNOUT_LIMIT (R102): Run-out has not ended within OD 1001:09, so the remaining axes stop at once and the
  overrun is recorded. -/
  | safeRunoutLimit
  /-- SAFE_SETTLED (R90): Every domain reaches the SAFE row after run-out and the drive stops, so SAFE_PHASE becomes 3
  and TRANSIT clears. -/
  | safeSettled
  /-- SAFE_ACK (R84): A write to OD 1001:0D or to SYS_SAFE_CAUSE.UNACK clears UNACK. -/
  | safeAck (od : Bool)
  /-- AON_POWER_APPLIED (R107): AON power is first applied; the controller starts up to the mode in OD 1001:04, and
  the fuser cut latch sets with cause POWER_ON. -/
  | aonPowerApplied
  /-- PB_SHORT_PRESS (R1007): A short press of PB_N is released; it acts as an OFF request, a power-up or a wake,
  depending on the mode. -/
  | pbShortPress
  /-- PB_LONG_PRESS (R1008): PB_N is still held at LONG_T; with FORCE_EN set the controller forces off. -/
  | pbLongPress
  /-- WAKE_N (R999): A qualified falling edge of WAKE_N in STANDBY starts a wake. -/
  | wakeN
  /-- SMBUS_ADDRESS_MATCH (R110): The SMBus address matches in OFF or STANDBY; the target acknowledges and powers up
  or wakes the controller. -/
  | smbusAddressMatch
  /-- PREDICTION_TICK (R138): An 800 MHz tick advances every axis prediction, recomputes the virtual axes and fires
  the due event-table occurrences. -/
  | predictionTick (pins : List Int)
  /-- INDEX_EDGE (R142): An index edge is captured, judged against the window, and accepted with corrections or
  rejected, moving the axis state. -/
  | indexEdge (k : Fin 24) (step : Fin 64) (width : Nat) (reverse : Bool) (zero : Bool) (h : Option StripeHeader)
  /-- INDEX_MISS (R146): The prediction passes the reference angle by more than the window with no edge, so a miss is
  counted, COAST is set, and the axis may go to LOST. -/
  | indexMiss (k : Fin 24)
  /-- AXIS_CFG_WRITE (R1178): A write to the configuration of an axis is checked under R129 and takes the axis to OFF
  and back under the new configuration. -/
  | axisCfgWrite (k : Fin 24) (which : Fin 5) (v : Word)
  /-- SWAP_ARM (R172): CULM_SWAP.ARM arms a bank swap at an angle, or refuses it. -/
  | swapArm (axis : BitVec 5) (atTurn : Bool)
  /-- SWAP_CANCEL (R196): CULM_SWAP.CANCEL cancels the armed swap. -/
  | swapCancel
  /-- ENTRY_WRITE (R167): CULM_ENT_CMD GO with OP 0 validates an entry and writes it into the inactive bank. -/
  | entryWrite (bank : Fin 2) (index : BitVec 12) (w0 : Word) (w1 : Word) (w2 : Word) (w3 : Word)
  /-- ENTRY_READ (R199): CULM_ENT_CMD GO with OP 1 reads an entry of either bank into CULM_ENT_W0 to CULM_ENT_W3. -/
  | entryRead (bank : Fin 2) (index : BitVec 12)
  /-- BANK_WRITE (R168): A write of OD 2000:10 or OD 2000:11 validates and writes a whole or partial event-table
  bank. -/
  | bankWrite (bank : Fin 2) (bs : List Byte)
  /-- GAIN_COMMIT (R204): A COMMIT arms the shadow gains, window, tolerance, feed-forward and offsets of an axis to
  apply at its next index edge. -/
  | gainCommit (k : Fin 24) (v : Word)
  /-- SNAP_REQ (R191): CULM_SNAP_CTRL.REQ takes an angle-and-time snapshot, or discards it while HOLD is set. -/
  | snapReq (hold : Bool)
  /-- SNAPSHOT_READ (R193): A read of OD 2000:20 takes a new snapshot and returns it. -/
  | snapshotRead
  /-- DEVICE_TIME_TICK (R177): A crystal cycle advances device time, and a new horizon is written when time nears the
  stored one. -/
  | deviceTimeTick
  /-- PTP_SYNC (R180): An accepted PTP Sync and its offset measurement correct device time by a step or by slewing. -/
  | ptpSync (offset : Int) (rate : Word)
  /-- SYNC_TIMEOUT (R183): No Sync is accepted for OD 2001:07, so device time enters HOLDOVER and source 43 is
  raised. -/
  | syncTimeout
  /-- HOLDOVER_LIMIT (R184): Holdover lasts past OD 2001:08, so device time enters FREE_RUN and source 44 is raised. -/
  | holdoverLimit
  /-- TIME_STEP (R187): A write of CULM_TIME_STEP_HI steps device time forward while PTP is disabled. -/
  | timeStep (hi : Word)
  /-- PTP_PORT_FAILOVER (R189): The link of the PTP port fails, so the other port becomes the PTP port. -/
  | ptpPortFailover
  /-- LINE_END (R224): The pixel clock stops after the line's count of periods. -/
  | lineEnd (n : Fin 4)
  /-- APC_SEQUENCE_START (R245): GAP after the pixel clock stops and the last gate closes, the APC sequence of the
  sweep begins. -/
  | apcSequenceStart (n : Fin 4) (fits : Nat)
  /-- APC_SAMPLE (R247): The lit interval of an APC slot ends; the sample is formed and the beam's slot is triggered. -/
  | apcSample (n : Fin 4) (codes : List (BitVec 12))
  /-- BD_WINDOW (R243): The beam-detect window opens or closes around a predicted division boundary. -/
  | bdWindow (n : Fin 4) (opens : Bool)
  /-- ILK_DEASSERT (R270): LSn_EN_N or LASER_EN_N is deasserted; the beams go dark in hardware and the latch sets. -/
  | ilkDeassert (line : Fin 5) (short : Bool)
  /-- REARM (R274): LSn_CTRL.REARM clears the interlock latch while both interlock inputs are asserted. -/
  | rearm (n : Fin 4)
  /-- STATION_DISABLE (R275): A write of 1 to LSn_CTRL.DISABLE darkens the station, stops APC and the polygon, and
  spoils the page in flight. -/
  | stationDisable (n : Fin 4)
  /-- STATION_ENABLE (R276): A write of 0 to LSn_CTRL.DISABLE checks the station and starts polygon, beam-detect
  search and acquisition. -/
  | stationEnable (n : Fin 4)
  /-- READINESS_LOSS (R268): Polygon lock or PLL lock falls, or rotor loss is reported; the station sets GATE_HOLD and
  spoils the page in flight. -/
  | readinessLoss (n : Fin 4) (cause : Fin 3)
  /-- BEAM_COMPLIANCE (R254): A lit beam reaches its compliance limit; a beam fault is raised and a spoil is marked. -/
  | beamCompliance (n : Fin 4)
  /-- TABLE_GO (R279): LSn_TBL GO validates the station's shadow tables and arms them to apply at the point given by
  WHEN. -/
  | tableGo (n : Fin 4) (whn : Fin 4)
  /-- TABLE_CANCEL (R279): LSn_TBL GO with WHEN 3 cancels an armed table apply. -/
  | tableCancel (n : Fin 4)
  /-- TOKEN_ACCEPT (R314): Firmware accepts a SUBMITTED token whose planes are all in the spool pool. -/
  | tokenAccept (k : Fin 1024)
  /-- TOKEN_ARM (R418): Firmware arms a token; the read plan is validated, spool frames are pinned and ring credits
  are reserved. -/
  | tokenArm (k : Fin 1024) (front : List (Nat × Nat × Nat × Nat)) (back : List (Nat × Nat × Nat × Nat))
  /-- TOKEN_DISARM (R315): A disarm returns an ARMED token to ACCEPTED and releases its pins, credits and plan. -/
  | tokenDisarm (k : Fin 1024)
  /-- TOKEN_REJECT_POLICY (R314): Firmware rejects a waiting token for policy reasons. -/
  | tokenRejectPolicy (k : Fin 1024)
  /-- PICK_REQUEST (R325): Firmware requests a pick for an ARMED token; the gate evaluation starts, or the request is
  refused as BUSY. -/
  | pickRequest (k : Fin 1024) (front : List (Option (Nat × Nat))) (back : List (Option (Nat × Nat)))
  /-- GATE_EVALUATION_COMPLETE (R325): The gate evaluation ends; the token commits and the pick move starts, or the
  gate refuses and records the failed checks. -/
  | gateEvaluationComplete
  /-- PGF_SNAPSHOT (R349): PGF_SNAP_CTRL.REQ records the seven token counts of one cycle. -/
  | pgfSnapshot
  /-- TOKEN_COUNTS_READ (R343): A read of OD 2800:05 takes a new snapshot of the token counts. -/
  | tokenCountsRead
  /-- SCREEN_WRITE (R320): A write of a screen set is checked and stored into the shadow screen memory. -/
  | screenWrite (n : Fin 4) (i : Fin 8) (bs : List Byte)
  /-- SCREEN_ARM (R321): A write of 1 to OD 281n:01 arms the shadow screens for the next committed token's top-of-page
  mark. -/
  | screenArm (n : Fin 4)
  /-- SCREEN_CANCEL (R321): A write of 2 to OD 281n:01 cancels an armed screen apply. -/
  | screenCancel (n : Fin 4)
  /-- PLANE_CODED (R389): The coder finishes a plane; it raises source 89 or 91 when they apply and moves to the next
  plane. -/
  | planeCoded
  /-- BAND_DECODE (R380): A decoder starts a band once every frame holding it is resident, and decodes it into the
  band store. -/
  | bandDecode (n : Fin 4)
  /-- CREDIT_GRANT (R409): A credit request that waited is granted once budget room appears. -/
  | creditGrant
  /-- ALLOC_COMPLETE (R416): An allocation that waited takes a frame once one reaches the free list. -/
  | allocComplete
  /-- TRANSIT_ARRIVE (R412): A frame in TRANSIT arrives at its pool or at the free list. -/
  | transitArrive (f : Nat)
  /-- PAGEOUT_WRITE_COMPLETE (R426): A page-out write completes and the frame is freed, or it fails and the frame
  returns to HELD. -/
  | pageoutWriteComplete (f : Nat) (ok : Bool)
  /-- SHF_SNAPSHOT (R435): SHF_SNAP_CTRL.REQ records the frame, pool and Mover books of one cycle. -/
  | shfSnapshot
  /-- BOOKS_READ (R435): A read of OD 2C00:07 takes a new books snapshot. -/
  | booksRead
  /-- DRAM_UNCORRECTABLE (R436): The memory controller reports an uncorrectable error, and the frame is marked for
  retirement. -/
  | dramUncorrectable (f : Nat) (o : Nat)
  /-- SHF_CREDIT (R460): SHF_CMD OP 0 requests ARG credits in pool 5 or 6. -/
  | shfCredit (pool : Fin 8)
  /-- SHF_RETURN (R414): SHF_CMD OP 1 returns ARG unused credits. -/
  | shfReturn (pool : Fin 8)
  /-- SHF_ALLOCATE (R461): SHF_CMD OP 2 allocates one frame against an outstanding credit. -/
  | shfAllocate (pool : Fin 8)
  /-- SHF_FREE (R461): SHF_CMD OP 3 frees frame ARG. -/
  | shfFree (pool : Fin 8)
  /-- SHF_RETIRE (R461): SHF_CMD OP 4 retires frame ARG. -/
  | shfRetire (pool : Fin 8)
  /-- POOL_BUDGET_WRITE (R405): A write of a pool budget is checked against TOTAL, the landing share and ISSUED. -/
  | poolBudgetWrite (p : Fin 8) (v : Word)
  /-- MOV_START (R444): A Mover channel start checks the descriptor and queues the channel, or sets MISSED. -/
  | movStart (k : Fin 16) (ctrl : Word)
  /-- MOV_CHANNEL_RUN (R448): A queued channel begins to run; the checks are made again and the copy starts. -/
  | movChannelRun
  /-- MOV_CHANNEL_DONE (R451): A channel ends DONE at its last write, or once its writes are visible under a barrier. -/
  | movChannelDone
  /-- MOV_ABORT (R453): A write of MOV_ABORT aborts queued or running channels. -/
  | movAbort (mask : BitVec 16) (blocks : Nat)
  /-- NONPRINT_PIECE_START (R577): The scheduler starts a non-print piece when its estimate fits the credit. -/
  | nonprintPieceStart (psi : Nat)
  /-- PLAN_RUN_START (R578): Print work becomes pending; a non-print piece stops at its sector boundary, and the plan
  runs start. -/
  | planRunStart (psi : Nat)
  /-- SECTOR_READ_COMPLETE (R499): A sector has passed; its marks are aligned, it is decoded and checked, and its
  bytes land or it goes to a reread. -/
  | sectorReadComplete (p : ReadPass)
  /-- RELAXED_REREAD (R497): A missed sector is read again on the next revolution with the relaxed threshold. -/
  | relaxedReread (p : ReadPass)
  /-- LADDER_STEP (R506): A recovery-ladder step rereads a sector; the sector lands, goes to the next step, or fails. -/
  | ladderStep (p : ReadPass)
  /-- SECTOR_WRITE (R501): RCH codes a sector and writes it with the write gate open from B to B + 38,656. -/
  | sectorWrite (data : List Byte) (bits : Nat) (us : Nat)
  /-- SECTOR_REWRITE (R505): Once its cause has cleared, an abandoned sector is rewritten. -/
  | sectorRewrite (data : List Byte) (bits : Nat) (us : Nat)
  /-- REWRITE_TIMEOUT (R505): WR_WAIT passes without the cause clearing, so the transfer ends WRITE_FAILED and the LBA
  is entered in the grown-defect list. -/
  | rewriteTimeout
  /-- PREAMP_FAULT (R522): PA_FLT_N asserts; the read attempt fails, source 119 is raised, and a FAULT read frame is
  issued. -/
  | preampFault
  /-- PREAMP_MANUAL_FRAME (R521): RCH_PA_CMD GO issues a manual preamplifier frame. -/
  | preampManualFrame (read : Bool) (addr : BitVec 7) (data : BitVec 8)
  /-- PREAMP_FRAME_DONE (R519): A preamplifier frame completes; a verify read may follow, and queued automatic frames
  run. -/
  | preampFrameDone (data : BitVec 8)
  /-- HEAD_SELECT (R520): A head is selected; the HEAD_SEL, IW, IOS, READ_BIAS and HEATER frames run, and the shadow
  tables come into force. -/
  | headSelect (h : Fin 4)
  /-- FH_CAL_START (R527): RCH_FH_CMD GO starts touchdown calibration of the selected zones. -/
  | fhCalStart (head : Fin 4) (zones : BitVec 8)
  /-- FH_CAL_ZONE_STEP (R528): After 4 revolutions at a heater code, the variance is judged and the search advances,
  passes or fails the zone. -/
  | fhCalZoneStep (v : Nat)
  /-- TOUCHDOWN (R529): Outside calibration the servo variance exceeds TD_TH; the heater codes of the zone are lowered
  and source 122 is raised. -/
  | touchdown (v : Nat)
  /-- GLIST_CLEAR (R547): A write of 1 to OD 3004:03 empties the grown-defect list. -/
  | glistClear
  /-- SERVO_WINDOW (R557): A 240 kHz window ends; the position sample is formed and validated, and the track-follow
  slot is triggered. -/
  | servoWindow (slots : List StripeSlot) (agc : Bool) (h : Option StripeHeader)
  /-- SEEK (R571): SRV_CMD OP 0 seeks to the target turn and head. -/
  | seek (head : Fin 4)
  /-- PARK (R597): SRV_CMD OP 1 parks the heads under velocity control. -/
  | park
  /-- LOAD (R598): SRV_CMD OP 2 loads the heads off the ramp. -/
  | load
  /-- SEEK_PROFILE_DONE (R565): The seek profile completes and SRV enters SETTLE, with the seek time measured on entry
  into FOLLOW. -/
  | seekProfileDone
  /-- SEEK_TIMEOUT (R565): SEEK_MAX passes without FOLLOW, so SRV parks and raises source 130. -/
  | seekTimeout
  /-- LOAD_TIMEOUT (R565): No valid header is read within LOAD_MAX, so SRV parks. -/
  | loadTimeout
  /-- PARK_LATCHED (R565): The heads latch on the ramp and SRV enters PARKED. -/
  | parkLatched
  /-- PARK_TIMEOUT (R565): The heads do not latch within PARK_MAX, so SRV enters FAULT and fires the retract circuit. -/
  | parkTimeout
  /-- RETRACT_FIRE (R599): The retract circuit fires on low supply, power loss, a park failure or a VCM fault, and
  sets the retract flag. -/
  | retractFire
  /-- RETRACT_COMPLETE (R600): RET_TIME ends; the heads are latched and the VCM is released. -/
  | retractComplete
  /-- VCM_FAULT (R569): The VCM bridge reports overcurrent or overtemperature; it opens, and the retract fires. -/
  | vcmFault
  /-- SPN_BRIDGE_FAULT (R604): The spindle stage reports a fault; SPN enters FAULT and SRV parks. -/
  | spnBridgeFault
  /-- WRITE_INHIBIT_CAUSE (R582): A write-inhibit cause is set, latched in SRV_WINH, and its source raised. -/
  | writeInhibitCause (i : Fin 6)
  /-- SHOCK_ASSERT (R582): SHOCK_N is asserted for 50 ns or longer, and SHOCK is set. -/
  | shockAssert
  /-- SHOCK_HOLD_EXPIRY (R582): SHOCK_N has been deasserted for SHOCK_HOLD, and SHOCK clears. -/
  | shockHoldExpiry
  /-- SUPPLY_LOW (R582): The spindle supply falls below V12_LOW and the SUPPLY cause is set. -/
  | supplyLow (mv : Nat)
  /-- SUPPLY_RESTORED (R582): The spindle supply has been above V12_LOW + 0.2 V for 10 ms, and SUPPLY clears. -/
  | supplyRestored (mv : Nat)
  /-- RPM_SET_WRITE (R594): A write of the spindle setpoint starts, stops or changes the spindle, or is refused. -/
  | rpmSetWrite (v : BitVec 16)
  /-- SPINDLE_START (R588): A spindle start begins with SENSE, then ramps open loop to handover. -/
  | spindleStart (sector : Fin 6)
  /-- SPINDLE_HANDOVER (R588): The spindle reaches HANDOVER, and the back-EMF observer takes commutation in ACCEL. -/
  | spindleHandover (ms : Nat)
  /-- SPINDLE_AT_SPEED (R591): The speed holds within tolerance for AT_N revolutions; SPN is AT_SPEED and SRV loads
  the heads. -/
  | spindleAtSpeed (revs : List Nat)
  /-- SPINDLE_ATTEMPT_FAILED (R589): A start attempt fails; the bridge opens, and a retry follows or SPN enters
  FAULT. -/
  | spindleAttemptFailed (cause : Fin 3) (degrees : Nat)
  /-- SPINUP_TIMEOUT (R590): SPINUP_MAX passes without AT_SPEED, so SPN enters FAULT and raises source 138. -/
  | spinupTimeout
  /-- SPINDLE_SPEED_FAULT (R591): The speed leaves its tolerance, or the axis loses LOCKED, so SPN falls to ACCEL. -/
  | spindleSpeedFault (mrpm : Nat)
  /-- SPINDLE_ROTOR_LOSS (R595): The spindle observer's plausibility fails; the spindle coasts, the heads park and
  catches follow. -/
  | spindleRotorLoss
  /-- SPINDLE_CATCH (R595): After the park, the observer synchronizes to the back-EMF and resumes commutation, or the
  catch fails. -/
  | spindleCatch (rpm : Nat) (ok : Option Bool)
  /-- ROTOR_STOPPED (R589): The back-EMF shows the rotor stopped, and the next attempt or a fresh start begins. -/
  | rotorStopped (who : Option (Fin 24))
  /-- RETRACT_FLAG_CLEAR (R601): SPN_CTRL.RET_CLR or OD 3410:0B clears the retract flag. -/
  | retractFlagClear
  /-- MOVE_ABSOLUTE (R634): MOT_AXk_CMD OP 0 starts or queues a move to an absolute target. -/
  | moveAbsolute (k : Fin 12) (queue : Bool) (ien : Bool)
  /-- MOVE_RELATIVE (R634): MOT_AXk_CMD OP 1 starts or queues a relative move. -/
  | moveRelative (k : Fin 12) (queue : Bool) (ien : Bool)
  /-- VELOCITY_POSITIVE (R629): MOT_AXk_CMD OP 2 starts a velocity move in the positive direction. -/
  | velocityPositive (k : Fin 12) (queue : Bool) (ien : Bool)
  /-- VELOCITY_NEGATIVE (R629): MOT_AXk_CMD OP 3 starts a velocity move in the negative direction. -/
  | velocityNegative (k : Fin 12) (queue : Bool) (ien : Bool)
  /-- STOP (R637): MOT_AXk_CMD OP 4 stops the axis under the jerk limit and empties its queue slot. -/
  | stop (k : Fin 12)
  /-- QUICK_STOP (R637): MOT_AXk_CMD OP 5 stops the axis at −EMAX at once. -/
  | quickStop (k : Fin 12)
  /-- HOME (R647): MOT_AXk_CMD OP 6 runs the homing sequence. -/
  | home (k : Fin 12)
  /-- SET_POS (R622): MOT_AXk_CMD OP 7 sets the position of an IDLE axis and sets HOMED. -/
  | setPos (k : Fin 12)
  /-- AXIS_FAULT_CLEAR (R683): MOT_AXk_CMD.CLR clears an axis fault, and the axis becomes IDLE. -/
  | axisFaultClear (k : Fin 12)
  /-- MICROSTEP (R624): A stepper axis's step timer expires; the step is issued, the profile is evaluated, and sheets
  and homing travel are advanced. -/
  | microstep (k : Fin 12)
  /-- SERVO_EVALUATION (R627): A servo axis is evaluated every SERVO_PER ticks, passing setpoints to its slot and
  checking the following error. -/
  | servoEvaluation (k : Fin 12)
  /-- HOLD_DELAY_EXPIRY (R641): HOLD_DELAY after the axis becomes IDLE, the current scale changes to IHOLD. -/
  | holdDelayExpiry (k : Fin 12)
  /-- DIN_CHANGE (R644): A raw DIN level changes; chatter is counted. -/
  | dinChange (i : Fin 32) (raw : Bool)
  /-- DIN_DEBOUNCED (R643): The raw level has held for DEBOUNCE; the debounced level changes and limit, home and
  sensor logic act on it. -/
  | dinDebounced (i : Fin 32)
  /-- CLEAR_JAM (R666): MOT_PATH_CMD OP 0 clears stopped sheets to CLEARED and clears the jam. -/
  | clearJam
  /-- MOT_SNAPSHOT (R673): MOT_SNAP_CTRL.REQ or a read of OD 3800:05 records the five sheet counts. -/
  | motSnapshot (byRead : Bool)
  /-- MICROSTEP_TABLE_APPLY (R642): A write of 1 to OD 3840:03 applies both shadow microstep tables at each axis's
  next full step. -/
  | microstepTableApply
  /-- PWM_PERIOD (R702): A drive unit's PWM period ends; currents are sampled, the observer and supervision run, and
  slots are fed. -/
  | pwmPeriod (u : Fin 24) (convs : List (List Nat)) (sector : Fin 6)
  /-- UNIT_START (R719): DRV_Uu_CMD OP 0 starts a unit. -/
  | unitStart (u : Fin 24)
  /-- UNIT_STOP (R746): DRV_Uu_CMD OP 1 takes the unit to STOPPING. -/
  | unitStop (u : Fin 24)
  /-- UNIT_COAST (R746): DRV_Uu_CMD OP 2 makes the unit coast. -/
  | unitCoast (u : Fin 24)
  /-- UNIT_FAULT_CLEAR (R746): DRV_Uu_CMD OP 3 clears the unit's fault, and the unit becomes IDLE. -/
  | unitFaultClear (u : Fin 24)
  /-- ADVANCE_TABLE_APPLY (R709): DRV_Uu_CMD OP 4 applies the advance table at the next entry into sector 0. -/
  | advanceTableApply (u : Fin 24)
  /-- ZERO_CROSSING (R707): A floating-phase zero crossing is detected and the next commutation is scheduled. -/
  | zeroCrossing (u : Fin 24) (tick : Nat)
  /-- COMMUTATION (R707): The scheduled commutation time arrives and the unit steps to the next sector. -/
  | commutation (u : Fin 24)
  /-- UNIT_ATTEMPT_FAILED (R720): A start attempt fails; the bridges open and the unit waits 50 ms without zero
  crossings before retrying or faulting. -/
  | unitAttemptFailed (u : Fin 24) (cause : Fin 3) (degrees : Nat)
  /-- CATCH_TIMEOUT (R722): CATCH_TIME passes without the catch completing; the bridges open and a further catch or
  STOPPING follows. -/
  | catchTimeout (u : Fin 24)
  /-- VBUS_SAMPLE (R728): A 1 µs bus conversion drives the chopper against WARN and checks undervoltage. -/
  | vbusSample (sns : Nat) (isns : Int)
  /-- CHOPPER_CHECK (R729): BRK_TCHK elapses with the chopper current low, or it exceeds BRK_IMAX, so CHOP_FAULT
  latches and regeneration may be inhibited. -/
  | chopperCheck (elapsed : Bool) (isns : Int)
  /-- BUS_UNDERVOLTAGE (R735): VBUS has stayed below UV for 10 µs; every unit faults. -/
  | busUndervoltage
  /-- BUS_HARD_CUT (R733): VBUS_SNS crosses the hard threshold; all gates go low in hardware and the units fault. -/
  | busHardCut
  /-- CHOP_FAULT_CLEAR (R734): DRV_BUS_CMD OP 0 clears CHOP_FAULT and REGEN_INH. -/
  | chopFaultClear
  /-- HARD_CUT_CLEAR (R734): DRV_BUS_CMD OP 1 clears HARD_CUT. -/
  | hardCutClear
  /-- OVERCURRENT (R737): A shunt conversion exceeds OC_TRIP, or a high side desaturates; the unit's bridges open and
  it faults. -/
  | overcurrent (u : Fin 24) (ma : Int) (desat : Bool)
  /-- GATE_SUPPLY (R738): The internal gate supply falls below 8.5 V; every gate is held low and the units fault. -/
  | gateSupply
  /-- SLOT_TIMER (R756): A TIMER slot's period count expires and its update is triggered. -/
  | slotTimer (n : Fin 256) (y : Int)
  /-- SLOT_TRIGGER (R758): A slot is triggered and its update becomes pending, or the trigger is dropped as an
  overrun. -/
  | slotTrigger (n : Fin 256) (y : Int) (stale : Bool) (late : Bool)
  /-- SLOT_UPDATE (R769): A lane starts a pending update, which runs the model check, the PID and the output write. -/
  | slotUpdate (l : Fin 4) (fault : Bool)
  /-- RELOCATION_DONE (R780): The relocation of a lane's slots ends; source 187 is raised. -/
  | relocationDone
  /-- COEF_APPLY_ARM (R776): TEFF_APPLY GO arms the shadow coefficient sets of the masked slots. -/
  | coefApplyArm (w : Fin 4)
  /-- COEF_APPLY_CANCEL (R776): TEFF_APPLY GO with WHEN 3 cancels an armed apply. -/
  | coefApplyCancel
  /-- COEF_APPLIED (R777): The armed sets come into force in one tick, or at the bank swap. -/
  | coefApplied
  /-- LANE_EVACUATE (R782): TEFF_LANE_CMD OP 0 relocates a lane's slots and takes the lane OUT. -/
  | laneEvacuate (l : Fin 4)
  /-- LANE_RETURN (R782): TEFF_LANE_CMD OP 1 returns a tested lane to ACTIVE. -/
  | laneReturn (l : Fin 4)
  /-- LANE_SELF_TEST (R782): TEFF_LANE_CMD OP 2 starts a self-test of a lane. -/
  | laneSelfTest (l : Fin 4)
  /-- LANE_SELF_TEST_DONE (R782): A lane self-test ends, leaving the lane OUT on a pass or FAULTED on a fail. -/
  | laneSelfTestDone (l : Fin 4) (pass : Bool)
  /-- SLOT_MOVE (R782): TEFF_LANE_CMD OP 3 moves a slot to another lane. -/
  | slotMove (n : Fin 256) (l : Fin 4)
  /-- HV_PWM_PERIOD (R800): An HV PWM period ends; the feedback is converted, trips are checked, and the slot is
  triggered. -/
  | hvPwmPeriod (k : Fin 16) (c : BitVec 12)
  /-- HV_TRIP_CLEAR (R813): HV_CMD OP 0, or OD 4400:04, clears TRIP and FB_FAULT of a channel. -/
  | hvTripClear (k : Fin 16)
  /-- HV_TABLE_ARM (R834): HV_CMD OP 1, or OD 4400:03 = 1, arms the shadow sine table. -/
  | hvTableArm
  /-- HV_TABLE_CANCEL (R834): HV_CMD OP 2, or OD 4400:03 = 2, cancels the sine-table arm. -/
  | hvTableCancel
  /-- TH_CONVERSION (R815): A thermistor conversion every 100 µs gives its temperature and judges its validity and the
  fuser window. -/
  | thConversion (j : Fin 8) (c : BitVec 12)
  /-- CUT_COMPARE (R817): The AON comparators sample every 20 µs, and three consecutive crossings set the cut latch. -/
  | cutCompare (codes : List (BitVec 12))
  /-- CUT_CLEAR (R821): FUS_CMD OP 0, or OD 4420:04, clears the cut latch. -/
  | cutClear
  /-- FUS_TABLE_ARM (R834): FUS_CMD OP 1, or OD 4420:07 = 1, arms the INV and LIN tables. -/
  | fusTableArm
  /-- FUS_TABLE_CANCEL (R834): FUS_CMD OP 2, or OD 4420:07 = 2, cancels the arm. -/
  | fusTableCancel
  /-- CUT_FORCE (R822): FUS_CMD OP 3, or OD 4420:05, sets the cut latch with cause FORCED. -/
  | cutForce
  /-- TRIGGER_PULSE_END (R828): TRG_W after its rising edge, a heater trigger pulse ends. -/
  | triggerPulseEnd (k : Fin 4)
  /-- ZOP_READ (R868): A ZOP READ returns an object's value. -/
  | zopRead (p : Fin 2) (u : List Byte)
  /-- ZOP_WRITE (R853): A ZOP WRITE is judged in order and written, with an acknowledgement after the checkpoint. -/
  | zopWrite (p : Fin 2) (u : List Byte)
  /-- ZOP_READ_INIT (R879): READ_INIT captures a DOMAIN value and opens a read transfer. -/
  | zopReadInit (p : Fin 2) (u : List Byte)
  /-- ZOP_READ_SEG (R879): READ_SEG returns bytes of the captured value. -/
  | zopReadSeg (p : Fin 2) (u : List Byte)
  /-- ZOP_WRITE_INIT (R880): WRITE_INIT judges TOTAL and opens a write transfer. -/
  | zopWriteInit (p : Fin 2) (u : List Byte)
  /-- ZOP_WRITE_SEG (R882): WRITE_SEG stages bytes; the last segment validates the value and writes it whole. -/
  | zopWriteSeg (p : Fin 2) (u : List Byte)
  /-- ZOP_XFER_ABORT (R883): XFER_ABORT abandons a transfer. -/
  | zopXferAbort (p : Fin 2) (u : List Byte)
  /-- ZOP_ATOMIC (R886): ATOMIC judges 1 to 16 items against a tentative copy and applies all of them or none. -/
  | zopAtomic (p : Fin 2) (u : List Byte)
  /-- ZOP_OPEN (R872): OPEN derives a session key from a key slot and nonces and opens a session. -/
  | zopOpen (p : Fin 2) (u : List Byte)
  /-- ZOP_CLOSE (R875): CLOSE ends the session. -/
  | zopClose (p : Fin 2) (u : List Byte)
  /-- ZOP_PING (R868): PING returns device time, time status and mode. -/
  | zopPing (p : Fin 2) (u : List Byte)
  /-- SESSION_IDLE_TIMEOUT (R875): A session receives no valid datagram for OD 1100:03 and ends. -/
  | sessionIdleTimeout (id : BitVec 32)
  /-- XFER_TIMEOUT (R883): A transfer has no segment for OD 1100:04 and is abandoned, raising source 242. -/
  | xferTimeout (id : BitVec 16)
  /-- STORE (R856): A write of 1 to OD 1010:01 writes the stored configuration into the bank not in use. -/
  | store
  /-- STORE_COMPLETE (R856): The store finishes and the new bank becomes the one in use in one step. -/
  | storeComplete
  /-- STORE_VOID (R857): A write of 2 to OD 1010:01 marks both banks void. -/
  | storeVoid
  /-- KEY_WRITE (R899): A write of a key slot installs the key and role, ends the slot's sessions, and raises source
  247. -/
  | keyWrite (admin : Bool) (n : Fin 4) (bs : List Byte)
  /-- MAILBOX_GO (R890): HQ_MBX_CTRL.GO serves the ZOP request in the mailbox buffer, or flags it malformed or without
  service. -/
  | mailboxGo (ien : Bool)
  /-- MAILBOX_RESPONSE (R890): The mailbox response is placed, STATUS becomes 2, and source 246 may be raised. -/
  | mailboxResponse
  /-- OD_READ (R894): SMBus command 0x20 reads an object of the SMBus subset. -/
  | odRead (index : BitVec 16) (sub : BitVec 8)
  /-- OD_WRITE (R895): SMBus command 0x21 writes an object of the subset, with PEC checked. -/
  | odWrite (index : BitVec 16) (sub : BitVec 8) (ty : BitVec 8) (bs : List Byte) (pec : Option Byte)
  /-- SMBUS_PING (R894): SMBus command 0x22 returns the mode and device time. -/
  | smbusPing
  /-- RESULT (R894): SMBus command 0x23 returns the outcome of the last OD_WRITE. -/
  | result
  /-- SMBUS_STRETCH_TIMEOUT (R897): The service pair does not answer within t_SMS; stretching stops and BUSY is
  reported. -/
  | smbusStretchTimeout (write : Bool) (index : BitVec 16) (sub : BitVec 8)
  /-- LINK_CHANGE (R900): An Ethernet link goes down or comes up, raising source 244. -/
  | linkChange (p : Fin 2) (up : Bool)
  /-- PCIE_RESET (R906): PERST_N, hot reset or FLR resets the endpoint and HQ, disabling the queues and cancelling
  pages being read. -/
  | pcieReset (flr : Bool)
  /-- D3HOT_CHANGE (R908): The endpoint enters or leaves D3hot, holding or resuming posting. -/
  | d3hotChange (d3 : Bool)
  /-- BAR2_ACCESS (R910): A BAR2 access reaches a scratch frame, or is a bad access counted with source 238. -/
  | bar2Access (off : BitVec 32) (n : Nat) (wr : Option (List (Option Byte)))
  /-- B2_BASE_WRITE (R909): A write of HQ_B2_BASE moves the aperture for later BAR2 requests. -/
  | b2BaseWrite (v : Word)
  /-- QUEUE_ENABLE (R912): EN = 1 checks the queue bases and size and starts the queue. -/
  | queueEnable (ev : Bool) (i : Fin 16) (cfg : Word)
  /-- QUEUE_DISABLE (R918): EN = 0 stops fetching; ACTIVE falls when the commands already fetched complete. -/
  | queueDisable (ev : Bool) (i : Fin 16) (cfg : Word)
  /-- SQ_DOORBELL (R913): A write of HQ_SQq_TAIL publishes new submission entries, or errors the queue when out of
  range. -/
  | sqDoorbell (q : Fin 16) (v : BitVec 12)
  /-- CQ_DOORBELL (R914): A write of HQ_CQq_HEAD releases completion entries and re-arms the vector. -/
  | cqDoorbell (q : Fin 16) (v : BitVec 12)
  /-- EVQ_DOORBELL (R955): A write of HQ_EVQe_HEAD releases event entries, and an overflow entry is posted. -/
  | evqDoorbell (e : Fin 4) (v : BitVec 12)
  /-- DESCRIPTOR_FETCH (R920): HQ fetches a descriptor from a queue with room, in round-robin order. -/
  | descriptorFetch (bytes : Option (List Byte))
  /-- SUBMIT_PAGE (R929): SUBMIT_PAGE reads the plane table, presents the header to PGF, and moves the page data. -/
  | submitPage (q : Fin 16) (table : Option (List (Nat × Nat × List Nat)))
  /-- PAGE_DATA_READ_DONE (R929): The last byte of the page is read and the completion is posted. -/
  | pageDataReadDone (q : Fin 16) (data : Option (List (List Byte)))
  /-- CANCEL_PAGE (R930): CANCEL_PAGE rejects a waiting token and its partner with CANCELLED. -/
  | cancelPage (q : Fin 16)
  /-- READ (R932): A READ block command reads sectors of the host's region into host memory. -/
  | read (q : Fin 16) (segs : Option (List Nat))
  /-- WRITE (R933): A WRITE block command writes host data to sectors of the host's region. -/
  | write (q : Fin 16) (segs : Option (List Nat))
  /-- BLOCK_COMMAND_DONE (R933): A block command completes or fails, and its completion is posted. -/
  | blockCommandDone (q : Fin 16) (failed : Option Nat)
  /-- READ_JOURNAL (R949): READ_JOURNAL copies journal records into the host buffer. -/
  | readJournal (q : Fin 16) (segs : Option (List Nat)) (moved : Option Nat)
  /-- ACK_JOURNAL (R950): ACK_JOURNAL, or OD 1132:08, advances ACKED. -/
  | ackJournal (q : Option (Fin 16)) (v : BitVec 64)
  /-- JOURNAL_SECTOR_WRITE (R947): Sectors holding unwritten journal records are written, and pool frames are freed. -/
  | journalSectorWrite
  /-- JOURNAL_FORMAT (R951): A write of 1 to OD 1132:07 empties the journal and writes a genesis record. -/
  | journalFormat
  /-- DOMAIN_REQUEST (R982): PWR_DOM_REQ GO, or OD 4800:03, sets a domain ON, RET or OFF in SERVICE. -/
  | domainRequest (d : Fin 8) (st : Fin 4)
  /-- DOMAIN_STEP_READY (R976): A sequencer step's ready signal arrives and the next step starts. -/
  | domainStepReady
  /-- DOMAIN_STEP_TIMEOUT (R979): A ready signal does not arrive within twice its maximum; the domain faults and
  returns to OFF. -/
  | domainStepTimeout
  /-- RAIL_ENABLE (R987): After UP_DELAY, the sequencer writes VSET and enables the next slot. -/
  | railEnable
  /-- RAIL_QUALIFIED (R988): A slot's power-good has been good for QUAL, so the slot qualifies. -/
  | railQualified (k : Fin 16)
  /-- RAIL_PG_DROP (R988): A power-good sample that is not good during qualification restarts the qualification, or
  fails the slot on CHATTER. -/
  | railPgDrop (k : Fin 16)
  /-- RAIL_PG_TIMEOUT (R989): A slot has not qualified PG_TIMEOUT after its enable, so it fails TIMEOUT. -/
  | railPgTimeout (k : Fin 16)
  /-- RAIL_FALLEN (R993): A disabled slot meets its fall condition, and the next slot is disabled. -/
  | railFallen (k : Fin 16)
  /-- RAIL_FALL_TIMEOUT (R994): A slot has not fallen within FALL_MAX; it is recorded STUCK and the sequence goes on. -/
  | railFallTimeout (k : Fin 16)
  /-- RAIL_LOST (R995): A qualified slot's power-good drops outside a sequence, raising source 214. -/
  | railLost (k : Fin 16)
  /-- PMBUS_TRANSACTION_DONE (R1013): A PMBus transaction completes, or fails and is repeated up to twice. -/
  | pmbusTransactionDone (k : Fin 16) (ok : Bool)
  /-- PMBUS_ALERT (R1014): PMB_ALERT_N asserts; the master reads ARA and STATUS_WORD, records them, and clears
  faults. -/
  | pmbusAlert (addr : BitVec 7) (word : BitVec 16)
  /-- OFFMIN_EXPIRY (R998): OFFMIN passes, so a retry, a latched start or a restart begins. -/
  | offminExpiry (supply : Bool)
  /-- POWER_LOSS (R1002): A monitor's power-good is not good for PF_FILTER; the retract fires, SAFE is entered, and
  the power-loss record is written. -/
  | powerLoss (k : Fin 16)
  /-- POWER_LOSS_RAIL_STEP (R1002): Every PF_STEP, the next rail is disabled during power loss. -/
  | powerLossRailStep
  /-- RST_IN (R1009): RST_IN_N asserted for 1 µs or longer forces off and resets the AON registers. -/
  | rstIn
  /-- RSTO_STRETCH_EXPIRY (R1011): STRETCH after its level qualifies, RSTO_Nk is released. -/
  | rstoStretchExpiry (k : Fin 4)
  /-- HK_ROUND (R1015): A 5 ms housekeeping round converts 48 channels and judges validity, limits, the print window
  and the heater codes. -/
  | hkRound (codes : List (BitVec 12)) (dies : List Int) (supplies : List Int) (failed : BitVec 12)
  /-- THERMAL_SHUTDOWN (R1024): A die comparator crosses t_TSD; the shutdown latches, SAFE is locked, and the LEVEL 3
  rails drop. -/
  | thermalShutdown (i : Fin 12)
  /-- HK_LIN_APPLY (R1019): A write of 1 to OD 4870:05 arms the housekeeping LIN tables for the next round. -/
  | hkLinApply
  /-- CAL_COMMAND (R1059): CAL_CMD GO, or OD 4C00:02, starts a calibration run, or refuses it. -/
  | calCommand (id : BitVec 4) (inst : BitVec 5)
  /-- CAL_MEASUREMENT_DONE (R1047): A calibration measurement ends; repeat agreement accepts, continues or rejects the
  run. -/
  | calMeasurementDone (id : Fin 10) (samples : List (List Int)) (readback : Bool)
  /-- CAL_INTERVAL (R1058): INTERVAL minutes pass since the last run, triggering the calibration. -/
  | calInterval (id : Fin 10)
  /-- CAL_PENDING_START (R1060): The obstacle of a pending calibration clears and its run starts. -/
  | calPendingStart (id : Fin 10)
  /-- CAL_PEND_TIMEOUT (R1061): A calibration pending for PEND_MAX holds its readiness signals at not ready. -/
  | calPendTimeout (id : Fin 10)
  /-- CAL_SWITCHOVER_TIMEOUT (R1051): An engine switch-over point has not come within 1 s of acceptance, so the
  correction is taken then. -/
  | calSwitchoverTimeout (id : Fin 10)
  /-- TRIM_FAULT_CLEAR (R1073): A write of 1 to OD 4C1c:06 clears TRIM_FAULT. -/
  | trimFaultClear (id : Fin 10)
  /-- EVENT_FORCE (R1081): A write to _EVT_FORCE, or OD 51ss:02, raises a source with FORCED = 1 in SERVICE or SAFE. -/
  | eventForce (od : Bool) (n : Fin 256) (v : Word)
  /-- EVENT_STATUS_CLEAR (R1077): Writing 1 to a status bit clears it, ending the source's busy period once its
  reactions are complete. -/
  | eventStatusClear (k : Fin 24) (v : Word)
  /-- ERR_N_MINW_EXPIRY (R1091): MINW passes and ERR_N is driven high if nothing holds it low. -/
  | errNMinwExpiry
  /-- BLOCK_RESET_DONE (R1085): A block reset completes, ending the source's busy period. -/
  | blockResetDone (src : Fin 256)
  /-- CHIP_RESET (R1086): After its Glume entry commits and containment ends, a chip reset runs as RST_IN_N. -/
  | chipReset
  /-- GLUME_ENTRY_COMMIT (R1095): An entry's two-phase write completes and is read back, or is rewritten or
  abandoned. -/
  | glumeEntryCommit (good : Bool)
  /-- GLUME_LINK_RETRY (R1103): Every 1 ms after a record-link fault, the queued entries are retried. -/
  | glumeLinkRetry (works : Bool)
  /-- CLEAR_PROTECTED (R1102): A write of 1 to OD 5400:05 empties the protected region. -/
  | clearProtected (admin : Bool)
  /-- NOTE (R1096): A write of OD 5400:07 writes a 40-byte NOTE entry. -/
  | note (bs : List Byte)
  /-- BOOT_STEP_DONE (R1111): A start-up step completes or fails, marks are set, and the next step or the halt
  follows. -/
  | bootStepDone (n : Fin 16) (ok : Bool) (inst : Nat) (cause : Nat) (us : Nat) (arg : Nat)
  /-- RUN_STEP (R1125): OD 5800:06, or BOOT_CMD OP 1, runs an optional step in service and clears its mark on
  success. -/
  | runStep (od : Bool) (n : BitVec 8)
  /-- CLEAR_MARKS (R1120): OD 5800:03, or BOOT_CMD OP 0, clears start-up marks. -/
  | clearMarks (od : Bool) (mask : BitVec 16)
  /-- ACTIVATE (R1132): A write of 1 to OD 5810:02 starts a hot switch or a cold switch to the staged set. -/
  | activate
  /-- CONFIRM (R1137): A write of 2 to OD 5810:02 confirms the trial. -/
  | confirm
  /-- REVERT (R1138): A write of 3 to OD 5810:02 reverts to the fallback bank. -/
  | revert
  /-- HANDOVER_DONE (R1133): A load handover completes at a checkpoint and the switch or hand-back proceeds. -/
  | handoverDone
  /-- PAIR_RELOAD_DONE (R1133): A pair finishes loading the staged set and rejoins as standby. -/
  | pairReloadDone (b : Bool)
  /-- TRIAL_TIMEOUT (R1137): TRIAL_TIME passes and the trial is confirmed. -/
  | trialTimeout
  /-- HANDBACK (R1140): A write of OD 5820:01 moves a load to a pair at the next checkpoint. -/
  | handback (v : BitVec 8)
  /-- PLL_LOCK (R266): A station's pixel-clock PLL reports lock after IMG turns on or N changes, setting PLL_LOCKED
  and possibly READY. -/
  | pllLock (n : Fin 4)
  /-- INTERLOCK_REASSERT (R272): LSn_EN_N or LASER_EN_N returns to asserted, updating ILK_LOCAL/ILK_GLOBAL and, with
  the latch clear, permitting light again. -/
  | interlockReassert (line : Fin 5)
  /-- PCIE_LINK (R960): The PCIe link trains up, goes down, or changes speed or width, updating HQ_STATUS and raising
  source 232. -/
  | pcieLink (up : Bool) (speed : Nat) (width : Nat)
  /-- COMPLETION_TIMEOUT (R916): A non-posted request to host memory gets no completion within the completion timeout,
  failing the fetch or data transfer. -/
  | completionTimeout (fetch : Bool) (q : Fin 16)
  /-- ENCODER_COUNT (R656): An ENCk_A or ENCk_B edge changes a servo axis's count, advancing the leading edge of
  sheets on segments carried by that axis. -/
  | encoderCount (e : Fin 12) (d : Int)
  /-- PA_FLT_N_DEASSERT (R522): PA_FLT_N is released; RCH_STATUS.PA_FAULT clears and waiting ladder steps or rewrites
  may proceed. -/
  | paFltNDeassert
  /-- AON_POWER_REMOVED (R1152): VIO_AON or VDD_AON falls below its minimum; every pin floats and all volatile state,
  device time included, is lost. -/
  | aonPowerRemoved (phase : Nat)
  /-- PTP_ANNOUNCE (R188): A PTP Announce message feeds the best master clock algorithm, selecting or changing the
  master and moving time status from UNSYNC to ACQUIRING. -/
  | ptpAnnounce (domain : BitVec 8) (priority1 : BitVec 8) (clockClass : BitVec 8) (accuracy : BitVec 8) (variance : BitVec 16) (priority2 : BitVec 8) (identity : BitVec 64)
  /-- GATE_SUPPLY_RESTORED (R738): The internal 10 V gate supply rises back above 8.5 V and DRV_STATUS.GATE_UV
  clears. -/
  | gateSupplyRestored
  /-- RECORD_DIE_FAULT (R1103): The record die reports an internal fault, or the record link fails, setting
  GLM_STATUS.LINK_FAULT and raising source 254. -/
  | recordDieFault
  deriving DecidableEq, Repr

end Sys2Proof
end

