-- ==== Sys2Proof/Machine/Bits.lean ====
section
/-! DEFINITION. Machine/Bits.lean: bit fields of registers, sign extension, saturation, little-endian bytes,
and the sparse canonical store that holds registers, dictionary values and memory. -/
namespace Sys2Proof.Machine

/-- Field `[lo + n - 1 : lo]` of a register, as a number. -/
def fld (w : Word) (lo n : Nat) : Nat := w.toNat / 2 ^ lo % 2 ^ n

/-- Bit `i` of a register. -/
def bitOf (w : Word) (i : Nat) : Bool := w.getLsbD i

/-- A register that holds `v` in the field that starts at bit `lo`, and zeros elsewhere. -/
def place (v lo n : Nat) : Word := BitVec.ofNat 32 (v % 2 ^ n * 2 ^ lo)

/-- One bit placed at `lo`. -/
def placeB (b : Bool) (lo : Nat) : Word := if b then place 1 lo 1 else 0

/-- A mask of `n` ones from bit `lo`. -/
def ones (lo n : Nat) : Word := BitVec.ofNat 32 ((2 ^ n - 1) * 2 ^ lo)

/-- `w` with the field of `n` bits at `lo` replaced by `v`. -/
def putFld (w : Word) (lo n v : Nat) : Word := (w &&& ~~~(ones lo n)) ||| place v lo n

/-- The signed value of the low `n` bits of `v`. -/
def sx (n v : Nat) : Int :=
  let u := v % 2 ^ n
  if 2 * u < 2 ^ n then (u : Int) else (u : Int) - (2 ^ n : Nat)

/-- The two's complement code of `i` in `n` bits. -/
def code (n : Nat) (i : Int) : Nat := (i % ((2 ^ n : Nat) : Int)).toNat

/-- A signed 32-bit word read as an integer. -/
def s32 (w : Word) : Int := w.toInt

/-- An integer written as a 32-bit word, modulo 2^32. -/
def w32 (i : Int) : Word := BitVec.ofInt 32 i

/-- Limit `x` to the range `lo` to `hi`. -/
def clampI (lo hi x : Int) : Int := if x < lo then lo else if hi < x then hi else x

/-- Saturate to a signed number of `n` bits. -/
def satS (n : Nat) (x : Int) : Int := clampI (-(2 ^ (n - 1) : Nat)) ((2 ^ (n - 1) : Nat) - 1) x

/-- Count one up, saturating at `top`. -/
def satInc (top n : Nat) : Nat := if n < top then n + 1 else top

/-- Add to a count, saturating at `top`. -/
def satAdd (top n d : Nat) : Nat := if n + d < top then n + d else top

/-- `floor (a / b)` for a positive `b`. -/
def floorDiv (a : Int) (b : Nat) : Int := a.fdiv (b : Int)

/-- `ceil (a / b)` of natural numbers; 0 when `b` is 0. -/
def ceilDiv (a b : Nat) : Nat := (a + b - 1) / b

/-- Division rounded to nearest, halves away from zero. -/
def roundDiv (a : Int) (b : Nat) : Int :=
  if 0 ≤ a then ((2 * a.toNat + b) / (2 * b) : Nat) else -(((2 * (-a).toNat + b) / (2 * b) : Nat) : Int)

/-- The `i`-th member of a list, or a default. -/
def nth {α : Type} (d : α) (l : List α) (i : Nat) : α := l.getD i d

/-- `l` with member `i` changed by `f`; unchanged when there is none. -/
def modAt {α : Type} (l : List α) (i : Nat) (f : α → α) : List α := l.modify i f

/-- The `n` little-endian bytes of `v`. -/
def leBytes : Nat → Nat → List Byte
  | 0, _ => []
  | n + 1, v => BitVec.ofNat 8 v :: leBytes n (v / 256)

/-- The number whose little-endian bytes are `bs`. -/
def leNat : List Byte → Nat
  | [] => 0
  | b :: bs => b.toNat + 256 * leNat bs

/-- The four bytes of a U32. -/
def u32le (v : Nat) : List Byte := leBytes 4 v

/-- The eight bytes of a U64. -/
def u64le (v : Nat) : List Byte := leBytes 8 v

/-- `n` bytes of `bs` from offset `o`, zeros where there are none. -/
def slice (bs : List Byte) (o n : Nat) : List Byte := (List.range n).map fun i => bs.getD (o + i) 0

/-- The little-endian number in `n` bytes at offset `o`. -/
def leAt (bs : List Byte) (o n : Nat) : Nat := leNat (slice bs o n)

/-- `bs` padded with zeros, or cut, to `n` bytes. -/
def padTo (n : Nat) (bs : List Byte) : List Byte := slice bs 0 n

/-- One look-up in a sparse store. -/
def find? {β : Type} (k : Nat) : List (Nat × β) → Option β
  | [] => none
  | (k', v) :: t => if k = k' then some v else find? k t

/-- What the store holds at `k`: its entry, or `d`, the value of an unlisted key. -/
def sget {β : Type} (d : β) (k : Nat) (l : List (Nat × β)) : β := (find? k l).getD d

/-- Write `v` at `k` in a store whose unlisted key `k` reads as `d`, keeping the canonical form. -/
def sput {β : Type} [DecidableEq β] (d v : β) (k : Nat) : List (Nat × β) → List (Nat × β)
  | [] => if v = d then [] else [(k, v)]
  | (k', v') :: t =>
    if k < k' then (if v = d then (k', v') :: t else (k, v) :: (k', v') :: t)
    else if k = k' then (if v = d then t else (k, v) :: t)
    else (k', v') :: sput d v k t

/-- Put `v` at `k` in a list with strictly rising keys. -/
def kput {β : Type} (k : Nat) (v : β) : List (Nat × β) → List (Nat × β)
  | [] => [(k, v)]
  | (k', v') :: t =>
    if k < k' then (k, v) :: (k', v') :: t else if k = k' then (k, v) :: t else (k', v') :: kput k v t

/-- Take key `k` out of a list. -/
def kdel {β : Type} (k : Nat) (l : List (Nat × β)) : List (Nat × β) := l.filter fun p => decide (p.1 ≠ k)

/-- The lowest number from `n` on that is no key of a list with strictly rising keys. -/
def firstGap {β : Type} (n : Nat) : List (Nat × β) → Nat
  | [] => n
  | (k, _) :: t => if k < n then firstGap n t else if k = n then firstGap (n + 1) t else n

/-- The canonical form of a store: keys strictly rising, and no entry equal to what an unlisted key reads as. -/
def swf {β : Type} [DecidableEq β] (d : Nat → β) : List (Nat × β) → Bool
  | [] => true
  | [(k, v)] => decide (v ≠ d k)
  | (k, v) :: (k', v') :: t => decide (k < k') && decide (v ≠ d k) && swf d ((k', v') :: t)

end Sys2Proof.Machine
end

