-- ==== Sys2Proof/Machine/Crypto.lean ====
section
/-! DEFINITION. Machine/Crypto.lean: the CRC-32 of R482, SHA-256 for the journal seal (R944) and HMAC-SHA-256 for ZOP.
-/
namespace Sys2Proof.Machine

/-! ## CRC-32 -/

/-- One bit of the reflected CRC. -/
def crcBit (c : Word) : Word := if bitOf c 0 then (c >>> 1) ^^^ 0xEDB88320 else c >>> 1

/-- One byte enters the CRC, least significant bit first (R482). -/
def crcByte (c : Word) (b : Byte) : Word :=
  let x := c ^^^ b.setWidth 32
  crcBit (crcBit (crcBit (crcBit (crcBit (crcBit (crcBit (crcBit x)))))))

/-- The CRC-32 of a byte string (R482). PRESUMED, log entry 73. -/
def crc32 (bs : List Byte) : Word := ~~~(bs.foldl crcByte 0xFFFFFFFF)

/-! ## SHA-256

The constants come from their definition: the first 32 bits after the point of roots of the first primes. -/

/-- The primes below a bound, in ascending order, those found so far being given. -/
def primesTo : Nat → List Nat
  | 0 => []
  | n + 1 => let l := primesTo n; if 1 < n ∧ l.all fun p => decide (n % p ≠ 0) then l ++ [n] else l

/-- The greatest number below `r + 2 ^ bits` whose power `e` does not exceed `v`, bit by bit from `r` upward. -/
def rootOf (e v : Nat) : Nat → Nat → Nat
  | 0, r => r
  | bits + 1, r => rootOf e v bits (if (r + 2 ^ bits) ^ e ≤ v then r + 2 ^ bits else r)

/-- The first 32 bits after the point of the root `e` of a number. -/
def rootBits (e p : Nat) : Word := BitVec.ofNat 32 (rootOf e (p * 2 ^ (32 * e)) 37 0)

/-- The constants of the 64 rounds: cube roots of the first 64 primes. -/
def shaKeys : List Word := (primesTo 312).map (rootBits 3)

/-- The chaining value before the first block: square roots of the first 8 primes. -/
def shaStart : List Word := (primesTo 20).map (rootBits 2)

/-- The exclusive or of a word turned right by each of some amounts. -/
def turns (l : List Nat) (w : Word) : Word := l.foldl (fun x n => x ^^^ w.rotateRight n) 0

/-- Run the rounds whose constants are given over the chaining value `v`, whose last word leaves as a new first one
comes; `m` holds the next 16 words of the message schedule. -/
def shaRun (m v : List Word) : List Word → List Word
  | [] => v
  | k :: ks =>
    let x (i : Nat) : Word := nth 0 v i
    let y (i : Nat) : Word := nth 0 m i
    let mix := x 7 + turns [6, 11, 25] (x 4) + (x 6 ^^^ (x 4 &&& (x 5 ^^^ x 6))) + k + y 0
    let top := mix + turns [2, 13, 22] (x 0) + ((x 0 &&& x 1) ||| (x 2 &&& (x 0 ||| x 1)))
    let next := y 0 + (turns [7, 18] (y 1) ^^^ (y 1 >>> 3)) + y 9 + (turns [17, 19] (y 14) ^^^ (y 14 >>> 10))
    shaRun (m.drop 1 ++ [next]) (top :: v.take 3 ++ (x 3 + mix) :: (v.drop 4).take 3) ks

/-- A chaining value takes in the first `n` blocks of a padded message. -/
def shaBlocks : Nat → List Byte → List Word → List Word
  | 0, _, v => v
  | n + 1, bs, v =>
    let m := (List.range 16).map fun i => BitVec.ofNat 32 (leNat (slice bs (4 * i) 4).reverse)
    shaBlocks n (bs.drop 64) (v.zipWith (· + ·) (shaRun m v shaKeys))

/-- SHA-256 of a byte string. PRESUMED, log entry 73. -/
def sha256 (m : List Byte) : List Byte :=
  let fill := List.replicate ((119 - m.length % 64) % 64) (0 : Byte)
  let padded := m ++ 0x80 :: fill ++ (leBytes 8 (8 * m.length)).reverse
  (shaBlocks (padded.length / 64) padded shaStart).flatMap fun w => (u32le w.toNat).reverse

/-- HMAC-SHA-256. -/
def hmac256 (key m : List Byte) : List Byte :=
  let k := padTo 64 (if 64 < key.length then sha256 key else key)
  sha256 ((k.map fun b => b ^^^ 0x5C) ++ sha256 ((k.map fun b => b ^^^ 0x36) ++ m))

end Sys2Proof.Machine
end

