-- ==== Sys2Proof/Config.lean ====
section
/-! DEFINITION. Config.lean: what one implementation fixes, and the values that the spec leaves open.
A constant without a body is a free value: nothing can be proved of it but what holds for every value. -/
namespace Sys2Proof

/-- FREE VALUE: the n-th value that the spec leaves open in the course of a run, as a number.
The step reads it at the counter `State.free` and advances the counter; a width is taken from its low bits. -/
opaque Config.freeNat : Nat → Nat

/-- FREE VALUE: how many steppings a die of this part lies beyond the first: 0 logic die, 1 BCD die, 2 record die
(R49). -/
opaque Config.dieStep : Nat → Nat

/-- FREE VALUE: the JEDEC manufacturer code of Ewetchavex, 11 bits (R1166). -/
opaque Config.jedec : BitVec 11

/-- FREE VALUE: the Vendor ID that the PCI-SIG assigned (R904, OD 1130:02). -/
opaque Config.vendorId : BitVec 16

/-- FREE VALUE: the 16 characters of the serial number, by place (OD 1000:03). -/
opaque Config.serial : Nat → Byte

/-- FREE VALUE: the version string of the firmware of a load (0 engine, 1 service) in a bank (OD 1000:04, OD
1000:05). -/
opaque Config.fwVersion : Nat → Nat → List Byte

/-- FREE VALUE: members of the controller's own PTP data set: 0 clock class, 1 accuracy, 2 variance, 3 identity
(R188). -/
opaque Config.ptpOwn : Nat → Nat

/-- FREE VALUE: the MAC address of a port, set at manufacture (OD 1101:02, OD 1102:02). -/
opaque Config.macAddr : Nat → BitVec 48

/-- FREE VALUE: what gives the base matrix of the LDPC code its shifts, by place (R484, OD 3000:10). -/
opaque Config.ldpcBase : Nat → Nat

/-- FREE VALUE: the current, in mA, that the velocity control of the VCM asks for at a reference velocity, by the
counter `State.free` (R597, R598). -/
opaque Config.velocityControl : Int → Nat → Int

/-- FREE VALUE: what an entry of the record die whose write was cut off, or failed, holds, by its place (R1095,
R1099). -/
opaque Config.tornByte : Nat → Byte

/-- FREE VALUE: whether the signature of an image set verifies under the key fused in the logic die (R1128). -/
opaque Config.imageSigned : List Byte → Bool

end Sys2Proof
end

