-- ==== Sys2Proof/Machine/State/Sys.lean ====
section
/-! DEFINITION. Machine/State/Sys.lean: operating modes, SAFE, bad accesses and the management pairs. -/
namespace Sys2Proof.Machine

/-- The six operating modes (R69). -/
inductive Mode where
  | off | standby | service | ready | print | safe
  deriving DecidableEq, Repr, Inhabited

/-- The code of a mode in every register, object and record (R69). -/
def Mode.code : Mode → Nat
  | .off => 0 | .standby => 1 | .service => 2 | .ready => 3 | .print => 4 | .safe => 5

/-- The mode of a code; none for 6 and above (R81). -/
def Mode.ofCode : Nat → Option Mode
  | 0 => some .off | 1 => some .standby | 2 => some .service
  | 3 => some .ready | 4 => some .print | 5 => some .safe | _ => none

/-- State of a management pair, coded as `SYS_PAIR.A_STATE` (R65). -/
inductive PairState where
  | inReset | active | standby | lockedOut
  deriving DecidableEq, Repr, Inhabited

/-- The code of a pair state (R65). -/
def PairState.code : PairState → Nat
  | .inReset => 0 | .active => 1 | .standby => 2 | .lockedOut => 3

/-- The two management pairs. -/
inductive Pair where
  | a | b
  deriving DecidableEq, Repr, Inhabited

/-- The two loads that the pairs carry (R57). -/
inductive Load where
  | engine | service
  deriving DecidableEq, Repr, Inhabited

/-- The outcomes of the last mode request: `SYS_MODE_REQ.STATUS` (R120). -/
inductive ReqStatus where
  | none | pending | done | stateConflict | busy | range | failed
  deriving DecidableEq, Repr, Inhabited

/-- The code of a request outcome (R120). -/
def ReqStatus.code : ReqStatus → Nat
  | .none => 0 | .pending => 1 | .done => 2 | .stateConflict => 3 | .busy => 4 | .range => 5 | .failed => 6

/-- The SYS block: modes, SAFE, bad accesses and pairs. -/
structure Sys where
  /-- 3 bits; `SYS_MODE.MODE` (R119). -/
  mode : Mode := .off
  /-- 3 bits; `SYS_MODE.TARGET` (R119); equal to MODE while TRANSIT is 0. -/
  target : Mode := .off
  /-- 1 bit; `SYS_MODE.TRANSIT` (R119). -/
  transit : Bool := false
  /-- 2 bits; `SYS_MODE.SAFE_PHASE` (R119). -/
  phase : Nat := 0
  /-- 1 bit; `SYS_MODE.SAFE_LOCKED` (R119, R104). -/
  safeLocked : Bool := false
  /-- 8 bits; `SYS_MODE.SAFE_COUNT` (R119). -/
  safeCount : Nat := 0
  /-- 1 bit; `SYS_SAFE_CAUSE.UNACK` (R122). -/
  unack : Bool := false
  /-- 8 bits; `SYS_SAFE_CAUSE.ORIGIN` (R122). -/
  origin : Nat := 0
  /-- 8 bits; `SYS_SAFE_CAUSE.SOURCE` (R122). -/
  causeSource : Nat := 0
  /-- 64 bits; `SYS_SAFE_TIME_HI`:`SYS_SAFE_TIME_LO` (R123). -/
  safeTime : Time := 0
  /-- 3 bits; `SYS_MODE_REQ.REQ` (R120), and OD 1001:02 as last written. -/
  req : Nat := 0
  /-- 3 bits; `SYS_MODE_REQ.STATUS` (R120). -/
  reqStatus : ReqStatus := .none
  /-- 8 bits; `SYS_MODE_REQ.SEQ` (R120). -/
  reqSeq : Nat := 0
  /-- A request started the transition in progress, and its outcome is due (R120). -/
  reqDrives : Bool := false
  /-- A request latched under R87 to R89, until its transition ends. -/
  latched : Option Mode := none
  /-- 64 bits; OD 1001:0A MODE_ENTRY_TIME (R118). -/
  entryTime : Time := 0
  /-- A drain to READY is in progress (R98). -/
  drain : Bool := false
  /-- How far a transition out of READY is (R94): 0 none, 1 the heads park, 2 the spindle stops, 3 the heaters and
  the high voltage are off and the axes stop, 4 the domains change. -/
  leave : Nat := 0
  /-- A transition to READY has been abandoned, and the controller is on its way to SERVICE (R93): the conditions
  that were not met. -/
  failing : Option Nat := none
  /-- 32 bits; `SYS_BADADDR` (R51). -/
  badAddr : Word := 0
  /-- 1 bit; `SYS_BADINFO.VALID` (R52). -/
  badValid : Bool := false
  /-- 1 bit; `SYS_BADINFO.WRITE` (R52). -/
  badWrite : Bool := false
  /-- 8 bits; `SYS_BADINFO.COUNT` (R52). -/
  badCount : Nat := 0
  /-- 3 bits; `SYS_BADINFO.REASON` (R52). -/
  badReason : Nat := 0
  /-- 2 bits; `SYS_PAIR.A_STATE` (R65). -/
  pairA : PairState := .active
  /-- 2 bits; `SYS_PAIR.B_STATE` (R65). -/
  pairB : PairState := .active
  /-- 1 bit; `SYS_PAIR.ENGINE_ON` (R65): the pair carrying the engine load. -/
  engineOn : Pair := .a
  /-- 1 bit; `SYS_PAIR.SERVICE_ON` (R65): the pair carrying the service load. -/
  serviceOn : Pair := .b
  /-- 8 bits; `SYS_PAIR.FAILOVERS` (R65). -/
  failovers : Nat := 0
  /-- Device time at which Pair A last rejoined, for the 60 s of R62. -/
  rejoinA : Option Time := none
  /-- Pair A is in reset because of a mismatch: its rejoining starts the 60 s of R62. -/
  missA : Bool := false
  /-- Pair B is in reset because of a mismatch: its rejoining starts the 60 s of R62. -/
  missB : Bool := false
  /-- Device time at which Pair B last rejoined, for the 60 s of R62. -/
  rejoinB : Option Time := none
  /-- Count of engine-load checkpoints in the handover memory (R58). -/
  ckptEngine : Nat := 0
  /-- Count of service-load checkpoints in the handover memory (R58). -/
  ckptService : Nat := 0
  /-- Device time of the last engine-load checkpoint (R58). -/
  ckptEngineTime : Time := 0
  /-- Device time of the last service-load checkpoint (R58). -/
  ckptServiceTime : Time := 0
  /-- A sample-link packet has failed its check and its repeat is awaited (R37). -/
  linkRepeat : Bool := false
  /-- AON power has been applied, and the start of R107 has not begun. -/
  startDue : Bool := true
  /-- LASER_EN_N is deasserted now: `LSn_STATUS.ILK_GLOBAL` of every station (R290). -/
  laserOff : Bool := false
  deriving DecidableEq, Repr

/-! ## The test access port -/

/-- The instructions of the test access port (R1166). -/
inductive TapInstr where
  | bypass | idcode | sample | extest | clamp | highz
  deriving DecidableEq, Repr, Inhabited

/-- The pin groups of R1163 that carry logic levels, and so have boundary cells. -/
inductive Group where
  | beam | beamDetect | laserEn | bridgeGate | brake | spindle | vcm | preampClock | preampData | preampFault | shock
  | hvPwm | fuserTrigger | engineIn | fuserCut | railEn | railPg | management | wakeIn | resetOut | errOut
  | perst | phyManage | phyReset | dramKeeper
  deriving DecidableEq, Repr, Inhabited

/-- The test access port: the instruction in force, IDCODE after a test reset, and the levels that PRELOAD or EXTEST
has put into the boundary cells, by group and index. -/
structure Tap where
  instr : TapInstr := .idcode
  cells : List ((Group × Nat) × Bool) := []
  deriving DecidableEq, Repr, Inhabited

end Sys2Proof.Machine
end

