-- ==== Sys2Proof/Machine/State/Evt.lean ====
section
/-! DEFINITION. Machine/State/Evt.lean: event sources, reactions in progress, ERR_N, and the Glume queue. -/
namespace Sys2Proof.Machine

/-- One queued Glume entry: one part of a record, before its SEQ is given (R1094 to R1098). -/
structure GItem where
  kind : Nat
  /-- The region asked for: protected or general (R1096). -/
  prot : Bool
  forced : Bool
  part : Nat
  parts : Nat
  source : Nat
  mode : Nat
  tstat : Nat
  time : Time
  /-- The 40 payload bytes. -/
  payload : List Byte
  /-- This entry is an event reaction of its source (R1077). -/
  react : Bool
  /-- The read-back of this entry has failed once (R1099). -/
  retried : Bool
  /-- The entry was redirected to the general region with PROTECTED = 1 (R1097). -/
  spilled : Bool
  deriving DecidableEq, Repr

/-- One entry of the record die (R1094). `state`: 0 valid, 1 torn in phase 1, 2 with COMMIT equal to SEQ,
3 abandoned after a failed read-back (R1095, R1099). -/
structure GEntry where
  seq : BitVec 32
  item : GItem
  state : Nat
  deriving DecidableEq, Repr

/-- The EVT and GLM blocks. -/
structure Evt where
  /-- 256 bits; the status bit of each source (R1076). -/
  status : BitVec 256 := 0
  /-- 256 bits; the busy mark of each source (R1077). -/
  busy : BitVec 256 := 0
  /-- 256 bits; busy sources whose ERRN was 1 at the raise (R1091, R1103). -/
  errn : BitVec 256 := 0
  /-- 1 bit; `EVT_ERR.GRAVE_HOLD` (R1106). -/
  graveHold : Bool := false
  /-- 1 bit; ERR_N is low: `EVT_ERR.ASSERTED` (R1106). -/
  errLow : Bool := false
  /-- The minimum low time of ERR_N is running (R1091). -/
  errMin : Bool := false
  /-- 8 bits; `EVT_ERR.LAST` (R1106). -/
  errLast : Nat := 0
  /-- Sources whose block reset has started and not completed (R1084, R1085). -/
  blockResets : List Nat := []
  /-- The source whose chip reset waits for its entry and for containment (R1086). -/
  chipReset : Option Nat := none
  /-- Traps held for a pair that is not in service: sources, oldest first (R1083). -/
  nmiHeld : List Nat := []
  /-- Traps delivered to Pair A, as a count (R1083). -/
  nmiA : Nat := 0
  /-- Traps delivered to Pair B, as a count (R1083). -/
  nmiB : Nat := 0
  /-- A SAFE entry decided by this step and not yet carried out: origin and source (R1084). -/
  safeReq : Option (Nat × Nat) := none
  /-- The entry into SAFE of this step skips the run-out (R101). -/
  safeSkip : Bool := false
  /-- Glume entries queued in AON SRAM, oldest first (R1098); `GLM_STATUS.QUEUED`. -/
  queue : List GItem := []
  /-- Protected records that wait for room in the queue (R1098). -/
  waiting : List GItem := []
  /-- 1 bit; `GLM_STATUS.LINK_FAULT` (R1107). -/
  linkFault : Bool := false
  /-- 32 bits; `GLM_DROPPED` (R1108). -/
  dropped : Nat := 0
  deriving DecidableEq, Repr

end Sys2Proof.Machine
end

