-- ==== Sys2Proof/Machine/State/Power.lean ====
section
/-! DEFINITION. Machine/State/Power.lean: power domains, rails, the sequencer, thermal supervision and start-up. -/
namespace Sys2Proof.Machine

/-- The power domains (R39), numbered as `PWR_DOM_REQ.DOMAIN` does. -/
inductive Dom where
  | aon | mgt | mem | ana | eng | dsk | pix | img
  deriving DecidableEq, Repr, Inhabited

/-- The number of a domain (R1029 ff.). -/
def Dom.code : Dom → Nat
  | .aon => 0 | .mgt => 1 | .mem => 2 | .ana => 3 | .eng => 4 | .dsk => 5 | .pix => 6 | .img => 7

/-- The domain of a number. -/
def Dom.ofCode : Nat → Dom
  | 0 => .aon | 1 => .mgt | 2 => .mem | 3 => .ana | 4 => .eng | 5 => .dsk | 6 => .pix | _ => .img

/-- Domain states (R972). -/
inductive DState where
  | off | ret | on | transit
  deriving DecidableEq, Repr, Inhabited

/-- The code of a domain state (R972). -/
def DState.code : DState → Nat
  | .off => 0 | .ret => 1 | .on => 2 | .transit => 3

/-- One task of the power sequencer, run in list order (R980, R987, R992). -/
inductive SeqTask where
  /-- Raise a rail slot (R987). -/
  | up (slot : Nat)
  /-- Disable a rail slot and wait for its fall (R992). -/
  | down (slot : Nat)
  /-- Bring a domain to a state in the four steps of R976 or R977. -/
  | dom (d : Dom) (goal : DState)
  deriving DecidableEq, Repr

/-- What a running sequence serves. -/
inductive SeqFor where
  /-- A mode transition, or the rails step of a start. -/
  | mode
  /-- A domain request of R982. -/
  | request
  /-- The take-down before a retry or after a failure (R990). -/
  | undo
  /-- A halted start or a failed one on its way to OFF (R991, R1121). -/
  | toOff
  deriving DecidableEq, Repr, Inhabited

/-- What follows once OFFMIN has passed (R990, R997, R998, R1006, R1121). -/
inductive AfterOff where
  | retry | start (target : Mode) | restored | resetIn | chipReset
  deriving DecidableEq, Repr

/-- One rail slot (R984 to R995). -/
structure Slot where
  /-- RAILk_EN is high, or the slot is enabled by PMBus (R987). -/
  enabled : Bool := false
  /-- `PWR_STATUS.QUALIFIED` bit (R1029). -/
  qualified : Bool := false
  /-- The power-good as last sampled (R988). -/
  pg : Bool := false
  /-- Qualification restarts in this sequence (R988, R989). -/
  restarts : Nat := 0
  /-- The level of RAILk_EN (R986, R987). -/
  pin : Bool := false
  /-- The last OPERATION that the PMBus master wrote to the slot; 0 before the first (R987, R992). -/
  operation : Nat := 0
  /-- The last VOUT_COMMAND that the PMBus master wrote to the slot; 0 before the first (R987). -/
  vout : Nat := 0
  /-- The settings in force while the slot is enabled or qualified: CFG, TIME, FALL and PMB (R1038). -/
  held : Option (List Word) := none
  deriving DecidableEq, Repr, Inhabited

/-- The PWR block. -/
structure Pwr where
  /-- 2 bits each; states of the domains 1 to 7, MGT first (R972, R1030). -/
  doms : List DState := List.replicate 7 .off
  /-- 8 bits; `PWR_DOM_STATE.FAULT` (R1030). -/
  domFault : BitVec 8 := 0
  /-- The rail slots (16). -/
  slots : List Slot := List.replicate 16 {}
  /-- The tasks that the sequencer has still to run, the current one first; `PWR_STATUS.SEQ_BUSY` while not empty. -/
  seq : List SeqTask := []
  /-- The step of the current domain task: 0 REG, 1 OSC, 2 MEM, 3 LOGIC (R976). -/
  seqStep : Nat := 0
  /-- The state from which the domain of the current task started (R976, R977). -/
  seqFrom : DState := .off
  /-- The domains in retention that came there from OFF, with no state to keep (R972, R1142). -/
  bare : List Dom := []
  /-- The tasks of the running sequence that completed, newest first (for R990). -/
  seqDone : List SeqTask := []
  /-- The last sequence has run its tasks, and what follows it has not begun yet. -/
  seqOver : Bool := false
  /-- What the sequence serves. -/
  seqFor : SeqFor := .mode
  /-- The slot of the current task has been enabled, or disabled for a down task. -/
  slotActive : Bool := false
  /-- 3 bits; `PWR_STATUS.RETRIES` (R1029). -/
  retries : Nat := 0
  /-- What starts when OFFMIN has passed. -/
  afterOff : Option AfterOff := none
  /-- 1 bit; `PWR_STATUS.PFAIL` (R1029). -/
  pfail : Bool := false
  /-- The steps of R1002 are running (power loss, force-off or RST_IN_N). -/
  losing : Bool := false
  /-- 1 bit; RST_IN_N is the cause of the running force-off (R1009). -/
  resetIn : Bool := false
  /-- The steps of R1002 serve a force-off, and no power loss (R1008). -/
  forced : Bool := false
  /-- 1 bit; a chip reset is the cause of the running force-off (R1086). -/
  chipReset : Bool := false
  /-- 1 bit; `PWR_STATUS.OFF_PEND` (R1029). -/
  offPend : Bool := false
  /-- 1 bit; `PWR_STATUS.ON_PEND` (R1029). -/
  onPend : Bool := false
  /-- 1 bit; `PWR_WAKE.PEND` (R1036). -/
  wakePend : Bool := false
  /-- 3 bits; `PWR_WAKE.SRC` (R1036). -/
  wakeSrc : Nat := 0
  /-- 32 bits; `PWR_LAST_FAIL` (R1032). -/
  lastFail : Word := 0
  /-- 32 bits; `PWR_CNT_RETRY` (R1036). -/
  cntRetry : Nat := 0
  /-- 32 bits; `PWR_CNT_PFAIL` (R1036). -/
  cntPfail : Nat := 0
  /-- 3 bits; `PWR_DOM_REQ.STATUS` (R1031). -/
  reqStatus : Nat := 0
  /-- 4 bits; RSTO_Nk is asserted: `PWR_RSTOk.STATE` (R1011, R1036). -/
  rsto : List Bool := [true, true, true, true]
  /-- 4 bits; the stretch of RSTO_Nk is running (R1011). -/
  rstoStretch : List Bool := [false, false, false, false]
  /-- The `PWR_RSTOk` in force (R1038). -/
  rstoCfg : List Word := List.replicate 4 0x80000014
  /-- The failed attempts of the PMBus transaction in progress (R1013). -/
  pmbTries : Nat := 0
  /-- The PMBus commands that the last action of the master issued, in order: slot, command code and data (R1012). -/
  pmbSent : List (Nat × Nat × Nat) := []
  deriving DecidableEq, Repr

/-- One housekeeping channel (R1015 to R1018). -/
structure HkCh where
  /-- S32; `THM_CHc_VAL`. -/
  val : Int := 0
  /-- 12 bits; the last code. -/
  code : Nat := 0
  valid : Bool := false
  loHit : Bool := false
  hiHit : Bool := false
  /-- The value lay outside its limits at its last conversion (R1018). -/
  out : Bool := false
  deriving DecidableEq, Repr, Inhabited

/-- The THM block. -/
structure Thm where
  /-- 1 bit; `THM_STATUS.TSD` (R1035). -/
  tsd : Bool := false
  /-- 12 bits; `THM_STATUS.TSD_CAUSE` (R1035). -/
  tsdCause : BitVec 12 := 0
  /-- 1 bit; `THM_STATUS.PRINT_OK` (R1035). -/
  printOk : Bool := false
  /-- 1 bit; `THM_STATUS.JHIGH` (R1035). -/
  jhigh : Bool := false
  /-- 32 bits; `THM_ROUND` (R1036). -/
  round : Word := 0
  /-- The 48 channels (R1015). -/
  chans : List HkCh := List.replicate 48 {}
  /-- State of the LIN apply: 0 idle, 1 armed, 2 applied, 3 cancelled (OD 4870:05). -/
  linApply : Nat := 0
  /-- The four LIN tables in force, 33 entries each (R1019). -/
  lin : List (List Int) := List.replicate 4 (List.replicate 33 0)
  deriving DecidableEq, Repr

/-- One entry of OD 5800:05 LAST_START (R1149). -/
structure StepLog where
  method : Nat := 0
  outcome : Nat := 0
  duration : Nat := 0
  deriving DecidableEq, Repr, Inhabited

/-- One bank of the image store (R1127, R1148). -/
structure ImgBank where
  /-- 0 empty, 1 staged, 2 active, 3 fallback (R1148). -/
  state : Nat := 0
  rejected : Bool := false
  version : Nat := 0
  svn : Nat := 0
  ckpt : Nat := 0
  deriving DecidableEq, Repr, Inhabited

/-- The BOOT block, without what the record die and the fuses keep. -/
structure Boot where
  /-- 1 bit; `BOOT_STATUS.STARTING` (R1145). -/
  starting : Bool := false
  /-- 1 bit; `BOOT_STATUS.HALTED` (R1145). -/
  halted : Bool := false
  /-- 1 bit; `BOOT_STATUS.NO_DISK` (R1145). -/
  noDisk : Bool := false
  /-- 16 bits; the steps running now, bit s = step s; `BOOT_STATUS.CUR_STEP` shows the lowest (R1145). -/
  running : BitVec 16 := 0
  /-- 16 bits; the steps of this start that have ended or are absent. -/
  ended : BitVec 16 := 0
  /-- 16 bits; the running steps that use their alternate method. -/
  byAlt : BitVec 16 := 0
  /-- 16 bits; `BOOT_STATUS.ALT` (R1145). -/
  alt : BitVec 16 := 0
  /-- The mode that the start is to reach. -/
  startTarget : Mode := .off
  /-- Steps 9 to 15 have still to run in this start (R1111). -/
  optional : Bool := false
  /-- A cause of SAFE has been latched during this start, which ends in SAFE (R86, R1176). -/
  safeCause : Bool := false
  /-- The start runs each marked step by its primary method first (R1121). -/
  primaryFirst : Bool := false
  /-- Restarts made after a halt (R1121). -/
  restarts : Nat := 0
  /-- The 15 entries of OD 5800:05. -/
  lastStart : List StepLog := List.replicate 15 {}
  /-- 3 bits; `BOOT_CMD.STATUS` (R1146). -/
  cmdStatus : Nat := 0
  /-- The step that OD 5800:06 runs in service (R1125); 0 for none. -/
  serviceStep : Nat := 0
  /-- 3 bits; `BOOT_STATUS.UPD_STATE` (R1145). -/
  updState : Nat := 0
  /-- 1 bit; `BOOT_STATUS.TRIAL` (R1145). -/
  trial : Bool := false
  /-- The step of R1133 in progress, 1 to 5; 0 for none. -/
  updStep : Nat := 0
  /-- The switch in progress is a reversion (R1138). -/
  reverting : Bool := false
  /-- The switch in progress is a cold one (R1135). -/
  cold : Bool := false
  /-- P1 of R1133: the pair that carried the service load when the switch began. -/
  updP1 : Pair := .b
  /-- A hand-back that waits for its checkpoint: load and pair (R1140). -/
  handback : Option (Load × Pair) := none
  /-- 2 bits; OD 5820:01 as read (R1149). -/
  handbackStatus : Nat := 0
  deriving DecidableEq, Repr

end Sys2Proof.Machine
end

