-- ==== Sys2Proof/Machine/State/Hq.lean ====
section
/-! DEFINITION. Machine/State/Hq.lean: the PCIe endpoint, the host queues, the event queues and the journal. -/
namespace Sys2Proof.Machine

/-- A completion entry, without its phase bit and SQ head (R935). -/
structure Cpl where
  cid : Nat
  status : Nat
  reason : Nat
  result : Nat
  result2 : Nat
  deriving DecidableEq, Repr

/-- A completion entry as posted in host memory (R935). -/
structure CqEntry where
  cpl : Cpl
  sqHead : Nat
  phase : Bool
  qid : Nat
  deriving DecidableEq, Repr

/-- A descriptor fetched and not completed (R919). -/
structure Desc where
  /-- The 64 bytes of the SQ entry. -/
  bytes : List Byte
  /-- The SQ head after its fetch (R935). -/
  sqHead : Nat
  /-- 0 fetched, 1 running (its data is moving), 2 its disk transfer has ended with `status`. -/
  phase : Nat := 0
  status : Nat := 0
  /-- The token of a SUBMIT_PAGE. -/
  token : Nat := 0
  /-- Sectors completed so far, for a block command. -/
  done : Nat := 0
  deriving DecidableEq, Repr

/-- One queue pair (R911 to R921). -/
structure QPair where
  /-- `HQ_Qq_STATUS.ACTIVE` (R965). -/
  active : Bool := false
  /-- `HQ_Qq_STATUS.ERROR` (R965). -/
  error : Bool := false
  /-- `HQ_Qq_STATUS.ERRCODE` (R965). -/
  errcode : Nat := 0
  /-- EN = 0 was written and ACTIVE has not yet fallen (R918). -/
  stopping : Bool := false
  /-- `HQ_Qq_STATUS.SQ_HEAD` (R965). -/
  sqHead : Nat := 0
  /-- The SQ tail in force: the last doorbell value taken (R913). -/
  sqTail : Nat := 0
  /-- The CQ head in force: the last doorbell value taken (R914). -/
  cqHead : Nat := 0
  /-- `HQ_SQq_TAIL` and `HQ_CQq_HEAD` as they read: the last values written (R968, R969). -/
  sqWord : Nat := 0
  cqWord : Nat := 0
  /-- The next CQ index that HQ writes. -/
  cqTail : Nat := 0
  /-- The phase bit P of the next entry (R914). -/
  cqPhase : Bool := true
  /-- Source 239 has been raised for the present lack of room (R915). -/
  fullSeen : Bool := false
  /-- The slot and the number of the last token submitted on the queue (R310). -/
  lastTok : Option (Nat × Nat) := none
  /-- Descriptors in flight, oldest first; their number is INFLIGHT (R965). -/
  inflight : List Desc := []
  /-- Completions that wait for room in the CQ, in order, each with its SQ head (R915). -/
  due : List (Cpl × Nat) := []
  /-- Entries written to host memory that the host has not released, oldest first (R914). -/
  posted : List CqEntry := []
  deriving DecidableEq, Repr, Inhabited

/-- An event-queue entry (R954). -/
structure EvEntry where
  kind : Nat
  tstat : Nat
  code : Nat
  reason : Nat
  arg : Nat
  time : Time
  phase : Bool := true
  deriving DecidableEq, Repr

/-- One event queue (R955, R966, R968). -/
structure EvQueue where
  active : Bool := false
  error : Bool := false
  /-- The head in force: the last doorbell value taken (R955). -/
  head : Nat := 0
  /-- `HQ_EVQe_HEAD` as it reads: the last value written (R968, R969). -/
  headWord : Nat := 0
  tail : Nat := 0
  phase : Bool := true
  /-- `HQ_EVQe_STATUS.DROPPED`, 12 bits saturating (R968). -/
  dropped : Nat := 0
  /-- Entries dropped since the last OVERFLOW entry (R955). -/
  lost : Nat := 0
  posted : List EvEntry := []
  deriving DecidableEq, Repr, Inhabited

/-- One MSI-X vector (R956, R957). -/
structure Vector where
  /-- The four words of the table entry: address low, address high, data, control (bit 0 = mask). -/
  addrLo : Word := 0
  addrHi : Word := 0
  data : Word := 0
  mask : Bool := true
  /-- The pending bit (R957). -/
  pending : Bool := false
  /-- A message has been sent and no head doorbell has re-armed the vector (R956). -/
  sent : Bool := false
  /-- Messages sent. -/
  count : Nat := 0
  deriving DecidableEq, Repr, Inhabited

/-- A journal record of 128 bytes (R943). -/
structure JRec where
  seq : Nat
  bytes : List Byte
  /-- The journal-pool frame that holds it (R947). -/
  frame : Nat := 0
  deriving DecidableEq, Repr

/-- The HQ block with its journal. -/
structure Hq where
  /-- `HQ_STATUS.LINK_UP` (R961). -/
  linkUp : Bool := false
  /-- `HQ_STATUS.SPEED` (R961). -/
  speed : Nat := 0
  /-- `HQ_STATUS.WIDTH` (R961). -/
  width : Nat := 0
  /-- `HQ_STATUS.D3` (R961). -/
  d3 : Bool := false
  /-- `HQ_B2_BASE.FRAME` (R963). -/
  b2Base : Nat := 0
  /-- `HQ_B2_BASE.PENDING` (R963). -/
  b2Pending : Bool := false
  /-- `HQ_CNT_CORR` (R968). -/
  cntCorr : Nat := 0
  /-- `HQ_CNT_UNCORR` (R968). -/
  cntUncorr : Nat := 0
  /-- `HQ_CNT_CTO` (R968). -/
  cntCto : Nat := 0
  /-- `HQ_CNT_B2BAD` (R968). -/
  cntB2bad : Nat := 0
  /-- The queue pairs (16). -/
  qs : List QPair := List.replicate 16 {}
  /-- The event queues (4). -/
  evqs : List EvQueue := List.replicate 4 {}
  /-- The MSI-X vectors (64). -/
  vecs : List Vector := List.replicate 64 {}
  /-- The queue from which the last descriptor was fetched, for the round robin (R920). -/
  lastQ : Nat := 15
  /-- Ethernet link states of ports 0 and 1 (R900). -/
  eth : List Bool := [false, false]
  /-- Event entries that wait for the return to D0 (R908), with their queue. -/
  held : List (Nat × EvEntry) := []
  /-- The journal bytes that HQ last wrote to host memory for a READ_JOURNAL (R922, R949). -/
  delivered : List Byte := []
  deriving DecidableEq, Repr

/-- The journal: its counters, its pool, and what is on the medium (R943 to R951). -/
structure Journal where
  /-- OD 1132:03 NEXT_SEQ. -/
  next : Nat := 0
  /-- OD 1132:04 ACKED. -/
  acked : Nat := 0
  /-- OD 1132:06 HEAD_SEAL, 256 bits. -/
  headSeal : List Byte := List.replicate 32 0
  /-- Records placed in the journal pool and not yet on the medium, oldest first (R947). -/
  pool : List JRec := []
  /-- Records on the medium, oldest first (R945). -/
  medium : List JRec := []
  /-- Source 237 has been raised for the present wait (R946). -/
  fullSeen : Bool := false
  /-- Records since the last anchor (R948). -/
  sinceAnchor : Nat := 0
  /-- The journal-pool frame that takes the next record, and the records placed in it (R947). -/
  fill : Option (Nat × Nat) := none
  /-- PRINT_SECTORS, JRN_BASE and JRN_SECTORS in force (R941, R971). -/
  printSectors : Nat := 0
  jrnBase : Nat := 0
  jrnSectors : Nat := 0
  deriving DecidableEq, Repr

end Sys2Proof.Machine
end

