-- ==== Sys2Proof/Machine/State/Culm.lean ====
section
/-! DEFINITION. Machine/State/Culm.lean: the angle timebase, its event table, snapshots and device time. -/
namespace Sys2Proof.Machine

/-- Axis states (R147). -/
inductive AxState where
  | off | acquire | locked | lost
  deriving DecidableEq, Repr, Inhabited

/-- The code of an axis state (R147). -/
def AxState.code : AxState → Nat
  | .off => 0 | .acquire => 1 | .locked => 2 | .lost => 3

/-- One entry of the event table, in its four words (R152). -/
structure TEntry where
  w0 : Word := 0
  w1 : Word := 0
  w2 : Word := 0
  w3 : Word := 0
  deriving DecidableEq, Repr, Inhabited

/-- A due occurrence: its axis, its place in the tick, its entry index, its action and its argument (R155 to R159),
and its turn and fraction. -/
structure Firing where
  axis : Nat
  step : Nat
  index : Nat
  action : Nat
  arg : Word
  late : Bool := false
  /-- 64 bits; turn count and fraction of the occurrence (R153). -/
  point : Nat := 0
  deriving DecidableEq, Repr, Inhabited

/-- The tracking constants in force on an axis (R204). The reset values are the same for every kind of axis. DESIGN
CHOICE, log entry 97. -/
structure AxGains where
  gain : Word := 0x02040800
  win : Word := 0x01000000
  locktol : Word := 0x00010000
  aff : Word := 0
  iofs : List Word := List.replicate 16 0
  deriving DecidableEq, Repr, Inhabited

/-- One axis (R124 to R151, R1177). -/
structure Axis where
  /-- `CULM_AXk_CFG` (R201). -/
  cfg : Word := 0
  /-- `CULM_AXk_VCFG` (R206). -/
  vcfg : Word := 0
  /-- `CULM_AXk_VPAR_LO` (R197). -/
  vparLo : Word := 0
  /-- `CULM_AXk_VPAR_HI` (R197). -/
  vparHi : Word := 0
  /-- `CULM_AXk_VOFS` (R197). -/
  vofs : Word := 0
  /-- `CULM_AXk_STATE.STATE` (R207). -/
  st : AxState := .off
  /-- 96 bits; the angle θ. -/
  theta : Nat := 0
  /-- S64; the velocity ω. -/
  omega : Int := 0
  /-- S64; the acceleration α. -/
  alpha : Int := 0
  /-- 96 bits; the high-water angle H. -/
  high : Nat := 0
  /-- S64; the acceleration feed-forward (R139). -/
  alphaFf : Int := 0
  /-- `CULM_AXk_STATE.COAST` (R207). -/
  coast : Bool := false
  /-- `CULM_AXk_STATE.CFG_ERR` (R207). -/
  cfgErr : Bool := false
  /-- 16 bits; `CULM_AXk_STATE.DIV` (R207). -/
  div : Nat := 0
  /-- 32 bits; the turn count of the division last accepted or missed (R141). -/
  divTurn : Nat := 0
  /-- Consecutive misses (R148). -/
  missRow : Nat := 0
  /-- Consecutive rejects (R148). -/
  rejRow : Nat := 0
  /-- 16 bits; `CULM_AXk_CNT.MISSES` (R208). -/
  misses : Nat := 0
  /-- 16 bits; `CULM_AXk_CNT.REJECTS` (R208). -/
  rejects : Nat := 0
  /-- Edges taken by the present acquisition (R149). -/
  acqEdges : Nat := 0
  /-- No edge has been seen since the axis left OFF (R149). -/
  fromOff : Bool := true
  /-- Consecutive good edges towards LOCK_N (R148). -/
  goodRow : Nat := 0
  /-- S32; `CULM_AXk_ERR` (R197). -/
  err : Int := 0
  /-- Stamp of the last accepted edge, in 1/64 tick (R142). -/
  lastAcc : Nat := 0
  /-- Stamp of the last edge of any kind, in 1/64 tick (R135). -/
  lastAny : Option Nat := none
  /-- The constants in force (R204). -/
  act : AxGains := {}
  /-- A COMMIT waits for the next index edge (R204). -/
  commit : Bool := false
  /-- `CULM_AXk_TURN` as latched (R197). -/
  latTurn : Word := 0
  /-- `CULM_AXk_VEL` as latched (R197). -/
  latVel : Int := 0
  deriving DecidableEq, Repr, Inhabited

/-- One axis of a snapshot (R190). -/
structure SnapAx where
  frac : Nat := 0
  turn : Nat := 0
  vel : Int := 0
  st : Nat := 0
  deriving DecidableEq, Repr, Inhabited

/-- The CULM block without its device-time part. -/
structure Culm where
  /-- The 24 axes. -/
  axes : List Axis := List.replicate 24 {}
  /-- 800 MHz ticks since ENG came on. -/
  tick : Nat := 0
  /-- Event table, bank 0: entries that are not all zero, by index (R152). -/
  bank0 : List (Nat × TEntry) := []
  /-- Event table, bank 1. -/
  bank1 : List (Nat × TEntry) := []
  /-- `CULM_STATUS.ACTIVE_BANK` (R195). -/
  active : Nat := 0
  /-- `CULM_STATUS.SWAP_ARMED` (R195). -/
  swapArmed : Bool := false
  /-- `CULM_SWAP.STATUS` (R196). -/
  swapStatus : Nat := 0
  /-- `CULM_SWAP.AXIS` (R196). -/
  swapAxis : Nat := 0
  /-- `CULM_SWAP.AT_TURN` (R196). -/
  swapAtTurn : Bool := false
  /-- The axis of the armed swap (R172). -/
  armAxis : Nat := 0
  /-- The armed swap waits for its turn (R172). -/
  armAtTurn : Bool := false
  /-- The angle of the armed swap (R172). -/
  armAngle : Nat := 0
  /-- The turn of the armed swap (R172). -/
  armTurn : Nat := 0
  /-- A forward correction has carried the axis of the armed swap past its angle since the last tick (R157, R170). -/
  swapPassed : Bool := false
  /-- Occurrences still due, at step 0, in order (R157, R158). -/
  due : List Firing := []
  /-- `CULM_LATE` (R197). -/
  late : Nat := 0
  /-- `CULM_STALE` (R197). -/
  stale : Nat := 0
  /-- `CULM_ENT_W0` to `CULM_ENT_W3` (R197). -/
  ent : TEntry := {}
  /-- `CULM_ENT_CMD.STATUS` (R198). -/
  entStatus : Nat := 0
  /-- `CULM_ENT_CMD` OP, BANK and INDEX as last written (R198). -/
  entCmd : Word := 0
  /-- `CULM_SNAP_CTRL.HOLD` (R200). -/
  snapHold : Bool := false
  /-- `CULM_SNAP_CTRL.VALID` (R200). -/
  snapValid : Bool := false
  /-- `CULM_SNAP_CTRL.DROPPED` (R200). -/
  snapDropped : Nat := 0
  /-- `CULM_SNAP_CTRL.SEQ` (R200). -/
  snapSeq : Nat := 0
  /-- The snapshot device time (R197). -/
  snapTime : Time := 0
  /-- The time status of the snapshot (R190). -/
  snapTstat : Nat := 0
  /-- The snapshot of each axis (R197). -/
  snap : List SnapAx := List.replicate 24 {}
  /-- Burst captures started on each fast analog input AIN0 to AIN15 (R161). -/
  bursts : List Nat := List.replicate 16 0
  deriving DecidableEq, Repr

/-- Time status (R183). -/
inductive TStat where
  | unsync | acquiring | locked | holdover | freeRun
  deriving DecidableEq, Repr, Inhabited

/-- The code of a time status (R183). -/
def TStat.code : TStat → Nat
  | .unsync => 0 | .acquiring => 1 | .locked => 2 | .holdover => 3 | .freeRun => 4

/-- The data set of a PTP master, in the order of the default comparison (R188). -/
structure PtpMaster where
  priority1 : Nat
  clockClass : Nat
  accuracy : Nat
  variance : Nat
  priority2 : Nat
  identity : Nat
  deriving DecidableEq, Repr

/-- Device time, in AON (R176 to R189). -/
structure DevTime where
  /-- 64 bits; device time in ns. -/
  now : Time := 0
  /-- 32 bits; the sub-nanosecond fraction (R177). -/
  frac : Nat := 0
  /-- `CULM_TIME_STATUS.STATE` (R209). -/
  stat : TStat := .unsync
  /-- `CULM_TIME_STATUS.PORT` (R209). -/
  port : Nat := 0
  /-- `CULM_TIME_RATE` (R197). -/
  rate : Word := 0
  /-- `CULM_TIME_STEP_LO` (R197). -/
  stepLo : Word := 0
  /-- `CULM_TIME_STEP_HI` (R197). -/
  stepHi : Word := 0
  /-- What slewing has still to correct, in 2^-32 ns; positive moves device time later (R180). -/
  slew : Int := 0
  /-- S64; OD 2001:0A OFFSET, ns. -/
  offset : Int := 0
  /-- The master selected by the best master clock algorithm (R188). -/
  master : Option PtpMaster := none
  deriving DecidableEq, Repr

end Sys2Proof.Machine
end

