-- ==== Sys2Proof/Machine/Regs.lean ====
section
/-! DEFINITION. Machine/Regs.lean: the form in which the model lists the plain registers of the BAR0 window:
offset pattern, the bits that a write stores, the reset value, the write class, and the ranges of fields (R1174). -/
namespace Sys2Proof.Machine

/-- The write classes of R116; `any` is a plain RW register, `ro` none. -/
inductive Cls where
  | any | fixed | shadow | setp | mgmt | test | ro
  deriving DecidableEq, Repr, Inhabited

/-- The mode mask of a class, bit k for the mode of code k (R116). -/
def Cls.mask : Cls → BitVec 6
  | .any => 0b111111#6
  | .fixed => 0b000100#6
  | .shadow => 0b011100#6
  | .setp => 0b001100#6
  | .mgmt => 0b111100#6
  | .test => 0b100100#6
  | .ro => 0#6

/-- The allowed range of one unsigned field: lowest bit, width, least and greatest value (R1174). -/
structure FieldRange where
  lo : Nat
  width : Nat
  least : Nat
  greatest : Nat
  deriving DecidableEq, Repr

/-- A group of registers at `base + i * s1 + j * s2`, `i < n1`, `j < n2`. -/
structure RegRow where
  base : Nat
  n1 : Nat := 1
  s1 : Nat := 4
  n2 : Nat := 1
  s2 : Nat := 4
  /-- The bits that a write stores. -/
  wr : Word
  /-- The reset value. -/
  rst : Word := 0
  cls : Cls := .any
  ranges : List FieldRange := []
  deriving DecidableEq, Repr

/-- Whether an offset belongs to a group. -/
def RegRow.hits (r : RegRow) (off : Nat) : Bool :=
  decide (r.base ≤ off) &&
    (let d := off - r.base
     decide (d / r.s1 < r.n1) && decide (d % r.s1 % r.s2 = 0) && decide (d % r.s1 / r.s2 < r.n2))

/-- Whether a value keeps every field of the group in its range (R1174). -/
def RegRow.inRange (r : RegRow) (v : Word) : Bool :=
  r.ranges.all fun f => decide (f.least ≤ fld v f.lo f.width) && decide (fld v f.lo f.width ≤ f.greatest)

/-- The BAR0 blocks (R43). -/
inductive Block where
  | sys | culm | ls (n : Nat) | pgf | husk | shf | mov | rch | srv | spn | mot | drv | teff | hv | fus
  | pwr | thm | cal | evt | glm | boot | hq
  deriving DecidableEq, Repr

/-- The block of a BAR0 offset; none in the unmapped ranges of R43. -/
def Block.ofOff (off : Nat) : Option Block :=
  if off < 0x100000 then some .sys
  else if off < 0x200000 then some .culm
  else if off < 0x240000 then some (.ls ((off - 0x200000) / 0x10000))
  else if off < 0x300000 then none
  else if off < 0x380000 then some .pgf
  else if off < 0x400000 then some .husk
  else if off < 0x480000 then some .shf
  else if off < 0x500000 then some .mov
  else if off < 0x580000 then some .rch
  else if off < 0x5C0000 then some .srv
  else if off < 0x600000 then some .spn
  else if off < 0x680000 then some .mot
  else if off < 0x700000 then some .drv
  else if off < 0x780000 then some .teff
  else if off < 0x7C0000 then some .hv
  else if off < 0x800000 then some .fus
  else if off < 0x820000 then some .pwr
  else if off < 0x840000 then some .thm
  else if off < 0x880000 then some .cal
  else if off < 0x900000 then some .evt
  else if off < 0x980000 then some .glm
  else if off < 0xA00000 then some .boot
  else if off < 0x1000000 then some .hq
  else none

/-- The first offset of a block (R43). -/
def Block.base : Block → Nat
  | .sys => 0x000000 | .culm => 0x100000 | .ls n => 0x200000 + n * 0x10000 | .pgf => 0x300000
  | .husk => 0x380000 | .shf => 0x400000 | .mov => 0x480000 | .rch => 0x500000 | .srv => 0x580000
  | .spn => 0x5C0000 | .mot => 0x600000 | .drv => 0x680000 | .teff => 0x700000 | .hv => 0x780000
  | .fus => 0x7C0000 | .pwr => 0x800000 | .thm => 0x820000 | .cal => 0x840000 | .evt => 0x880000
  | .glm => 0x900000 | .boot => 0x980000 | .hq => 0xA00000

/-- The power domain of a block (R43). -/
def Block.dom : Block → Dom
  | .sys => .aon | .culm => .eng | .ls _ => .img | .pgf => .pix | .husk => .pix | .shf => .mem | .mov => .mem
  | .rch => .dsk | .srv => .dsk | .spn => .dsk | .mot => .eng | .drv => .eng | .teff => .eng | .hv => .eng
  | .fus => .eng | .pwr => .aon | .thm => .aon | .cal => .eng | .evt => .aon | .glm => .aon | .boot => .aon
  | .hq => .mgt

/-- Registers that their chapters place in AON although the rest of their block is elsewhere (R46). -/
def aonPlaced (off : Nat) : Bool :=
  decide (0x1F0000 ≤ off ∧ off < 0x1F0100) || decide (off = 0x7C0000) ||
    decide (0x7C0200 ≤ off ∧ off < 0x7C0280 ∧ off % 0x10 = 0)

/-- The domain that decides a BAR0 access to an offset (R46); none where nothing is mapped. -/
def offDom (off : Nat) : Option Dom :=
  (Block.ofOff off).map fun b => if aonPlaced off then .aon else b.dom

/-- An event register bank: its first source, its number of sources, and its `_EVT_STAT` offset. -/
structure EvBank where
  first : Nat
  count : Nat
  stat : Nat
  dom : Dom
  deriving DecidableEq, Repr

/-- The event register banks of the blocks (R43, R1075). -/
def evBanks : List EvBank := [
  ⟨0, 8, 0x0000C0, .aon⟩, ⟨8, 4, 0x9800C0, .aon⟩, ⟨12, 4, 0x8400C0, .eng⟩, ⟨16, 32, 0x100040, .eng⟩,
  ⟨48, 8, 0x200040, .img⟩, ⟨56, 8, 0x210040, .img⟩, ⟨64, 8, 0x220040, .img⟩, ⟨72, 8, 0x230040, .img⟩,
  ⟨80, 8, 0x3000C0, .pix⟩, ⟨88, 8, 0x3800C0, .pix⟩, ⟨96, 8, 0x4000C0, .mem⟩, ⟨104, 4, 0x4800C0, .mem⟩,
  ⟨112, 16, 0x5000C0, .dsk⟩, ⟨128, 9, 0x5800C0, .dsk⟩, ⟨137, 7, 0x5C00C0, .dsk⟩, ⟨144, 16, 0x6000C0, .eng⟩,
  ⟨160, 16, 0x6800C0, .eng⟩, ⟨176, 16, 0x7000C0, .eng⟩, ⟨192, 6, 0x7800C0, .eng⟩, ⟨198, 8, 0x7C00C0, .eng⟩,
  ⟨208, 16, 0x8000C0, .aon⟩, ⟨224, 8, 0x8200C0, .aon⟩, ⟨232, 16, 0xA000C0, .mgt⟩, ⟨248, 8, 0x9000C0, .aon⟩]

/-- The bank that holds a source; the sources that no block has (108 to 111) get an empty one. -/
def evBank (src : Nat) : EvBank :=
  (evBanks.find? fun b => decide (b.first ≤ src ∧ src < b.first + b.count)).getD ⟨src, 0, 0, .aon⟩

/-- Reserved sources: never raised (R1075). -/
def reservedSource (src : Nat) : Bool :=
  decide (92 ≤ src ∧ src ≤ 95) || decide (108 ≤ src ∧ src ≤ 111) || decide (src = 127) || decide (src = 175) ||
  decide (src = 206) || decide (src = 207) || decide (src = 222) || decide (src = 223) || decide (src = 230) ||
  decide (src = 231) || decide (255 ≤ src)

/-- The reset value of `EVT_SRCs` (R1090): GRAVE 7, POLICY 6, RECORD 5, ERRN 4. -/
def evtSrcReset (src : Nat) : Word :=
  if src ∈ [0, 1, 6, 136, 143, 192, 193, 8, 9] then 0x20
  else if src ∈ [5, 135] then 0x30
  else if src ∈ [87, 102, 107, 157, 170, 201, 214] then 0x50
  else if src ∈ [168, 248, 254] then 0x10
  else if src ∈ [171, 199] then 0x40
  else if src = 224 then 0xD0
  else 0

end Sys2Proof.Machine
end

