-- ==== Sys2Proof/Machine/TabCore.lean ====
section
/-! DEFINITION. Machine/TabCore.lean: the plain registers of SYS, EVT, GLM, BOOT, PWR, THM and HQ. -/
namespace Sys2Proof.Machine

/-- SYS: `SYS_EVT_IEN` (R66). -/
def sysRows : List RegRow := [{ base := 0x0000C4, wr := 0xFF }]

/-- EVT: `EVT_ERR.MINW` (R1106) and `EVT_SRCs` (R1105). -/
def evtRows : List RegRow := [
  { base := 0x880000, wr := 0xFF, rst := 10, cls := .test, ranges := [⟨0, 8, 1, 255⟩] },
  { base := 0x881000, n1 := 256, wr := 0xFE, cls := .test }]

/-- GLM: `GLM_WIN` and `GLM_EVT_IEN` (R1108). -/
def glmRows : List RegRow := [
  { base := 0x900010, wr := 0x1F }, { base := 0x9000C4, wr := 0xFF }]

/-- BOOT: `BOOT_CFG` and `BOOT_EVT_IEN` (R1148). -/
def bootRows : List RegRow := [
  { base := 0x980018, wr := 0xFFFF0007, rst := 0x02580002, cls := .fixed, ranges := [⟨16, 16, 60, 65535⟩] },
  { base := 0x9800C4, wr := 0xF }]

/-- PWR: sequencer, push-button, PMBus, rail slots and reset outputs (R1033, R1036). -/
def pwrRows : List RegRow := [
  { base := 0x800010, wr := 0xFFFFFFFF, rst := 0x01F40A93, cls := .fixed, ranges := [⟨16, 16, 100, 10000⟩] },
  { base := 0x800018, wr := 0x00000F01, rst := 0x00000401, cls := .fixed, ranges := [⟨8, 4, 1, 15⟩] },
  { base := 0x80001C, wr := 0x00000003, rst := 0x00000001, cls := .fixed, ranges := [⟨0, 2, 0, 2⟩] },
  { base := 0x8000C4, wr := 0xFFFF },
  { base := 0x800100, n1 := 16, s1 := 0x20, wr := 0xFFFC7FF0, rst := 0x00000030, cls := .fixed,
    ranges := [⟨27, 2, 0, 2⟩, ⟨24, 2, 0, 2⟩, ⟨18, 6, 0, 47⟩] },
  { base := 0x800104, n1 := 16, s1 := 0x20, wr := 0xFFFFFFFF, rst := 0x001403E8, cls := .fixed,
    ranges := [⟨16, 8, 1, 255⟩] },
  { base := 0x800108, n1 := 16, s1 := 0x20, wr := 0xFFFFFFFF, rst := 0x0000010A, cls := .fixed,
    ranges := [⟨0, 8, 1, 255⟩] },
  { base := 0x80010C, n1 := 16, s1 := 0x20, wr := 0x01FFFFFF, cls := .fixed },
  { base := 0x800300, n1 := 4, wr := 0xE00000FF, rst := 0x80000014, cls := .fixed,
    ranges := [⟨30, 2, 1, 3⟩] }]

/-- THM: the print window, the HK channels and the shadow LIN tables (R1036). -/
def thmRows : List RegRow := [
  { base := 0x820004, wr := 0x0000FFFF, rst := 0x00006ED8, cls := .setp },
  { base := 0x8200C4, wr := 0xFF },
  { base := 0x820400, n1 := 32, s1 := 8, wr := 0xF000FFFF, cls := .fixed, ranges := [⟨30, 2, 0, 2⟩] },
  { base := 0x820404, n1 := 32, s1 := 8, wr := 0xFFFFFFFF, rst := 0x7FFF8000, cls := .setp },
  { base := 0x821000, n1 := 4, s1 := 0x100, n2 := 33, wr := 0xFFFFFFFF, cls := .shadow }]

/-- HQ: token notification, queue bases and configuration, event queues, source delivery (R962 to R968). -/
def hqRows : List RegRow := [
  { base := 0xA00004, wr := 0x830001FF, rst := 0x000001C0 },
  { base := 0xA000C4, wr := 0xFFFF },
  { base := 0xA01000, n1 := 16, s1 := 0x40, n2 := 4, wr := 0xFFFFFFFF },
  { base := 0xA01010, n1 := 16, s1 := 0x40, wr := 0xEFFF3F00 },
  { base := 0xA01800, n1 := 4, s1 := 0x20, n2 := 2, wr := 0xFFFFFFFF },
  { base := 0xA01808, n1 := 4, s1 := 0x20, wr := 0x8FFF3F00 },
  { base := 0xA04000, n1 := 256, wr := 0x80000300 }]

end Sys2Proof.Machine
end

