-- ==== Sys2Proof/Machine/TabCulm.lean ====
section
/-! DEFINITION. Machine/TabCulm.lean: the plain registers of CULM (R197, R201 to R206). -/
namespace Sys2Proof.Machine

/-- CULM: swap point, filters, and the shadow tracking constants. The axis configuration, the entry words and the
device-time registers have commands of their own. -/
def culmRows : List RegRow := [
  { base := 0x100008, n1 := 2, wr := 0xFFFFFFFF, cls := .shadow },
  { base := 0x100044, wr := 0xFFFFFFFF },
  { base := 0x101004, n1 := 24, s1 := 0x40, wr := 0xFF000FFF, rst := 0x00000234, cls := .fixed },
  { base := 0x101008, n1 := 24, s1 := 0x40, wr := 0x1F1F1F00, rst := 0x02040800, cls := .shadow },
  { base := 0x10100C, n1 := 24, s1 := 0x40, wr := 0xFFFFFFFF, rst := 0x01000000, cls := .shadow },
  { base := 0x101010, n1 := 24, s1 := 0x40, wr := 0xFFFFFFFF, rst := 0x00010000, cls := .shadow },
  { base := 0x101014, n1 := 24, s1 := 0x40, wr := 0xFFFFFFFF, cls := .shadow },
  { base := 0x102000, n1 := 24, s1 := 0x40, n2 := 16, wr := 0xFFFFFFFF, cls := .shadow }]

end Sys2Proof.Machine
end

