-- ==== Sys2Proof/Machine/TabDisk.lean ====
section
/-! DEFINITION. Machine/TabDisk.lean: the plain registers of RCH, SRV and SPN. -/
namespace Sys2Proof.Machine

/-- RCH (R536 to R545). -/
def rchRows : List RegRow := [
  { base := 0x500004, wr := 0x00FF0007, rst := 0x00600001, cls := .fixed, ranges := [⟨16, 8, 48, 128⟩, ⟨0, 3, 1, 4⟩] },
  { base := 0x500008, wr := 0x00003FFF, rst := 7200, cls := .fixed, ranges := [⟨0, 14, 3600, 10000⟩] },
  { base := 0x500014, wr := 0xFFFFFFFF, cls := .fixed, ranges := [⟨0, 32, 0, 16777216⟩] },
  { base := 0x500020, wr := 0xFF3F3F07, rst := 0x401D1A04, cls := .setp,
    ranges := [⟨24, 8, 8, 255⟩, ⟨16, 6, 24, 32⟩, ⟨8, 6, 20, 32⟩, ⟨0, 3, 0, 4⟩] },
  { base := 0x500024, wr := 0xFFFFFFFF, rst := 0x80600820, cls := .setp, ranges := [⟨8, 8, 1, 255⟩] },
  { base := 0x500028, wr := 0x80FFFFF0, rst := 0x0068AC30, cls := .setp },
  { base := 0x50002C, wr := 0x00FF00FF, rst := 0x0028000C, cls := .setp, ranges := [⟨16, 8, 1, 255⟩, ⟨0, 8, 1, 255⟩] },
  { base := 0x500030, wr := 0xFFFFFFFF, rst := 0x643383FF, cls := .setp,
    ranges := [⟨24, 8, 1, 255⟩, ⟨16, 4, 0, 8⟩, ⟨12, 4, 0, 8⟩] },
  { base := 0x500034, wr := 0x00001F1F, rst := 0x00000602, cls := .setp },
  { base := 0x500038, wr := 0x00FFFFFF, rst := 0x00002010, cls := .setp },
  { base := 0x500040, wr := 0x00FF0001, rst := 0x00090001, cls := .fixed, ranges := [⟨16, 8, 4, 39⟩] },
  { base := 0x500054, wr := 0xFFFFFFFF, rst := 0x400C1442, cls := .setp },
  { base := 0x500058, wr := 0xFFFFFFFF, rst := 0x00004000, cls := .setp },
  { base := 0x50005C, wr := 0x000003FF, rst := 200, cls := .setp, ranges := [⟨0, 10, 0, 1000⟩] },
  { base := 0x5000C4, wr := 0xFFFF },
  { base := 0x500300, n1 := 7, wr := 0x007F070F, cls := .fixed, ranges := [⟨0, 4, 1, 8⟩] },
  { base := 0x500320, wr := 0x00FFFFFF, cls := .fixed },
  { base := 0x500400, n1 := 4, s1 := 0x40, wr := 0x00FF7F7F, cls := .shadow },
  { base := 0x500404, n1 := 4, s1 := 0x40, wr := 0x000000FF, cls := .shadow },
  { base := 0x500410, n1 := 4, s1 := 0x40, n2 := 8, wr := 0x0000FFFF, cls := .shadow }]

/-- SRV (R608, R609). -/
def srvRows : List RegRow := [
  { base := 0x58000C, wr := 0x1FFFFF00, rst := 0x14606100, cls := .fixed, ranges := [⟨24, 5, 0, 23⟩] },
  { base := 0x580010, wr := 0x00FFFFFF, cls := .setp },
  { base := 0x580020, wr := 0xFFFFFFFF, rst := 0x0800051F, cls := .setp },
  { base := 0x580024, wr := 0xFFFFFFFF, rst := 0x0CCD0334, cls := .setp },
  { base := 0x580028, wr := 0xFFFFFFFF, rst := 0x0C060608, cls := .setp },
  { base := 0x58002C, wr := 0xFFFF0000, rst := 0x08000000, cls := .setp },
  { base := 0x580030, wr := 0x001FFFFF, rst := 0x00053705, cls := .setp,
    ranges := [⟨8, 8, 5, 55⟩, ⟨0, 8, 5, 55⟩] },
  { base := 0x580034, wr := 0x0000FFFF, rst := 500, cls := .setp, ranges := [⟨0, 16, 1, 65535⟩] },
  { base := 0x580038, wr := 0x1FFF00FF, rst := 0x01000050, cls := .setp,
    ranges := [⟨16, 13, 16, 4096⟩, ⟨0, 8, 50, 100⟩] },
  { base := 0x580040, wr := 0xFFFFFFFF, rst := 0x00010000, cls := .setp },
  { base := 0x580044, wr := 0xFFFFFFFF, rst := 0x00000200, cls := .setp },
  { base := 0x580048, wr := 0xFFFFFFFF, rst := 0x00000010, cls := .setp },
  { base := 0x58004C, wr := 0xFFFFFFFF, rst := 60, cls := .setp },
  { base := 0x580050, wr := 0xFFFFFFFF, rst := 1000, cls := .setp },
  { base := 0x580054, wr := 0xFFFFFFFF, rst := 0x00C8012C, cls := .setp },
  { base := 0x580058, wr := 0xFFFFFFFF, rst := 1200, cls := .setp, ranges := [⟨0, 32, 0, 1200⟩] },
  { base := 0x58005C, wr := 0xFFFFFFFF, cls := .setp },
  { base := 0x580060, wr := 0xFFFFFFFF, rst := 0x00400040, cls := .setp },
  { base := 0x5800C4, wr := 0x1FF },
  { base := 0x580100, n1 := 25, wr := 0xFFFFFFFF, cls := .setp },
  { base := 0x580200, n1 := 4, s1 := 0x20, n2 := 8, wr := 0x0000FFFF, cls := .shadow }]

/-- SPN (R613, R614). -/
def spnRows : List RegRow := [
  { base := 0x5C0008, wr := 0xFFFFFFFF, rst := 0x9674783C, cls := .setp,
    ranges := [⟨24, 8, 20, 200⟩, ⟨16, 5, 1, 31⟩] },
  { base := 0x5C000C, wr := 0x0000FF0F, rst := 0x00006204, cls := .fixed, ranges := [⟨0, 4, 2, 8⟩] },
  { base := 0x5C0010, wr := 0xFFFFFFFF, rst := 0x01F40064, cls := .setp },
  { base := 0x5C0014, wr := 0x0000FFFF, rst := 0x00002014, cls := .setp },
  { base := 0x5C0018, wr := 0xFFFFFFFF, rst := 0x003205DC, cls := .setp },
  { base := 0x5C001C, wr := 0x0000FFFF, rst := 600, cls := .setp, ranges := [⟨0, 16, 300, 3600⟩] },
  { base := 0x5C0020, wr := 0x000000FF, rst := 108, cls := .setp, ranges := [⟨0, 8, 100, 114⟩] },
  { base := 0x5C0024, wr := 0xFFFF00FF, rst := 0x012C0040, cls := .fixed },
  { base := 0x5C00C4, wr := 0x7F },
  { base := 0x5C0100, n1 := 17, wr := 0x000000FF, cls := .shadow }]

/-- The reset value of `SRV_SKk` (R574). -/
def diskReset (off : Nat) : Option Word :=
  if 0x580100 ≤ off ∧ off < 0x580164 then
    let k := (off - 0x580100) / 4
    some (if k = 0 then 0 else BitVec.ofNat 32 (1000 + 500 * k))
  else none

end Sys2Proof.Machine
end

