-- ==== Sys2Proof/Machine/Tables.lean ====
section
/-! DEFINITION. Machine/Tables.lean: the default tables that the spec defines by a formula: sines and firing angles. -/
namespace Sys2Proof.Machine

/-- Part of `quarterSine`. -/
def quarterSineP0 : List Nat := [
  0, 402, 804, 1206, 1608, 2010, 2412, 2814, 3216, 3617, 4019, 4420, 4821, 5222, 5623, 6023,
  6424, 6824, 7224, 7623, 8022, 8421, 8820, 9218, 9616, 10014, 10411, 10808, 11204, 11600, 11996, 12391,
  12785, 13180, 13573, 13966, 14359, 14751, 15143, 15534, 15924, 16314, 16703, 17091, 17479, 17867, 18253, 18639,
  19024, 19409, 19792, 20175, 20557, 20939, 21320, 21699, 22078, 22457, 22834, 23210, 23586, 23961, 24335, 24708]

/-- Part of `quarterSine`. -/
def quarterSineP1 : List Nat := [
  25080, 25451, 25821, 26190, 26558, 26925, 27291, 27656, 28020, 28383, 28745, 29106, 29466, 29824, 30182, 30538,
  30893, 31248, 31600, 31952, 32303, 32652, 33000, 33347, 33692, 34037, 34380, 34721, 35062, 35401, 35738, 36075,
  36410, 36744, 37076, 37407, 37736, 38064, 38391, 38716, 39040, 39362, 39683, 40002, 40320, 40636, 40951, 41264,
  41576, 41886, 42194, 42501, 42806, 43110, 43412, 43713, 44011, 44308, 44604, 44898, 45190, 45480, 45769, 46056]

/-- Part of `quarterSine`. -/
def quarterSineP2 : List Nat := [
  46341, 46624, 46906, 47186, 47464, 47741, 48015, 48288, 48559, 48828, 49095, 49361, 49624, 49886, 50146, 50404,
  50660, 50914, 51166, 51417, 51665, 51911, 52156, 52398, 52639, 52878, 53114, 53349, 53581, 53812, 54040, 54267,
  54491, 54714, 54934, 55152, 55368, 55582, 55794, 56004, 56212, 56418, 56621, 56823, 57022, 57219, 57414, 57607,
  57798, 57986, 58172, 58356, 58538, 58718, 58896, 59071, 59244, 59415, 59583, 59750, 59914, 60075, 60235, 60392]

/-- Part of `quarterSine`. -/
def quarterSineP3 : List Nat := [
  60547, 60700, 60851, 60999, 61145, 61288, 61429, 61568, 61705, 61839, 61971, 62101, 62228, 62353, 62476, 62596,
  62714, 62830, 62943, 63054, 63162, 63268, 63372, 63473, 63572, 63668, 63763, 63854, 63944, 64031, 64115, 64197,
  64277, 64354, 64429, 64501, 64571, 64639, 64704, 64766, 64827, 64884, 64940, 64993, 65043, 65091, 65137, 65180,
  65220, 65259, 65294, 65328, 65358, 65387, 65413, 65436, 65457, 65476, 65492, 65505, 65516, 65525, 65531, 65535]

/-- Part of `quarterSine`. -/
def quarterSineP4 : List Nat := [
  65536]

/-- round(65536 × sin(2πi / 1024)), i = 0 to 256: a quarter of the sine table of R710. -/
def quarterSine : List Nat := quarterSineP0 ++ quarterSineP1 ++ quarterSineP2 ++ quarterSineP3 ++ quarterSineP4

/-- Part of `microstepTable`. -/
def microstepTableP0 : List Nat := [
  0, 25, 50, 75, 100, 126, 151, 176, 201, 226, 251, 276, 301, 326, 351, 376,
  401, 426, 451, 476, 501, 526, 551, 576, 601, 626, 651, 675, 700, 725, 750, 774,
  799, 824, 848, 873, 897, 922, 946, 971, 995, 1019, 1044, 1068, 1092, 1116, 1141, 1165,
  1189, 1213, 1237, 1261, 1285, 1308, 1332, 1356, 1380, 1403, 1427, 1450, 1474, 1497, 1521, 1544]

/-- Part of `microstepTable`. -/
def microstepTableP1 : List Nat := [
  1567, 1590, 1613, 1636, 1659, 1682, 1705, 1728, 1751, 1774, 1796, 1819, 1841, 1864, 1886, 1908,
  1930, 1952, 1975, 1997, 2018, 2040, 2062, 2084, 2105, 2127, 2148, 2170, 2191, 2212, 2233, 2254,
  2275, 2296, 2317, 2337, 2358, 2378, 2399, 2419, 2439, 2460, 2480, 2500, 2519, 2539, 2559, 2578,
  2598, 2617, 2636, 2656, 2675, 2694, 2713, 2731, 2750, 2769, 2787, 2805, 2824, 2842, 2860, 2878]

/-- Part of `microstepTable`. -/
def microstepTableP2 : List Nat := [
  2896, 2913, 2931, 2948, 2966, 2983, 3000, 3017, 3034, 3051, 3068, 3084, 3101, 3117, 3133, 3149,
  3165, 3181, 3197, 3213, 3228, 3244, 3259, 3274, 3289, 3304, 3319, 3333, 3348, 3362, 3377, 3391,
  3405, 3419, 3433, 3446, 3460, 3473, 3486, 3499, 3512, 3525, 3538, 3551, 3563, 3575, 3588, 3600,
  3611, 3623, 3635, 3646, 3658, 3669, 3680, 3691, 3702, 3713, 3723, 3733, 3744, 3754, 3764, 3774]

/-- Part of `microstepTable`. -/
def microstepTableP3 : List Nat := [
  3783, 3793, 3802, 3811, 3821, 3830, 3838, 3847, 3856, 3864, 3872, 3880, 3888, 3896, 3904, 3911,
  3919, 3926, 3933, 3940, 3947, 3953, 3960, 3966, 3972, 3978, 3984, 3990, 3996, 4001, 4006, 4011,
  4016, 4021, 4026, 4030, 4035, 4039, 4043, 4047, 4051, 4054, 4058, 4061, 4064, 4067, 4070, 4073,
  4075, 4078, 4080, 4082, 4084, 4086, 4087, 4089, 4090, 4091, 4092, 4093, 4094, 4094, 4095, 4095]

/-- The default microstep table: round(4095 × sin(iπ / 512)), i = 0 to 255 (R642). -/
def microstepTable : List Nat := microstepTableP0 ++ microstepTableP1 ++ microstepTableP2 ++ microstepTableP3

/-- Part of `hvSineQuarter`. -/
def hvSineQuarterP0 : List Nat := [
  0, 804, 1608, 2410, 3212, 4011, 4808, 5602, 6393, 7179, 7962, 8739, 9512, 10278, 11039, 11793,
  12539, 13279, 14010, 14732, 15446, 16151, 16846, 17530, 18204, 18868, 19519, 20159, 20787, 21403, 22005, 22594,
  23170, 23731, 24279, 24811, 25329, 25832, 26319, 26790, 27245, 27683, 28105, 28510, 28898, 29268, 29621, 29956,
  30273, 30571, 30852, 31113, 31356, 31580, 31785, 31971, 32137, 32285, 32412, 32521, 32609, 32678, 32728, 32757]

/-- Part of `hvSineQuarter`. -/
def hvSineQuarterP1 : List Nat := [
  32767]

/-- round(32767 × sin(2πi / 256)), i = 0 to 64: a quarter of the default HV sine table (R845). -/
def hvSineQuarter : List Nat := hvSineQuarterP0 ++ hvSineQuarterP1

/-- Part of `fuserInv`. -/
def fuserInvP0 : List Nat := [
  65535, 56687, 54305, 52598, 51212, 50022, 48963, 48001, 47112, 46282, 45499, 44755, 44044, 43361, 42701, 42063,
  41443, 40839, 40248, 39670, 39103, 38545, 37996, 37454, 36918, 36388, 35863, 35341, 34823, 34307, 33793, 33280,
  32768, 32256, 31743, 31229, 30713, 30195, 29673, 29148, 28618, 28082, 27540, 26991, 26433, 25866, 25288, 24697,
  24093, 23473, 22835, 22175, 21492, 20781, 20037, 19254, 18424, 17535, 16573, 15514, 14324, 12938, 11231, 8849]

/-- Part of `fuserInv`. -/
def fuserInvP1 : List Nat := [
  0]

/-- The default INV table (R829), i = 0 to 64. -/
def fuserInv : List Nat := fuserInvP0 ++ fuserInvP1

/-- A whole turn of `4 * n` points from a quarter table of `n + 1` points, at point `i`. -/
def fullSine (q : List Nat) (n i : Nat) : Int :=
  let j := i % (4 * n)
  if j ≤ n then (q.getD j 0 : Nat)
  else if j ≤ 2 * n then (q.getD (2 * n - j) 0 : Nat)
  else if j ≤ 3 * n then -((q.getD (j - 2 * n) 0 : Nat) : Int)
  else -((q.getD (4 * n - j) 0 : Nat) : Int)

/-- The default HV sine table: round(32767 × sin(2πi / 256)), i = 0 to 255 (R845). -/
def hvSine : List Int := (List.range 256).map (fullSine hvSineQuarter 64)

end Sys2Proof.Machine
end

