-- ==== Sys2Proof/Machine/TabEngine.lean ====
section
/-! DEFINITION. Machine/TabEngine.lean: the plain registers of TEFF, MOT, DRV, HV, FUS and CAL. -/
namespace Sys2Proof.Machine

/-- TEFF (R789, R792). -/
def teffRows : List RegRow := [
  { base := 0x700004, wr := 0x80000003, rst := 0x80000000, cls := .fixed, ranges := [⟨0, 2, 0, 2⟩] },
  { base := 0x700010, n1 := 8, wr := 0xFFFFFFFF, cls := .shadow },
  { base := 0x7000C4, wr := 0xFFFF },
  { base := 0x701004, n1 := 256, s1 := 0x40, wr := 0xFFFFFFF0, cls := .shadow },
  { base := 0x701008, n1 := 256, s1 := 0x40, wr := 0xFFFFFFFF, cls := .shadow, ranges := [⟨0, 24, 80, 16777215⟩] },
  { base := 0x70100C, n1 := 256, s1 := 0x40, wr := 0xFFFFFFFF, cls := .setp },
  { base := 0x701010, n1 := 256, s1 := 0x40, n2 := 5, wr := 0xFFFFFFFF, cls := .shadow },
  { base := 0x701024, n1 := 256, s1 := 0x40, wr := 0x01FFFFFF, cls := .shadow },
  { base := 0x701028, n1 := 256, s1 := 0x40, n2 := 2, wr := 0xFFFFFFFF, cls := .shadow },
  { base := 0x701030, n1 := 256, s1 := 0x40, wr := 0xFFFF1F1F, cls := .shadow },
  { base := 0x701034, n1 := 256, s1 := 0x40, wr := 0xFFFFFFFF, cls := .shadow }]

/-- MOT without its axes (R679, R685). -/
def motRowsA : List RegRow := [
  { base := 0x600008, wr := 0xFF9F0FFF, rst := 0x00080000, cls := .fixed, ranges := [⟨16, 5, 1, 16⟩] },
  { base := 0x600060, wr := 0xFFFFFFFF, rst := 297000, cls := .setp },
  { base := 0x600064, wr := 0xFFFFFFFF, rst := 3000, cls := .setp },
  { base := 0x600068, wr := 0xFFFFFFFF, rst := 40000, cls := .setp },
  { base := 0x60006C, wr := 0xFFFFFFFF, cls := .fixed },
  { base := 0x600070, wr := 0xFFFFFFFF, rst := 20000, cls := .fixed },
  { base := 0x600074, n1 := 4, wr := 0xFFFFFFFF, cls := .fixed },
  { base := 0x6000C4, wr := 0xFFFF },
  { base := 0x603000, n1 := 32, s1 := 8, wr := 0x8FFFFFFF, cls := .fixed },
  { base := 0x604000, n1 := 2, s1 := 0x400, n2 := 256, wr := 0x00000FFF, cls := .shadow },
  { base := 0x605000, n1 := 12, s1 := 0x10, wr := 0x0000000F, cls := .fixed, ranges := [⟨0, 4, 0, 11⟩] },
  { base := 0x605004, n1 := 12, s1 := 0x10, n2 := 2, wr := 0xFFFFFFFF, cls := .fixed },
  { base := 0x605100, n1 := 16, s1 := 0x10, wr := 0xF31FFFFF, cls := .fixed, ranges := [⟨24, 2, 0, 2⟩] },
  { base := 0x605104, n1 := 16, s1 := 0x10, wr := 0xFFFFFFFF, cls := .fixed }]

/-- The axes of MOT (R681, R682, R685). -/
def motRowsB : List RegRow := [
  { base := 0x601000, n1 := 12, s1 := 0x80, wr := 0xFFFCFF00, rst := 0x00400000, cls := .fixed,
    ranges := [⟨24, 4, 0, 11⟩, ⟨20, 4, 0, 8⟩] },
  { base := 0x601004, n1 := 12, s1 := 0x80, wr := 0x9F9F9F80, cls := .fixed },
  { base := 0x60100C, n1 := 12, s1 := 0x80, wr := 0xFFFFFFFF, cls := .setp },
  { base := 0x601010, n1 := 12, s1 := 0x80, wr := 0xFFFFFFFF, rst := 160000, cls := .setp,
    ranges := [⟨0, 32, 0, 64000000⟩] },
  { base := 0x601014, n1 := 12, s1 := 0x80, n2 := 2, wr := 0xFFFFFFFF, rst := 100000, cls := .setp },
  { base := 0x60101C, n1 := 12, s1 := 0x80, wr := 0xFFFFFFFF, rst := 10000, cls := .setp },
  { base := 0x601020, n1 := 12, s1 := 0x80, wr := 0xFFFFFFFF, rst := 1600, cls := .setp,
    ranges := [⟨0, 32, 16, 64000000⟩] },
  { base := 0x601024, n1 := 12, s1 := 0x80, wr := 0xFFFFFFFF, rst := 1000000, cls := .setp },
  { base := 0x60103C, n1 := 12, s1 := 0x80, wr := 0xFFFFFFFF, rst := 400, cls := .setp },
  { base := 0x601040, n1 := 12, s1 := 0x80, wr := 0xFFFF0FFF, rst := 0x54000800, cls := .setp },
  { base := 0x601044, n1 := 12, s1 := 0x80, wr := 0xFFFFFFFF, rst := 64000, cls := .setp },
  { base := 0x601048, n1 := 12, s1 := 0x80, wr := 0xFFFFFFFF, rst := 8000, cls := .setp },
  { base := 0x60104C, n1 := 12, s1 := 0x80, wr := 0xFFFFFFFF, rst := 200, cls := .setp },
  { base := 0x601050, n1 := 12, s1 := 0x80, wr := 0xFFFFFFFF, cls := .setp },
  { base := 0x601054, n1 := 12, s1 := 0x80, wr := 0xFFFFFFFF, rst := 1000000, cls := .setp },
  { base := 0x601058, n1 := 12, s1 := 0x80, wr := 0xFFFFFFFF, rst := 8000, cls := .setp,
    ranges := [⟨0, 32, 800, 800000⟩] }]

/-- MOT. -/
def motRows : List RegRow := motRowsA ++ motRowsB

/-- DRV without its units (R748). -/
def drvRowsA : List RegRow := [
  { base := 0x680014, wr := 0x0000FFFF, rst := 3277, cls := .fixed },
  { base := 0x680018, wr := 0xFFFFFFFF, rst := 30000, cls := .setp },
  { base := 0x68001C, wr := 0xFFFFFFFF, rst := 1000, cls := .setp, ranges := [⟨0, 32, 100, 5000⟩] },
  { base := 0x680020, wr := 0xFFFFFFFF, rst := 36000, cls := .setp },
  { base := 0x680024, wr := 0xFFFFFFFF, rst := 18000, cls := .setp },
  { base := 0x680028, wr := 0xFFFFFFFF, rst := 0x140323E8, cls := .setp },
  { base := 0x68002C, wr := 0xFFFFFFFF, rst := 10000, cls := .fixed },
  { base := 0x6800C4, wr := 0xFFFF },
  { base := 0x683000, n1 := 24, s1 := 0x80, n2 := 17, wr := 0x000000FF, cls := .shadow }]

/-- The units of DRV (R745, R748). -/
def drvRowsB : List RegRow := [
  { base := 0x681000, n1 := 24, s1 := 0x80, wr := 0xFFFFFFF8, rst := 0x00000010, cls := .fixed,
    ranges := [⟨28, 3, 0, 4⟩, ⟨24, 3, 0, 3⟩, ⟨20, 4, 0, 11⟩, ⟨14, 6, 0, 47⟩, ⟨7, 5, 0, 23⟩, ⟨3, 4, 1, 15⟩] },
  { base := 0x681004, n1 := 24, s1 := 0x80, wr := 0x7FFF03FF, rst := 0x0FA00020, cls := .fixed,
    ranges := [⟨16, 15, 2000, 20000⟩, ⟨0, 10, 16, 800⟩] },
  { base := 0x681008, n1 := 24, s1 := 0x80, wr := 0xFFF0FFFF, rst := 0xA180000A, cls := .fixed },
  { base := 0x681014, n1 := 24, s1 := 0x80, wr := 0x0000FFFF, cls := .setp },
  { base := 0x681020, n1 := 24, s1 := 0x80, wr := 0xFFFFFFFF, rst := 0x37809806, cls := .setp },
  { base := 0x681024, n1 := 24, s1 := 0x80, wr := 0xFFFFFFFF, rst := 0x07D00032, cls := .setp },
  { base := 0x681028, n1 := 24, s1 := 0x80, wr := 0xFFFFFF00, rst := 0x32641E00, cls := .setp },
  { base := 0x68102C, n1 := 24, s1 := 0x80, wr := 0xFFFF0000, rst := 0x03E80000, cls := .setp },
  { base := 0x681030, n1 := 24, s1 := 0x80, n2 := 3, wr := 0xFFFFFFFF, cls := .setp },
  { base := 0x68103C, n1 := 24, s1 := 0x80, wr := 0xFFFFFFFF, rst := 0x04060C08, cls := .setp },
  { base := 0x681040, n1 := 24, s1 := 0x80, wr := 0xFFFF0000, rst := 0x06190000, cls := .setp },
  { base := 0x681044, n1 := 24, s1 := 0x80, wr := 0xFFFFFFFF, rst := 0x00321419, cls := .setp },
  { base := 0x681048, n1 := 24, s1 := 0x80, wr := 0xFFFF00FF, rst := 0x01900014, cls := .setp },
  { base := 0x68104C, n1 := 24, s1 := 0x80, wr := 0xFFFFFFFF, cls := .setp },
  { base := 0x681050, n1 := 24, s1 := 0x80, wr := 0x0000FFFF, rst := 10, cls := .shadow },
  { base := 0x681054, n1 := 24, s1 := 0x80, wr := 0x00003FFF, cls := .fixed },
  { base := 0x681058, n1 := 24, s1 := 0x80, wr := 0x0000FFFF, cls := .setp }]

/-- DRV. -/
def drvRows : List RegRow := drvRowsA ++ drvRowsB

/-- HV (R840, R845). -/
def hvRows : List RegRow := [
  { base := 0x7800C4, wr := 0x3F },
  { base := 0x780100, n1 := 16, s1 := 0x40, wr := 0xFFFFFFFF, rst := 0x00011F40, cls := .fixed,
    ranges := [⟨0, 16, 1600, 65535⟩] },
  { base := 0x780104, n1 := 16, s1 := 0x40, n2 := 2, wr := 0xFFFFFFFF, cls := .setp },
  { base := 0x78010C, n1 := 16, s1 := 0x40, wr := 0xFFFFFFFF, rst := 0x00140404, cls := .setp,
    ranges := [⟨8, 8, 1, 255⟩, ⟨0, 8, 1, 255⟩] },
  { base := 0x780110, n1 := 16, s1 := 0x40, wr := 0xFFFFFFFF, cls := .setp },
  { base := 0x780114, n1 := 16, s1 := 0x40, wr := 0xFFFFFFFF, cls := .fixed },
  { base := 0x780118, n1 := 16, s1 := 0x40, wr := 0xFFFFFFFF, rst := 0x80000000, cls := .fixed },
  { base := 0x78011C, n1 := 16, s1 := 0x40, wr := 0xFFFF00FF, rst := 8, cls := .setp },
  { base := 0x780120, n1 := 16, s1 := 0x40, n2 := 2, wr := 0xFFFFFFFF, cls := .setp },
  { base := 0x781000, n1 := 256, wr := 0x0000FFFF, cls := .shadow }]

/-- FUS (R843 to R845). -/
def fusRows : List RegRow := [
  { base := 0x7C0004, wr := 0x1F00FFFF, rst := 0x15002D41, cls := .fixed,
    ranges := [⟨24, 5, 0, 23⟩, ⟨8, 8, 45, 255⟩, ⟨0, 8, 0, 65⟩] },
  { base := 0x7C000C, wr := 0xFFFFFFFF, rst := 0x01F40320, cls := .setp },
  { base := 0x7C0010, wr := 0x0000FF0F, rst := 0x00000A01, cls := .setp },
  { base := 0x7C00C4, wr := 0xFF },
  { base := 0x7C0100, n1 := 4, s1 := 0x20, wr := 0xE700FF00, rst := 0x00006400, cls := .fixed,
    ranges := [⟨29, 2, 0, 2⟩, ⟨8, 8, 10, 255⟩] },
  { base := 0x7C0104, n1 := 4, s1 := 0x20, wr := 0xFFFFFFFF, cls := .setp },
  { base := 0x7C0108, n1 := 4, s1 := 0x20, wr := 0xFFFFFFFF, rst := 0xFFFF0200, cls := .setp },
  { base := 0x7C010C, n1 := 4, s1 := 0x20, wr := 0xFFFFFFFF, rst := 0xF61807D0, cls := .setp },
  { base := 0x7C0200, n1 := 8, s1 := 0x10, wr := 0xEFFF0FFF, rst := 0x02000F80, cls := .fixed },
  { base := 0x7C0204, n1 := 8, s1 := 0x10, wr := 0xFFFFFFFF, rst := 0x0FA0FE70, cls := .setp },
  { base := 0x7C0208, n1 := 8, s1 := 0x10, wr := 0x0FFFFFFF, rst := 0x00400064, cls := .setp },
  { base := 0x7C0400, n1 := 8, s1 := 0x100, n2 := 33, wr := 0xFFFFFFFF, cls := .shadow },
  { base := 0x7C0C00, n1 := 65, wr := 0x0000FFFF, cls := .shadow }]

/-- CAL (R1070, R1072). -/
def calRows : List RegRow := [
  { base := 0x840008, wr := 0x3FF, cls := .test },
  { base := 0x8400C4, wr := 0xF },
  { base := 0x840100, n1 := 10, s1 := 0x20, wr := 0x87FFFFFF, rst := 0x0300800A, cls := .setp,
    ranges := [⟨24, 3, 2, 4⟩, ⟨8, 4, 0, 11⟩] },
  { base := 0x840104, n1 := 10, s1 := 0x20, wr := 0xFFFFFFFF, rst := 0x003C0000, cls := .setp }]

/-- The reset value of a register of these blocks whose value depends on its number. -/
def engineReset (off : Nat) : Option Word :=
  if 0x604000 ≤ off ∧ off < 0x604800 then
    some (BitVec.ofNat 32 (microstepTable.getD ((off - 0x604000) % 0x400 / 4) 0))
  else if 0x681054 ≤ off ∧ off < 0x681C00 ∧ (off - 0x681054) % 0x80 = 0 then
    some (BitVec.ofNat 32 (128 + 4 * ((off - 0x681054) / 0x80)))
  else if 0x781000 ≤ off ∧ off < 0x781400 then
    some (BitVec.ofNat 32 (code 16 (hvSine.getD ((off - 0x781000) / 4) 0)))
  else if 0x7C0100 ≤ off ∧ off < 0x7C0180 ∧ (off - 0x7C0100) % 0x20 = 0 then
    some (place ((off - 0x7C0100) / 0x20) 24 3 ||| 0x00006400)
  else if 0x7C0C00 ≤ off ∧ off < 0x7C0D04 then some (BitVec.ofNat 32 (fuserInv.getD ((off - 0x7C0C00) / 4) 0))
  else if 0x840100 ≤ off ∧ off < 0x840240 ∧ (off - 0x840100) % 0x20 = 0 then
    some (if (off - 0x840100) / 0x20 ∈ [1, 2, 3, 6, 7] then 0x8300800A else 0x0300800A)
  else none

end Sys2Proof.Machine
end

