-- ==== Sys2Proof/Machine/TabPage.lean ====
section
/-! DEFINITION. Machine/TabPage.lean: the plain registers of the stations, PGF, HUSK, SHF and MOV. -/
namespace Sys2Proof.Machine

/-- LSn (R288 to R299). `LSn_CTRL`, `LSn_TBL` and `LSn_MODb` are kept by the station. The defaults of PLANE, AXIS and
SLOT_GRP are the station's number. -/
def lsRows (n : Nat) : List RegRow :=
  let b := 0x200000 + n * 0x10000
  [ { base := b, wr := 0xFF0F1FFF, rst := BitVec.ofNat 32 (0x02040078 + n * 0x04000000 + n * 0x100), cls := .fixed,
      ranges := [⟨28, 3, 0, 4⟩, ⟨24, 2, 0, 2⟩, ⟨8, 5, 0, 23⟩, ⟨0, 8, 80, 160⟩] },
    { base := b + 0x00C, wr := 0xFFFFFFFF, rst := 0x20000000, cls := .shadow },
    { base := b + 0x010, wr := 0x003FFFFF, rst := 0x00001000, cls := .shadow },
    { base := b + 0x014, wr := 0x00007FFF, rst := 0x00004000, cls := .shadow },
    { base := b + 0x018, wr := 0x0000FFFF, cls := .shadow },
    { base := b + 0x01C, wr := 0x0000033F, rst := 0x0000020C, cls := .shadow },
    { base := b + 0x020, wr := 0x0F00FFFF, rst := 0x00003214, cls := .setp },
    { base := b + 0x024, wr := 0xFFFFFFFF, rst := 0x00004014, cls := .setp, ranges := [⟨8, 8, 1, 255⟩, ⟨0, 8, 1, 255⟩] },
    { base := b + 0x028, wr := 0x9FFFFFFF, rst := 0x90643240, cls := .setp,
      ranges := [⟨24, 5, 1, 16⟩, ⟨16, 8, 10, 255⟩, ⟨8, 8, 1, 255⟩, ⟨0, 8, 1, 255⟩] },
    { base := b + 0x02C, wr := 0x0F000FFF, rst := BitVec.ofNat 32 (40 + n * 0x1000000), cls := .setp },
    { base := b + 0x044, wr := 0xFF },
    { base := b + 0x140, n1 := 16, wr := 0x00000FFF, cls := .setp },
    { base := b + 0x180, n1 := 16, wr := 0x00000FFF, rst := 0x800, cls := .setp },
    { base := b + 0x1000, n1 := 256, wr := 0xFFFFFFFF, cls := .shadow },
    { base := b + 0x1400, n1 := 12, s1 := 0x20, n2 := 8, wr := 0xFFFFFFFF, cls := .shadow },
    { base := b + 0x1600, n1 := 64, wr := 0x3FFF00FF, cls := .shadow }]

/-- PGF (R346, R348). -/
def pgfRows : List RegRow := [
  { base := 0x300004, wr := 0x00FFFFFF, rst := 0x00321914, cls := .setp, ranges := [⟨16, 8, 1, 255⟩, ⟨8, 8, 0, 200⟩] },
  { base := 0x3000C4, wr := 0xFF }]

/-- HUSK (R393, R395). -/
def huskRows : List RegRow := [
  { base := 0x380004, wr := 0x7, rst := 3, cls := .setp }, { base := 0x3800C4, wr := 0xFF }]

/-- SHF (R459, R463); the budgets are kept by Sheaf. -/
def shfRows : List RegRow := [
  { base := 0x400010, wr := 0xFFFFFFFF, rst := 0xE0C00040, cls := .fixed },
  { base := 0x400014, wr := 0xFFFFFFFF, cls := .fixed },
  { base := 0x400018, wr := 0x000000FF, cls := .fixed },
  { base := 0x40001C, wr := 0xFFFFFFFF, cls := .fixed },
  { base := 0x400024, wr := 0xFFFFFFFF },
  { base := 0x4000C4, wr := 0xFF }]

/-- MOV (R465, R466). -/
def movRows : List RegRow := [
  { base := 0x4800C4, wr := 0xF },
  { base := 0x480100, n1 := 16, s1 := 0x20, wr := 0xFFFFFFFF },
  { base := 0x480104, n1 := 16, s1 := 0x20, wr := 0x000000FF },
  { base := 0x480108, n1 := 16, s1 := 0x20, wr := 0xFFFFFFFF },
  { base := 0x48010C, n1 := 16, s1 := 0x20, wr := 0x000000FF },
  { base := 0x480110, n1 := 16, s1 := 0x20, wr := 0xFFFFFFFF },
  { base := 0x480114, n1 := 16, s1 := 0x20, wr := 0x67700000, rst := 0x06600000 }]

end Sys2Proof.Machine
end

