-- ==== Sys2Proof/Machine/RegTab.lean ====
section
/-! DEFINITION. Machine/RegTab.lean: the plain registers of every block, and their reset values. -/
namespace Sys2Proof.Machine

/-- The plain registers of a block. -/
def blockRows : Block → List RegRow
  | .sys => sysRows
  | .culm => culmRows
  | .ls n => lsRows n
  | .pgf => pgfRows
  | .husk => huskRows
  | .shf => shfRows
  | .mov => movRows
  | .evt => evtRows
  | .glm => glmRows
  | .boot => bootRows
  | .pwr => pwrRows
  | .thm => thmRows
  | .hq => hqRows
  | .rch => rchRows
  | .srv => srvRows
  | .spn => spnRows
  | .mot => motRows
  | .drv => drvRows
  | .teff => teffRows
  | .hv => hvRows
  | .fus => fusRows
  | .cal => calRows

/-- The group of a plain register. -/
def regRow? (off : Nat) : Option RegRow :=
  match Block.ofOff off with
  | none => none
  | some b => (blockRows b).find? fun r => r.hits off

/-- The reset value of a plain register; some depend on the number of their instance (R1090, R574, R642, R829). -/
def regReset (off : Nat) : Word :=
  if 0x881000 ≤ off ∧ off < 0x881400 then evtSrcReset ((off - 0x881000) / 4)
  else match (engineReset off).or (diskReset off) with
    | some w => w
    | none => match regRow? off with
      | none => 0
      | some r => r.rst

end Sys2Proof.Machine
end

