-- ==== Sys2Proof/Machine/State/Rec.lean ====
section
/-! DEFINITION. Machine/State/Rec.lean: what outlives AON power: the record die (R1093), the image store and the fuses.
-/
namespace Sys2Proof.Machine

/-- One stored-configuration bank (R856). -/
structure CfgBank where
  complete : Bool := false
  /-- GEN and TIME of its header (R1175). -/
  gen : BitVec 32 := 0
  time : Time := 0
  /-- Stored objects: key (index × 256 + subindex) and value bytes. -/
  items : List (Nat × List Byte) := []
  deriving DecidableEq, Repr, Inhabited

/-- A key slot (R860). -/
structure KeySlot where
  key : List Byte
  role : Nat
  deriving DecidableEq, Repr

/-- What CAL keeps of one calibration in the record die (R1065). -/
structure CalRec where
  /-- `CAL_CALc_COUNT` (R1072). -/
  count : Nat := 0
  /-- `CAL_CALc_REJECTS` (R1072). -/
  rejects : Nat := 0
  /-- `CAL_CALc_STATUS` LAST, INST, TRIG and TSTAT (R1071). -/
  outcome : Nat := 0
  inst : Nat := 0
  trig : Nat := 0
  tstat : Nat := 0
  /-- Device time of the last run (R1064). -/
  time : Time := 0
  /-- `CAL_CALc_STATUS.METHOD` of the last run (R1071). -/
  method : Nat := 0
  /-- The die temperature at the end of the last accepted run, 0.01 °C (R1058). -/
  temp : Int := 0
  deriving DecidableEq, Repr, Inhabited

/-- The record die, the image store and the one-time fuses. -/
structure Rec where
  /-- Protected region: its entries, oldest first; at most 16,384 (R1093). -/
  prot : List GEntry := []
  /-- General region: its entries, oldest first; at most 96,256 (R1093). -/
  gen : List GEntry := []
  /-- The slot of the general region that the next entry takes (R1097). -/
  genNext : Nat := 0
  /-- 32 bits; `GLM_NEXT_SEQ` (R1108). -/
  nextSeq : BitVec 32 := 0
  /-- The scan pointer: SEQ of the last 256th entry (R1111 step 2). -/
  scanPtr : BitVec 32 := 0
  /-- The two copies of the time horizon, with their validity (R182). -/
  horizonA : Option Nat := none
  horizonB : Option Nat := none
  /-- `BOOT_MARKS` (R1148). -/
  marks : BitVec 16 := 0
  /-- `BOOT_START_COUNT` (R1148). -/
  startCount : Nat := 0
  /-- The stored-configuration banks 0 and 1 (R856). -/
  cfg0 : CfgBank := {}
  cfg1 : CfgBank := {}
  /-- The stored bank being written by a STORE: its items (R856). -/
  cfgWriting : Option CfgBank := none
  /-- The mark of a store that has begun and not ended (R1181). -/
  storeMark : Bool := false
  /-- The key slots (R871). -/
  keys : List (Option KeySlot) := List.replicate 4 none
  /-- A power-loss record has been written whose tokens no start has journalled yet (R1004). -/
  lossDue : Bool := false
  /-- Latest journal anchor: SEQ and SEAL (R948). -/
  anchor : Option (Nat × List Byte) := none
  /-- Grown-defect list: LBA, and 1 for a read or 2 for a write failure; at most 4,096 (R547, R549). -/
  glist : List (Nat × Nat) := []
  /-- The calibration records (R1065). -/
  cal : List CalRec := List.replicate 10 {}
  /-- The image store banks (R1127). -/
  img0 : ImgBank := { state := 2 }
  img1 : ImgBank := {}
  /-- `BOOT_STATUS.ACTIVE_BANK` (R1145). -/
  imgActive : Nat := 0
  /-- `BOOT_SVN_MIN`, in one-time fuses (R1131). -/
  svnMin : Nat := 0
  /-- Fuse steps used, at most 64 (R1131). -/
  svnSteps : Nat := 0
  deriving DecidableEq, Repr

end Sys2Proof.Machine
end

