-- ==== Sys2Proof/Machine/State/Zop.lean ====
section
/-! DEFINITION. Machine/State/Zop.lean: the dictionary service: ZOP sessions and transfers, the mailbox, the SMBus
target, and the stored-configuration commands. -/
namespace Sys2Proof.Machine

/-- Abort codes (R863). -/
inductive Abort where
  | none | unknownObject | access | type | range | length | stateConflict | busy | auth | xfer | timeout
  | notApplied | protocol
  deriving DecidableEq, Repr, Inhabited

/-- The code of an abort (R863). -/
def Abort.code : Abort → Nat
  | .none => 0 | .unknownObject => 1 | .access => 2 | .type => 3 | .range => 4 | .length => 5
  | .stateConflict => 6 | .busy => 7 | .auth => 8 | .xfer => 9 | .timeout => 10 | .notApplied => 11
  | .protocol => 12

/-- A ZOP session (R872, R875, R876). -/
structure Session where
  id : Nat
  slot : Nat
  role : Nat
  key : List Byte
  lastSeq : Nat
  /-- The cached response to `lastSeq`. -/
  cached : List Byte
  /-- Device time of the last valid datagram (R875, R898). -/
  seen : Time := 0
  deriving DecidableEq, Repr

/-- An open segmented transfer (R879 to R884). -/
structure Xfer where
  id : Nat
  /-- index × 256 + subindex of the object. -/
  object : Nat
  write : Bool
  total : Nat
  /-- The captured value of a read, or the bytes staged so far of a write. -/
  data : List Byte
  /-- The session that opened it, 0 for none and for the mailbox (R901). -/
  session : Nat := 0
  /-- The frames of the firmware pool that hold a value of more than 65,536 bytes (R884). -/
  frames : List Nat := []
  deriving DecidableEq, Repr

/-- Counters of one Ethernet port (OD 1100:06). -/
structure PortCounts where
  received : Nat := 0
  answered : Nat := 0
  discarded : Nat := 0
  rateDiscarded : Nat := 0
  authFailed : Nat := 0
  seqDiscarded : Nat := 0
  /-- Datagrams taken in the present second (R866). -/
  inSecond : Nat := 0
  /-- The second, as whole seconds of device time, that `inSecond` counts. -/
  second : Nat := 0
  deriving DecidableEq, Repr, Inhabited

/-- A transaction that the SMBus host has put to the target (R894). -/
inductive SmbReq where
  | read (key : Nat)
  /-- An OD_WRITE, with the packet error code that the host sent, if any. -/
  | write (key ty : Nat) (bs : List Byte) (sent : Option Byte)
  | ping
  | result
  deriving DecidableEq, Repr

/-- The dictionary service. -/
structure Zop where
  /-- Open sessions, at most 8 (R872). -/
  sessions : List Session := []
  /-- Open transfers, at most 4 (R884). -/
  xfers : List Xfer := []
  /-- Transfers abandoned by time-out, by number (R883). -/
  abandoned : List Nat := []
  /-- Counters of the two ports. -/
  ports : List PortCounts := [{}, {}]
  /-- The last datagram sent on each port. -/
  sent : List (List Byte) := [[], []]
  /-- The outcome of the last dictionary operation that a command of the table made by itself. -/
  reply : Abort := .none
  /-- The value returned by the last dictionary read that a command of the table made by itself. -/
  replyData : List Byte := []
  /-- OD 1010:02 STORE_STATUS (R862). -/
  storeStatus : Nat := 0
  /-- OD 1010:03 STORE_TIME (R862). -/
  storeTime : Time := 0
  /-- OD 1010:04 STORE_NEED (R862). -/
  storeNeed : Nat := 0
  /-- The stored values that the service pair keeps, by key, with the interrupt enables under 0x5000F0 (R1142,
  R1175). -/
  stored : List (Nat × List Byte) := []
  /-- Writes accepted while the domain behind the object is off, in force when it is next on (R550, R617, R689, R751,
  R796, R848, R304, R971). -/
  offWrites : List (Nat × List Byte) := []
  /-- Lengths last written to DOMAIN objects, where they differ from the default value's (R859). -/
  lens : List (Nat × Nat) := []
  /-- The OEM declarations in force, in the form of R1180. -/
  oem : List Byte := []
  /-- `HQ_MBX_CTRL.STATUS` (R892). -/
  mbxStatus : Nat := 0
  /-- `HQ_MBX_CTRL.IEN` (R892). -/
  mbxIen : Bool := false
  /-- `HQ_MBX_REQ_LEN` (R893). -/
  mbxReqLen : Nat := 0
  /-- `HQ_MBX_RSP_LEN` (R893). -/
  mbxRspLen : Nat := 0
  /-- `HQ_MBX_COUNT` (R893). -/
  mbxCount : Word := 0
  /-- `HQ_MBX_REQ`: bytes that are not 0, by place (R893). -/
  mbxReq : List (Nat × Byte) := []
  /-- `HQ_MBX_RSP`: the response bytes (R893). -/
  mbxRsp : List Byte := []
  /-- RESULT of SMBus: abort, index × 256 + subindex of the last OD_WRITE (R894). -/
  smbResult : Abort := .none
  smbObject : Nat := 0
  /-- OD 1110:03: transactions, PEC errors, BUSY answers. -/
  smbCount : Nat := 0
  smbPec : Nat := 0
  smbBusy : Nat := 0
  /-- The SMBus transaction for which the target stretches the clock (R110). -/
  smbHeld : Option SmbReq := none
  /-- The bytes that the SMBus target returned last. -/
  smbSent : List Byte := []
  deriving DecidableEq, Repr

end Sys2Proof.Machine
end

