-- ==== Sys2Proof/Machine/State/Page.lean ====
section
/-! DEFINITION. Machine/State/Page.lean: the imaging stations, page flow, Husk, Sheaf and the Mover. -/
namespace Sys2Proof.Machine

/-! ## Stations -/

/-- The tables of a station in force (R279): the copies behind the shadowed registers. -/
structure StTables where
  dbase : Word := 0x20000000
  sdly : Word := 0x1000
  line : Word := 0x4000
  preg : Word := 0
  pulse : Word := 0x20C
  /-- RAMP[0] to RAMP[255]. -/
  ramp : List Word := List.replicate 256 0
  /-- The 12 × 8 words of the facet table. -/
  facet : List Word := List.replicate 96 0
  /-- ZONE 0 to 63. -/
  zone : List Word := List.replicate 64 0
  deriving DecidableEq, Repr

/-- The state of a table apply: `LSn_TBL.STATUS` (R297). -/
inductive TblStatus where
  | idle | armed | applied | cancelled | range | stateConflict
  deriving DecidableEq, Repr, Inhabited

/-- One beam's APC record (R252, R299). -/
structure Beam where
  /-- `LSn_MODb`, 12 bits. -/
  mod : Nat := 0
  /-- `LSn_APCb_LAST` [11:0]. -/
  last : Nat := 0
  /-- `LSn_APCb_LAST.SAT`. -/
  sat : Bool := false
  /-- The last sample and the one before it, as far as R252 may still judge them (R273). -/
  sample0 : Option Nat := none
  sample1 : Option Nat := none
  /-- Facet passes since the last sample. -/
  age : Nat := 0
  /-- The slot output has saturated since the last good sample. -/
  satSince : Bool := false
  /-- The beam's gate is open (R241). -/
  gate : Bool := false
  deriving DecidableEq, Repr, Inhabited

/-- A screen set (R319): its 16-byte head as numbers, and its cells. -/
structure Screen where
  w : Nat := 1
  h : Nat := 1
  px : Nat := 0
  py : Nat := 0
  lvl : List Nat := [0x00, 0x94, 0xAA, 0xBF]
  cells : List Nat := [0x40, 0x80, 0xC0]
  deriving DecidableEq, Repr, Inhabited

/-- A page on its way through a station (R258). -/
structure SPage where
  /-- Token slot. -/
  slot : Nat
  turn : Nat
  div : Nat
  /-- A line-start strobe has fired in the turn and division of the page's top-of-page mark (R258, R325). -/
  marked : Bool := false
  /-- The sweep in progress or last run, from 0; none before the top-of-page mark. -/
  sweep : Option Nat := none
  /-- Bands decoded so far. -/
  bands : Nat := 0
  /-- Frames that the decoder has passed and released (R420 to R422). -/
  freed : Nat := 0
  /-- The armed screen sets come into force at this page's mark (R321). -/
  screens : Bool := false
  deriving DecidableEq, Repr

/-- A decoded band in the band store (R380): 16 contone rows and 16 tag rows of K × 16 pixels. -/
structure DBand where
  /-- Token slot of the page. -/
  slot : Nat
  band : Nat
  contone : List (List Nat)
  tags : List (List Nat)
  deriving DecidableEq, Repr

/-- One imaging station. -/
structure Station where
  /-- `LSn_CTRL.DISABLE` (R289). -/
  disable : Bool := true
  /-- `LSn_CTRL.BIAS_HOLD` (R289). -/
  biasHold : Bool := true
  /-- `LSn_STATUS.ILK_LATCH` (R290), on the BCD die. -/
  ilkLatch : Bool := false
  /-- `LSn_STATUS.ILK_LOCAL`: LSn_EN_N is deasserted now (R290). -/
  ilkLocal : Bool := false
  /-- `LSn_STATUS.GATE_HOLD` (R290). -/
  gateHold : Bool := false
  /-- `LSn_STATUS.BOOT_DISABLED` (R290). -/
  bootDisabled : Bool := false
  /-- `LSn_STATUS.CFG_ERR` (R290). -/
  cfgErr : Bool := false
  /-- `LSn_STATUS.PLL_LOCKED` (R290). -/
  pllLocked : Bool := false
  /-- POLY_LOCKED has been 1 since the last unlock reaction: its fall is still to be answered (R268). -/
  polyWas : Bool := false
  /-- Accepted edges within tolerance, in a row (R265). -/
  polyGood : Nat := 0
  /-- `LSn_STATUS.FACET` (R290). -/
  facet : Nat := 0
  /-- The beam-detect window of R243 is open. -/
  bdWindow : Bool := false
  /-- A line is running (R224). -/
  lineOn : Bool := false
  /-- The division in which the running line's strobe fired (R231). -/
  lineDiv : Nat := 0
  /-- The 800 MHz tick of the running line's strobe (R223). -/
  lineTick : Nat := 0
  /-- 6 bits; the step of the running line's strobe in its tick, in 1/64 tick (R156, R223). -/
  lineStep : Nat := 0
  /-- The first pixels of zones still to come in the running line: their tick, beam and zone (R264). -/
  zoneDue : List (Nat × Nat × Nat) := []
  /-- The tick from which the running line's page is spoiled, so that every beam emits code 0 (R336). -/
  quiet : Option Nat := none
  /-- The 16 beams. -/
  beams : List Beam := List.replicate 16 {}
  /-- Beams of the APC sequence in progress still to be sampled, in order (R248). -/
  apcLeft : List Nat := []
  /-- The beam after the last one measured (R248). -/
  apcNext : Nat := 0
  /-- A gap stands before the next beam of the sequence is lit (R246). -/
  apcGap : Bool := false
  /-- The present sequence has been counted as short (R250). -/
  apcShort : Bool := false
  /-- The tables in force (R279). -/
  tbl : StTables := {}
  /-- `LSn_TBL.STATUS` (R297). -/
  tblStatus : TblStatus := .idle
  /-- A table apply is armed (R279). -/
  tblArmed : Bool := false
  /-- `LSn_TBL.WHEN` (R297). -/
  tblWhen : Nat := 0
  /-- The point of the armed apply (R279). -/
  tblPoint : Nat := 0
  /-- The 800 MHz tick of the arm (R283). -/
  tblTick : Nat := 0
  /-- A bank swap has happened since the arm, for WHEN = 2 (R279). -/
  tblSwapSeen : Bool := false
  /-- `LSn_CNT_LINES` (R299). -/
  cntLines : Nat := 0
  /-- `LSn_CNT_LINEFLT` (R299). -/
  cntLineFlt : Nat := 0
  /-- `LSn_CNT_APCSHORT` (R299). -/
  cntApcShort : Nat := 0
  /-- `LSn_CNT_CLAMP` (R299). -/
  cntClamp : Nat := 0
  /-- The screen sets in force (R321). -/
  screens : List Screen := List.replicate 8 {}
  /-- The shadow screen sets (R321). -/
  shadowScreens : List Screen := List.replicate 8 {}
  /-- State of the screen apply: 0 idle, 1 armed, 2 applied, 3 cancelled (R352). -/
  screenApply : Nat := 0
  /-- Pages committed on the station, in order; the first is the one in flight. -/
  pages : List SPage := []
  /-- The decoded bands of the page in flight, oldest first, at most three (R380). -/
  bandStore : List DBand := []
  /-- The line store: page rows and their pulse words, at most 96 rows (R221). -/
  lineStore : List (Nat × List Nat) := []
  /-- Beams that emit code 0 for the rest of the running line, with the data pixel from which they do (R264). -/
  dark : List (Nat × Nat) := []
  /-- A calibration holds the station's light (R1040). -/
  calHold : Bool := false
  deriving DecidableEq, Repr, Inhabited

/-! ## Page flow -/

/-- Token states (R313). -/
inductive TState where
  | free | submitted | accepted | armed | committed | imaged | delivered | spoiled | rejected
  deriving DecidableEq, Repr, Inhabited

/-- The code of a token state (R313). -/
def TState.code : TState → Nat
  | .free => 0 | .submitted => 1 | .accepted => 2 | .armed => 3 | .committed => 4 | .imaged => 5
  | .delivered => 6 | .spoiled => 7 | .rejected => 8

/-- One run of a read plan (R329). -/
structure PlanRun where
  plane : Nat
  first : Nat
  frames : Nat
  lba : Nat
  deriving DecidableEq, Repr

/-- What the controller holds of one plane of a page. -/
structure PlaneData where
  /-- The plane's input bytes as read from the host: raw, or already coded (R385). -/
  input : List Byte := []
  /-- The coded stream (R306); its frames are Sheaf's. -/
  coded : List Byte := []
  /-- The plane is in the spool pool. -/
  ready : Bool := false
  /-- The first of its spool extents (R424). -/
  extent : Option Nat := none
  deriving DecidableEq, Repr, Inhabited

/-- The page header (R305). -/
structure Header where
  width : Nat := 0
  height : Nat := 0
  planes : Nat := 0
  ratio : Nat := 0
  precoded : Bool := false
  tags : Bool := false
  tagmap : Nat := 0
  pair : Nat := 0
  blocks : List Nat := [0, 0, 0, 0]
  bytes : List Nat := [0, 0, 0, 0]
  tagBytes : Nat := 0
  deriving DecidableEq, Repr, Inhabited

/-- A token (R313, R350). -/
structure Token where
  num : Nat := 0
  state : TState := .free
  /-- SPOIL_MARK (R350). -/
  spoilMark : Bool := false
  /-- REASON (R350), kept from the first spoil cause (R317). -/
  reason : Nat := 0
  hdr : Header := {}
  /-- Device time of the last transition and its status (R350). -/
  time : Time := 0
  tstat : Nat := 0
  /-- Device time of SUBMITTED (R943). -/
  submitTime : Time := 0
  hostref : Nat := 0
  /-- The submit queue. -/
  queue : Nat := 0
  /-- Print-from-platter (R425, R927). -/
  platter : Bool := false
  /-- HQ is still reading the page's data. -/
  reading : Bool := false
  /-- Host-submit credits that the page still waits for (R417). -/
  creditWait : Nat := 0
  /-- Station-ring credits of the token that are not yet frames (R418, R421). -/
  ringLeft : Nat := 0
  /-- Ended, and the end record waits for room in the journal pool (R312, R417). -/
  endWaits : Bool := false
  /-- The slot of the other side of a pair (R315). -/
  partner : Option Nat := none
  /-- Top-of-page marks of stations 0 to 3: turn and division. -/
  marks : List (Option (Nat × Nat)) := [none, none, none, none]
  /-- The sheet fed for the token. -/
  sheet : Option Nat := none
  planes : List PlaneData := List.replicate 4 {}
  /-- The raw tag plane (R308). -/
  tagInput : List Byte := []
  plan : List PlanRun := []
  /-- Frames of the plan that have landed so far. -/
  planDone : Nat := 0
  /-- The plan's remaining runs are cancelled (R336, R431). -/
  planCancelled : Bool := false
  /-- Device times by which the runs of the plan end their charged time (R331). -/
  charges : List Nat := []
  /-- Stations that have emitted their last page row, as a mask (R335). -/
  imagedBy : BitVec 4 := 0
  /-- The end record is in the journal pool, so the slot is free again (R312). -/
  recorded : Bool := false
  deriving DecidableEq, Repr, Inhabited

/-- A gate evaluation in progress (R325). -/
structure GateEval where
  slot : Nat
  /-- A drain was in progress when the evaluation began (R99). -/
  drain : Bool
  /-- The marks named for the front side and for the back side, per station. -/
  front : List (Option (Nat × Nat))
  back : List (Option (Nat × Nat))
  deriving DecidableEq, Repr

/-- The PGF block. -/
structure Pgf where
  /-- Token records by slot; an unlisted slot is free and all zero (R311, R350). -/
  tokens : List (Nat × Token) := []
  /-- The number of the next token (R310). -/
  nextNum : Nat := 1
  gate : Option GateEval := none
  /-- `PGF_LAST_GATE` SLOT, OUTCOME and FAILED (R347). -/
  gateSlot : Nat := 0
  gateOutcome : Nat := 0
  /-- The slot whose record's words 1 to 7 are latched (R351). -/
  latSlot : Option Nat := none
  gateFailed : BitVec 9 := 0
  /-- H_R, ns (R332, R348). -/
  horizon : Nat := 0
  /-- The seven counts of R341, in the order of R348. -/
  cntSubmitted : Word := 0
  cntRejected : Word := 0
  cntWaiting : Word := 0
  cntCommitted : Word := 0
  cntDelivered : Word := 0
  cntSpoiled : Word := 0
  cntInFlight : Word := 0
  /-- `PGF_SNAP_*` (R348, R349). -/
  snap : List Word := List.replicate 7 0
  snapTime : Time := 0
  snapValid : Bool := false
  snapSeq : Nat := 0
  deriving DecidableEq, Repr

/-! ## Husk -/

/-- The counters of one decoder (R395). -/
structure Decoder where
  malf : Nat := 0
  malfToken : Nat := 0
  malfPos : Word := 0
  blocks : Nat := 0
  deriving DecidableEq, Repr, Inhabited

/-- The HUSK block. -/
structure Husk where
  /-- Raw planes to be coded, in the order in which their tokens reached SUBMITTED: token slot and plane (R385). -/
  coding : List (Nat × Nat) := []
  /-- The first of them is being coded (R385, R392). -/
  busy : Bool := false
  /-- The plane in progress waits for spool credits (R417). -/
  coderWaits : Bool := false
  /-- The effort taken when the plane in progress started (R379). -/
  effort : Nat := 3
  cntBlocks : Nat := 0
  cntFlat : Nat := 0
  cntTwo : Nat := 0
  cntPred : Nat := 0
  cntQuant : Nat := 0
  cntTagred : Nat := 0
  decs : List Decoder := List.replicate 4 {}
  deriving DecidableEq, Repr

/-! ## Sheaf and the Mover -/

/-- Where a frame that is not on the free list stands (R401). -/
inductive FState where
  | toPool | toFree | held | dif
  deriving DecidableEq, Repr, Inhabited

/-- A frame that is not FREE. -/
structure Frame where
  st : FState := .held
  pool : Nat := 0
  pins : Nat := 0
  /-- The token slot, plane and frame of the plane whose bytes it holds. -/
  owner : Option (Nat × Nat × Nat) := none
  /-- Marked for retirement (R436). -/
  retire : Bool := false
  /-- Never to be paged out again (R428). -/
  noPage : Bool := false
  /-- A free waits until a Mover channel ends (R449). -/
  freeLater : Bool := false
  /-- The block command that the frame was taken for: 65,536 × queue + CID (R429). -/
  block : Option Nat := none
  deriving DecidableEq, Repr, Inhabited

/-- The six counters of a pool (R408). -/
structure Pool where
  issued : Nat := 0
  held : Nat := 0
  pinned : Nat := 0
  out : Nat := 0
  dif : Nat := 0
  tin : Nat := 0
  deriving DecidableEq, Repr, Inhabited

/-- A credit request that waits (R417): the consumer, its pool, the credits, and its token slot or queue. -/
structure CreditWait where
  /-- 0 page submission, 1 coder or pre-coded plane, 2 block I/O, 3 journal writer. -/
  consumer : Nat
  pool : Nat
  n : Nat
  ref : Nat
  plane : Nat
  deriving DecidableEq, Repr

/-- What a frame is allocated for: frame `frame` of a plane of a token, a block command, the end record of a token (slot
1024: a genesis record), or a transfer that stages its bytes. -/
inductive AllocFor where
  | plane (slot plane frame : Nat)
  | block (ref : Nat)
  | record (slot : Nat)
  | stage (xfer : Nat)
  deriving DecidableEq, Repr

/-- An allocation that waits for a frame, against a credit of its pool (R416). -/
structure AllocWait where
  pool : Nat
  who : AllocFor
  deriving DecidableEq, Repr

/-- The SHF block. -/
structure Shf where
  /-- `SHF_TOTAL` (R463). -/
  total : Nat := 0
  /-- FREE (R463). -/
  free : Nat := 0
  /-- TRANSIT (R463). -/
  transit : Nat := 0
  pools : List Pool := List.replicate 8 {}
  /-- `SHF_POOLp_BUDGET` (R463). -/
  budgets : List Nat := List.replicate 8 0
  /-- The frame table: frames that are not FREE, by number (R400). -/
  frames : List (Nat × Frame) := []
  /-- `SHF_STATUS.PAGING` under the water marks (R458). -/
  paging : Bool := false
  /-- `SHF_STATUS.OVERCOMMIT` (R458). -/
  overcommit : Bool := false
  /-- `SHF_CMD.STATUS`, POOL and OP as last written (R460). -/
  cmdStatus : Nat := 0
  cmdPool : Nat := 6
  cmdOp : Nat := 0
  /-- `SHF_CMD_RESULT` (R463). -/
  cmdResult : Nat := 0
  /-- An allocation that waits for a frame: its pool (R416). -/
  allocWait : Option Nat := none
  /-- The frame in TRANSIT that an allocation which waited has taken (R461). -/
  allocFrame : Option Nat := none
  /-- Other allocations that wait for a frame, oldest first (R416). -/
  allocs : List AllocWait := []
  /-- FREE frames that are marked for retirement (R436, R437). -/
  marked : List Nat := []
  /-- Byte addresses that the memory controller has reported (R436). -/
  errs : List Nat := []
  waits : List CreditWait := []
  /-- `SHF_SNAP_*` (R435): FREE and TRANSIT, the pools, the Mover books, time. -/
  snapFree : Nat := 0
  snapTransit : Nat := 0
  snapPools : List Pool := List.replicate 8 {}
  snapMov : List Nat := List.replicate 5 0
  snapTime : Time := 0
  snapTstat : Nat := 0
  snapValid : Bool := false
  snapSeq : Nat := 0
  deriving DecidableEq, Repr

/-- Status of a Mover channel (R465). -/
inductive MovStatus where
  | idle | queued | running | done | length | range | aborted
  deriving DecidableEq, Repr, Inhabited

/-- One Mover channel. -/
structure MovCh where
  status : MovStatus := .idle
  /-- `MOV_CHk_CTRL.MISSED` (R465). -/
  missed : Bool := false
  /-- `MOV_CHk_LEFT` (R466). -/
  left : Nat := 0
  deriving DecidableEq, Repr, Inhabited

/-- The MOV block. -/
structure Mov where
  chans : List MovCh := List.replicate 16 {}
  /-- Channels queued, in order; the first one runs when `running`. -/
  queue : List Nat := []
  running : Bool := false
  /-- The channel that ran last: `MOV_STATUS.CUR` (R464). -/
  cur : Nat := 0
  /-- The byte books (R454). -/
  requested : Nat := 0
  moved : Nat := 0
  abandoned : Nat := 0
  pend : Nat := 0
  buffered : Nat := 0
  deriving DecidableEq, Repr

end Sys2Proof.Machine
end

