-- ==== Sys2Proof/Machine/State/Engine.lean ====
section
/-! DEFINITION. Machine/State/Engine.lean: the closed-loop engine, paper-path motion, the motor drives, and the
high-voltage and fuser blocks. -/
namespace Sys2Proof.Machine

/-! ## Teff -/

/-- A pending update (R758): its sample instant as an order number, the feedback and feed-forward taken with it, whether
the feedback is stale, and whether the sample came by a repeated packet (R762). -/
structure Pend where
  inst : Nat
  y : Int
  f : Int
  stale : Bool
  late : Bool
  deriving DecidableEq, Repr

/-- One loop slot (R752 to R774). -/
structure TSlot where
  /-- `TEFF_SLs_CFG` without EN of a bound slot and without LANE (R788). -/
  cfg : Word := 0x00000800
  /-- `TEFF_SLs_CFG.LANE`; s >> 6 at reset (R753). -/
  lane : Nat := 0
  /-- The ten coefficient words in force, KP to MODEL2 (R775). -/
  coef : List Word := List.replicate 10 0
  /-- S33; the integrator i (R769). -/
  i : Int := 0
  /-- S32; d (R769). -/
  d : Int := 0
  /-- S32; e1 (R769). -/
  e1 : Int := 0
  /-- S32; y1 (R769). -/
  y1 : Int := 0
  /-- S32; yh (R769). -/
  yh : Int := 0
  /-- S32; u_prev, the output of the last update: `TEFF_SLs_OUT` (R769, R792). -/
  u : Int := 0
  /-- S32; f of the last update (R768). -/
  f : Int := 0
  /-- `TEFF_SLs_STATUS.SAT_HI` (R790). -/
  satHi : Bool := false
  /-- `TEFF_SLs_STATUS.SAT_LO` (R790). -/
  satLo : Bool := false
  /-- `TEFF_SLs_STATUS.DSAT` (R790). -/
  dsat : Bool := false
  /-- `TEFF_SLs_STATUS.PLAUS_FAIL` (R772). -/
  plausFail : Bool := false
  /-- Consecutive updates with bad = 1 (R772). -/
  badRow : Nat := 0
  /-- Consecutive updates with bad = 0 (R772). -/
  goodRow : Nat := 0
  /-- `TEFF_SLs_STATUS.STALE_LIM` (R773). -/
  staleLim : Bool := false
  /-- `TEFF_SLs_STATUS.STRANDED` (R781). -/
  stranded : Bool := false
  /-- `TEFF_SLs_STATUS.OVERRUN` (R758). -/
  overrun : Bool := false
  /-- 16 bits; `TEFF_SLs_STATUS.STALE` (R773). -/
  stale : Nat := 0
  /-- Consecutive stale updates (R773). -/
  staleRow : Nat := 0
  /-- The next update restarts the slot (R771). -/
  restart : Bool := true
  /-- The pending update. -/
  pend : Option Pend := none
  deriving DecidableEq, Repr, Inhabited

/-- Lane states (R792). -/
inductive LaneState where
  | active | out | test | faulted
  deriving DecidableEq, Repr, Inhabited

/-- The code of a lane state (R792). -/
def LaneState.code : LaneState → Nat
  | .active => 0 | .out => 1 | .test => 2 | .faulted => 3

/-- One lane (R752, R782). -/
structure Lane where
  /-- 2 bits; `TEFF_STATUS` (R792). -/
  st : LaneState := .active
  /-- The lane has passed a self-test since it left ACTIVE (R782). -/
  tested : Bool := false
  deriving DecidableEq, Repr, Inhabited

/-- The TEFF block. -/
structure Teff where
  /-- The 256 slots. -/
  slots : List TSlot := (List.range 256).map fun s => { lane := s / 64 }
  /-- The four lanes. -/
  lanes : List Lane := List.replicate 4 {}
  /-- `TEFF_STATUS` bit 31: a relocation runs (R780). -/
  reloc : Bool := false
  /-- `TEFF_LANE_CMD.STATUS` (R791). -/
  cmdStatus : Nat := 0
  /-- `TEFF_LANE_CMD` LANE, OP and SLOT as last written (R791). -/
  cmdWord : Word := 0
  /-- `TEFF_APPLY.STATUS` (R792). -/
  applyStatus : Nat := 0
  /-- `TEFF_APPLY.WHEN` (R792). -/
  applyWhen : Nat := 0
  /-- The shadow sets are armed (R776). -/
  applyArmed : Bool := false
  /-- `TEFF_CNT_LATE` (R792). -/
  cntLate : Nat := 0
  /-- `TEFF_CNT_OVERRUN` (R792). -/
  cntOverrun : Nat := 0
  /-- `TEFF_CNT_RELOC` (R792). -/
  cntReloc : Nat := 0
  /-- 256 bits; `TEFF_PLAUS_STATg` (R772). -/
  plaus : BitVec 256 := 0
  /-- The order number of the next sample instant (R759). -/
  instant : Nat := 0
  deriving DecidableEq, Repr

/-! ## Motion -/

/-- The phases of the profile generator (R629). -/
inductive Phase where
  | accel | cruise | slow | decel
  deriving DecidableEq, Repr, Inhabited

/-- The jerk-limited profile generator (R623 to R633). -/
structure Profile where
  /-- S64, 2^-24 u; position x (R623). -/
  x : Int := 0
  /-- U48, 2^-40 u per tick; velocity v (R623). -/
  v : Int := 0
  /-- S64, 2^-64 u per tick²; acceleration a (R623). -/
  a : Int := 0
  /-- Direction of travel, +1 or −1. -/
  dir : Int := 1
  /-- Target x_t in 2^-24 u. -/
  xt : Int := 0
  /-- Least velocity v_s. -/
  vs : Int := 0
  /-- Velocity cap v_c. -/
  vc : Int := 0
  phase : Phase := .accel
  /-- A position move: it ends at the target. -/
  position : Bool := false
  /-- A STOP or a quick stop runs; it ends at v_s or at 0 (R637). -/
  stopping : Bool := false
  /-- A quick stop runs (R637). -/
  quick : Bool := false
  /-- `MOT_AXk_STATUS.DECEL_HELD` (R631). -/
  held : Bool := false
  /-- Source 149 has been raised in this move (R631). -/
  heldSeen : Bool := false
  deriving DecidableEq, Repr, Inhabited

/-- The states of a motion axis (R620). -/
inductive MSt where
  | disabled | idle | moving | homing | stopping | fault
  deriving DecidableEq, Repr, Inhabited

/-- The code of a motion state (R620). -/
def MSt.code : MSt → Nat
  | .disabled => 0 | .idle => 1 | .moving => 2 | .homing => 3 | .stopping => 4 | .fault => 5

/-- A move in the queue slot (R635): its OP, its target, and its IEN. -/
structure QMove where
  op : Nat
  target : Int
  ien : Bool
  deriving DecidableEq, Repr

/-- What asks for the queued move of an axis: a queued-move strobe, or the pick of a sheet for a front token and, in a
duplex pair, a back token (R635). -/
inductive Strobe where
  | edge
  | pick (front : Nat) (back : Option Nat)
  deriving DecidableEq, Repr

/-- One motion axis (R618 to R650). -/
structure MAxis where
  /-- `MOT_AXk_STATUS.STATE` (R684). -/
  st : MSt := .disabled
  /-- `MOT_AXk_STATUS.HOMED` (R684). -/
  homed : Bool := false
  /-- `MOT_AXk_STATUS.FCODE` (R684). -/
  fcode : Nat := 0
  /-- The profile; its x is the position setpoint. -/
  prof : Profile := {}
  /-- S32; `MOT_AXk_FERR` (R685). -/
  ferr : Int := 0
  /-- The queue slot (R635). -/
  queue : Option QMove := none
  /-- A strobe or a pick that came while the axis moved: the queued move starts when the axis has stopped (R635). -/
  strobed : Option Strobe := none
  /-- `MOT_AXk_CMD.STATUS` (R683). -/
  cmdStatus : Nat := 0
  /-- `MOT_AXk_CMD` QUEUE, IEN and OP as last written (R683). -/
  cmdWord : Word := 0
  /-- The running move raises source 150 at its end (R683). -/
  ien : Bool := false
  /-- The step of the homing sequence, 0 for none (R647). -/
  homeStep : Nat := 0
  /-- Travel of the running homing step, in u (R648). -/
  homeTravel : Nat := 0
  /-- The home switch has gone inactive in step 3, with HBACK steps left to run (R647). -/
  homeBack : Option Nat := none
  /-- A fault code that the axis takes when it has stopped (R648, R650). -/
  faultAfter : Nat := 0
  /-- The current scale is IHOLD (R641). -/
  holding : Bool := true
  /-- The microstep tables in force on the axis (R642). -/
  tbls : List (List Nat) := [microstepTable, microstepTable]
  /-- New tables wait for the next full-step boundary (R642). -/
  tblNew : Option (List (List Nat)) := none
  deriving DecidableEq, Repr, Inhabited

/-- One switch input (R643, R644). -/
structure Din where
  /-- `MOT_DINi_STATE.RAW` (R685). -/
  raw : Bool := false
  /-- `MOT_DINi_STATE.LEVEL` (R685). -/
  level : Bool := false
  /-- `MOT_DINi_STATE.CHATTER` (R685). -/
  chatter : Bool := false
  /-- Device times of the latest raw changes, newest first (R644). -/
  recent : List Nat := []
  deriving DecidableEq, Repr, Inhabited

/-- One sheet record (R654). -/
structure Sheet where
  /-- U32; the sheet number. -/
  num : Nat
  /-- Token slots of the front and of the back. -/
  front : Nat
  back : Option Nat := none
  /-- U32; the token numbers of the front and of the back. -/
  frontNum : Nat := 0
  backNum : Nat := 0
  /-- The leading edge LE in 2^-16 µm. -/
  le : Int := 0
  /-- The length LEN in 2^-16 µm. -/
  len : Int := 0
  /-- 0 not set, 1 output, 2 purge (R652, R659). -/
  route : Nat := 0
  stopped : Bool := false
  /-- The points whose leading-edge event has been met. -/
  lead : BitVec 16 := 0
  /-- The points whose trailing-edge event has been met. -/
  trail : BitVec 16 := 0
  /-- LEN has been measured (R658). -/
  measured : Bool := false
  /-- The branch of R653 has been taken. -/
  branched : Bool := false
  /-- LE has reached DIV_POS, and the diverter has been checked (R659). -/
  divChecked : Bool := false
  deriving DecidableEq, Repr

/-- A recorded jam (R680). -/
structure Jam where
  kind : Nat
  point : Nat
  sheet : Nat
  deriving DecidableEq, Repr

/-- The MOT block. -/
structure Mot where
  /-- The 12 axes. -/
  axes : List MAxis := List.replicate 12 {}
  /-- S32; the counts of the encoders ENC0 to ENC11 (R618). -/
  enc : List Int := List.replicate 12 0
  /-- The 32 inputs. -/
  dins : List Din := List.replicate 32 {}
  /-- The sheet records in feed order, at most 16 (R654). -/
  sheets : List Sheet := []
  /-- U32; the number of the next sheet. -/
  nextSheet : Nat := 1
  /-- `MOT_JAM` (R680). -/
  jam : Option Jam := none
  /-- `MOT_STATUS.RUNOUT` (R677). -/
  runout : Bool := false
  /-- `MOT_LAST` (R685): source, and axis or input. -/
  lastSource : Nat := 0
  lastIndex : Nat := 0
  /-- `MOT_CNT_FED` to `MOT_CNT_CLEARED` (R685). -/
  fed : Word := 0
  delivered : Word := 0
  purged : Word := 0
  inPath : Word := 0
  cleared : Word := 0
  /-- `MOT_SNAP_*` (R685). -/
  snap : List Word := List.replicate 5 0
  snapTime : Time := 0
  snapTstat : Nat := 0
  snapValid : Bool := false
  snapSeq : Nat := 0
  /-- `MOT_PATH_CMD.STATUS` (R678). -/
  pathStatus : Nat := 0
  deriving DecidableEq, Repr

/-! ## Motor drives -/

/-- The states of a drive unit (R747). -/
inductive USt where
  | disabled | idle | sense | ramp | run | coast | catching | stopping | fault
  deriving DecidableEq, Repr, Inhabited

/-- The code of a drive-unit state (R747). -/
def USt.code : USt → Nat
  | .disabled => 0 | .idle => 1 | .sense => 2 | .ramp => 3 | .run => 4 | .coast => 5 | .catching => 6
  | .stopping => 7 | .fault => 8

/-- One drive unit (R690 to R725). -/
structure DUnit where
  /-- `DRV_Uu_STATUS.STATE` (R747). -/
  st : USt := .disabled
  /-- `DRV_Uu_STATUS.PLAUSIBLE` (R747). -/
  plausible : Bool := false
  /-- `DRV_Uu_STATUS.CATCHES` (R747). -/
  catches : Nat := 0
  /-- `DRV_Uu_STATUS.DECEL` (R747). -/
  decel : Bool := false
  /-- `DRV_Uu_STATUS.ATTEMPTS` (R747). -/
  attempts : Nat := 0
  /-- `DRV_Uu_STATUS.FCODE` (R747). -/
  fcode : Nat := 0
  /-- `DRV_Uu_STATUS.STALE` (R747). -/
  stale : Nat := 0
  /-- `DRV_Uu_CMD.STATUS` (R746). -/
  cmdStatus : Nat := 0
  /-- `DRV_Uu_CMD.OP` as last written (R746). -/
  cmdOp : Nat := 0
  /-- The observer angle θ with 16 fraction bits; its upper 16 bits are `DRV_Uu_ANGLE` (R748). -/
  theta : Nat := 0
  /-- Electrical speed ω in 2^-16 electrical Hz. -/
  omega : Int := 0
  /-- The observer's ea, eb, and the last i_al, i_be and v_al, v_be, with 16 fraction bits (R713). -/
  ea : Int := 0
  eb : Int := 0
  iAl : Int := 0
  iBe : Int := 0
  vAl : Int := 0
  vBe : Int := 0
  /-- The magnitude and the error of the last observer step. -/
  mag : Int := 0
  eps : Int := 0
  /-- Consecutive failing periods of the checks P1 to P5 (R717). -/
  failRow : List Nat := [0, 0, 0, 0, 0]
  /-- Consecutive periods in which every check passes (R717, R719). -/
  passRow : Nat := 0
  /-- The last zero crossing was out of its tolerance (R715, P5). -/
  zcBad : Bool := false
  /-- The electrical sector, 0 to 5 (R706). -/
  sector : Nat := 0
  /-- The last two intervals between zero crossings, in ticks, newest first (R707). -/
  zcInt : List Nat := []
  /-- Tick of the last zero crossing (R707). -/
  zcLast : Option Nat := none
  /-- Tick of the scheduled commutation (R707). -/
  commAt : Option Nat := none
  /-- Tick of the last commutation (R714). -/
  commLast : Nat := 0
  /-- The inputs j = 0 to 3 that slots write (R767). -/
  input : List Int := [0, 0, 0, 0]
  /-- The output of the slot of the servo axis that the unit serves (R619, R763). -/
  axisRef : Int := 0
  /-- The compares of the unit's bridges (R697). -/
  cmp : List Nat := [0, 0, 0, 0]
  /-- Tick at which the unit's PWM counter was last 0 at the end of a period (R696). -/
  valley : Nat := 0
  /-- Ticks of the next switching points of the unit's bridges (R697, R699). -/
  nextAt : List Nat := [0, 0, 0, 0]
  /-- The currents fed to the slots, mA, and whether each is stale (R703, R704). -/
  cur : List Int := [0, 0, 0]
  /-- The speed has reached 90 % of the setpoint since the start (R720). -/
  reached : Bool := false
  /-- The advance table in force, 17 entries (R708). -/
  adv : List Nat := List.replicate 17 0
  /-- A table apply waits for sector 0 (R709). -/
  advArmed : Bool := false
  /-- The unit coasts because regeneration is inhibited (R732). -/
  regenCoast : Bool := false
  /-- Low sides are held on (R722 step 7, R731). -/
  lowSides : Bool := false
  /-- A failed attempt waits for 50 ms without zero crossings (R720). -/
  attemptWait : Bool := false
  /-- PWM ticks since the present start attempt began (R719). -/
  clock : Nat := 0
  /-- The electrical sector that SENSE found, from which the ramp starts (R719). -/
  sector0 : Nat := 0
  /-- A failed catch waits for a further CATCH_TIME (R722 step 6). -/
  catchWait : Bool := false
  /-- A stop that was commanded: the unit ends in IDLE when the rotor has stopped. -/
  stopWanted : Bool := false
  /-- The unit has tripped in RUN in the present PWM period (R740). -/
  tripped : Bool := false
  deriving DecidableEq, Repr, Inhabited

/-- The last sample of a half-bridge (R748). -/
structure Bridge where
  valid : Bool := false
  code : Nat := 0
  deriving DecidableEq, Repr, Inhabited

/-- The DRV block. -/
structure Drv where
  /-- The 24 units. -/
  units : List DUnit := List.replicate 24 {}
  /-- The 48 bridges. -/
  bridges : List Bridge := List.replicate 48 {}
  /-- 16 bits; `DRV_VBUS`, mV (R748). -/
  vbus : Nat := 0
  /-- `DRV_IBRK`, mA (R748). -/
  ibrk : Int := 0
  /-- `DRV_STATUS.CHOP_ON` (R743). -/
  chopOn : Bool := false
  /-- `DRV_STATUS.BUS_WARN` (R743). -/
  busWarn : Bool := false
  /-- `DRV_STATUS.CHOP_FAULT` (R743). -/
  chopFault : Bool := false
  /-- `DRV_STATUS.REGEN_INH` (R743). -/
  regenInh : Bool := false
  /-- `DRV_STATUS.HARD_CUT` (R743). -/
  hardCut : Bool := false
  /-- `DRV_STATUS.BUS_UV` (R743). -/
  busUv : Bool := false
  /-- `DRV_STATUS.GATE_UV` (R743). -/
  gateUv : Bool := false
  /-- BRK_GATE is held off after an overcurrent (R729). -/
  chopHeld : Bool := false
  /-- The chopper current has stayed below BRK_IMIN since BRK_GATE turned on (R729). -/
  chopLow : Bool := false
  /-- `DRV_BUS_CMD.STATUS` (R744). -/
  busStatus : Nat := 0
  /-- `DRV_BUS_CMD.OP` as last written (R744). -/
  busOp : Nat := 0
  /-- `DRV_LAST` (R748): source, and unit or bridge. -/
  lastSource : Nat := 0
  lastIndex : Nat := 0
  /-- `DRV_CNT_CUT` (R748). -/
  cntCut : Nat := 0
  /-- `DRV_CNT_INH` (R748). -/
  cntInh : Nat := 0
  /-- `DRV_CNT_CHOP` (R748). -/
  cntChop : Nat := 0
  /-- The copies of KDIV, WARN, HYST, HARD and UV in the bus comparators in ANA (R742 ff.). -/
  mirror : List Word := [3277, 30000, 1000, 36000, 18000]
  deriving DecidableEq, Repr

/-! ## High voltage and fuser -/

/-- One HV channel (R800 to R813). -/
structure HvCh where
  /-- U32; ph (R800). -/
  ph : Nat := 0
  /-- S32; u, the output of slot 64 + k that stands at the channel (R767, R800). -/
  u : Int := 0
  /-- U16; the duty in force (R800). -/
  duty : Nat := 0
  /-- S32; `HV_CHk_REFNOW` (R845). -/
  r : Int := 0
  /-- S32; `HV_CHk_Y` (R845). -/
  y : Int := 0
  /-- `HV_CHk_PP` (R845). -/
  pp : Nat := 0
  /-- The sum and the number of conversions since the last trigger (R802). -/
  sum : Int := 0
  num : Nat := 0
  /-- The largest and the smallest y_c of the running AC period (R803). -/
  hi : Option Int := none
  lo : Option Int := none
  /-- `HV_CHk_STATUS.IN_WINDOW` (R841). -/
  inWindow : Bool := false
  /-- `HV_CHk_STATUS.GATE` (R841), for GATE_MODE 1. -/
  gate : Bool := false
  /-- `HV_CHk_STATUS.TRIP` (R841). -/
  trip : Bool := false
  /-- `HV_CHk_STATUS.FB_FAULT` (R841). -/
  fbFault : Bool := false
  /-- `HV_CHk_STATUS.AC_FAULT` (R841). -/
  acFault : Bool := false
  /-- The last conversion exceeded LIM (R811). -/
  overLim : Bool := false
  /-- Consecutive updates that meet the test of R812. -/
  fbRow : Nat := 0
  /-- Consecutive updates that pass and fail the test of R807. -/
  inRow : Nat := 0
  outRow : Nat := 0
  /-- Consecutive updates whose PP fails (R810). -/
  ppRow : Nat := 0
  /-- Updates still to settle (R806). -/
  settle : Nat := 0
  /-- The sine table in force (R834). -/
  sine : List Int := hvSine
  /-- A new sine table waits for the wrap of ph (R834). -/
  sineWait : Bool := false
  deriving DecidableEq, Repr, Inhabited

/-- The HV block. -/
structure Hv where
  /-- The 16 channels. -/
  chans : List HvCh := List.replicate 16 {}
  /-- `HV_CMD.STATUS` (R845). -/
  cmdStatus : Nat := 0
  /-- `HV_CMD` OP and CH as last written (R845). -/
  cmdWord : Word := 0
  /-- OD 4400:03: 0 idle, 1 armed, 2 applied, 3 cancelled (R847). -/
  apply : Nat := 0
  deriving DecidableEq, Repr

/-- One thermistor (R814 to R817). -/
structure Th where
  /-- 12 bits; the last code. -/
  code : Nat := 0
  /-- S32; `FUS_THj_TEMP` (R845). -/
  t : Int := 0
  /-- `FUS_STATUS.TH_VALID` (R842). -/
  valid : Bool := false
  /-- A conversion has been made since ENG came on. -/
  seen : Bool := false
  /-- Consecutive conversions that pass every test (R816). -/
  passRow : Nat := 0
  /-- Consecutive conversions whose change exceeds the rate (R816). -/
  rateRow : Nat := 0
  /-- The LIN table in force (R834). -/
  lin : List Int := List.replicate 33 0
  deriving DecidableEq, Repr, Inhabited

/-- One fuser channel (R824 to R828). -/
structure FusCh where
  /-- U16; the output of slot 80 + k (R767). -/
  u : Nat := 0
  /-- `FUS_CHk_POWER` (R845). -/
  p : Nat := 0
  /-- U32; `FUS_CHk_FIRE` (R845). -/
  fire : Nat := 0
  /-- U17; the burst accumulator (R826). -/
  acc : Nat := 0
  /-- Firing angles placed and not yet reached. -/
  due : List Nat := []
  /-- The pulse of the present half-cycle has risen (R825). -/
  fired : Bool := false
  /-- FUSk_TRG is high (R828). -/
  pulse : Bool := false
  deriving DecidableEq, Repr, Inhabited

/-- The FUS block in ENG. -/
structure Fus where
  /-- The four channels. -/
  chans : List FusCh := List.replicate 4 {}
  /-- The eight thermistors. -/
  ths : List Th := List.replicate 8 {}
  /-- `FUS_STATUS.IN_WINDOW` (R842). -/
  inWindow : Bool := false
  /-- `FUS_STATUS.MAINS_OK` (R842). -/
  mainsOk : Bool := false
  /-- Half-cycles in a row that meet R831. -/
  winRow : Nat := 0
  /-- Heating is inhibited by a SAFE entry (R100 step 4). -/
  inhibit : Bool := false
  /-- `FUS_CMD.STATUS` (R845). -/
  cmdStatus : Nat := 0
  /-- `FUS_CMD` OP and CH as last written (R845). -/
  cmdWord : Word := 0
  /-- OD 4420:07: 0 idle, 1 armed, 2 applied, 3 cancelled (R847). -/
  apply : Nat := 0
  /-- The INV table in force (R829, R834). -/
  inv : List Nat := fuserInv
  /-- The half of the mains turn last begun, 0 or 1 (R825). -/
  half : Nat := 1
  deriving DecidableEq, Repr

/-- The over-temperature cut in AON (R817 to R822). -/
structure Cut where
  /-- `FUS_STATUS.CUT` (R842). -/
  set : Bool := true
  /-- `FUS_STATUS.CUT_CAUSE` (R842). -/
  cause : Nat := 1
  /-- `FUS_STATUS.CMP_ACTIVE` (R842). -/
  active : BitVec 8 := 0
  /-- Consecutive comparisons below CUT_CODE and above OPEN_CODE, per input (R817). -/
  lowRow : List Nat := List.replicate 8 0
  openRow : List Nat := List.replicate 8 0
  /-- The codes of the last comparison (R818). -/
  codes : List Nat := List.replicate 8 0
  deriving DecidableEq, Repr

end Sys2Proof.Machine
end

