-- ==== Sys2Proof/Machine/State/Disk.lean ====
section
/-! DEFINITION. Machine/State/Disk.lean: the read channel, the disk servo, the spindle, and the disk transfers. -/
namespace Sys2Proof.Machine

/-! ## Transfers and the scheduler -/

/-- Whom a disk transfer serves (R579). -/
inductive DKind where
  /-- A run of the read plan of a committed token: its slot and the index of the run. -/
  | plan (slot run : Nat)
  /-- The page-out of a DRAM frame (R426). -/
  | pageOut (frame : Nat)
  /-- A host read, or write, of a queue: queue and command identifier. -/
  | hostRead (queue cid : Nat)
  | hostWrite (queue cid : Nat)
  deriving DecidableEq, Repr, Inhabited

/-- The priority class of non-print work, 0 first (R579): journal writes, of class 0, are commands of their own, a run
that waited among the non-print work would be the landing for an ARMED token, which no rule starts, and a touchdown
calibration, of class 4, begins when nothing of the others waits. -/
def DKind.cls : DKind → Nat
  | .pageOut _ => 1 | .plan _ _ => 2 | .hostRead _ _ => 3 | .hostWrite _ _ => 3

/-- A transfer is print work (R576). -/
def DKind.print : DKind → Bool
  | .plan _ _ => true
  | .pageOut _ | .hostRead _ _ | .hostWrite _ _ => false

/-- A transfer writes the disk. -/
def DKind.writes : DKind → Bool
  | .pageOut _ | .hostWrite _ _ => true
  | .plan _ _ | .hostRead _ _ => false

/-- A disk transfer: a run of sectors, and how far it has come. -/
structure DXfer where
  kind : DKind
  lba : Nat
  count : Nat
  done : Nat := 0
  /-- At least one sector needed the relaxed reread or the ladder (R510). -/
  recovered : Bool := false
  /-- The requester has cancelled it while a sector was being written: it ends at the next sector boundary (R510). -/
  cut : Bool := false
  deriving DecidableEq, Repr, Inhabited

/-- A sector's place in its recovery (R497, R506). -/
inductive Recov where
  | fresh
  /-- The relaxed reread is due. -/
  | relaxed
  /-- Step i of the ladder is due; `ran` counts the steps already run. -/
  | ladder (step ran : Nat)
  deriving DecidableEq, Repr, Inhabited

/-! ## Read channel -/

/-- The adaptation loops (R485, R487). -/
structure RLoop where
  /-- The VGA code. -/
  gain : Int := 0
  offset : Int := 0
  asym : Int := 0
  /-- c_0 to c_9. -/
  taps : List Int := List.replicate 10 0
  /-- The channel bits over which the timing loop of the bit clock has run (R489). -/
  timing : Nat := 0
  deriving DecidableEq, Repr, Inhabited

/-- The settings of one head in force (R523). -/
structure HeadSet where
  iw : Word := 0
  tcomp : Word := 0
  htr : List Word := List.replicate 8 0
  deriving DecidableEq, Repr, Inhabited

/-- One frame of the preamplifier port (R513 to R520). -/
structure PaFrame where
  read : Bool
  addr : Nat
  data : Nat
  /-- The function of an automatic frame; none for a manual frame. -/
  fn : Option Nat := none
  /-- The frame is the read of a read-modify-write of `fn` with the value still to be placed. -/
  value : Option Nat := none
  /-- The frame is a verify read of `data`, after this many writes. -/
  verify : Bool := false
  tries : Nat := 0
  deriving DecidableEq, Repr

/-- A running touchdown calibration (R527, R528). -/
structure FhCal where
  head : Nat
  /-- The run has begun: work of other classes that waited before it has gone first (R579). -/
  begun : Bool := false
  zones : List Nat
  /-- The heater code under test. -/
  htr : Nat
  /-- The first touchdown of the zone, once it is found. -/
  td : Option Nat := none
  /-- The worst failure of a zone so far: 3 or 4 (R543), 0 for none. -/
  bad : Nat := 0
  deriving DecidableEq, Repr

/-- The RCH block. -/
structure Rch where
  /-- `RCH_STATUS.HEAD` (R535). -/
  head : Nat := 0
  /-- `RCH_STATUS.WRITING` (R535). -/
  writing : Bool := false
  /-- `RCH_STATUS.DEFECT` (R535). -/
  defect : Bool := false
  /-- `RCH_STATUS.PA_FAULT` (R535). -/
  paFault : Bool := false
  /-- The running transfer (R535 BUSY). -/
  cur : Option DXfer := none
  /-- Where the sector to be read stands in its recovery. -/
  recov : Recov := .fresh
  /-- The sector being written has been abandoned and waits for its rewrite (R504, R505). -/
  abandoned : Bool := false
  /-- Rewrites made of the present sector (R505). -/
  rewrites : Nat := 0
  /-- The running non-print piece stops at the next sector boundary (R578). -/
  stopNext : Bool := false
  /-- The sector count at which the running piece ends. -/
  pieceEnd : Nat := 0
  /-- What the running non-print piece has taken so far, µs (R577). -/
  pieceUs : Nat := 0
  /-- The running piece started while print work was pending, so that its duration is taken from the credit (R577). -/
  pieceCharged : Bool := false
  /-- Non-print transfers that wait, in order (R579). -/
  waiting : List DXfer := []
  /-- Plan runs of committed tokens that wait, in commitment order (R576). -/
  plans : List DXfer := []
  /-- The credit of R576, in µs. -/
  credit : Rat := 0
  loops : RLoop := {}
  /-- The loops after the last good sector (R506 step 3). -/
  goodLoops : RLoop := {}
  /-- The settings in force of heads 0 to 3 (R523). -/
  heads : List HeadSet := List.replicate 4 {}
  /-- The heater code last sent (R520). -/
  heater : Nat := 0
  /-- The heater is at the write code (R524), and the windows that have ended since (R581). -/
  heatWrite : Bool := false
  heatWin : Nat := 0
  /-- The preamplifier is in ACTIVE (R520). -/
  paActive : Bool := false
  /-- The frame in progress on the preamplifier port, and the automatic frames due (R519, R520). -/
  paCur : Option PaFrame := none
  paDue : List PaFrame := []
  /-- `RCH_PA_CMD.STATUS` (R542). -/
  paStatus : Nat := 0
  /-- `RCH_PA_CMD` RW, ADDR and DATA (R542). -/
  paWord : Word := 0
  /-- `RCH_PA_FAULT` (R545). -/
  paFaultData : Nat := 0
  /-- `RCH_FH_CMD.STATUS` (R543). -/
  fhStatus : Nat := 0
  /-- `RCH_FH_CMD` HEAD and ZONES (R543). -/
  fhWord : Word := 0x0000FF00
  fhCal : Option FhCal := none
  /-- The head whose calibrated heater codes wait for its next selection (R523, R1039, R1051). -/
  fhNew : Option Nat := none
  /-- The actions of R512, R520 and R565 before DSK leaves the on state have begun. -/
  leaving : Bool := false
  /-- The last sector laid down on the medium, from PRE to POST, eight channel bits a byte (R479). -/
  written : List Byte := []
  /-- `RCH_WPC` as it was written with (R502). -/
  writtenWpc : Word := 0
  /-- The detector output of the last pass, one log-likelihood ratio for each channel bit (R489, R496). -/
  soft : List Int := []
  /-- The detector output of the first of the two reads of ladder step 7 (R506). -/
  firstSoft : Option (List Int) := none
  /-- `RCH_CNT_READ` to `RCH_CNT_DEFECT` (R545). -/
  cntRead : Nat := 0
  cntWritten : Nat := 0
  cntSmmiss : Nat := 0
  cntSmdis : Nat := 0
  cntShiftok : Nat := 0
  cntLadder : Nat := 0
  cntRfail : Nat := 0
  cntWfail : Nat := 0
  cntWabort : Nat := 0
  cntTagmis : Nat := 0
  cntDefect : Nat := 0
  deriving DecidableEq, Repr

/-! ## Servo -/

/-- The states of SRV (R564). -/
inductive SrvSt where
  | off | parked | loading | acquire | seek | settle | follow | parking | retracted | fault
  deriving DecidableEq, Repr, Inhabited

/-- The code of a servo state (R564). -/
def SrvSt.code : SrvSt → Nat
  | .off => 0 | .parked => 1 | .loading => 2 | .acquire => 3 | .seek => 4 | .settle => 5 | .follow => 6
  | .parking => 7 | .retracted => 8 | .fault => 9

/-- The heads are off the ramp, or may be (R565, R599). -/
def SrvSt.loaded : SrvSt → Bool
  | .off | .parked | .retracted => false
  | .loading | .acquire | .seek | .settle | .follow | .parking | .fault => true

/-- The SRV block. -/
structure Srv where
  /-- `SRV_STATUS.STATE` (R605). -/
  st : SrvSt := .off
  /-- `SRV_STATUS.VALID` (R605). -/
  valid : Bool := false
  /-- 24 bits; `SRV_STATUS.TURN` (R605). -/
  turn : Nat := 0
  /-- S64; P of the last sample (R561). -/
  p : Int := 0
  /-- P of the sample before. -/
  p1 : Int := 0
  /-- S16; `SRV_PES` (R609). -/
  pes : Int := 0
  /-- S32; `SRV_ERR` (R609). -/
  err : Int := 0
  /-- S32; `SRV_OFS` (R609). -/
  ofs : Int := 0
  /-- T_tgt (R567). -/
  tgt : Int := 0
  /-- The turn of a seek that waits for ACQUIRE (R565). -/
  pending : Option Nat := none
  /-- The seek profile (R570). -/
  prof : Profile := {}
  /-- The bin of the running seek and whether it switches heads, for its measurement (R573). -/
  seekBin : Nat := 0
  seekHead : Bool := false
  seeking : Bool := false
  /-- Windows since the seek was commanded (R573). -/
  seekWin : Nat := 0
  /-- Windows since DSK entered the on state (R557). -/
  win : Nat := 0
  /-- The running command of `SRV_CMD` (R606). -/
  cmdRun : Bool := false
  /-- `SRV_CMD.STATUS` (R606). -/
  cmdStatus : Nat := 0
  /-- `SRV_CMD` HEAD and OP (R606). -/
  cmdWord : Word := 0
  /-- Good headers read in LOADING, and the turn of the last good header (R562, R565). -/
  headers : Nat := 0
  headTurn : Nat := 0
  /-- FRAME of the last header whose parity checked, if the next header slot has not passed (R556). -/
  frame : Option Nat := none
  /-- Consecutive valid samples, invalid samples and ID mismatches (R563, R565). -/
  validRow : Nat := 0
  invalidRow : Nat := 0
  idRow : Nat := 0
  /-- Consecutive samples within SETTLE_TH (R565). -/
  settleRow : Nat := 0
  /-- Consecutive valid samples within WR_LIM (R582). -/
  qualRow : Nat := 0
  /-- 6 bits; the live causes of `SRV_WINH` (R607). -/
  winh : BitVec 6 := 0
  /-- 6 bits; the latched causes of `SRV_WINH` (R607). -/
  latch : BitVec 6 := 0
  /-- The RDOFS of the active head in force, eight zones (R567, R615). -/
  rdofs : List Int := List.replicate 8 0
  /-- S16; the VCM duty (R569, R767). -/
  vcm : Int := 0
  /-- The VCM bridge is open after a fault (R569). -/
  vcmOpen : Bool := false
  /-- `SRV_SKOBSk` (R609). -/
  skobs : List Nat := List.replicate 25 0
  /-- `SRV_CNT_INVALID` to `SRV_CNT_WUNSAFE` (R609). -/
  cntInvalid : Nat := 0
  cntIdmis : Nat := 0
  cntSeeks : Nat := 0
  cntWunsafe : Nat := 0
  deriving DecidableEq, Repr

/-! ## Spindle -/

/-- The states of SPN (R587). -/
inductive SpnSt where
  | stopped | sense | ramp | accel | atSpeed | coast | catching | stopping | fault
  deriving DecidableEq, Repr, Inhabited

/-- The code of a spindle state (R587). -/
def SpnSt.code : SpnSt → Nat
  | .stopped => 0 | .sense => 1 | .ramp => 2 | .accel => 3 | .atSpeed => 4 | .coast => 5 | .catching => 6
  | .stopping => 7 | .fault => 8

/-- The SPN block. -/
structure Spn where
  /-- `SPN_STATUS.STATE` (R611). -/
  st : SpnSt := .stopped
  /-- `SPN_STATUS.RETRACTED` (R601, R611). -/
  retracted : Bool := false
  /-- `SPN_STATUS.PLAUSIBLE` (R611). -/
  plausible : Bool := false
  /-- `SPN_STATUS.CATCHES` (R611). -/
  catches : Nat := 0
  /-- `SPN_STATUS.ATTEMPTS` (R611). -/
  attempts : Nat := 0
  /-- 16 bits; `SPN_STATUS.RPM` (R611). -/
  rpm : Nat := 0
  /-- 16 bits; `SPN_CTRL.RPM_SET` (R612). -/
  rpmSet : Nat := 0
  /-- S12; the stage current in mA that the speed slot commands (R767). -/
  current : Int := 0
  /-- The electrical sector of the last commutation, 0 to 5 (R588, R763). -/
  sector : Nat := 0
  /-- The phase-advance table in force, 17 entries of 0.25° electrical (R592). -/
  adv : List Nat := List.replicate 17 0
  /-- The commutation angle of the last commutation, with its advance, in 0.25° electrical (R592). -/
  angle : Nat := 0
  /-- The speeds of the Culm spindle axis over the last revolutions with the heads loaded, in thousandths of an rpm, the
  latest first (R591). -/
  axisRevs : List Nat := []
  /-- AT_SPEED has been reached since the last start, so that a loss is a rotor loss (R589, R595). -/
  reached : Bool := false
  /-- A failed attempt waits for the rotor to stop (R589). -/
  attemptWait : Bool := false
  /-- The heads park before the spindle stops (R593). -/
  stopAfterPark : Bool := false
  /-- A fresh start follows when the rotor has stopped (R595 step 8). -/
  freshStart : Bool := false
  /-- Rotor loss: a catch may follow once the heads are latched (R595). -/
  catchDue : Bool := false
  /-- `SPN_CNT_STARTS` (R614). -/
  cntStarts : Nat := 0
  /-- `SPN_CNT_LOSS` (R614). -/
  cntLoss : Nat := 0
  deriving DecidableEq, Repr

/-- The retract circuit, which works outside every domain (R40, R599 to R601). -/
structure Retract where
  /-- The retract flag, which survives power loss (R601). -/
  flag : Bool := false
  /-- A retract runs (R600). -/
  running : Bool := false
  /-- The code and the time loaded into the circuit (R599). -/
  code : Nat := 0
  time : Nat := 0
  /-- The heads are loaded. -/
  loaded : Bool := false
  deriving DecidableEq, Repr

end Sys2Proof.Machine
end

