-- ==== Sys2Proof/Machine/State/Cal.lean ====
section
/-! DEFINITION. Machine/State/Cal.lean: the calibration block (17). -/
namespace Sys2Proof.Machine

/-- A calibration run in progress (R1047). -/
structure CalRun where
  inst : Nat
  trig : Nat
  /-- The TAP method is used (R1054). -/
  tap : Bool
  /-- The Teff slots on which the run has set HOLD (R1044). -/
  slots : List Nat := []
  /-- The errors of the running measurement of IDs 0 and 9, per division: their sum and their number (R1041). -/
  sums : List (Int × Nat) := List.replicate 16 (0, 0)
  /-- Measurements made. -/
  made : Nat := 0
  /-- The last measurement, element by element. -/
  last : List Int := []
  /-- The accepted values, once the run waits for its switch-over point (R1050). -/
  accepted : Option (List Int) := none
  deriving DecidableEq, Repr

/-- One calibration in CAL (R1058 to R1071). -/
structure CalCh where
  /-- `CAL_CALc_STATUS.STATE` 2 and the run itself (R1071). -/
  run : Option CalRun := none
  /-- `CAL_CALc_STATUS.STATE` 1: instance and trigger of the pending run (R1060). -/
  pending : Option (Nat × Nat) := none
  /-- The readiness signals are held because PEND_MAX has passed (R1061). -/
  pendHold : Bool := false
  /-- `CAL_CALc_STATUS.TRIM_FAULT` (R1055). -/
  trimFault : Bool := false
  /-- The instances still to be taken: the scanner axes of a run of ID 9, or those of a start-up trigger. -/
  turn : List Nat := []
  deriving DecidableEq, Repr, Inhabited

/-- One trimmed element (R1052). -/
structure Trim where
  /-- 10 bits. -/
  trim : Nat := 512
  /-- 5 bits. -/
  tap : Nat := 16
  /-- 0 = TRIM, 1 = TAP (R1054). -/
  method : Nat := 0
  deriving DecidableEq, Repr, Inhabited

/-- The CAL block. -/
structure Cal where
  /-- The ten calibrations. -/
  chans : List CalCh := List.replicate 10 {}
  /-- Trimmed elements that are not centred, by id × 65536 + instance × 64 + element (R1052). -/
  trims : List (Nat × Trim) := []
  /-- OFS of the 48 bridges (R701, R1042). -/
  ofs : List Int := List.replicate 48 0
  /-- `CAL_CMD.STATUS` (R1069). -/
  cmdStatus : Nat := 0
  /-- `CAL_CMD` INST and ID (R1069). -/
  cmdWord : Word := 0
  /-- The calibration that `CAL_CMD.STATUS` follows. -/
  cmdId : Nat := 0
  /-- A calibration of start-up step 15 has ended REJECTED or FAILED in this start (R1114). -/
  startBad : Bool := false
  deriving DecidableEq, Repr

end Sys2Proof.Machine
end

