-- ==== Sys2Proof/Machine/State.lean ====
section
/-! DEFINITION. Machine/State.lean: the state of the controller, as plain data, and its state right after reset. -/
namespace Sys2Proof.Machine

/-- Faults. No rule of the spec stops the block: every command ends in a next state, so none is raised. Safe. -/
inductive Fault where
  /-- Raised by nothing: kept so that the type has a value. Safe. -/
  | stuck
  deriving DecidableEq, Repr

/-- Refusals. -/
inductive Refusal where
  /-- A command without a meaning yet, by its mnemonic; raised by its arm of `exec`. Safe. -/
  | notModelled (mnemonic : String)
  deriving DecidableEq, Repr

/-- The state of the PF7740. -/
structure State where
  /-- The commands that wait, first in, first out: the model's own queue. -/
  pending : List Instr := []
  /-- AON is powered (R1152). -/
  aonOn : Bool := true
  /-- The model's own count of free values used so far. -/
  free : Nat := 0
  /-- Plain registers that differ from their reset value, by BAR0 offset (R27, R43). -/
  regs : List (Nat × Word) := []
  /-- High words latched by a read of their low word, by the offset of the high word (R123). -/
  latched : List (Nat × Word) := []
  /-- Dictionary objects without a register behind them, by index × 256 + subindex (R849 ff.). -/
  od : List (Nat × List Byte) := []
  sys : Sys := {}
  evt : Evt := {}
  pwr : Pwr := {}
  thm : Thm := {}
  boot : Boot := {}
  hq : Hq := {}
  jrn : Journal := {}
  culm : Culm := {}
  time : DevTime := {}
  die : Rec := {}
  zop : Zop := {}
  /-- The imaging stations (4). -/
  ls : List Station := List.replicate 4 {}
  pgf : Pgf := {}
  husk : Husk := {}
  shf : Shf := {}
  mov : Mov := {}
  rch : Rch := {}
  srv : Srv := {}
  spn : Spn := {}
  ret : Retract := {}
  mot : Mot := {}
  drv : Drv := {}
  teff : Teff := {}
  hv : Hv := {}
  fus : Fus := {}
  cut : Cut := {}
  cal : Cal := {}
  tap : Tap := {}
  /-- The DRAM bytes of firmware and scratch frames, by address, that differ from 0 (R398). -/
  dram : List Host.Cell := []
  deriving DecidableEq, Repr

/-- The state right after reset: AON powered, every register at its reset value, the controller in OFF,
and the record die as it leaves manufacture. -/
def State.reset : State := {}

end Sys2Proof.Machine
end

