-- ==== Sys2Proof/Machine/Ops.lean ====
section
/-! DEFINITION. Machine/Ops.lean: the named operations over registers, domains, pairs and modes; raising a source with
its reactions (R1083 to R1091); queueing Glume records (R1096 to R1098); posting host events (R952 to R956). -/
namespace Sys2Proof.Machine

/-! ## Registers -/

/-- A plain register as a read returns it. -/
def State.reg (s : State) (off : Nat) : Word := sget (regReset off) off s.regs

/-- Store a value in a plain register. -/
def State.setReg (off : Nat) (v : Word) (s : State) : State := { s with regs := sput (regReset off) v off s.regs }

/-- A dictionary value without a register behind it, or its default. -/
def State.odGet (s : State) (key : Nat) (dflt : List Byte) : List Byte := sget dflt key s.od

/-- Store a dictionary value whose default is `dflt`. -/
def State.odPut (key : Nat) (dflt v : List Byte) (s : State) : State := { s with od := sput dflt v key s.od }

/-- A free value: the next value that the spec leaves open. -/
def State.fresh (s : State) : Nat := Config.freeNat s.free

/-- The state after a free value has been used. -/
def State.used (s : State) : State := { s with free := s.free + 1 }

/-! ## Domains, modes and pairs -/

/-- The state of a domain (R972). AON is on whenever the model runs a command. -/
def State.dom (s : State) (d : Dom) : DState :=
  match d with
  | .aon => .on
  | d => nth .off s.pwr.doms (d.code - 1)

/-- A domain is on. -/
def State.on (s : State) (d : Dom) : Bool := decide (s.dom d = .on)

/-- The mode that decides legality, with the target during a transition (R115). -/
def State.modes (s : State) : List Mode :=
  if s.sys.transit then [s.sys.mode, s.sys.target] else [s.sys.mode]

/-- A write of a class is permitted now (R113 to R116). -/
def State.mayWrite (s : State) (c : Cls) : Bool := s.modes.all fun m => c.mask.getLsbD m.code

/-- The controller is in OFF or in STANDBY, or on its way to OFF: the cases of R1176. -/
def State.cannotSafe (s : State) : Bool :=
  if s.sys.transit then decide (s.sys.target = .off) else decide (s.sys.mode = .off) || decide (s.sys.mode = .standby)

/-- A start out of OFF is in progress: the pairs on which SAFE runs are not in service yet (R75, R1111). -/
def State.startsUp (s : State) : Bool :=
  s.sys.transit && decide (s.sys.mode = .off) && decide (s.sys.target ≠ .off)

/-- The state of a pair. -/
def State.pair (s : State) : Pair → PairState
  | .a => s.sys.pairA
  | .b => s.sys.pairB

/-- Set the state of a pair. -/
def State.setPair (p : Pair) (v : PairState) (s : State) : State :=
  match p with
  | .a => { s with sys := { s.sys with pairA := v } }
  | .b => { s with sys := { s.sys with pairB := v } }

/-- The other pair. -/
def Pair.other : Pair → Pair
  | .a => .b
  | .b => .a

/-- The pair that carries a load (R65). -/
def State.carrier (s : State) : Load → Pair
  | .engine => s.sys.engineOn
  | .service => s.sys.serviceOn

/-- A load is in service: MGT is on and the pair that carries it is active. -/
def State.served (s : State) (l : Load) : Bool := s.on .mgt && decide (s.pair (s.carrier l) = .active)

/-- The pair that carries a load writes a checkpoint of it to the handover memory (R58). -/
def State.checkpoint (l : Load) (s : State) : State :=
  if s.served l then
    { s with sys := match l with
      | .engine => { s.sys with ckptEngine := s.sys.ckptEngine + 1, ckptEngineTime := s.time.now }
      | .service => { s.sys with ckptService := s.sys.ckptService + 1, ckptServiceTime := s.time.now } }
  else s

/-- Each pair writes a checkpoint of its load, as it does at every completed dictionary transaction and at the end of
every engine-firmware cycle (R58). -/
def State.checkpoints (s : State) : State := (s.checkpoint .engine).checkpoint .service

/-- Some pair is in service. -/
def State.anyPair (s : State) : Bool :=
  s.on .mgt && (decide (s.sys.pairA = .active) || decide (s.sys.pairB = .active))

/-- Both pairs are locked out (R77). -/
def State.bothLocked (s : State) : Bool :=
  decide (s.sys.pairA = .lockedOut) && decide (s.sys.pairB = .lockedOut)

/-- The load whose pair takes the interrupts and traps of a source (R1080). -/
def sourceLoad (src : Nat) : Load := if src < 16 ∨ 232 ≤ src then .service else .engine

/-! ## Event registers -/

/-- Bits `first` to `first + count - 1` of a set of sources, as a bank's register shows them. -/
def bankWord (b : EvBank) (set : BitVec 256) : Word :=
  BitVec.ofNat 32 (set.toNat / 2 ^ b.first % 2 ^ b.count)

/-- The set with one source. -/
def srcBit (src : Nat) : BitVec 256 := BitVec.ofNat 256 (2 ^ src)

/-- The sources of a bank. -/
def bankMask (b : EvBank) : BitVec 256 := BitVec.ofNat 256 ((2 ^ b.count - 1) * 2 ^ b.first)

/-- `EVT_SRCs` of a source. -/
def State.reaction (s : State) (src : Nat) : Word := s.reg (0x881000 + 4 * src)

/-- The interrupt enable of a source in its block. -/
def State.irqEnabled (s : State) (src : Nat) : Bool :=
  let b := evBank src
  decide (0 < b.count) && bitOf (s.reg (b.stat + 4)) (src - b.first)

/-- A source is busy (R1077). -/
def State.busySrc (s : State) (src : Nat) : Bool := s.evt.busy.getLsbD src

/-- The status bit of a source (R1076). -/
def State.statusSrc (s : State) (src : Nat) : Bool := s.evt.status.getLsbD src

/-- The interrupt line of a bank's block to the management pairs: some bit is set in both its STAT and its IEN
(R1080). -/
def State.irqLine (s : State) (b : EvBank) : Bool :=
  (List.range b.count).any fun i => s.statusSrc (b.first + i) && bitOf (s.reg (b.stat + 4)) i

/-- The pair that takes the interrupt of a source now: the one that carries its load, in service; while there is
none, the line waits for the first pair to resume, which then carries both loads (R1080). -/
def State.irqPair (s : State) (src : Nat) : Option Pair :=
  if s.statusSrc src && s.irqEnabled src && s.served (sourceLoad src) then some (s.carrier (sourceLoad src)) else none

/-- Something holds ERR_N low now (R1091). -/
def State.errDriven (s : State) : Bool := decide (s.evt.errn ≠ 0) || s.evt.graveHold || s.bothLocked

/-- ERR_N follows what drives it, with its minimum low time (R1091). -/
def State.errUpdate (s : State) : State :=
  if s.errDriven then
    if s.evt.errLow then s else { s with evt := { s.evt with errLow := true, errMin := true } }
  else if s.evt.errMin then s
  else { s with evt := { s.evt with errLow := false } }

/-- A reaction that a source started has not completed (R1077). -/
def State.reacting (s : State) (src : Nat) : Bool :=
  s.evt.blockResets.contains src || decide (s.evt.chipReset = some src) || s.evt.nmiHeld.contains src ||
    (s.evt.queue ++ s.evt.waiting).any fun e => e.react && decide (e.source = src)

/-- End the busy period of a source whose status bit is clear and whose reactions are complete (R1077). -/
def State.endBusy (src : Nat) (s : State) : State :=
  if s.statusSrc src || s.reacting src then s
  else ({ s with evt := { s.evt with busy := s.evt.busy &&& ~~~(srcBit src),
                                     errn := s.evt.errn &&& ~~~(srcBit src) } }).errUpdate

/-! ## Glume records -/

/-- A record as its one to four entries (R1095), stamped with the present mode, time status and device time. -/
def State.record (s : State) (kind : Nat) (prot forced react : Bool) (src : Nat) (payload : List Byte) : List GItem :=
  let n := max 1 (min 4 (ceilDiv payload.length 40))
  (List.range n).map fun i =>
    { kind := kind, prot := prot, forced := forced, part := i, parts := n, source := src, mode := s.sys.mode.code,
      tstat := s.time.stat.code, time := s.time.now, payload := slice payload (40 * i) 40, react := react,
      retried := false, spilled := false }

/-- Queue a record (R1098). The flag tells that a general record was dropped. -/
def State.glmTry (s : State) (r : List GItem) (powerLoss : Bool := false) : State × Bool :=
  let prot := match r with
    | [] => false
    | g :: _ => g.prot
  if powerLoss then ({ s with evt := { s.evt with queue := r ++ s.evt.queue } }, false)
  else if prot then
    if s.evt.waiting = [] ∧ s.evt.queue.length + r.length ≤ 248 then
      ({ s with evt := { s.evt with queue := s.evt.queue ++ r } }, false)
    else ({ s with evt := { s.evt with waiting := s.evt.waiting ++ r } }, false)
  else if s.evt.queue.length + r.length ≤ 224 then
    ({ s with evt := { s.evt with queue := s.evt.queue ++ r } }, false)
  else ({ s with evt := { s.evt with dropped := satInc 0xFFFFFFFF s.evt.dropped } }, true)

/-! ## Host events and MSI-X -/

/-- Send the message of a vector (R956): held pending while masked, and not repeated until a head doorbell re-arms
it. -/
def Vector.send (v : Vector) : Vector :=
  if v.sent then v
  else if v.mask then { v with pending := true }
  else { v with sent := true, count := v.count + 1 }

/-- Send the message of vector `i`. -/
def State.msi (i : Nat) (s : State) : State :=
  { s with hq := { s.hq with vecs := modAt s.hq.vecs i Vector.send } }

/-- `HQ_EVQe_CFG` (R966). -/
def State.evqCfg (s : State) (e : Nat) : Word := s.reg (0xA01808 + 0x20 * e)

/-- An event queue has room for one more entry (R914, R955). -/
def EvQueue.room (q : EvQueue) (size : Nat) : Bool := decide ((q.tail + 1) % size ≠ q.head)

/-- Write an entry at the tail of an event queue, turning the phase at the wrap (R914). -/
def EvQueue.push (q : EvQueue) (size : Nat) (x : EvEntry) : EvQueue :=
  { q with posted := q.posted ++ [{ x with phase := q.phase }],
           tail := (q.tail + 1) % size,
           phase := if q.tail + 1 = size then !q.phase else q.phase }

/-- The OVERFLOW entry that is due goes out as room appears (R955, R958). -/
def State.overflow (e : Nat) (s : State) : State :=
  let x : EvQueue := nth {} s.hq.evqs e
  let n := fld (s.evqCfg e) 16 12 + 1
  if x.lost = 0 || !x.active || x.error || !x.room n || s.hq.d3 then s
  else
    let o : EvEntry := { kind := 3, tstat := s.time.stat.code, code := 0, reason := 0, arg := x.lost, time := s.time.now }
    ({ s with hq := { s.hq with evqs := modAt s.hq.evqs e fun y => ({ y with lost := 0 } : EvQueue).push n o } } : State).msi
      (fld (s.evqCfg e) 8 6)

/-- Post an entry on event queue `e`, after the OVERFLOW entry that is due (R955, R958). The flag tells that the
entry was dropped. DEDUCED, log entry 65. -/
def State.post (s : State) (e : Nat) (x : EvEntry) : State × Bool :=
  let q := nth {} s.hq.evqs e
  let size := fld (s.evqCfg e) 16 12 + 1
  if !(s.on .mgt && q.active && !q.error) then (s, false)
  else if s.hq.d3 then ({ s with hq := { s.hq with held := s.hq.held ++ [(e, x)] } }, false)
  else
    let s1 := s.overflow e
    if (nth {} s1.hq.evqs e : EvQueue).room size then
      (({ s1 with hq := { s1.hq with evqs := modAt s1.hq.evqs e fun q => q.push size x } }).msi
        (fld (s.evqCfg e) 8 6), false)
    else ({ s1 with hq := { s1.hq with evqs := modAt s1.hq.evqs e fun q =>
            { q with dropped := satInc 0xFFF q.dropped, lost := q.lost + 1 } } }, true)

/-! ## Raising a source -/

/-- Step 1 of R1084: the status bit, the busy mark and the host entry (R1076, R1077, R952). The flag tells that the
host entry was dropped. -/
def State.markRaised (s : State) (src : Nat) : State × Bool :=
  let s1 := { s with evt := { s.evt with status := s.evt.status ||| srcBit src, busy := s.evt.busy ||| srcBit src } }
  let h := s.reg (0xA04000 + 4 * src)
  if s.irqEnabled src && bitOf h 31 then
    s1.post (fld h 8 2) { kind := 1, tstat := s.time.stat.code, code := src, reason := 0, arg := 0, time := s.time.now }
  else (s1, false)

/-- Step 2 of R1084: ERR_N, the grave lock and the SAFE entry decided (R1087, R1091); where SAFE cannot be entered,
a cause latched with SAFE_LOCKED stands (R1176). -/
def State.decideSafe (src : Nat) (r : Word) (s : State) : State :=
  let e := s.evt
  let grave := bitOf r 7
  let req := if s.cannotSafe && s.sys.safeLocked then e.safeReq
    else if grave then some (3, src)
    else if bitOf r 6 then some (e.safeReq.getD (2, src)) else e.safeReq
  let low := bitOf r 4 || grave
  ({ s with
      sys := { s.sys with safeLocked := s.sys.safeLocked || grave }
      evt := { e with
        errn := if bitOf r 4 then e.errn ||| srcBit src else e.errn
        graveHold := e.graveHold || grave
        errLast := if low then src else e.errLast
        safeReq := req
        safeSkip := e.safeSkip || ((grave || bitOf r 6) && decide (144 ≤ src ∧ src ≤ 175)) } }).errUpdate

/-- Step 3 of R1084: the trap, delivered to the pair that carries the source's load, or held for it (R1083). -/
def State.trap (src : Nat) (s : State) : State :=
  if s.served (sourceLoad src) then
    match s.carrier (sourceLoad src) with
    | .a => { s with evt := { s.evt with nmiA := s.evt.nmiA + 1 } }
    | .b => { s with evt := { s.evt with nmiB := s.evt.nmiB + 1 } }
  else { s with evt := { s.evt with nmiHeld := s.evt.nmiHeld ++ [src] } }

/-- Steps 5 and 6 of R1084: the entries of a raise, and the chip reset that waits for its own entry (R1086, R1103).
The flag tells that a general entry was dropped. -/
def State.writeEntries (s : State) (src : Nat) (r pre : Word) (forced : Bool) : State × Bool :=
  let pay := u32le pre.toNat
  let a := if bitOf r 5 then s.glmTry (s.record 1 (decide (src = 8 ∨ src = 9)) forced true src pay) else (s, false)
  let b := if bitOf r 7 then a.1.glmTry (a.1.record 2 true forced true src pay) else (a.1, false)
  let c := if bitOf r 3 && !s.pwr.losing then
      let t := b.1.glmTry (b.1.record 11 true forced true src (u32le src))
      ({ t.1 with evt := { t.1.evt with chipReset := some (t.1.evt.chipReset.getD src) } }, t.2)
    else (b.1, false)
  (c.1, a.2 || b.2 || c.2)

/-- One raise (R1077, R1084): nothing for a reserved or busy source. Answers the sources that the raise itself raises:
251 for a dropped entry and 236 for a dropped host entry. DEDUCED, log entry 27. -/
def State.raise1 (s : State) (forced : Bool) (src : Nat) : State × List Nat :=
  if reservedSource src || s.busySrc src then (s, [])
  else
    let pre := bankWord (evBank src) s.evt.status
    let r := s.reaction src
    let m := s.markRaised src
    let s2 := m.1.decideSafe src r
    let s3 := if bitOf r 1 then s2.trap src else s2
    let s4 := if bitOf r 2 then { s3 with evt := { s3.evt with blockResets := s3.evt.blockResets ++ [src] } } else s3
    let w := s4.writeEntries src r pre forced
    (w.1, (if w.2 then [251] else []) ++ (if m.2 then [236] else []))

/-- Raise a source (R1084). -/
def State.raise (src : Nat) (s : State) : State :=
  let r := s.raise1 false src
  let r2 := r.2.foldl (fun (t : State × List Nat) x => let u := t.1.raise1 false x; (u.1, t.2 ++ u.2)) (r.1, [])
  r2.2.foldl (fun t x => (t.raise1 false x).1) r2.1

/-- Raise a source by a force write: its entries carry FORCED = 1 (R1081). -/
def State.raiseForced (src : Nat) (s : State) : State :=
  let r := s.raise1 true src
  let r2 := r.2.foldl (fun (t : State × List Nat) x => let u := t.1.raise1 false x; (u.1, t.2 ++ u.2)) (r.1, [])
  r2.2.foldl (fun t x => (t.raise1 false x).1) r2.1

/-- Raise several sources in ascending order (R1103). -/
def State.raises (srcs : List Nat) (s : State) : State := srcs.foldl (fun t x => t.raise x) s

/-- Write a Glume record that a rule of the spec asks for, whatever the reactions (R1090). -/
def State.glume (kind : Nat) (prot : Bool) (src : Nat) (payload : List Byte) (s : State) : State :=
  let r := s.glmTry (s.record kind prot false false src payload)
  if r.2 then r.1.raise 251 else r.1

/-- A FAULT record of U32 values (R1096). -/
def State.faultRecord (src : Nat) (vals : List Nat) (s : State) : State :=
  s.glume 9 false src (vals.flatMap u32le)

/-! ## Bad accesses -/

/-- Record a bad BAR0 access and raise source 235 (R47, R51, R52). A clear of VALID in the same cycle comes first
(R53): it is a command of its own. -/
def State.badAccess (off : Nat) (write : Bool) (reason : Nat) (s : State) : State :=
  let y := s.sys
  let y' := if y.badValid then { y with badCount := satInc 255 y.badCount }
    else { y with badValid := true, badAddr := BitVec.ofNat 32 off, badWrite := write, badCount := 1,
                  badReason := reason }
  ({ s with sys := y' }).raise 235

/-- The reason for which an access to an offset is bad, 0 for none (R46, R52). -/
def State.badReason (s : State) (off : Nat) (be : BitVec 4) (write : Bool) : Nat :=
  match offDom off with
  | none => 1
  | some d => if !s.on d then 2 else if write && decide (be ≠ 0xF#4) then 3 else 0

/-- A BAR0 write of a register that is a command: a bad access where the block is not on, a discarded write where the
class does not permit it (R27, R46), else the command. -/
def State.bar0 (off : Nat) (c : Cls) (f : State → State) (s : State) : State :=
  let r := s.badReason off 0xF#4 true
  if r ≠ 0 then s.badAccess off true r
  else if s.mayWrite c then f s else s

/-- The effect of an event in a block whose domain is on; nothing otherwise (R973, R975). -/
def State.inDom (d : Dom) (f : State → State) (s : State) : State := if s.on d then f s else s

end Sys2Proof.Machine
end

