-- ==== Sys2Proof/Machine/CulmOps.lean ====
section
/-! DEFINITION. Machine/CulmOps.lean: the tracking arithmetic of an axis (R138 to R150), the occurrences of event-table
entries (R153 to R159), bank swaps (R169 to R174), validation of entries (R166), and device time (R177 to R187). -/
namespace Sys2Proof.Machine

/-! ## Angles -/

/-- An angle modulo 2^96. -/
def wrap96 (i : Int) : Nat := (i % ((2 ^ 96 : Nat) : Int)).toNat

/-- The 96-bit serial difference `a - b`. -/
def diff96 (a b : Nat) : Int := sx 96 (a + (2 ^ 96 - b % 2 ^ 96))

/-- The later of two angles, compared as 96-bit serial numbers. -/
def max96 (h t : Nat) : Nat := if 0 < diff96 t h then t else h

/-- Saturation of R138. -/
def sat64 (x : Int) : Int := clampI (-(2 ^ 63 - 1)) (2 ^ 63 - 1) x

/-- Arithmetic shift right. -/
def asr (x : Int) (n : Nat) : Int := x.fdiv ((2 ^ n : Nat) : Int)

/-- DIVS of an axis (R130). -/
def Axis.divs (a : Axis) : Nat := fld a.cfg 0 16 + 1

/-- The kind field (R201). -/
def Axis.kind (a : Axis) : Nat := fld a.cfg 28 3

/-- The source field (R201). -/
def Axis.source (a : Axis) : Nat := fld a.cfg 25 3

/-- EN (R201). -/
def Axis.en (a : Axis) : Bool := bitOf a.cfg 31

/-- PIN (R201). -/
def Axis.pin (a : Axis) : Nat := fld a.cfg 16 5

/-- The boundary fraction b_j, also for j = DIVS, where it is one turn (R130). -/
def divBase (divs j : Nat) : Nat := j * 2 ^ 32 / divs

/-- The reference fraction of division j (R131). -/
def Axis.refFrac (a : Axis) (j : Nat) : Nat :=
  if a.divs ≤ 16 then (divBase a.divs j + (nth 0 a.act.iofs j).toNat) % 2 ^ 32 else divBase a.divs j

/-- The reference angle of division j of a turn (R141). -/
def Axis.refAngle (a : Axis) (turn j : Nat) : Nat := (turn % 2 ^ 32 * 2 ^ 32 + a.refFrac j) * 2 ^ 32

/-- The division after the one last accepted or missed, with its turn (R141). -/
def Axis.nextDiv (a : Axis) (reverse : Bool) : Nat × Nat :=
  if reverse then
    if a.div = 0 then ((a.divTurn + 2 ^ 32 - 1) % 2 ^ 32, a.divs - 1) else (a.divTurn, a.div - 1)
  else if a.div + 1 < a.divs then (a.divTurn, a.div + 1) else ((a.divTurn + 1) % 2 ^ 32, 0)

/-- The window of an axis in units of 2^-32 turn (R142). -/
def Axis.window (a : Axis) : Nat := if a.st = .locked then a.act.win.toNat else 2 ^ 32 / (4 * a.divs)

/-- The velocity that advances an axis in this tick (R138). -/
def Axis.omegaNow (a : Axis) : Int := sat64 (a.omega + sat64 (a.alpha + a.alphaFf))

/-- ω[47:16], saturated to S32 (R190, R197). -/
def velOf (omega : Int) : Int := satS 32 (asr omega 16)

/-- The turn count of an angle. -/
def turnOf (theta : Nat) : Nat := theta / 2 ^ 64 % 2 ^ 32

/-- The turn fraction of an angle. -/
def fracOf (theta : Nat) : Nat := theta / 2 ^ 32 % 2 ^ 32

/-- An axis in OFF, keeping its configuration and what R208 keeps (R148). -/
def Axis.toOff (a : Axis) : Axis :=
  { a with st := .off, coast := false, missRow := 0, rejRow := 0, acqEdges := 0, fromOff := true, goodRow := 0 }

/-- An axis that enters ACQUIRE from OFF (R148). The time of an edge seen before OFF was left is forgotten. DESIGN
CHOICE, log entry 100. -/
def Axis.toAcquire (a : Axis) : Axis :=
  { a with st := .acquire, theta := 0, omega := 0, alpha := 0, high := 0, coast := false, missRow := 0, rejRow := 0,
           acqEdges := 0, fromOff := true, goodRow := 0, div := 0, divTurn := 0, lastAny := none }

/-- Apply the shadow constants (R204). A feed-forward that is switched on keeps its value until its source is next
taken. DESIGN CHOICE, log entry 101. -/
def Axis.applyGains (a : Axis) (g : AxGains) : Axis :=
  { a with act := g, commit := false, alphaFf := if bitOf g.aff 31 then a.alphaFf else 0 }

/-! ## Index edges -/

/-- The prediction at step `s6` of the present tick (R142). -/
def Axis.predicted (a : Axis) (s6 : Nat) : Nat := wrap96 ((a.theta : Int) + asr (a.omegaNow * (s6 : Int)) 6)

/-- The division nearest an angle, in that angle's turn (R149). DEDUCED, log entry 30. -/
def Axis.nearestDiv (a : Axis) (hat : Nat) : Nat :=
  let f := fracOf hat
  let j0 := f * a.divs / 2 ^ 32
  let cands := if a.divs ≤ 16 then List.range a.divs else (List.range 3).map fun i => min (j0 - 1 + i) (a.divs - 1)
  let dist := fun j => (((a.refFrac j : Int)) - (f : Int)).natAbs
  cands.foldl (fun best j => if dist j < dist best then j else best) (cands.headD 0)

/-- A rejected edge (R135, R145, R148); in LOST, as any edge there, it brings the axis to ACQUIRE, whose acquisition the
next edge begins. -/
def Axis.reject (a : Axis) (rejMax : Nat) : Axis :=
  let b := { a with rejects := satInc 65535 a.rejects, rejRow := a.rejRow + 1 }
  match a.st with
  | .locked => if rejMax < b.rejRow then { b with st := .lost } else b
  | .acquire => { b with acqEdges := 0, goodRow := 0 }
  | .lost => { b with st := .acquire, acqEdges := 0, goodRow := 0 }
  | .off => b

/-- The first edge of an acquisition (R149 step 1). Out of LOST, and where acquisition restarts, the nearest division
stands even when a zero mark has been accepted meanwhile (R133). DESIGN CHOICE, log entry 105. -/
def Axis.acquireFirst (a : Axis) (stamp : Nat) : Axis :=
  let hat := a.predicted (stamp % 64)
  let j := if a.fromOff then 0 else a.nearestDiv hat
  let t := if a.fromOff then 0 else turnOf hat
  let th := a.refAngle t j
  { a with st := .acquire, theta := th, high := max96 a.high th, div := j, divTurn := t, acqEdges := 1, goodRow := 0,
           fromOff := false, coast := false, missRow := 0, rejRow := 0, lastAcc := stamp }

/-- The second edge of an acquisition (R149 step 2). In reverse the division walked is the one from the edge to the
one before it, and omega is negative. DEDUCED, log entry 103. -/
def Axis.acquireSecond (a : Axis) (stamp : Nat) (reverse : Bool) : Axis :=
  let n := a.nextDiv reverse
  let th := a.refAngle n.1 n.2
  let i6 := max 1 (min (stamp - a.lastAcc) (2 ^ 32 - 1))
  let width : Int := if reverse then
      -((divBase a.divs (n.2 + 1) : Int) - (divBase a.divs n.2 : Int))
    else (divBase a.divs (a.div + 1) : Int) - (divBase a.divs a.div : Int)
  { a with theta := th, high := max96 a.high th, div := n.2, divTurn := n.1, acqEdges := 2,
           omega := sat64 ((width * (2 ^ 32 * 64 : Nat)).fdiv (i6 : Int)), alpha := 0,
           coast := false, missRow := 0, rejRow := 0, lastAcc := stamp }

/-- The phase error of an edge at step `s6` of the present tick (R142). -/
def Axis.phaseError (a : Axis) (s6 : Nat) (reverse : Bool) : Int :=
  let n := a.nextDiv reverse
  sat64 (diff96 (a.refAngle n.1 n.2) (a.predicted s6))

/-- The corrections of an accepted edge (R142), and the lock decision of R148. -/
def Axis.correct (a : Axis) (e : Int) (stamp : Nat) (reverse : Bool) (lockN : Nat) : Axis :=
  let n := a.nextDiv reverse
  let i6 : Int := (max 1 (min (stamp - a.lastAcc) (2 ^ 32 - 1)) : Nat)
  let d1 := sat64 ((e * 64).tdiv i6)
  let d2 := sat64 ((d1 * 64).tdiv i6)
  let th := wrap96 ((a.theta : Int) + asr e (fld a.act.gain 24 5))
  let good := if e.natAbs ≤ a.act.locktol.toNat * 2 ^ 32 then a.goodRow + 1 else 0
  { a with theta := th, omega := sat64 (a.omega + asr d1 (fld a.act.gain 16 5)),
           alpha := sat64 (a.alpha + asr d2 (fld a.act.gain 8 5)),
           div := n.2, divTurn := n.1, coast := false, missRow := 0, rejRow := 0, lastAcc := stamp,
           err := satS 32 (asr e 32), goodRow := if a.st = .acquire then good else a.goodRow,
           acqEdges := if a.st = .acquire then 3 else a.acqEdges,
           st := if a.st = .acquire ∧ lockN ≤ good then .locked else a.st }

/-- An index edge of an axis, with `CULM_AXk_FILT` and its stamp in 1/64 tick (R135, R142 to R149). -/
def Axis.edge (a : Axis) (filt : Word) (stamp : Nat) (reverse : Bool) : Axis :=
  let tooClose := match a.lastAny with
    | none => false
    | some t => decide (stamp - t < 12800)
  let b := { a with lastAny := some stamp }
  if a.st = .off then a
  else if tooClose then b.reject (fld filt 4 4)
  else match a.st with
    | .lost => { b with st := .acquire, acqEdges := 0 }.acquireFirst stamp
    | _ =>
      if a.st = .acquire ∧ a.acqEdges = 0 then b.acquireFirst stamp
      else if a.st = .acquire ∧ a.acqEdges = 1 then b.acquireSecond stamp reverse
      else
        let e := b.phaseError (stamp % 64) reverse
        if e.natAbs ≤ b.window * 2 ^ 32 then b.correct e stamp reverse (fld filt 0 4) else b.reject (fld filt 4 4)

/-- Whether an accepted edge is a tracking correction, so that occurrences that it passes fire late (R157), and not a
change made by acquisition (R150). From its third edge on, where R142 applies, an axis in ACQUIRE is corrected.
DEDUCED, log entry 106. -/
def Axis.corrects (a : Axis) : Bool :=
  decide (a.st = .locked) || (decide (a.st = .acquire) && decide (2 ≤ a.acqEdges))

/-- A zero mark is accepted when it falls within one division of a turn boundary of the prediction (R133). The
prediction is the angle at the start of the tick. DESIGN CHOICE, log entry 99. -/
def Axis.zeroNear (a : Axis) : Bool :=
  let f := fracOf a.theta
  decide (min f (2 ^ 32 - f) * a.divs ≤ 2 ^ 32)

/-- An accepted zero mark: the division that follows in the direction of travel becomes division 0 of the nearest turn
boundary (R133). -/
def Axis.zeroMark (a : Axis) (reverse : Bool) : Axis :=
  let t := if 2 ^ 31 ≤ fracOf a.theta then (turnOf a.theta + 1) % 2 ^ 32 else turnOf a.theta
  if !reverse then { a with div := a.divs - 1, divTurn := (t + 2 ^ 32 - 1) % 2 ^ 32 }
  else if a.divs = 1 then { a with div := 0, divTurn := (t + 1) % 2 ^ 32 }
  else { a with div := 1, divTurn := t }

/-- An axis that runs in reverse: only source 3 gives reverse edges (R141). -/
def Axis.backward (a : Axis) : Bool := decide (a.source = 3) && decide (a.omega < 0)

/-- Whether the prediction has passed the expected reference angle by more than the window (R146). -/
def Axis.missed (a : Axis) : Bool :=
  let rev := a.backward
  let n := a.nextDiv rev
  let d := diff96 a.theta (a.refAngle n.1 n.2)
  let past := if rev then -d else d
  (decide (a.st = .locked) || (decide (a.st = .acquire) && decide (2 ≤ a.acqEdges))) &&
    decide ((a.window * 2 ^ 32 : Nat) < past)

/-- A miss (R146, R148). -/
def Axis.miss (a : Axis) (missMax : Nat) : Axis :=
  let n := a.nextDiv a.backward
  let b := { a with div := n.2, divTurn := n.1, coast := true, misses := satInc 65535 a.misses,
                    missRow := a.missRow + 1 }
  match a.st with
  | .locked => if missMax < b.missRow then { b with st := .lost } else b
  | .acquire => { b with acqEdges := 0, goodRow := 0 }
  | _ => b

/-! ## The event table -/

/-- VALID of an entry (R152). -/
def TEntry.valid (e : TEntry) : Bool := bitOf e.w1 31

/-- REPEAT of an entry (R152). -/
def TEntry.rep (e : TEntry) : Nat := fld e.w1 29 2

/-- ACTION of an entry (R152). -/
def TEntry.action (e : TEntry) : Nat := fld e.w1 26 3

/-- AXIS of an entry (R152). -/
def TEntry.axis (e : TEntry) : Nat := fld e.w1 20 5

/-- The turns that an interval of turn-and-fraction points touches. -/
def turnsOf (lo hi : Nat) : List Nat := (List.range (hi / 2 ^ 32 - lo / 2 ^ 32 + 1)).map fun i => lo / 2 ^ 32 + i

/-- The occurrences of an entry in `lo < o ≤ hi`, as turn and fraction, unwrapped (R153, R154). -/
def TEntry.occs (e : TEntry) (divs lo hi : Nat) : List Nat :=
  let ang := e.w0.toNat
  let pts := match e.rep with
    | 0 => ((turnsOf lo hi).filter fun t => decide (t % 2 ^ 32 = e.w2.toNat)).map fun t => t * 2 ^ 32 + ang
    | 1 => (turnsOf lo hi).map fun t => t * 2 ^ 32 + ang
    | 2 =>
      let g0 := (lo - ang) * divs / 2 ^ 32
      let g1 := (hi - ang) * divs / 2 ^ 32 + 1
      (List.range (g1 - g0 + 1)).map fun i =>
        (g0 + i) / divs * 2 ^ 32 + divBase divs ((g0 + i) % divs) + ang
    | _ =>
      let n := fld e.w1 0 12
      ((turnsOf lo hi).filter fun t =>
        decide (0 < n) && decide ((t + 2 ^ 32 - e.w2.toNat) % 2 ^ 32 % n = 0)).map fun t => t * 2 ^ 32 + ang
  pts.filter fun o => decide (lo < o ∧ o ≤ hi)

/-- The state of an axis permits an entry to fire (R147). -/
def permits (st : AxState) (e : TEntry) : Bool :=
  match st with
  | .off => false
  | .locked => true
  | _ => bitOf e.w1 25 && !(decide (e.action = 2) && bitOf e.w3 24)

/-- The occurrences on an axis with `max(θ, H) < o ≤ θ + d`, placed in the tick by the velocity `d`; with `late`
they are placed at step 0 (R155 to R157). -/
def firings (bank : List (Nat × TEntry)) (k : Nat) (divs : Nat) (st : AxState) (theta high : Nat) (d : Int)
    (late : Bool) : List Firing :=
  if d ≤ 0 then []
  else
    let base := theta + 2 ^ 96
    let low := base + (max 0 (diff96 high theta)).toNat
    let hi := base + d.toNat
    (bank.filter fun p => p.2.valid && decide (p.2.axis = k) && decide (p.2.action ≠ 0) && permits st p.2).flatMap
      fun p => (p.2.occs divs (low / 2 ^ 32) (hi / 2 ^ 32)).map fun o =>
        { axis := k, step := if late then 0 else min 63 (64 * (o * 2 ^ 32 - base) / d.toNat), index := p.1,
          action := p.2.action, arg := p.2.w3, late := late, point := o % 2 ^ 64 }

/-- The order of R159: ascending step, then ascending entry index, with BANK actions last. -/
def Firing.before (a b : Firing) : Bool :=
  if a.action = 7 ∧ b.action ≠ 7 then false
  else if a.action ≠ 7 ∧ b.action = 7 then true
  else decide (a.step < b.step) || (decide (a.step = b.step) && decide (a.index < b.index))

/-- Insert one firing in order, after those that it does not precede. -/
def insertFiring (f : Firing) : List Firing → List Firing
  | [] => [f]
  | g :: t => if f.before g then f :: g :: t else g :: insertFiring f t

/-- Firings in the order of R159. -/
def sortFirings (l : List Firing) : List Firing := l.foldl (fun acc f => insertFiring f acc) []

/-- At most 4 firings of an axis and 32 in all take effect in a tick; the rest stay due (R158). -/
def selectFirings : List Firing → List Firing → List Firing → List Firing × List Firing
  | [], fire, rest => (fire, rest)
  | f :: t, fire, rest =>
    if fire.length < 32 ∧ (fire.filter fun g => decide (g.axis = f.axis)).length < 4 then
      selectFirings t (fire ++ [f]) rest
    else selectFirings t fire (rest ++ [{ f with step := 0, late := true }])

/-- The active bank. -/
def Culm.activeBank (c : Culm) : List (Nat × TEntry) := if c.active = 0 then c.bank0 else c.bank1

/-- Bank `b`. -/
def Culm.bank (c : Culm) (b : Nat) : List (Nat × TEntry) := if b = 0 then c.bank0 else c.bank1

/-- Replace bank `b`. -/
def Culm.setBank (b : Nat) (l : List (Nat × TEntry)) (c : Culm) : Culm :=
  if b = 0 then { c with bank0 := l } else { c with bank1 := l }

/-- Axis k of the timebase. -/
def Culm.ax (c : Culm) (k : Nat) : Axis := nth {} c.axes k

/-- Change axis k. -/
def Culm.modAx (k : Nat) (f : Axis → Axis) (c : Culm) : Culm := { c with axes := modAt c.axes k f }

/-- The entries of the new bank that are inert at its activation (R174). -/
def Culm.staleOf (c : Culm) (bank : List (Nat × TEntry)) : Nat :=
  (bank.filter fun p => p.2.valid && decide (p.2.rep = 0) &&
    decide (diff96 ((p.2.w2.toNat * 2 ^ 32 + p.2.w0.toNat) * 2 ^ 32) (c.ax p.2.axis).high ≤ 0)).length

/-- A bank swap, which completes an armed swap (R169, R171, R174). -/
def Culm.swap (c : Culm) : Culm :=
  let a := 1 - c.active
  { c with active := a, stale := satAdd 0xFFFFFFFF c.stale (c.staleOf (c.bank a)),
           swapStatus := if c.swapArmed then 2 else c.swapStatus, swapArmed := false, swapPassed := false }

/-- An armed swap ends without its swap, with the STATUS of the reason (R173, R196). -/
def Culm.disarm (status : Nat) (c : Culm) : Culm :=
  { c with swapArmed := false, swapPassed := false, swapStatus := status }

/-! ## Virtual axes -/

/-- What a motion-derived axis needs of its motion axis: position and HOMED (R136). -/
structure MotView where
  pos : Int
  homed : Bool
  deriving DecidableEq, Repr

/-- What a gear axis takes from its parent's angle and state (R136). -/
def Axis.gearOf (a : Axis) (p : Nat × AxState) : Nat × AxState :=
  let r := a.vparHi.toNat * 2 ^ 32 + a.vparLo.toNat
  let g : Int := ((p.1 * r / 2 ^ 32 : Nat) : Int)
  (wrap96 ((if bitOf a.vcfg 29 then -g else g) + (a.vofs.toNat * 2 ^ 32 : Nat)), p.2)

/-- A gear axis (R136). -/
def Axis.isGear (a : Axis) : Bool := decide (a.source = 7) && decide (fld a.vcfg 30 2 = 0)

/-- The angle and state of axis k between ticks: a gear axis follows its parents as they stand, and one that is in OFF
keeps its own angle (R136, R1177, R1178). -/
def gearNow (axes : List Axis) : Nat → Nat → Nat × AxState
  | 0, _ => (0, .off)
  | fuel + 1, k =>
    let a := nth {} axes k
    if a.isGear && a.en && decide (a.st ≠ .off) then a.gearOf (gearNow axes fuel a.pin) else (a.theta, a.st)

/-- The angle and state of axis k in a tick, given the physical axes after it: gear chains are followed (R136,
R1177). -/
def virtOf (axes : List Axis) (mots : List MotView) : Nat → Nat → Nat × AxState
  | 0, _ => (0, .off)
  | fuel + 1, k =>
    let a := nth {} axes k
    if a.source ≠ 7 then (a.theta, a.st)
    else if !a.en then (a.theta, .off)
    else match fld a.vcfg 30 2 with
      | 0 => a.gearOf (virtOf axes mots fuel a.pin)
      | 1 =>
        let l := a.vparLo.toNat
        let m := nth { pos := 0, homed := false } mots a.pin
        if l = 0 then (a.theta, .off)
        else
          let turn := m.pos.fdiv (l : Int)
          let rem := m.pos.fmod (l : Int)
          (wrap96 (turn * (2 ^ 64 : Nat) + (rem * (2 ^ 32 : Nat)).fdiv (l : Int) * (2 ^ 32 : Nat)),
            if m.homed then .locked else .acquire)
      | 2 =>
        let w := sx 64 (a.vparHi.toNat * 2 ^ 32 + a.vparLo.toNat)
        if a.st = .off then (0, .locked) else (wrap96 ((a.theta : Int) + w), .locked)
      | _ => (a.theta, .off)

/-- A virtual axis at the end of a tick, and what it fires (R155, R1177). -/
def stepVirtual (bank : List (Nat × TEntry)) (k : Nat) (a : Axis) (th : Nat) (st : AxState) : Axis × List Firing :=
  if st = .off then (a.toOff, [])
  else if a.st = .off then ({ a with st := st, theta := th, high := th, omega := 0 }, [])
  else
    let d := sat64 (diff96 th a.theta)
    ({ a with st := st, theta := th, omega := d, high := max96 a.high th },
      firings bank k a.divs st a.theta a.high d false)

/-- A physical axis at the end of a tick, and what it fires (R138, R155). An enabled axis leaves OFF first (R148). -/
def stepPhysical (bank : List (Nat × TEntry)) (k : Nat) (a0 : Axis) : Axis × List Firing :=
  let a := if a0.st = .off ∧ a0.en ∧ a0.source ≠ 0 then a0.toAcquire else a0
  if a.st = .off then (a, [])
  else
    let w := a.omegaNow
    let th := wrap96 ((a.theta : Int) + w)
    ({ a with omega := w, theta := th, high := max96 a.high th },
      firings bank k a.divs a.st a.theta a.high w false)

/-- An axis that stood at `a` has turned forward to `b` over an occurrence of `e` that it had not passed before
(R155). The greatest angle reached is what tells an occurrence that has been passed. DEDUCED, log entry 104. -/
def reaches (a b : Axis) (e : TEntry) : Bool :=
  let d := diff96 b.theta a.theta
  let base := a.theta + 2 ^ 96
  let low := base + (max 0 (diff96 a.high a.theta)).toNat
  decide (0 < d) && (e.occs 1 (low / 2 ^ 32) ((base + d.toNat) / 2 ^ 32) != [])

/-- The armed swap reaches its angle while its axis turns from `a` to `b` (R170): at the next occurrence of the angle,
or at the one of its turn. DEDUCED, log entry 104. -/
def swapReached (c : Culm) (a b : Axis) : Bool :=
  c.swapArmed && reaches a b { w0 := BitVec.ofNat 32 c.armAngle, w1 := if c.armAtTurn then 0x80000000 else 0xA0000000,
                               w2 := BitVec.ofNat 32 c.armTurn }

/-- A correction between ticks has turned the timebase `c0` into `c`: an armed swap whose angle it passes happens in the
tick in which the correction comes into force (R157, R170). -/
def Culm.carried (c0 c : Culm) : Culm :=
  if swapReached c0 (c0.ax c0.armAxis) (c.ax c0.armAxis) then { c with swapPassed := true } else c

/-- One 800 MHz tick of the timebase: the new block, the firings that take effect in order, and whether an armed swap
reached its angle. -/
def Culm.tickOf (c : Culm) (mots : List MotView) : Culm × List Firing × Bool :=
  let bank := c.activeBank
  let ks := List.range 24
  let phys := ks.map fun k => let a := c.ax k; if a.source = 7 then (a, []) else stepPhysical bank k a
  let paxes := phys.map (·.1)
  let virt := ks.map fun k =>
    let a := nth {} paxes k
    if a.source = 7 then let v := virtOf paxes mots 25 k; stepVirtual bank k a v.1 v.2 else (a, [])
  let axes := virt.map (·.1)
  let new := phys.flatMap (·.2) ++ virt.flatMap (·.2)
  let sel := selectFirings (sortFirings (c.due ++ new)) [] []
  let reached := c.swapPassed || swapReached c (c.ax c.armAxis) (nth {} axes c.armAxis)
  let left := c.swapArmed && decide ((nth {} axes c.armAxis).st ≠ .locked)
  let c' := { c with axes := axes, tick := c.tick + 1, due := sel.2, swapPassed := false,
                     late := satAdd 0xFFFFFFFF c.late (sel.1.filter fun f => f.late).length }
  (if left then c'.disarm 4 else c', sel.1, reached && !left)

/-- A gear axis after its parent's angle has changed between ticks: a correction fires what it passes, late; an
acquisition fires nothing; a parent that has gone OFF takes the gear axis along (R136, R150, R1177). -/
def gearFollow (bank : List (Nat × TEntry)) (k : Nat) (a : Axis) (th : Nat) (st : AxState) (correction : Bool) :
    Axis × List Firing :=
  if a.st = .off then (a, [])
  else if st = .off then (a.toOff, [])
  else ({ a with theta := th, st := st, high := max96 a.high th },
    if correction then firings bank k a.divs st a.theta a.high (diff96 th a.theta) true else [])

/-- The gear axes follow a change of an axis between ticks, and the occurrences that they pass are collected. -/
def Culm.followGears (c : Culm) (correction : Bool) : Culm :=
  let rs := (List.range 24).map fun k =>
    let a := c.ax k
    if a.isGear && a.en then
      let v := gearNow c.axes 25 k
      gearFollow c.activeBank k a v.1 v.2 correction
    else (a, [])
  { c with axes := rs.map (·.1), due := c.due ++ rs.flatMap (·.2) }

/-! ## Configuration -/

/-- Greatest PIN of a source (R127). With source 0 only PIN 0 is legal. DESIGN CHOICE, log entry 98. -/
def maxPin : Nat → Nat
  | 1 => 3 | 2 => 11 | 3 => 11 | 6 => 31 | 7 => 23 | _ => 0

/-- A gear axis reaches `target` through its chain of gear parents (R129). -/
def gearReaches (axes : List Axis) (target : Nat) : Nat → Nat → Bool
  | 0, _ => false
  | fuel + 1, k =>
    let a := nth {} axes k
    if a.source = 7 ∧ fld a.vcfg 30 2 = 0 then
      decide (a.pin = target) || gearReaches axes target fuel a.pin
    else false

/-- An axis configuration breaks R128 or sets a reserved code (R129). -/
def axisIllegal (a : Axis) : Bool :=
  decide (a.kind = 7) || decide (fld a.vcfg 30 2 = 3) ||
  (decide (a.source = 7) != decide (a.kind = 6)) ||
  (decide (a.source = 4) && decide (a.kind ≠ 4)) ||
  decide (maxPin a.source < a.pin) ||
  (decide (a.source = 7) && decide (fld a.vcfg 30 2 = 1) && decide (11 < a.pin))

/-- Some gear axis names itself, or reaches itself through its parents (R129). -/
def gearLoop (axes : List Axis) : Bool := (List.range 24).any fun k => gearReaches axes k 25 k

/-- The registers of an axis configuration (R1178): 0 CFG, 1 VCFG, 2 VPAR_LO, 3 VPAR_HI, 4 VOFS. -/
def Axis.writeCfg (a : Axis) (which : Nat) (v : Word) : Axis :=
  match which with
  | 0 => { a with cfg := v &&& 0xFF1FFFFF }
  | 1 => { a with vcfg := v &&& 0xE0000000 }
  | 2 => { a with vparLo := v }
  | 3 => { a with vparHi := v }
  | _ => { a with vofs := v }

/-- The axis after a legal configuration write (R148, R208, R1178). -/
def Axis.reconfigure (a b : Axis) : Axis :=
  if !a.en && b.en then { b.toOff with misses := 0, rejects := 0 }
  else if a = b then a
  else b.toOff

/-! ## Entries -/

/-- An entry's ARG uses reserved bits, codes or targets (R161, R162). -/
def argReserved (action : Nat) (arg : Word) : Bool :=
  match action with
  | 0 => decide (arg ≠ 0)
  | 1 => decide (arg &&& 0xFFFFFC00 ≠ 0) || decide (fld arg 8 2 = 3) || decide (35 < fld arg 0 8)
  | 2 => decide (arg &&& 0xFEFC0000 ≠ 0)
  | 3 => decide (arg &&& 0xFFFFFF00 ≠ 0)
  | 4 => decide (arg &&& 0xFFFFFCF0 ≠ 0) || decide (1 < fld arg 8 2)
  | 5 => decide (arg &&& 0xFFFFFFF0 ≠ 0)
  | 6 => decide (arg &&& 0xFFFFFFFE ≠ 0)
  | _ => decide (arg ≠ 0)

/-- An entry is refused with RANGE (R166). -/
def Culm.entryBad (c : Culm) (e : TEntry) : Bool :=
  e.valid &&
    (decide (23 < e.axis) || decide (e.w1 &&& 0x000FF000 ≠ 0) || argReserved e.action e.w3 ||
     (decide (e.rep = 1 ∨ e.rep = 2) && decide (e.w2 ≠ 0)) ||
     (decide (e.rep = 2) && decide (2 ^ 32 / (c.ax e.axis).divs ≤ e.w0.toNat)))

/-- The four words of an entry from 16 little-endian bytes at an offset. -/
def entryAt (bs : List Byte) (o : Nat) : TEntry :=
  { w0 := BitVec.ofNat 32 (leAt bs o 4), w1 := BitVec.ofNat 32 (leAt bs (o + 4) 4),
    w2 := BitVec.ofNat 32 (leAt bs (o + 8) 4), w3 := BitVec.ofNat 32 (leAt bs (o + 12) 4) }

/-- The 16 bytes of an entry. -/
def TEntry.bytes (e : TEntry) : List Byte :=
  u32le e.w0.toNat ++ u32le e.w1.toNat ++ u32le e.w2.toNat ++ u32le e.w3.toNat

/-! ## Device time -/

/-- One crystal cycle (R177 to R180): what the counter gains in 2^-32 ns, and what slewing has used. The frequency
part is rounded down to that fraction, and the two limits are whole numbers of it. DESIGN CHOICE, log entry 107. -/
def DevTime.gain (t : DevTime) : Nat × Int :=
  let slewStep := clampI (-85899345) 85899345 t.slew
  let freq := clampI (-171798691) 171798691 ((40 * t.rate.toInt).fdiv 64)
  let corr := clampI (-171798691) 171798691 (freq + slewStep)
  ((40 * (2 ^ 32 : Nat) + corr).toNat, corr - freq)

/-- Device time after one crystal cycle. -/
def DevTime.cycle (t : DevTime) : DevTime :=
  let g := t.gain
  let sum := t.frac + g.1
  { t with now := t.now + BitVec.ofNat 64 (sum / 2 ^ 32), frac := sum % 2 ^ 32, slew := t.slew - g.2 }

/-- Device time moved forward by whole nanoseconds in one step (R180), modulo 2^64. DESIGN CHOICE, log entry 108. -/
def DevTime.stepBy (n : Nat) (t : DevTime) : DevTime := { t with now := t.now + BitVec.ofNat 64 n }

/-- The new horizon when device time comes within 5 s of the stored one (R182). -/
def horizonDue (now : Time) (h : Option Nat) : Option Nat :=
  match h with
  | none => some (now.toNat + 10000000000)
  | some x => if x ≤ now.toNat + 5000000000 then some (now.toNat + 10000000000) else none

/-- The stored horizon: the later of the valid copies (R182). -/
def Rec.horizon (r : Rec) : Option Nat :=
  match r.horizonA, r.horizonB with
  | none, b => b
  | a, none => a
  | some a, some b => some (max a b)

/-- Write a new horizon in the copy that holds the earlier one (R182). DEDUCED, log entry 34. -/
def Rec.putHorizon (h : Nat) (r : Rec) : Rec :=
  match r.horizonA, r.horizonB with
  | none, _ => { r with horizonA := some h }
  | some _, none => { r with horizonB := some h }
  | some a, some b => if a ≤ b then { r with horizonA := some h } else { r with horizonB := some h }

/-- The best master clock comparison: lower data sets win, member by member (R188). DEDUCED, log entry 33. -/
def PtpMaster.better (a b : PtpMaster) : Bool :=
  let l := fun (m : PtpMaster) =>
    [m.priority1, m.clockClass, m.accuracy, m.variance, m.priority2, m.identity]
  decide (l a < l b)

end Sys2Proof.Machine
end

