-- ==== Sys2Proof/Machine/CulmCmd.lean ====
section
/-! DEFINITION. Machine/CulmCmd.lean: what the timebase commands do to the state. -/
namespace Sys2Proof.Machine

/-- Change the timebase. -/
def State.onCulm (f : Culm → Culm) (s : State) : State := { s with culm := f s.culm }

/-- Change device time. -/
def State.onTime (f : DevTime → DevTime) (s : State) : State := { s with time := f s.time }

/-- The outcome of a dictionary operation that a command makes by itself. -/
def State.replied (a : Abort) (s : State) : State := { s with zop := { s.zop with reply := a } }

/-- A dictionary transaction that a row of the table names by itself: served only while the service load is in service
(R64), and complete with its checkpoint (R58, R59). -/
def State.answers (f : State → State) (s : State) : State :=
  if s.served .service then (f s).checkpoints else s

/-- A dictionary transaction that is judged and carried out. -/
def State.dict (f : State → Abort × State) (s : State) : State := s.answers fun s => (f s).2.replied (f s).1

/-- The views of the 12 motion axes that motion-derived axes read (R136). -/
def State.motViews (s : State) : List MotView :=
  (List.range 12).map fun k =>
    let c := s.reg (0x601000 + 0x80 * k)
    let m := nth {} s.mot.axes k
    { pos := if bitOf c 30 then nth 0 s.mot.enc (fld c 24 4) else asr m.prof.x 24, homed := m.homed }

/-- The feed-forward of an axis when source `src` `idx` has the output `u` (R139, R205). -/
def Axis.takeAff (src idx : Nat) (u : Int) (a : Axis) : Axis :=
  let w := a.act.aff
  if bitOf w 31 && decide (fld w 30 1 = src) && decide (fld w 16 8 = idx) then
    { a with alphaFf := sat64 (asr (u * sx 16 (fld w 0 16)) (fld w 24 6)) }
  else a

/-- Refresh the acceleration feed-forward of the axes that name a source: slot `idx` (src 0) or motion axis `idx`
(src 1), whose output is now `u` (R139). -/
def State.refreshAff (src idx : Nat) (u : Int) (s : State) : State :=
  s.onCulm fun c => { c with axes := c.axes.map (Axis.takeAff src idx u) }

/-- `CULM_AXk_FILT` (R202). -/
def State.axFilt (s : State) (k : Nat) : Word := s.reg (0x101004 + 0x40 * k)

/-- The shadow constants of axis k (R204). -/
def State.shadowGains (s : State) (k : Nat) : AxGains :=
  { gain := s.reg (0x101008 + 0x40 * k), win := s.reg (0x10100C + 0x40 * k), locktol := s.reg (0x101010 + 0x40 * k),
    aff := s.reg (0x101014 + 0x40 * k), iofs := (List.range 16).map fun j => s.reg (0x102000 + 0x40 * k + 4 * j) }

/-- The axes that have become LOST since the timebase was `c` raise their sources (R194). -/
def State.lostAxes (c : Culm) (s : State) : State :=
  (List.range 24).foldl (fun t k =>
    if (c.ax k).st ≠ .lost ∧ (s.culm.ax k).st = .lost then t.raise (16 + k) else t) s

/-- An armed swap whose axis does not stay LOCKED is cancelled, and raises source 42 (R173, R194). -/
def State.swapLost (s : State) : State :=
  if s.culm.swapArmed && decide ((s.culm.ax s.culm.armAxis).st ≠ .locked) then (s.onCulm (Culm.disarm 4)).raise 42 else s

/-- A COMMIT that waits for an index edge is applied at once on an axis that has left LOCKED (R204, R1051). -/
def State.commitsGo (s : State) : State :=
  let go (p : Axis × Nat) : Axis :=
    if p.1.commit && decide (p.1.st ≠ .locked) then p.1.applyGains (s.shadowGains p.2) else p.1
  s.onCulm fun c => { c with axes := c.axes.zipIdx.map go }

/-- Axes have changed between ticks since the timebase was `c`: the gears follow, a COMMIT that waits on an axis no
longer LOCKED is applied (R204), LOST raises its source, and an
armed swap whose axis has left LOCKED is cancelled (R173, R194, R1177). `corr`: the change is a tracking correction.
-/
def State.afterAxes (c : Culm) (corr : Bool) (s : State) : State :=
  let s1 := (s.onCulm fun x => x.followGears corr).commitsGo
  let s2 := if corr then s1.onCulm c.carried else s1
  (s2.lostAxes c).swapLost

/-- A zero mark of axis k (R133): accepted near a turn boundary, and else a zero-mark fault, which costs the lock. -/
def zeroEdge (k : Nat) (reverse : Bool) (s : State) : State :=
  let a := s.culm.ax k
  if a.zeroNear then s.onCulm (Culm.modAx k fun a => a.zeroMark reverse)
  else if a.st = .locked then (s.onCulm (Culm.modAx k fun a => { a with st := .lost })).afterAxes s.culm false
  else s.raise (16 + k)

/-- An index input pulse passes the glitch filter (R134): `width` in 1/64 tick. With GLITCH at 0 or 1 a pulse shorter
than 2 ns may pass or not: a free value decides. DESIGN CHOICE, log entry 39. -/
def State.glitchPasses (s : State) (k width : Nat) : Bool × State :=
  let g := fld (s.axFilt k) 24 8
  if width < 64 * g then (false, s)
  else if g ≤ 1 ∧ 10 * width < 1024 then (decide (s.fresh % 2 = 1), s.used)
  else (true, s)

/-- INDEX_EDGE: an edge of axis k at step `s6` of the present tick, its pulse width in 1/64 tick, its direction, and
whether it is the zero mark of a quadrature source (R131 to R150). The correction is in force at once: a latency of 0
of the 200 ns that R144 allows. DESIGN CHOICE, log entry 102. -/
def indexEdge (k s6 width : Nat) (reverse zero : Bool) (s0 : State) : State :=
  let a0 := s0.culm.ax k
  if !s0.on .eng || a0.st = .off || a0.source = 0 || a0.source = 7 then s0
  else
    let g := s0.glitchPasses k width
    let s := g.2
    if !g.1 then s
    else if zero then if a0.source = 3 then zeroEdge k reverse s else s
    else
      let a := if a0.commit then a0.applyGains (s.shadowGains k) else a0
      let rev := reverse && decide (a.source = 3)
      let stamp := s.culm.tick * 64 + s6 % 64
      let b := a.edge (s.axFilt k) stamp rev
      let corr := a.corrects && decide (b.lastAcc = stamp) && decide (b.rejects = a.rejects)
      let passed := if corr then
          firings s.culm.activeBank k b.divs b.st a.theta a.high (diff96 b.theta a.theta) true
        else []
      let b' := { b with high := max96 b.high b.theta }
      (s.onCulm fun c => { c.modAx k (fun _ => b') with due := c.due ++ passed }).afterAxes s.culm corr

/-- The expected edge of axis k is missed now (R146). -/
def State.missDue (s : State) (k : Nat) : Bool :=
  s.on .eng && decide ((s.culm.ax k).source ≠ 7) && (s.culm.ax k).missed

/-- A miss of axis k (R146, R148). -/
def indexMiss (k : Nat) (s : State) : State :=
  if s.missDue k then
    (s.onCulm (Culm.modAx k fun x => x.miss (fld (s.axFilt k) 8 4))).afterAxes s.culm false
  else s

/-- Whether a configuration write of axis k is discarded under R129. -/
def State.axisWriteBad (s : State) (k which : Nat) (v : Word) : Bool :=
  let b := (s.culm.ax k).writeCfg which v
  decide (which ≤ 1) &&
    ((decide (which = 0) && axisIllegal { b with vcfg := 0 }) || (decide (which = 1) && decide (fld b.vcfg 30 2 = 3)) ||
     axisIllegal b || gearLoop (modAt s.culm.axes k fun _ => b))

/-- The configuration write of AXIS_CFG_WRITE, once the domain and the mode permit it (R128, R129, R1178). -/
def axisCfgStore (k which : Nat) (v : Word) (s : State) : State :=
  if s.axisWriteBad k which v then
    (s.onCulm (Culm.modAx k fun a => { a with cfgErr := true })).raise (16 + k)
  else
    (s.onCulm (Culm.modAx k fun a => a.reconfigure (a.writeCfg which v))).afterAxes s.culm false

/-- The offsets of the configuration registers of an axis (R1178). -/
def axisCfgOff (k which : Nat) : Nat :=
  0x101000 + 0x40 * k + (match which with | 0 => 0 | 1 => 0x20 | 2 => 0x18 | 3 => 0x1C | _ => 0x24)

/-- AXIS_CFG_WRITE. -/
def axisCfgWrite (k which : Nat) (v : Word) (s : State) : State :=
  s.bar0 (axisCfgOff k which) .fixed (axisCfgStore k which v)

/-- The arm of R172, with the swap point of `CULM_SWAP_ANGLE` and `CULM_SWAP_TURN`. -/
def swapArmStore (axis : Nat) (atTurn : Bool) (s : State) : State :=
  let ang := (s.reg 0x100008).toNat
  let turn := (s.reg 0x10000C).toNat
  let point := (turn * 2 ^ 32 + ang) * 2 ^ 32
  s.onCulm fun c =>
    let c := { c with swapAxis := axis, swapAtTurn := atTurn }
    if c.swapArmed then { c with swapStatus := 6 }
    else if (c.ax axis).st ≠ .locked then { c with swapStatus := 5 }
    else if atTurn ∧ diff96 point (c.ax axis).high ≤ 0 then { c with swapStatus := 7 }
    else { c with swapArmed := true, swapStatus := 1, armAxis := axis, armAtTurn := atTurn, armAngle := ang,
                  armTurn := turn }

/-- SWAP_ARM: a write of `CULM_SWAP` with ARM = 1. AXIS above 23 is out of range: the write is discarded (R1174). -/
def swapArm (axis : Nat) (atTurn : Bool) (s : State) : State :=
  s.bar0 0x100004 .shadow fun s => if 23 < axis then s else swapArmStore axis atTurn s

/-- The cancel of R196. -/
def swapCancelStore (s : State) : State :=
  s.onCulm fun c => if c.swapArmed then c.disarm 3 else c

/-- SWAP_CANCEL. -/
def swapCancel (s : State) : State := s.bar0 0x100004 .shadow swapCancelStore

/-- ENTRY_WRITE: `CULM_ENT_CMD` GO with OP 0; RANGE is judged before STATE_CONFLICT (R165 to R168). -/
def entryWrite (bank index : Nat) (e : TEntry) (s : State) : State :=
  s.bar0 0x100030 .shadow fun s => s.onCulm fun c =>
    let c := { c with ent := e, entCmd := place bank 12 1 ||| place index 0 12 }
    if c.entryBad e then { c with entStatus := 2 }
    else if c.active = bank % 2 ∨ c.swapArmed then { c with entStatus := 3 }
    else { c.setBank (bank % 2) (sput {} e (index % 4096) (c.bank (bank % 2))) with entStatus := 1 }

/-- ENTRY_READ: `CULM_ENT_CMD` GO with OP 1 (R199). -/
def entryRead (bank index : Nat) (s : State) : State :=
  s.bar0 0x100030 .shadow fun s => s.onCulm fun c =>
    { c with ent := sget {} (index % 4096) (c.bank (bank % 2)), entStatus := 1,
             entCmd := place 1 16 1 ||| place bank 12 1 ||| place index 0 12 }

/-- The bank after its first entries have been written. -/
def storeEntries (bs : List Byte) : Nat → Nat → List (Nat × TEntry) → List (Nat × TEntry)
  | 0, _, l => l
  | n + 1, i, l => storeEntries bs n (i + 1) (sput {} (entryAt bs (16 * i)) i l)

/-- The rules of R168 and R211 on a write of OD 2000:10 or OD 2000:11. DEDUCED, log entry 31. -/
def bankStore (bank : Nat) (bs : List Byte) (s : State) : Abort × State :=
  let n := bs.length / 16
  if !s.on .eng then (.stateConflict, s)
  else if bs.length = 0 then (.none, s)
  else if bs.length % 16 ≠ 0 ∨ 65536 < bs.length then (.length, s)
  else if (List.range n).any fun i => s.culm.entryBad (entryAt bs (16 * i)) then (.range, s)
  else if s.culm.active = bank % 2 ∨ s.culm.swapArmed then (.stateConflict, s)
  else (.none, s.onCulm fun c => c.setBank (bank % 2) (storeEntries bs n 0 (c.bank (bank % 2))))

/-- BANK_WRITE: the class of the object, then R168. -/
def bankWrite (bank : Nat) (bs : List Byte) (s : State) : State :=
  s.dict fun s => if s.mayWrite .shadow then bankStore bank bs s else (.stateConflict, s)

/-- The commit of R204 on axis k: at once when the axis is not LOCKED, else at its next index edge. -/
def gainCommitStore (k : Nat) (v : Word) (s : State) : State :=
  let s1 := s.setReg (0x101008 + 0x40 * k) (v &&& 0x1F1F1F00)
  s1.onCulm (Culm.modAx k fun a => if a.st = .locked then { a with commit := true } else a.applyGains (s1.shadowGains k))

/-- GAIN_COMMIT: a write of `CULM_AXk_GAIN` with COMMIT = 1. -/
def gainCommit (k : Nat) (v : Word) (s : State) : State :=
  s.bar0 (0x101008 + 0x40 * k) .shadow (gainCommitStore k v)

/-- A snapshot of every axis (R190). -/
def Culm.snapOf (c : Culm) : List SnapAx :=
  c.axes.map fun a => { frac := fracOf a.theta, turn := turnOf a.theta, vel := velOf a.omega,
                        st := a.st.code + (if a.coast then 4 else 0) }

/-- A snapshot enters the snapshot registers (R190 to R192). -/
def takeSnapshot (s : State) : State :=
  s.onCulm fun c =>
    if c.snapHold then { c with snapDropped := satInc 255 c.snapDropped }
    else { c with snap := c.snapOf, snapTime := s.time.now, snapTstat := s.time.stat.code, snapValid := true,
                  snapSeq := (c.snapSeq + 1) % 65536 }

/-- SNAP_REQ: a write of `CULM_SNAP_CTRL` with REQ = 1; the write also sets HOLD, which is judged as written. -/
def snapReq (hold : Bool) (s : State) : State :=
  s.bar0 0x100060 .any fun s => takeSnapshot (s.onCulm fun c => { c with snapHold := hold })

/-- The bytes of OD 2000:20 (R210). -/
def snapBytes (t : Time) (stat : Nat) (l : List SnapAx) : List Byte :=
  u64le t.toNat ++ [BitVec.ofNat 8 stat] ++ List.replicate 7 0 ++
    l.flatMap fun a => u32le a.frac ++ u32le a.turn ++ u32le (code 32 a.vel) ++ u32le a.st

/-- The snapshot that a read of OD 2000:20 takes (R193). -/
def snapshotTake (s : State) : State :=
  if !s.on .eng then s.replied .stateConflict
  else
    let bytes := snapBytes s.time.now s.time.stat.code s.culm.snapOf
    let s1 := if s.culm.snapHold then s else takeSnapshot s
    { s1 with zop := { s1.zop with reply := .none, replyData := bytes } }

/-- SNAPSHOT_READ: a read of OD 2000:20 (R193). -/
def snapshotRead (s : State) : State := s.answers snapshotTake

/-- AXIS_FRAC_READ: a read of `CULM_AXk_FRAC` latches TURN and VEL (R197). -/
def axisFracRead (k : Nat) (s : State) : State :=
  if !s.on .eng then s.badAccess (0x10102C + 0x40 * k) false 2
  else s.onCulm (Culm.modAx k fun a => { a with latTurn := BitVec.ofNat 32 (turnOf a.theta), latVel := velOf a.omega })

/-! ## Device time -/

/-- DEVICE_TIME_TICK: one crystal cycle (R177), and a new horizon when one is due (R182). -/
def deviceTimeTick (s : State) : State :=
  let t := s.time.cycle
  let d := match horizonDue t.now s.die.horizon with
    | none => s.die
    | some h => s.die.putHorizon h
  { s with time := t, die := d }

/-- A step of device time by `n` ns: source 45 and a TIME_STEP record (R181). -/
def stepTime (n : Nat) (s : State) : State :=
  let before := s.time.now
  let s1 := s.onTime (DevTime.stepBy n)
  let d := match horizonDue s1.time.now s1.die.horizon with
    | none => s1.die
    | some h => s1.die.putHorizon h
  (({ s1 with die := d }).raise 45).glume 4 false 0 (u64le before.toNat ++ u64le s1.time.now.toNat)

/-- A PTP object of OD 2001 as a number, with its default. -/
def State.ptp (s : State) (sub bytes dflt : Nat) : Nat := leNat (s.odGet (0x2001 * 256 + sub) (leBytes bytes dflt))

/-- PTP is enabled (OD 2001:03). -/
def State.ptpOn (s : State) : Bool := decide (s.ptp 3 1 1 = 1)

/-- PTP_SYNC: an accepted Sync with its measured offset from the master, in ns, and the frequency correction that the
PTP discipline sets (R180, R183). A positive offset means that device time is ahead of the master.
DEDUCED, log entry 32. -/
def ptpSync (offset : Int) (rate : Word) (s : State) : State :=
  if !s.ptpOn || s.time.master.isNone || !s.served .service then s
  else
    let asym := sx 32 (s.ptp (if s.time.port = 0 then 0x0B else 0x0C) 4 0)
    let off := offset - asym
    let s1 := s.onTime fun t =>
      { t with offset := off, rate := w32 (clampI (-274877906) 274877906 rate.toInt),
               stat := if off.natAbs ≤ 1000 then .locked else .acquiring }
    if off < 0 ∧ s.ptp 9 4 1000000 < off.natAbs then
      stepTime off.natAbs (s1.onTime fun t => { t with slew := 0 })
    else s1.onTime fun t => { t with slew := -off * (2 ^ 32 : Nat) }

/-- SYNC_TIMEOUT: the last frequency correction is held, and a correction under way is still made by slewing (R180,
R183, R184). -/
def syncTimeout (s : State) : State :=
  if s.time.stat = .acquiring ∨ s.time.stat = .locked then
    (s.onTime fun t => { t with stat := .holdover }).raise 43
  else s

/-- HOLDOVER_LIMIT (R183, R184). -/
def holdoverLimit (s : State) : State :=
  if s.time.stat = .holdover then (s.onTime fun t => { t with stat := .freeRun }).raise 44 else s

/-- TIME_STEP: a write of `CULM_TIME_STEP_HI`, which performs the step of `hi`:`lo` (R187). -/
def timeStep (hi : Word) (s : State) : State :=
  s.bar0 0x1F0014 .mgmt fun s =>
    if s.ptpOn then s
    else
      let n := hi.toNat * 2 ^ 32 + s.time.stepLo.toNat
      let s1 := s.onTime fun t => { t with stepHi := hi }
      if n = 0 then s1 else stepTime n s1

/-- PTP_PORT_FAILOVER: the link of the PTP port has failed (R189). -/
def ptpPortFailover (s : State) : State :=
  if s.on .mgt then s.onTime fun t => { t with port := 1 - t.port, master := none } else s

/-- The controller's own data set (R188): the priorities of OD 2001:0E and OD 2001:0F; the other members are free.
DESIGN CHOICE, log entry 83. -/
def State.ptpOwn (s : State) : PtpMaster :=
  { priority1 := s.ptp 0x0E 1 255, clockClass := Config.ptpOwn 0, accuracy := Config.ptpOwn 1,
    variance := Config.ptpOwn 2, priority2 := s.ptp 0x0F 1 255, identity := Config.ptpOwn 3 }

/-- The clock is master-capable (OD 2001:0D). -/
def State.ptpCapable (s : State) : Bool := decide (s.ptp 0x0D 1 0 = 1)

/-- The clock is the master of its domain, and sends Announce and two-step Sync messages (R188): it is
master-capable, and the best master clock algorithm has selected no other. -/
def State.ptpMaster (s : State) : Bool := s.ptpOn && s.ptpCapable && s.time.master.isNone

/-- PTP_ANNOUNCE: an Announce message of a domain, with the data set of its master (R188). A master-capable clock
that the comparison finds better than the sender follows nobody whom the sender was. -/
def ptpAnnounce (domain : Nat) (m : PtpMaster) (s : State) : State :=
  if !s.ptpOn || !s.served .service || decide (domain ≠ s.ptp 4 1 0) then s
  else if s.ptpCapable && s.ptpOwn.better m then
    s.onTime fun t => if (t.master.map (·.identity)) = some m.identity then { t with master := none } else t
  else
    let take := match s.time.master with
      | none => true
      | some old => m.better old || decide (m.identity = old.identity)
    if take then
      s.onTime fun t => { t with master := some m, stat := if t.stat = .unsync then .acquiring else t.stat }
    else s

end Sys2Proof.Machine
end

