-- ==== Sys2Proof/Machine/EngOps.lean ====
section
/-! DEFINITION. Machine/EngOps.lean: the engine blocks' own named fields and conditions: which outputs act (R72, R237,
R797, R798), which blocks run a loop, and the registers of stations, motion axes, drive units and channels. -/
namespace Sys2Proof.Machine

/-! ## Outputs and modes -/

/-- READY or PRINT, which MODE shows until a transition out of it completes (R90), or a transition to READY: the
condition under which the engine's outputs act (R72, R237, R694, R797). -/
def State.outputsLive (s : State) : Bool :=
  decide (s.sys.mode = .ready) || decide (s.sys.mode = .print) || (s.sys.transit && decide (s.sys.target = .ready))

/-- The outputs act, and no transition out of READY has turned off the heaters, the high voltage and the axes (R94). -/
def State.engineLive (s : State) : Bool := s.outputsLive && decide (s.sys.leave < 3)

/-- The spindle may start: READY or PRINT and no transition out of it, or a transition to READY (R94, R588). -/
def State.spindleLive (s : State) : Bool := s.outputsLive && (!s.sys.transit || decide (s.sys.target = .ready))

/-- A station. -/
def State.st (s : State) (n : Nat) : Station := nth {} s.ls n

/-- Change a station. -/
def State.onLs (n : Nat) (f : Station → Station) (s : State) : State := { s with ls := modAt s.ls n f }

/-- The first offset of a station's registers. -/
def lsBase (n : Nat) : Nat := 0x200000 + n * 0x10000

/-- A plain register of a station. -/
def State.lsReg (s : State) (n off : Nat) : Word := s.reg (lsBase n + off)

/-- Light is permitted on a station (R237). -/
def State.light (s : State) (n : Nat) : Bool :=
  let t := s.st n
  s.on .img && bitOf (s.lsReg n 0) 31 && !t.disable && !t.ilkLatch && !t.ilkLocal && !s.sys.laserOff && !t.calHold &&
    s.outputsLive

/-- APC is enabled on a station (R256). -/
def State.apcEn (s : State) (n : Nat) : Bool := bitOf (s.lsReg n 0x28) 31

/-- The Culm axis of a station's scanner (R288). -/
def State.scanAxis (s : State) (n : Nat) : Nat := fld (s.lsReg n 0) 8 5

/-- The axis that FUS takes for the mains (R842). -/
def State.mainsAxis (s : State) : Nat := fld (s.reg 0x7C0004) 24 5

/-- The Culm spindle axis (R608). -/
def State.spindleAxis (s : State) : Nat := fld (s.reg 0x58000C) 24 5

/-! ## The disk's actuators -/

/-- A plain register of RCH, SRV or SPN. -/
def State.rchReg (s : State) (off : Nat) : Word := s.reg (0x500000 + off)
def State.srvReg (s : State) (off : Nat) : Word := s.reg (0x580000 + off)
def State.spnReg (s : State) (off : Nat) : Word := s.reg (0x5C0000 + off)

/-- The velocity that the head is driven at to the ramp or off it, in 2^-14 pitch per window, inward positive (R553,
R597, R598). -/
def State.headVelocity (s : State) : Int :=
  match s.srv.st with
  | .parking => -(fld (s.srvReg 0x60) 16 16 : Nat)
  | .loading => (fld (s.srvReg 0x60) 0 16 : Nat)
  | _ => 0

/-- The current that the VCM current slot is to hold, in mA: the output of the track-follow slot (R763, R568), or of the
velocity control that drives the head to the ramp or off it, of which the spec gives no rule (R597, R598). DESIGN
CHOICE, log entry 119. -/
def State.vcmRef (s : State) (tf : Int) : Int :=
  match s.srv.st with
  | .parking | .loading => Config.velocityControl s.headVelocity s.free
  | _ => tf

/-- The current of the VCM bridge, in mA, when `ma` would flow (R569): limited to `SRV_VCM_ILIM`, none once the bridge
is open. -/
def State.vcmCurrent (s : State) (ma : Int) : Int :=
  let lim : Int := (s.srvReg 0x58).toNat
  if s.srv.vcmOpen then 0 else clampI (-lim) lim ma

/-- What the spindle stage does with the motor (R588, R589, R593, R595, R599). -/
inductive SpnStage where
  /-- The bridge is open. -/
  | coast
  /-- Inductive pulses find the rotor. -/
  | sense
  /-- Open-loop commutation at START_I. -/
  | ramp
  /-- Commutated drive. -/
  | drive
  /-- Commutated braking. -/
  | brake
  /-- The low sides short the motor. -/
  | short
  /-- Passive rectification for the retract. -/
  | rectify
  deriving DecidableEq, Repr

/-- The stage now. A stop whose observer is not plausible coasts down to BRAKE_RPM (R593, R595 step 7). -/
def State.spnStage (s : State) : SpnStage :=
  if s.ret.running then .rectify
  else match s.spn.st with
    | .stopped | .coast | .catching | .fault => .coast
    | .sense => .sense
    | .ramp => .ramp
    | .accel | .atSpeed => .drive
    | .stopping =>
      if s.spn.rpm < (s.spnReg 0x1C).toNat then .short else if s.spn.plausible then .brake else .coast

/-- The current that the stage applies when the speed slot commands `ma` (R588, R593, R767). -/
def State.spnApplied (s : State) (ma : Int) : Int :=
  match s.spnStage with
  | .drive | .brake => ma
  | .ramp => 10 * (fld (s.spnReg 8) 24 8 : Nat)
  | .coast | .sense | .short | .rectify => 0

/-- The speed of the Culm spindle axis, in thousandths of an rpm (R591). -/
def State.axisMrpm (s : State) : Nat :=
  ((s.culm.ax s.spindleAxis).omega.toNat * 800000000 * 60 * 1000) / 2 ^ 64

/-- The speed of R591, in rpm: with the heads loaded that of the axis, else what the observer gives. -/
def State.spnSpeed (s : State) (observed : Int) : Int :=
  if s.srv.st.loaded then (s.axisMrpm / 1000 : Nat) else observed

/-- The advance of the commutation angle at the observer's speed, in 0.25° electrical (R592). PRESUMED, log
entry 89. -/
def spnAdvanceAt (tbl : List Nat) (rpm : Nat) : Nat :=
  let i := rpm / 625
  if 16 ≤ i then nth 0 tbl 16
  else
    let a : Int := nth 0 tbl i
    let b : Int := nth 0 tbl (i + 1)
    (a + ((b - a) * (rpm % 625 : Nat)).tdiv 625).toNat

/-! ## High voltage and fuser -/

/-- A plain register of an HV channel. -/
def State.hvReg (s : State) (k off : Nat) : Word := s.reg (0x780100 + 0x40 * k + off)

/-- An HV channel. -/
def State.hvCh (s : State) (k : Nat) : HvCh := nth {} s.hv.chans k

/-- Change an HV channel. -/
def State.onHv (k : Nat) (f : HvCh → HvCh) (s : State) : State :=
  { s with hv := { s.hv with chans := modAt s.hv.chans k f } }

/-- An HV channel is enabled (R840). -/
def State.hvEn (s : State) (k : Nat) : Bool := s.on .eng && bitOf (s.hvReg k 0) 31

/-- The output gate of an HV channel is open (R805). -/
def State.hvGate (s : State) (k : Nat) : Bool := if bitOf (s.hvReg k 0) 29 then (s.hvCh k).gate else s.hvEn k

/-- HVk_PWM switches (R797). -/
def State.hvLive (s : State) (k : Nat) : Bool :=
  s.hvEn k && s.engineLive && s.hvGate k && !(s.hvCh k).trip && !(s.hvCh k).fbFault

/-- A plain register of a fuser channel. -/
def State.fusReg (s : State) (k off : Nat) : Word := s.reg (0x7C0100 + 0x20 * k + off)

/-- A plain register of a thermistor. -/
def State.thReg (s : State) (j off : Nat) : Word := s.reg (0x7C0200 + 0x10 * j + off)

/-- A thermistor. -/
def State.th (s : State) (j : Nat) : Th := nth {} s.fus.ths j

/-- A fuser channel is enabled (R843). -/
def State.fusEn (s : State) (k : Nat) : Bool := s.on .eng && bitOf (s.fusReg k 0) 31

/-- The thermistor of a fuser channel (R843). -/
def State.fusTh (s : State) (k : Nat) : Nat := fld (s.fusReg k 0) 24 3

/-- FUSk_TRG may pulse: `FUS_STATUS.HEATING` (R798). -/
def State.fusLive (s : State) (k : Nat) : Bool :=
  s.fusEn k && s.engineLive && !s.cut.set && s.fus.mainsOk && (s.th (s.fusTh k)).valid && !s.fus.inhibit

/-- Change a fuser channel. -/
def State.onFus (k : Nat) (f : FusCh → FusCh) (s : State) : State :=
  { s with fus := { s.fus with chans := modAt s.fus.chans k f } }

/-! ## Drive units and motion axes -/

/-- A plain register of a drive unit. -/
def State.drvReg (s : State) (u off : Nat) : Word := s.reg (0x681000 + 0x80 * u + off)

/-- A drive unit. -/
def State.du (s : State) (u : Nat) : DUnit := nth {} s.drv.units u

/-- Change a drive unit. -/
def State.onDu (u : Nat) (f : DUnit → DUnit) (s : State) : State :=
  { s with drv := { s.drv with units := modAt s.drv.units u f } }

/-- `DRV_Uu_CFG` fields (R745). -/
def State.duEn (s : State) (u : Nat) : Bool := bitOf (s.drvReg u 0) 31
def State.duType (s : State) (u : Nat) : Nat := fld (s.drvReg u 0) 28 3
def State.duSine (s : State) (u : Nat) : Bool := bitOf (s.drvReg u 0) 27 && decide (s.duType u = 1)
def State.duSrc (s : State) (u : Nat) : Nat := fld (s.drvReg u 0) 24 3
def State.duIndex (s : State) (u : Nat) : Nat := fld (s.drvReg u 0) 20 4
def State.duBase (s : State) (u : Nat) : Nat := fld (s.drvReg u 0) 14 6
def State.duPoles (s : State) (u : Nat) : Nat := fld (s.drvReg u 0) 3 4

/-- The number of bridges of a unit (R690). -/
def State.duCount (s : State) (u : Nat) : Nat :=
  match s.duType u with | 1 => 3 | 2 => 4 | 3 => 2 | 4 => 1 | _ => 0

/-- The first Teff slot of a unit (R748). -/
def State.duSlot (s : State) (u : Nat) : Nat := fld (s.drvReg u 0x54) 0 8

/-- The units of which `p` holds. -/
def unitsWhere (p : Nat → Bool) : List Nat := (List.range 24).filter p

/-- The units that serve motion axis k (R693). -/
def State.unitsOfAxis (s : State) (k : Nat) : List Nat :=
  unitsWhere fun u => s.duEn u && decide (s.duSrc u = 1) && decide (s.duIndex u = k)

/-- The units of the polygon of station n (R693). -/
def State.unitsOfStation (s : State) (n : Nat) : List Nat :=
  unitsWhere fun u => s.duEn u && decide (s.duSrc u = 2) && decide (s.duIndex u = n)

/-- A plain register of a motion axis. -/
def State.motReg (s : State) (k off : Nat) : Word := s.reg (0x601000 + 0x80 * k + off)

/-- A motion axis. -/
def State.mx (s : State) (k : Nat) : MAxis := nth {} s.mot.axes k

/-- Change a motion axis. -/
def State.onMx (k : Nat) (f : MAxis → MAxis) (s : State) : State :=
  { s with mot := { s.mot with axes := modAt s.mot.axes k f } }

/-- `MOT_AXk_CFG` fields (R681). -/
def State.mEn (s : State) (k : Nat) : Bool := bitOf (s.motReg k 0) 31
def State.mServo (s : State) (k : Nat) : Bool := bitOf (s.motReg k 0) 30
def State.mEnc (s : State) (k : Nat) : Nat := fld (s.motReg k 0) 24 4
def State.mStep (s : State) (k : Nat) : Nat := fld (s.motReg k 0) 20 4
def State.mInv (s : State) (k : Nat) : Bool := bitOf (s.motReg k 0) 29

/-- The position of an axis in u: the profile of a stepper, the encoder count of a servo (R618). -/
def State.mPos (s : State) (k : Nat) : Int :=
  if s.mServo k then nth 0 s.mot.enc (s.mEnc k) else asr (s.mx k).prof.x 24

/-- The rotor of a unit turns in reverse: its motion axis travels in the negative direction, or with DIR_INV in the
positive one (R681, R706). -/
def State.duReverse (s : State) (u : Nat) : Bool :=
  decide (s.duSrc u = 1) && xor (decide ((s.mx (s.duIndex u)).prof.dir < 0)) (s.mInv (s.duIndex u))

/-- An acceleration of the profile generator in u/s² (R623, R628). -/
def accOf (a : Int) : Int := satS 32 ((a * 640000000000000000).tdiv (2 ^ 64 : Nat))

/-- `MOT_AXk_ACC`: the commanded acceleration in u/s², with the sign of the direction of travel (R628). -/
def State.mAcc (s : State) (k : Nat) : Int := accOf ((s.mx k).prof.dir * (s.mx k).prof.a)

/-- The path axes, the pick axis and the diverter axis (R679). -/
def State.pathAxis (s : State) (k : Nat) : Bool := bitOf (s.reg 0x600008) k
def State.pickAxis (s : State) : Nat := fld (s.reg 0x600008) 28 4
def State.divAxis (s : State) : Nat := fld (s.reg 0x600008) 24 4
def State.divEn (s : State) : Bool := bitOf (s.reg 0x600008) 23

/-- The speed of a Culm axis in 2^-16 turn per second (R138). -/
def axisHz16 (a : Axis) : Int := (a.omega * 52428800000000).tdiv (2 ^ 64 : Nat)

/-- The bus voltage of a VBUS_SNS reading in mV (R726). -/
def vbusOf (sns kdiv : Nat) : Nat := sns * 65536 / kdiv

end Sys2Proof.Machine
end

