-- ==== Sys2Proof/Machine/DrvMath.lean ====
section
/-! DEFINITION. Machine/DrvMath.lean: the arithmetic of the drives: currents (R701 to R703), the rotations of R710,
the observer and its supervision (R713 to R717), phase advance (R708), and the compares (R697, R712). -/
namespace Sys2Proof.Machine

/-- Saturate to S32. -/
def sat32 (x : Int) : Int := satS 32 x

/-- A product of two values with 16 fraction bits (R710). -/
def mul16 (a b : Int) : Int := sat32 (asr (a * b) 16)

/-- The 1,024-point sine table of R710, with 16 fraction bits. -/
def sinPoint (i : Nat) : Int := fullSine quarterSine 256 i

/-- sin of an angle of 2^16 per turn, interpolated linearly (R710). -/
def sin16 (th : Nat) : Int :=
  let i := th % 65536 / 64
  sinPoint i + asr ((sinPoint (i + 1) - sinPoint i) * (th % 64 : Nat)) 6

/-- cos of an angle of 2^16 per turn. -/
def cos16 (th : Nat) : Int := sin16 (th + 16384)

/-- The current in mA of the sum of `n` conversion codes (R701, R702): `gain` is G, `rsh` in mΩ. A shunt of 0 mΩ has
no current that the spec states: `free` is taken. DESIGN CHOICE, log entry 46. -/
def shuntMa (sum : Int) (n : Nat) (ofs : Int) (gain rsh : Nat) (free : Int) : Int :=
  if n = 0 ∨ rsh = 0 then free
  else ((sum - (2048 + ofs) * n) * 2400000).tdiv ((4096 * gain * rsh * n : Nat) : Int)

/-- The gain G of `DRV_Uu_SHUNT` (R748). -/
def gainOf (w : Word) : Nat := match fld w 30 2 with | 0 => 5 | 1 => 10 | 2 => 20 | _ => 40

/-- NS of `DRV_Uu_SHUNT` (R748). -/
def nsOf (w : Word) : Nat := 2 ^ fld w 28 2

/-- i_al and i_be of the phase currents in mA, with 16 fraction bits (R710). -/
def clarke (iu iv : Int) : Int × Int :=
  (sat32 (iu * 65536), mul16 (sat32 ((iu + 2 * iv) * 65536)) 37837)

/-- i_d and i_q (R710). -/
def parkOf (al be : Int) (th : Nat) : Int × Int :=
  (sat32 (mul16 al (cos16 th) + mul16 be (sin16 th)), sat32 (mul16 be (cos16 th) - mul16 al (sin16 th)))

/-- v_al and v_be of v_d and v_q in mV (R710). -/
def invPark (vd vq : Int) (th : Nat) : Int × Int :=
  let d := sat32 (vd * 65536)
  let q := sat32 (vq * 65536)
  (sat32 (mul16 d (cos16 th) - mul16 q (sin16 th)), sat32 (mul16 d (sin16 th) + mul16 q (cos16 th)))

/-- The three phase voltages (R710). -/
def phasesOf (al be : Int) : List Int :=
  [al, sat32 (-(al.tdiv 2) + mul16 be 56756), sat32 (-(al.tdiv 2) - mul16 be 56756)]

/-- The compares of a sinusoidal unit (R710); with no bus voltage the spec states none: for each phase a digit of
`free` is taken. DESIGN CHOICE, log entry 46. -/
def sineCmp (v : List Int) (per vbus free : Nat) : List Nat :=
  let hi := v.foldl max (nth 0 v 0)
  let lo := v.foldl min (nth 0 v 0)
  let mid := (hi + lo).tdiv 2
  v.zipIdx.map fun (x, i) =>
    if vbus = 0 then free / (per + 1) ^ i % (per + 1)
    else (clampI 0 per (((per / 2 : Nat) : Int) + ((x - mid) * per).tdiv ((vbus * 65536 : Nat) : Int))).toNat

/-- The two compares of a winding at a duty in 2^-30 (R712, R767). -/
def windingCmp (per : Nat) (d : Int) : List Nat :=
  let x := clampI (-1073741824) 1073741824 d
  [((per : Int) * (1073741824 + x) / 2147483648).toNat, ((per : Int) * (1073741824 - x) / 2147483648).toNat]

/-- The phases of a sector: positive, negative and floating (R706). -/
def sectorPhases : Nat → Nat × Nat × Nat
  | 0 => (0, 1, 2) | 1 => (0, 2, 1) | 2 => (1, 2, 0) | 3 => (1, 0, 2) | 4 => (2, 0, 1) | _ => (2, 1, 0)

/-- The compares of a six-step unit: the output of the current slot in 2^-30 on the positive phase, and the low side
held on at the negative one (R706, R767). -/
def sixCmp (sector per : Nat) (d : Int) : List Nat :=
  let p := sectorPhases sector
  let c := ((per : Int) * clampI 0 1073741824 d / 1073741824).toNat
  (List.range 3).map fun i => if i = p.1 then c else 0

/-- KE × ω in mV with 16 fraction bits, of a speed in 2^-16 electrical Hz (R713, R715). -/
def keOmega (ke : Nat) (w : Int) : Int := sat32 ((ke * w * 411775).tdiv (1000 * 65536))

/-- What the gates of one half-bridge do in a PWM period, in ticks from a valley of the counter (R695 to R697). -/
inductive Gates where
  /-- Both gates float: ANA is off. -/
  | floating
  /-- Both gates are low. -/
  | off
  /-- One side is held on. -/
  | lowHeld
  | highHeld
  /-- Only one side switches; for the other one no time is left between the dead times. -/
  | lowOnly (lowOff lowOn : Nat)
  | highOnly (highOn highOff : Nat)
  /-- Both sides switch: when the low side turns off, the high side on and off, and the low side on again. -/
  | edges (lowOff highOn highOff lowOn : Nat)
  deriving DecidableEq, Repr

/-- The gates of a compare (R697): the counter passes PER − CMP at PER − CMP on its way up and at PER + CMP on its
way down; each gate turns off there and turns on DT after the other one, at least 16 ticks after it; a gate whose
time to turn on comes no sooner than its time to turn off stays off, so that both are never on (R698). -/
def gatesOf (per dt cmp : Nat) : Gates :=
  let d := max 16 dt
  if cmp = 0 then .lowHeld
  else if per ≤ cmp then .highHeld
  else if 2 * cmp ≤ d then .lowOnly (per - cmp) (per + cmp + d)
  else if 2 * (per - cmp) ≤ d then .highOnly (per - cmp + d) (per + cmp)
  else .edges (per - cmp) (per - cmp + d) (per + cmp) (per + cmp + d)

/-- The ticks per period for which the high side, or the low side, is on (R697). -/
def Gates.highTicks (per : Nat) : Gates → Nat
  | .floating | .off | .lowHeld | .lowOnly _ _ => 0
  | .highHeld => 2 * per
  | .highOnly b c => c - b
  | .edges _ b c _ => c - b
def Gates.lowTicks (per : Nat) : Gates → Nat
  | .floating | .off | .highHeld | .highOnly _ _ => 0
  | .lowHeld => 2 * per
  | .lowOnly a d => 2 * per + a - d
  | .edges a _ _ d => 2 * per + a - d

/-- Where the edge of a compare falls that arrives `now` ticks after a valley: at the next matching count (R699). -/
def nextEdge (per cmp now : Nat) : Nat :=
  if now ≤ per - cmp then per - cmp else if now ≤ per + cmp then per + cmp else 3 * per - cmp

/-- The PWM counter c `now` ticks after a valley: up to PER, and back to 0 (R696). -/
def pwmCount (per now : Nat) : Nat := let x := now % (2 * per); if x ≤ per then x else 2 * per - x

/-- HANDOVER in 2^-16 electrical Hz (R748). -/
def handover16 (start : Word) : Int := ((fld start 0 10 * 10 * 65536 : Nat) : Int)

/-- One step of the sinusoidal observer (R713), with the model `r` mΩ, `l` 0.1 µH and `ke`, and the shifts of `obs`. A
divisor of 0 has no quotient that the spec states: `free` is taken. -/
def DUnit.observe (d : DUnit) (al be val vbe : Int) (r l ke : Nat) (obs : Word) (per : Nat) (start : Word)
    (free : Int) : DUnit :=
  let kf := fld obs 24 8
  let kp := fld obs 16 8
  let ki := fld obs 8 8
  let emf (v i i0 : Int) : Int := sat32 (v - (r * i).tdiv 1000 - (40 * l * (i - i0)).tdiv per)
  let ea := sat32 (d.ea + asr (emf val al d.iAl - d.ea) kf)
  let eb := sat32 (d.eb + asr (emf vbe be d.iBe - d.eb) kf)
  let mag : Int := sat32 (((ea * ea + eb * eb).toNat.sqrt : Nat) : Int)
  let emin := (keOmega ke (handover16 start)).tdiv 64
  let th := d.theta / 65536
  let den := max mag emin
  let eps := if den ≤ 0 then sat32 free else
    sat32 ((sat32 (-(mul16 ea (cos16 th)) - mul16 eb (sin16 th)) * 65536).tdiv den)
  let w := sat32 (d.omega + asr eps ki)
  let th' := (d.theta + (w * per * 65536).tdiv 400000000 + asr eps kp) % 4294967296
  { d with ea := ea, eb := eb, mag := mag, eps := eps, omega := w, theta := th'.toNat,
           iAl := al, iBe := be, vAl := val, vBe := vbe }

/-- T_60, the mean of the last two intervals between zero crossings, in ticks (R707). -/
def DUnit.t60 (d : DUnit) : Nat :=
  match d.zcInt with
  | [] => 0
  | [a] => a
  | a :: b :: _ => (a + b) / 2

/-- A speed with the sign of the rotation. -/
def signed (reverse : Bool) (w : Int) : Int := if reverse then -w else w

/-- The six-step speed in 2^-16 electrical Hz: 60° / T_60 (R714). -/
def sixOmega (t60 : Nat) : Int := if t60 = 0 then 0 else ((800000000 * 65536 / (6 * t60) : Nat) : Int)

/-- The six-step angle with 16 fraction bits: the sector, and the elapsed part of T_60 (R714). -/
def sixTheta (sector elapsed t60 : Nat) : Nat :=
  let f := if t60 = 0 then 0 else min elapsed t60 * 715827882 / t60
  (sector * 715827882 + f) % 4294967296

/-- The phase advance in 0.25° electrical at a speed in 2^-16 electrical Hz (R708). DESIGN CHOICE, log entry 49. -/
def advanceAt (tbl : List Nat) (step : Nat) (w : Int) : Nat :=
  let f := w.natAbs
  let unit := step * 10 * 65536
  if unit = 0 then nth 0 tbl 16
  else
    let i := f / unit
    if 16 ≤ i then nth 0 tbl 16
    else
      let a : Int := nth 0 tbl i
      let b : Int := nth 0 tbl (i + 1)
      (a + ((b - a) * (f % unit : Nat)).tdiv unit).toNat

/-- The checks P1 to P5 that fail in this period (R715). `axis` is the speed of the Culm axis in 2^-16 Hz, when P4
applies. -/
def DUnit.checks (d : DUnit) (sine : Bool) (w0 : Int) (ke : Nat) (obs plaus plaus2 : Word) (axis : Option Int)
    (poles : Nat) : List Bool :=
  let e := keOmega ke (d.omega.natAbs : Int)
  let p1 := sine && decide ((fld plaus 16 8 : Int) * e < 100 * ((d.mag - e).natAbs : Int))
  let p2 := sine && decide (((fld obs 0 8 * 65536 : Nat) : Int) < 256 * (d.eps.natAbs : Int))
  let p3 := decide (fld plaus2 16 16 * 65536 < (d.omega - w0).natAbs)
  let p4 := match axis with
    | none => false
    | some a => decide ((fld plaus2 8 8 : Int) * (a.natAbs : Int) * poles <
        1000 * ((d.omega - a * poles).natAbs : Int))
  let p5 := !sine && d.zcBad
  [p1, p2, p3, p4, p5]

/-- The supervision of one period (R717). -/
def DUnit.supervise (d : DUnit) (fails : List Bool) (n : Nat) : DUnit :=
  let rows := (List.zip d.failRow fails).map fun p => if p.2 then satInc 255 p.1 else 0
  let pass := if fails.any id then 0 else satInc 65535 d.passRow
  { d with failRow := rows, passRow := pass,
           plausible := if rows.any fun r => decide (n ≤ r) then false
             else if n ≤ pass then true else d.plausible }

/-- The mechanical speed in rpm (R716). -/
def rpmOf (w : Int) (poles : Nat) : Int := if poles = 0 then 0 else (w * 60).tdiv ((poles * 65536 : Nat) : Int)

/-- Milliseconds since the attempt began. -/
def DUnit.ms (d : DUnit) : Nat := d.clock / 800000

/-- The length of SENSE in ms (R719 step 1). -/
def senseMs (start : Word) : Nat := if bitOf start 31 then 100 else 5

/-- The open-loop frequency of RAMP in 2^-16 electrical Hz (R719 step 2): RAMP_RATE per ms from the end of SENSE. -/
def DUnit.rampOmega (d : DUnit) (start ramp : Word) : Int :=
  ((fld ramp 0 16 * (d.clock - senseMs start * 800000) * 65536 / 800000 : Nat) : Int)

/-- The open-loop angle of RAMP in 2^-32 turn, from the sensed sector (R719 step 2). -/
def DUnit.rampTheta (d : DUnit) (start ramp : Word) (reverse : Bool) : Nat :=
  let t := d.clock - senseMs start * 800000
  let turned := fld ramp 0 16 * t * t * 4294967296 / (2 * 800000 * 800000 * 1000) % 4294967296
  (d.sector0 * 715827882 + if reverse then 4294967296 - turned else turned) % 4294967296

/-- The angle of the commutation: open loop in SENSE and RAMP, then the observer's (R710, R719). -/
def State.duTheta (s : State) (u : Nat) : Nat :=
  let d := s.du u
  match d.st with
  | .sense => d.sector0 * 715827882
  | .ramp => d.rampTheta (s.drvReg u 0x20) (s.drvReg u 0x24) (s.duReverse u)
  | _ => d.theta

/-- The speed of a unit that its speed slot takes, in rpm (R716). -/
def State.duRpm (s : State) (u : Nat) : Int :=
  let a := s.culm.ax (fld (s.drvReg u 0) 7 5)
  if bitOf (s.drvReg u 0) 12 && decide (a.st = .locked) then (axisHz16 a * 60).tdiv 65536
  else rpmOf (s.du u).omega (s.duPoles u)

/-- S(i) of a microstep table (R639). -/
def stepVal (tbl : List Nat) (i : Nat) : Int := if i = 256 then 4095 else (tbl.getD i 0 : Nat)

/-- The coil references of a stepper axis in 1/4095 (R640). -/
def coilRefs (tbl : List Nat) (pos : Int) (mstep : Nat) : Int × Int :=
  let e := (pos * (2 ^ (8 - mstep) : Nat) % 1024).toNat
  let i := e % 256
  match e / 256 with
  | 0 => (stepVal tbl (256 - i), stepVal tbl i)
  | 1 => (-(stepVal tbl i), stepVal tbl (256 - i))
  | 2 => (-(stepVal tbl (256 - i)), -(stepVal tbl i))
  | _ => (stepVal tbl i, -(stepVal tbl (256 - i)))

end Sys2Proof.Machine
end

