-- ==== Sys2Proof/Machine/TeffOps.lean ====
section
/-! DEFINITION. Machine/TeffOps.lean: the loop engine: bindings (R763), enabled slots, inputs and destinations
(R766, R767), triggers (R758), the update (R769 to R774), and lanes (R779 to R783). -/
namespace Sys2Proof.Machine

/-! ## Bindings -/

/-- What binds a slot (R763). -/
inductive Bind where
  | apc (n b : Nat) | tf | vc | spn | drv (u j : Nat) | servo (k : Nat) | hv (k : Nat) | fus (k : Nat)
  deriving DecidableEq, Repr

/-- The slots that the blocks bind, each with its binding (R763). -/
def State.binds (s : State) : List (Nat × Bind) :=
  let t := s.reg 0x58000C
  ((List.range 4).flatMap fun n =>
      (List.range 16).map fun b => (16 * fld (s.lsReg n 0x2C) 24 4 + b, Bind.apc n b)) ++
    [(fld t 16 8, .tf), (fld t 8 8, .vc), (fld (s.reg 0x5C000C) 8 8, .spn)] ++
    ((List.range 24).flatMap fun u => (List.range 3).map fun j => ((s.duSlot u + j) % 256, Bind.drv u j)) ++
    (((List.range 12).filter fun k => s.mServo k).map fun k => (fld (s.motReg k 0) 8 8, Bind.servo k)) ++
    ((List.range 16).map fun k => (64 + k, Bind.hv k)) ++ ((List.range 4).map fun k => (80 + k, Bind.fus k))

/-- The binding of a slot, none for an unbound one. -/
def State.bindOf (s : State) (n : Nat) : Option Bind := find? n s.binds

/-- A slot. -/
def State.ts (s : State) (n : Nat) : TSlot := nth {} s.teff.slots n

/-- Change a slot. -/
def State.onTs (n : Nat) (f : TSlot → TSlot) (s : State) : State :=
  { s with teff := { s.teff with slots := modAt s.teff.slots n f } }

/-- The drive unit uses its slot j (R710, R711). -/
def State.duUses (s : State) (u j : Nat) : Bool :=
  match s.duType u with
  | 1 => if s.duSine u then true else decide (j = 0 ∨ j = 2)
  | 2 => decide (j < 2)
  | 3 => decide (j = 0) || (decide (j = 2) && decide (s.duSrc u = 0))
  | _ => false

/-- The block runs the loop: EN of a bound slot (R764). -/
def State.bindRuns (s : State) : Bind → Bool
  | .apc n _ => s.on .img && s.apcEn n && !(s.st n).disable
  | .tf | .vc => s.on .dsk && s.srv.st.loaded
  | .spn => s.on .dsk && decide (s.spn.st = .accel ∨ s.spn.st = .atSpeed ∨ s.spn.st = .stopping)
  | .drv u j => s.duEn u && s.duUses u j && decide (s.duSrc u ≠ 3) &&
      (decide ((s.du u).st = .ramp ∨ (s.du u).st = .run ∨ (s.du u).st = .catching) ||
        (decide ((s.du u).st = .sense) && bitOf (s.drvReg u 0x20) 31))
  | .servo k => decide ((s.mx k).st ≠ .disabled)
  | .hv k => s.hvEn k
  | .fus k => s.fusEn k

/-- A slot is enabled. -/
def State.slotOn (s : State) (n : Nat) : Bool :=
  s.on .eng && (match s.bindOf n with
    | some b => s.bindRuns b
    | none => bitOf (s.ts n).cfg 31)

/-- Enabled slots on a lane: `TEFF_LANEl` (R792). -/
def State.laneLoad (s : State) (l : Nat) : Nat :=
  ((List.range 256).filter fun n => decide ((s.ts n).lane = l) && s.slotOn n).length

/-- All enabled slots (R755). -/
def State.slotsOn (s : State) : Nat := ((List.range 256).filter fun n => s.slotOn n).length

/-- `TEFF_SLs_SRC` (R789). -/
def State.srcReg (s : State) (n : Nat) : Word := s.reg (0x701004 + 0x40 * n)

/-- The destination of a slot: kind and index (R763, R767). -/
def State.destOf (s : State) (n : Nat) : Nat × Nat :=
  match s.bindOf n with
  | some (.apc m b) => (1, 16 * m + b)
  | some .tf => (0, 0)
  | some .vc => (5, 0)
  | some .spn => (6, 0)
  | some (.drv u j) => (4, 4 * u + j)
  | some (.servo k) => (7, k)
  | some (.hv k) => (2, k)
  | some (.fus k) => (3, k)
  | none => (fld (s.srcReg n) 11 4, fld (s.srcReg n) 4 7)

/-- The coil reference of a stepper unit's slot j, in mA (R711). -/
def State.coilRef (s : State) (u j : Nat) : Int :=
  let k := s.duIndex u
  let m := s.mx k
  let c := coilRefs (nth [] m.tbls (fld (s.motReg k 0) 19 1)) (if s.mInv k then -(s.mPos k) else s.mPos k) (s.mStep k)
  let v := if j = 0 then c.1 else c.2
  let scale := if m.holding then fld (s.motReg k 0x40) 16 12 else fld (s.motReg k 0x40) 0 12
  sat32 ((v * scale * s32 (s.drvReg u 0x4C)).tdiv (4095 * 4095))

/-- The setpoint of a unit's speed slot, in rpm (R693). -/
def State.duSet (s : State) (u : Nat) : Nat :=
  match s.duSrc u with
  | 0 => fld (s.drvReg u 0x14) 0 16
  | 2 => (s.lsReg (s.duIndex u % 4) 0x24).toNat / 65536
  | _ => 0

/-- The reference of a slot at the start of its update (R760, R763). -/
def State.refOf (s : State) (n : Nat) : Int :=
  match s.bindOf n with
  | some (.apc m b) => (fld (s.lsReg m (0x180 + 4 * b)) 0 12 : Nat)
  | some .tf => s.srv.err
  | some .vc => s.vcmRef (s.ts (fld (s.reg 0x58000C) 16 8)).u
  | some .spn => (s.spn.rpmSet : Nat)
  | some (.drv u j) =>
    if j = 2 then (s.duSet u : Nat)
    else if s.duType u = 2 then s.coilRef u j
    else if j = 1 then s32 (s.drvReg u 0x4C)
    else if (s.du u).st = .ramp ∨ (s.du u).st = .sense then (fld (s.drvReg u 0x20) 10 10 * 10 : Nat)
    else if (s.du u).st = .catching then 0
    else if s.duSrc u = 1 then (s.du u).axisRef
    else (s.ts ((s.duSlot u + 2) % 256)).u
  | some (.servo k) => asr (s.mx k).prof.x 24
  | some (.hv k) => (s.hvCh k).r
  | some (.fus k) => s32 (s.fusReg k 4)
  | none =>
    if fld (s.srcReg n) 30 2 = 1 then (s.ts (fld (s.ts n).cfg 0 8)).u else s32 (s.reg (0x70100C + 0x40 * n))

/-- The live value of a feedback source that the state holds (R766); the pins AIN and HV_FB give `pin`. -/
def State.fbOf (s : State) (kind idx : Nat) (pin : Int) : Int :=
  match kind with
  | 2 => ((nth {} s.thm.chans idx).code : Nat)
  | 3 => (s.th idx).t
  | 5 => nth 0 s.mot.enc idx
  | 6 => velOf (s.culm.ax idx).omega
  | _ => pin

/-- The acceleration that a seek profile commands, in 2^-14 pitch per window², towards higher turns positive, cut to a
whole number (R570, R623). DESIGN CHOICE, log entry 120. -/
def Profile.pitchAcc (p : Profile) : Int := p.dir * (p.a * 100000000).tdiv (9 * 2 ^ 64)

/-- The feed-forward of a slot (R763, R766): 0 for a source that is not selected. -/
def State.ffOf (s : State) (n : Nat) : Int :=
  match s.bindOf n with
  | some .vc => sat32 (s.srv.prof.pitchAcc * s32 (s.reg 0x58005C))
  | some (.servo k) => s.mAcc k
  | _ =>
    let w := s.srcReg n
    match fld w 20 2 with
    | 1 => (s.drv.vbus : Nat)
    | 2 => ((nth {} s.thm.chans (fld w 15 5)).code : Nat)
    | 3 => s.mAcc (fld w 15 5)
    | _ => 0

/-- The destination holds its output inactive (R770). -/
def State.destFrozen (s : State) (kind idx : Nat) : Bool :=
  match kind with
  | 1 => !s.light (idx / 16)
  | 2 => !s.hvLive idx
  | 3 => !s.fusLive idx
  | 4 => decide ((s.du (idx / 4)).st ≠ .run)
  | 5 => s.srv.vcmOpen || !s.srv.st.loaded
  | 6 => decide (s.spnStage ≠ .drive) && decide (s.spnStage ≠ .brake)
  | 7 => (s.unitsOfAxis idx).any fun u => decide ((s.du u).st ≠ .run)
  | _ => false

/-! ## Destinations -/

/-- The compares of a unit from its inputs (R706, R710, R712). -/
def State.duCmp (s : State) (u : Nat) : List Nat :=
  let d := s.du u
  let per := fld (s.drvReg u 4) 16 15
  match s.duType u with
  | 1 =>
    if s.duSine u then
      let v := invPark (nth 0 d.input 1) (nth 0 d.input 0) (s.duTheta u / 65536)
      sineCmp (phasesOf v.1 v.2) per s.drv.vbus s.fresh
    else sixCmp d.sector per (nth 0 d.input 0)
  | 2 => windingCmp per (nth 0 d.input 0) ++ windingCmp per (nth 0 d.input 1)
  | 3 => if s.duSrc u = 3 then windingCmp per (((fld (s.drvReg u 0x58) 0 16 : Nat) : Int) * 16384)
         else windingCmp per (nth 0 d.input 0)
  | 4 => [per * fld (s.drvReg u 0x58) 0 16 / 65536]
  | _ => []

/-- A unit takes the compares of its inputs at once: a switching point that the counter has passed comes at the next
matching count (R699). -/
def State.putCmp (u : Nat) (s : State) : State :=
  let c := s.duCmp u
  let per := fld (s.drvReg u 4) 16 15
  let s1 := if s.duSine u && decide (s.drv.vbus = 0) then s.used else s
  s1.onDu u fun d =>
    let now := (s.culm.tick - d.valley) % (2 * per)
    let cmp := c ++ d.cmp.drop c.length
    { d with cmp := cmp, nextAt := cmp.map fun x => s.culm.tick - now + nextEdge per x now }

/-- The output opposes the rotation, which REGEN_INH clamps to 0 (R732). -/
def State.regenClamp (s : State) (u : Nat) (v : Int) : Int :=
  let w := (s.du u).omega
  if s.drv.regenInh && (decide (0 < w ∧ v < 0) || decide (w < 0 ∧ 0 < v)) then 0 else v

/-- Write u to a destination (R767). The flag is DSAT. -/
def State.drive (s : State) (kind idx : Nat) (v : Int) : State × Bool :=
  match kind with
  | 1 =>
    let x := (clampI 0 4095 v).toNat
    (s.onLs (idx / 16) fun t => { t with beams := modAt t.beams (idx % 16) fun b => { b with mod := x } },
      decide ((x : Int) ≠ v))
  | 2 => (s.onHv idx fun c => { c with u := clampI 0 65535 v }, decide (clampI 0 65535 v ≠ v))
  | 3 => (s.onFus idx fun c => { c with u := (clampI 0 65535 v).toNat }, decide (clampI 0 65535 v ≠ v))
  | 4 =>
    let u := idx / 4
    let x := s.regenClamp u v
    ((s.onDu u fun d => { d with input := modAt d.input (idx % 4) fun _ => x }).putCmp u, false)
  | 5 => ({ s with srv := { s.srv with vcm := if s.srv.vcmOpen then 0 else clampI (-32768) 32767 v } },
      decide (clampI (-32768) 32767 v ≠ v))
  | 6 => ({ s with spn := { s.spn with current := s.spnApplied (clampI (-2000) 2000 v) } }, decide (clampI (-2000) 2000 v ≠ v))
  | 7 => ((s.unitsOfAxis idx).foldl (fun t u => t.onDu u fun d =>
      { d with axisRef := t.regenClamp u (if s.mInv idx then -v else v) }) s, false)
  | _ => (s, false)

/-! ## The update -/

/-- The coefficient words as numbers (R792). -/
structure Coef where
  kp : Int
  ki : Int
  kd : Int
  kn : Int
  kf : Int
  sp : Nat
  si : Nat
  sd : Nat
  sn : Nat
  sf : Nat
  hi : Int
  lo : Int
  mg : Int
  smg : Nat
  skm : Nat
  mo : Int
  mtol : Nat
  deriving DecidableEq, Repr

/-- The coefficients of ten words (R792). -/
def coefOf (l : List Word) : Coef :=
  let w := fun i => nth 0 l i
  { kp := s32 (w 0), ki := s32 (w 1), kd := s32 (w 2), kn := s32 (w 3), kf := s32 (w 4),
    sp := fld (w 5) 0 5, si := fld (w 5) 5 5, sd := fld (w 5) 10 5, sn := fld (w 5) 15 5, sf := fld (w 5) 20 5,
    hi := s32 (w 6), lo := s32 (w 7), mg := sx 16 (fld (w 8) 16 16), smg := fld (w 8) 8 5, skm := fld (w 8) 0 5,
    mo := sx 16 (fld (w 9) 16 16), mtol := fld (w 9) 0 16 }

/-- The restart of R771 before an update. -/
def TSlot.restarted (t : TSlot) (c : Coef) (r y : Int) : TSlot :=
  if t.restart then
    { t with i := clampI c.lo c.hi t.u, d := 0, e1 := r - y, y1 := y, yh := y, restart := false }
  else t

/-- The model check of R769: the new yh, and bad. -/
def TSlot.model (t : TSlot) (c : Coef) (y : Int) : Int × Bool :=
  let yh := sat32 (t.yh + asr (sat32 (asr (c.mg * t.u) c.smg) + c.mo - t.yh) c.skm)
  (yh, decide (c.mtol < (y - yh).natAbs))

/-- The voltage and acceleration feed-forward of R769 on v; with a divisor of 0 the spec states no quotient: `free`. -/
def feedForward (ff : Nat) (c : Coef) (v f free : Int) : Int :=
  let v2 := if ff = 2 then v + sat32 (asr (c.kf * f) c.sf) else v
  if ff = 1 then
    let m := max f (asr c.kf 2)
    if m = 0 then free else (v2 * c.kf).tdiv m
  else v2

/-- The PID of R769, from the restarted slot: reference r, feedback y, feed-forward f. -/
def TSlot.pid (t : TSlot) (c : Coef) (r y f : Int) (frozen : Bool) (free : Int) : TSlot :=
  let e := sat32 (r - y)
  let p := sat32 (asr (c.kp * e) c.sp)
  let dx := if bitOf t.cfg 25 then sat32 (t.y1 - y) else sat32 (e - t.e1)
  let dr := sat32 (asr (c.kd * dx) c.sd)
  let d := sat32 (t.d + asr ((dr - t.d) * c.kn) c.sn)
  let inc := sat32 (asr (c.ki * e) c.si)
  let i := if !frozen && !(t.satHi && decide (0 < inc)) && !(t.satLo && decide (inc < 0))
    then clampI c.lo c.hi (t.i + inc) else t.i
  let v := feedForward (fld t.cfg 23 2) c (p + i + d) f free
  { t with i := i, d := d, e1 := e, y1 := y, u := clampI c.lo c.hi v, f := f,
           satHi := decide (c.hi < v), satLo := decide (v < c.lo) }

/-- One whole update of a slot (R769 to R772), without its output. -/
def TSlot.update (t : TSlot) (r y f : Int) (frozen : Bool) (free : Int) : TSlot :=
  let c := coefOf t.coef
  let t1 := t.restarted c r y
  let m := t1.model c y
  let t2 := { t1 with yh := m.1 }.pid c r y f frozen free
  { t2 with badRow := if m.2 then satInc 255 t.badRow else 0, goodRow := if m.2 then 0 else satInc 255 t.goodRow,
            staleRow := 0 }

/-- The consequence of the model check on PLAUS_FAIL, HOLD and the output (R772). The flag tells a new failure. -/
def TSlot.judge (t : TSlot) : TSlot × Bool :=
  let mn := fld t.cfg 16 4
  let c := coefOf t.coef
  if mn = 0 then (t, false)
  else if decide (mn ≤ t.badRow) && !t.plausFail then
    let t1 := { t with plausFail := true }
    (match fld t.cfg 21 2 with
      | 1 => { t1 with cfg := t1.cfg ||| place 1 30 1 }
      | 2 => { t1 with cfg := t1.cfg ||| place 1 30 1, u := clampI c.lo c.hi 0 }
      | _ => t1, true)
  else if mn ≤ t.goodRow then ({ t with plausFail := false }, false)
  else (t, false)

/-- A stale update (R773). -/
def State.staleUpdate (n : Nat) (s : State) : State :=
  let t := s.ts n
  let row := satInc 255 t.staleRow
  let lim := decide (fld t.cfg 8 8 ≠ 0) && decide (row = fld t.cfg 8 8)
  let s1 := s.onTs n fun t => { t with stale := satInc 65535 t.stale, staleRow := row,
                                       staleLim := t.staleLim || lim }
  if lim then s1.raise 184 else s1

/-- A beam's slot output has reached an end of its modulation DAC (R254). -/
def State.apcSat (s : State) (n : Nat) (dsat : Bool) : Bool :=
  let t := s.ts n
  let c := coefOf t.coef
  dsat || (t.satHi && decide (4095 ≤ c.hi)) || (t.satLo && decide (c.lo ≤ 0))

/-- The output of an update reaches its destination; an APC slot that saturates raises its station's APC fault
(R254, R767), and its SAT stays. DESIGN CHOICE, log entry 112. -/
def State.emit (n : Nat) (s : State) : State :=
  let dst := s.destOf n
  let w := s.drive dst.1 dst.2 (s.ts n).u
  let s1 := w.1.onTs n fun t => { t with dsat := w.2 }
  match s.bindOf n with
  | some (.apc m b) =>
    if s1.apcSat n w.2 then
      (s1.onLs m fun t => { t with beams := modAt t.beams b fun x => { x with sat := true, satSince := true } }).raise
        (50 + 8 * m)
    else s1
  | _ => s1

/-- An HV channel's reference moves towards SET by at most RAMP (R804). -/
def rampTo (r set : Int) (ramp : Nat) : Int := if ramp = 0 then set else r + clampI (-(ramp : Int)) ramp (set - r)

/-- What a binding does at the start of its slot's update: the ramp of an HV channel (R804). -/
def State.beforeUpdate (n : Nat) (s : State) : State :=
  match s.bindOf n with
  | some (.hv k) => s.onHv k fun c => { c with r := rampTo c.r (s32 (s.hvReg k 4)) (s.hvReg k 8).toNat }
  | _ => s

/-- An update that is neither skipped nor stale (R769); a Culm axis that names the slot takes its feed-forward
(R768). DESIGN CHOICE, log entry 47. -/
def State.runUpdate (n : Nat) (p : Pend) (s0 : State) : State :=
  let s := s0.beforeUpdate n
  let dst := s.destOf n
  let t := s.ts n
  let c := coefOf t.coef
  let openDiv := decide (fld t.cfg 23 2 = 1) && decide (max p.f (asr c.kf 2) = 0)
  let j := (t.update (s.refOf n) p.y p.f (s.destFrozen dst.1 dst.2) (sx 32 s.fresh)).judge
  let vc := decide (s.bindOf n = some .vc) && decide (s.srv.st = .parking ∨ s.srv.st = .loading)
  let s1 := (if openDiv || vc then s.used else s).onTs n fun _ => j.1
  let s2 := (s1.emit n).refreshAff 0 n (if fld t.cfg 23 2 = 2 then p.f else j.1.u)
  if j.2 then
    ({ s2 with teff := { s2.teff with plaus := s2.teff.plaus ||| srcBit n } }).raise (176 + n / 32)
  else s2

/-! ## Triggers -/

/-- A sample instant is taken: the order number that a step's triggers share (R759). -/
def State.nextInstant (s : State) : State := { s with teff := { s.teff with instant := s.teff.instant + 1 } }

/-- A slot is triggered with feedback y (R758): pending, or dropped as an overrun. -/
def State.trigger (n : Nat) (y : Int) (stale late : Bool) (s : State) : State :=
  if !s.slotOn n then s
  else if (s.ts n).pend.isSome then
    ({ s.onTs n fun t => { t with overrun := true } with
        teff := { (s.onTs n fun t => { t with overrun := true }).teff with
          cntOverrun := satInc 0xFFFFFFFF s.teff.cntOverrun } }).raise 189
  else
    s.onTs n fun t => { t with pend := some { inst := s.teff.instant, y := y, f := s.ffOf n, stale := stale, late := late } }

/-- Slots begin to run (R771): their next updates restart, and an update that was pending when they stopped,
triggered up to instant `i`, has been discarded (R784). -/
def State.startSlots (i : Nat) (l : List Nat) (s : State) : State :=
  l.foldl (fun t n => t.onTs n fun x => { x with restart := true, pend := x.pend.filter fun p => decide (i < p.inst) }) s

/-- Restart slots at their next update (R771). -/
def State.restartSlots (l : List Nat) (s : State) : State :=
  l.foldl (fun t n => t.onTs n fun x => { x with restart := true }) s

/-- A Culm SLOT action on slot n (R68, R756): a slot whose TRIG is not 2, or that is bound, ignores it. The sample of a
pin is the operand `y`. -/
def State.angleTrigger (n : Nat) (y : Int) (s : State) : State :=
  if (s.bindOf n).isNone && decide (fld (s.ts n).cfg 26 2 = 2) then
    s.trigger n (s.fbOf (fld (s.srcReg n) 27 3) (fld (s.srcReg n) 22 5) y) false false
  else s

/-! ## Lanes -/

/-- Change a lane. -/
def State.onLane (l : Nat) (f : Lane → Lane) (s : State) : State :=
  { s with teff := { s.teff with lanes := modAt s.teff.lanes l f } }

/-- A lane's state. -/
def State.lane (s : State) (l : Nat) : LaneState := (nth {} s.teff.lanes l).st

/-- The ACTIVE lane, other than `l`, with the fewest enabled slots and room for one more (R780). -/
def State.roomiest (s : State) (l : Nat) : Option Nat :=
  let c := (List.range 4).filter fun m => decide (m ≠ l) && decide (s.lane m = .active) && decide (s.laneLoad m < 64)
  c.foldl (fun best m => match best with
    | none => some m
    | some b => if s.laneLoad m < s.laneLoad b then some m else some b) none

/-- Relocate the enabled slots of a lane in ascending order; the flag tells that some slot was stranded
(R780, R781). DEDUCED, log entry 54. -/
def State.relocate (l : Nat) (s : State) : State × Bool :=
  (List.range 256).foldl (fun (acc : State × Bool) n =>
    let t := acc.1
    if decide ((t.ts n).lane = l) && t.slotOn n then
      match t.roomiest l with
      | some m => (t.onTs n fun x => { x with lane := m, stranded := false,
                                              pend := x.pend.map fun p => { p with late := true } }, acc.2)
      | none => (t.onTs n fun x => { x with stranded := true }, true)
    else acc) (s, false)

/-- Free places on the other ACTIVE lanes (R782). -/
def State.roomOff (s : State) (l : Nat) : Nat :=
  (((List.range 4).filter fun m => decide (m ≠ l) && decide (s.lane m = .active)).map fun m => 64 - s.laneLoad m).sum

/-- A residue mismatch on lane l in the update of slot n (R779). -/
def State.laneFault (l n : Nat) (s : State) : State :=
  let s1 := ((s.staleUpdate n).onLane l fun x => { x with st := .faulted, tested := false }).raise 186
  let s2 := s1.faultRecord 186 [l, n]
  if bitOf (s2.reg 0x700004) 31 then
    let r := s2.relocate l
    let s3 := { r.1 with teff := { r.1.teff with reloc := true } }
    if r.2 then s3.raise 188 else s3
  else s2

/-- The first pending update of a lane: ascending sample instant, then ascending slot (R759). -/
def State.firstPending (s : State) (l : Nat) : Option (Nat × Pend) :=
  (List.range 256).foldl (fun best n =>
    let t := s.ts n
    match t.pend with
    | none => best
    | some p =>
      if t.lane ≠ l then best
      else match best with
        | none => some (n, p)
        | some (m, q) => if p.inst < q.inst then some (n, p) else some (m, q)) none

end Sys2Proof.Machine
end

