-- ==== Sys2Proof/Machine/TeffCmd.lean ====
section
/-! DEFINITION. Machine/TeffCmd.lean: what the commands of the loop engine and the sample link do. -/
namespace Sys2Proof.Machine

/-- Change the TEFF block. -/
def State.onTeff (f : Teff → Teff) (s : State) : State := { s with teff := f s.teff }

/-- The pending update of a slot, if there is one, counts as late when it completes: its sample packet was repeated, or
its slot is relocated (R16, R762). DEDUCED, log entry 54. -/
def State.markLate (n : Nat) (s : State) : State :=
  s.onTs n fun x => { x with pend := x.pend.map fun p => { p with late := true } }

/-- SAMPLE_LINK_PACKET: a packet arrives for the waiting slots `slots`; `ok` is its CRC check. A first failure discards
the packet and awaits its repeat, a second raises source 6 and leaves the slots a stale sample (R37, R38). A repeat that
arrives whole has come late to its slots (R16, R762). -/
def sampleLinkPacket (ok : Bool) (slots : List Nat) (s : State) : State :=
  if ok then
    let s1 := { s with sys := { s.sys with linkRepeat := false } }
    if s.sys.linkRepeat then slots.foldl (fun t n => t.markLate n) s1 else s1
  else if !s.sys.linkRepeat then { s with sys := { s.sys with linkRepeat := true } }
  else
    let s1 := { s with sys := { s.sys with linkRepeat := false } }
    let s2 := slots.foldl (fun t n =>
      if (t.ts n).pend.isSome then t.onTs n fun x => { x with pend := x.pend.map fun p => { p with stale := true } }
      else t.trigger n 0 true false) s1.nextInstant
    s2.raise 6

/-- A trigger of slot n by its block or its timer, with the sample y of a pin (R756, R758). -/
def State.triggerPin (n : Nat) (y : Int) (stale late : Bool) (s : State) : State :=
  let v := if (s.bindOf n).isSome then y else s.fbOf (fld (s.srcReg n) 27 3) (fld (s.srcReg n) 22 5) y
  s.nextInstant.trigger n v stale late

/-- SLOT_TIMER: the period of TIMER slot n expires; `y` is the sample of a feedback pin (R756). -/
def slotTimer (n : Nat) (y : Int) (s : State) : State :=
  if s.on .eng && (s.bindOf n).isNone && decide (fld (s.ts n).cfg 26 2 = 1) then s.triggerPin n y false false else s

/-- The spindle has commutated at the speed `rpm`: after the last sector of an electrical revolution the table that
stands in `SPN_PAi` comes into force, and the angle is advanced by its value (R592, R763). PRESUMED, log entry 89. -/
def State.spnCommutates (rpm : Int) (s : State) : State :=
  if !s.on .dsk then s
  else
    let tbl := (List.range 17).map fun i => fld (s.reg (0x5C0100 + 4 * i)) 0 8
    let n := (s.spn.sector + 1) % 6
    let adv := if s.spn.sector = 5 then tbl else s.spn.adv
    let v := (clampI 0 65535 rpm).toNat
    { s with spn := { s.spn with sector := n, adv := adv, rpm := v, angle := (240 * n + spnAdvanceAt adv v) % 1440 } }

/-- SLOT_TRIGGER: the block that binds slot n, or a Culm action, triggers it (R756, R758); the trigger of the
spindle's speed slot is a commutation, with the speed of R591, and the VCM current slot takes the shunt current of its
bridge (R569, R763). -/
def slotTrigger (n : Nat) (y : Int) (stale late : Bool) (s : State) : State :=
  if s.on .eng && ((s.bindOf n).isSome || decide (fld (s.ts n).cfg 26 2 = 2)) then
    match s.bindOf n with
    | some .spn => (s.spnCommutates (s.spnSpeed y)).triggerPin n (s.spnSpeed y) stale late
    | some .vc => s.triggerPin n (s.vcmCurrent y) stale late
    | _ => s.triggerPin n y stale late
  else s

/-- SLOT_UPDATE: lane l starts its first pending update (R759 to R774). `fault` is a residue mismatch (R779). -/
def slotUpdate (l : Nat) (fault : Bool) (s : State) : State :=
  if !s.on .eng || decide (s.lane l ≠ .active) then s
  else match s.firstPending l with
    | none => s
    | some (n, p) =>
      let s1 := s.onTs n fun t => { t with pend := none }
      if !s.slotOn n || bitOf (s.ts n).cfg 30 || (s.ts n).stranded then s1
      else if fault then s1.laneFault l n
      else
        let s2 := if p.late then
            (s1.onTeff fun x => { x with cntLate := satInc 0xFFFFFFFF x.cntLate }).raise 191
          else s1
        if p.stale then s2.staleUpdate n else s2.runUpdate n p

/-- RELOCATION_DONE (R780). -/
def relocationDone (s : State) : State :=
  if s.on .eng && s.teff.reloc then
    (s.onTeff fun x => { x with reloc := false, cntReloc := satInc 0xFFFFFFFF x.cntReloc,
                                cmdStatus := if x.cmdStatus = 2 ∧ fld x.cmdWord 16 2 = 0 then 1 else x.cmdStatus }).raise 187
  else s

/-! ## Coefficient sets -/

/-- A slot is selected by the apply masks (R776). -/
def State.masked (s : State) (n : Nat) : Bool := bitOf (s.reg (0x700010 + 4 * (n / 32))) (n % 32)

/-- The shadow coefficient words of a slot (R775). -/
def State.shadowCoef (s : State) (n : Nat) : List Word := (List.range 10).map fun i => s.reg (0x701010 + 0x40 * n + 4 * i)

/-- Some selected shadow set has OUT_MIN above OUT_MAX (R778). -/
def State.coefBad (s : State) : Bool :=
  (List.range 256).any fun n => s.masked n && decide (s32 (s.reg (0x701028 + 0x40 * n)) < s32 (s.reg (0x70102C + 0x40 * n)))

/-- The outcome of GO of `TEFF_APPLY` with WHEN (R776, R778): the new STATUS, and whether the apply is armed. WHEN 2 is
reserved and ends with RANGE. A GO that is refused leaves an armed apply armed (R30). -/
def State.applyGo (w : Nat) (s : State) : State :=
  let st := if s.teff.applyArmed then 5 else if w = 2 then 4 else if s.coefBad then 4 else 1
  s.onTeff fun x => { x with applyStatus := st, applyWhen := if st = 1 then w else x.applyWhen,
                             applyArmed := x.applyArmed || decide (st = 1) }

/-- GO with WHEN = 3: cancel an armed apply (R776). -/
def State.applyCancel (s : State) : State :=
  if s.teff.applyArmed then s.onTeff fun x => { x with applyStatus := 3, applyArmed := false } else s

/-- An armed apply comes into force (R777). -/
def State.applyCoefs (s : State) : State :=
  let s1 := (List.range 256).foldl (fun t n =>
    if t.masked n then
      let l := t.shadowCoef n
      let c := coefOf l
      t.onTs n fun x => { x with coef := l, i := clampI c.lo c.hi x.i }
    else t) s
  (s1.onTeff fun x => { x with applyStatus := 2, applyArmed := false }).raise 190

/-- COEF_APPLY_ARM: a write of `TEFF_APPLY` with GO = 1 (R776). -/
def coefApplyArm (w : Nat) (s : State) : State :=
  s.bar0 0x70000C .shadow fun s => if w = 3 then s.applyCancel else s.applyGo w

/-- COEF_APPLY_CANCEL: a write of `TEFF_APPLY` with GO = 1 and WHEN = 3 (R776). -/
def coefApplyCancel (s : State) : State := s.bar0 0x70000C .shadow State.applyCancel

/-- COEF_APPLIED: the tick after an arm with WHEN = 0. With WHEN = 1 the bank swap itself brings the sets into force
(R776, R777). -/
def coefApplied (s : State) : State :=
  if s.on .eng && s.teff.applyArmed && decide (s.teff.applyWhen = 0) then s.applyCoefs else s

/-- A Culm bank swap as Teff sees it (R776). -/
def State.teffSwap (s : State) : State :=
  if s.teff.applyArmed ∧ s.teff.applyWhen = 1 then s.applyCoefs else s

/-! ## Lane commands -/

/-- A lane command is being carried out (R782). -/
def State.laneBusy (s : State) : Bool :=
  s.teff.reloc || (List.range 4).any fun l => decide (s.lane l = .test)

/-- A write of `TEFF_LANE_CMD` with GO = 1: its fields are stored; `f` answers the STATUS and carries the operation
out (R782, R791). -/
def laneCommand (op lane slot : Nat) (f : State → Nat × State) (s : State) : State :=
  s.bar0 0x700008 .mgmt fun s =>
    let s1 := s.onTeff fun x => { x with cmdWord := place lane 24 2 ||| place op 16 2 ||| place slot 0 8 }
    if s1.laneBusy then s1.onTeff fun x => { x with cmdStatus := 4 }
    else let r := f s1; r.2.onTeff fun x => { x with cmdStatus := r.1 }

/-- The evacuation of a lane (R782, OP 0). -/
def State.evacuate (l : Nat) (s : State) : Nat × State :=
  if s.roomOff l < s.laneLoad l then (5, s)
  else
    let r := (s.relocate l).1.onLane l fun x => { st := .out, tested := x.tested && decide (x.st = .out) }
    (2, r.onTeff fun x => { x with reloc := true })

/-- LANE_EVACUATE. -/
def laneEvacuate (l : Nat) (s : State) : State := laneCommand 0 (l % 4) 0 (State.evacuate (l % 4)) s

/-- The return of a lane (R782, OP 1). -/
def State.laneBack (l : Nat) (s : State) : Nat × State :=
  let x := nth {} s.teff.lanes l
  if x.st = .out ∧ x.tested = true then (1, s.onLane l fun _ => { st := .active, tested := false }) else (3, s)

/-- LANE_RETURN. -/
def laneReturn (l : Nat) (s : State) : State := laneCommand 1 (l % 4) 0 (State.laneBack (l % 4)) s

/-- The start of a self-test (R782, OP 2). -/
def State.laneTest (l : Nat) (s : State) : Nat × State :=
  if s.lane l = .out ∨ s.lane l = .faulted then (2, s.onLane l fun x => { x with st := .test }) else (3, s)

/-- LANE_SELF_TEST. -/
def laneSelfTest (l : Nat) (s : State) : State := laneCommand 2 (l % 4) 0 (State.laneTest (l % 4)) s

/-- LANE_SELF_TEST_DONE: a pass leaves the lane OUT, a fail FAULTED (R782). -/
def laneSelfTestDone (l : Nat) (pass : Bool) (s : State) : State :=
  if s.on .eng && decide (s.lane l = .test) then
    (s.onLane l fun _ => { st := if pass then .out else .faulted, tested := pass }).onTeff fun x =>
      { x with cmdStatus := if pass then 1 else 6 }
  else s

/-- The move of a slot (R754, R782, OP 3). -/
def State.slotTo (n l : Nat) (s : State) : Nat × State :=
  if s.lane l ≠ .active then (3, s)
  else if 64 ≤ s.laneLoad l then (5, s)
  else (1, (s.onTs n fun t => { t with lane := l, stranded := false }).markLate n)

/-- SLOT_MOVE. -/
def slotMove (n l : Nat) (s : State) : State := laneCommand 3 (l % 4) (n % 256) (State.slotTo (n % 256) (l % 4)) s

/-! ## Slot registers -/

/-- `TEFF_SLs_CFG` as a read returns it (R764, R788). -/
def State.slotCfg (s : State) (n : Nat) : Word :=
  let t := s.ts n
  let en := match s.bindOf n with
    | some _ => placeB (s.slotOn n) 31
    | none => t.cfg &&& place 1 31 1
  en ||| (t.cfg &&& if (s.bindOf n).isSome then 0x43EFFFFF else 0x4FEFFFFF) ||| place t.lane 28 2

/-- The codes of REF_SRC, FB_KIND and FB_IDX that read back a binding, 0 where R766 has no code for its source (R763,
R764). DESIGN CHOICE, log entry 90. -/
def State.bindCodes (s : State) : Bind → Nat × Nat × Nat
  | .vc => (1, 0, 0)
  | .drv u j => (if j = 0 ∧ s.duUses u 2 ∧ s.duSrc u ≠ 1 then 1 else 0, 0, 0)
  | .servo k => (0, 5, k)
  | .hv k => (0, 4, k)
  | .fus k => (0, 3, s.fusTh k)
  | .apc _ _ | .tf | .spn => (0, 0, 0)

/-- `TEFF_SLs_SRC` as a read returns it: the fields of a bound slot read back the binding (R764, R789). -/
def State.slotSrc (s : State) (n : Nat) : Word :=
  match s.bindOf n with
  | none => s.srcReg n
  | some b =>
    let c := s.bindCodes b
    let d := match b with
      | .servo k => (4, 4 * ((s.unitsOfAxis k).headD 0))
      | _ => s.destOf n
    place c.1 30 2 ||| place c.2.1 27 3 ||| place c.2.2 22 5 ||| (s.srcReg n &&& 0x003F8000) ||| place d.1 11 4 |||
      place d.2 4 7

/-- The writable bits of `TEFF_SLs_CFG`, and of `TEFF_SLs_SRC`, of a slot: a bound slot keeps its binding (R764). -/
def cfgMask (bound : Bool) : Word := if bound then 0x43EFFFFF else 0xCFEFFFFF
def srcMask (bound : Bool) : Word := if bound then 0x003F8000 else 0xFFFFFFF0

/-- A code of `TEFF_SLs_CFG` is reserved (R788). -/
def cfgReserved (v : Word) : Bool :=
  decide (fld v 26 2 = 3) || decide (fld v 23 2 = 3) || decide (fld v 21 2 = 3)

/-- A code of `TEFF_SLs_SRC` is reserved or names an instance that does not exist (R766). -/
def srcReserved (v : Word) : Bool :=
  let k := fld v 27 3
  let i := fld v 22 5
  let d := fld v 11 4
  let x := fld v 4 7
  decide (2 ≤ fld v 30 2) || decide (k = 0) || decide (k = 7) || decide (7 ≤ d) ||
    (decide (k = 1 ∨ k = 4) && decide (16 ≤ i)) || (decide (k = 3) && decide (8 ≤ i)) ||
    (decide (k = 5) && decide (12 ≤ i)) || (decide (k = 6) && decide (24 ≤ i)) ||
    (decide (fld v 20 2 = 3) && decide (12 ≤ fld v 15 5)) ||
    (decide (d = 1) && decide (64 ≤ x)) || (decide (d = 2) && decide (16 ≤ x)) || (decide (d = 3) && decide (4 ≤ x)) ||
    (decide (d = 4) && decide (96 ≤ x))

/-- Some other enabled slot has the destination (R765). -/
def State.destTaken (s : State) (n : Nat) (dst : Nat × Nat) : Bool :=
  decide (dst.1 ≠ 0) && (List.range 256).any fun m => decide (m ≠ n) && s.slotOn m && decide (s.destOf m = dst)

/-- The judgement of a write of `TEFF_SLs_CFG` (R754, R755, R765, R787): none when it is stored. -/
def State.cfgJudge (s : State) (n : Nat) (v : Word) : Abort :=
  let bound := (s.bindOf n).isSome
  let m := cfgMask bound
  let old := (s.ts n).cfg
  let enNow := s.slotOn n
  let changed := (old ^^^ v) &&& m &&& 0x3FFFFFFF
  let holds := decide ((old ^^^ v) &&& m &&& 0x40000000 ≠ 0)
  let clears := !bound && bitOf old 31 && !bitOf v 31
  let enables := !bound && !bitOf old 31 && bitOf v 31
  if cfgReserved v then .range
  else if enNow && !clears && (decide (changed ≠ 0) || !holds) then .stateConflict
  else if enables && decide (64 * (4 - fld (s.reg 0x700004) 0 2) ≤ s.slotsOn) then .stateConflict
  else if enables && (decide (64 ≤ s.laneLoad (s.ts n).lane) || srcReserved (s.srcReg n) || s.destTaken n (s.destOf n))
    then .range
  else .none

/-- A write of `TEFF_SLs_CFG` that has been judged good (R771, R784, R788). -/
def State.cfgStore (n : Nat) (v : Word) (s : State) : State :=
  let m := cfgMask (s.bindOf n).isSome
  let w := (v &&& m) ||| ((s.ts n).cfg &&& ~~~m)
  s.onTs n fun t =>
    { t with cfg := w, restart := t.restart || (bitOf t.cfg 30 && !bitOf w 30) || (!bitOf t.cfg 31 && bitOf w 31),
             pend := if bitOf t.cfg 31 && !bitOf w 31 then none else t.pend }

/-- The judgement of a write of `TEFF_SLs_SRC` (R765, R766, R787). -/
def State.srcJudge (s : State) (n : Nat) (v : Word) : Abort :=
  if s.slotOn n then .stateConflict
  else if (s.bindOf n).isNone && srcReserved v then .range
  else .none

/-- A write of `TEFF_SLs_SRC` that has been judged good. -/
def State.srcStore (n : Nat) (v : Word) (s : State) : State :=
  let m := srcMask (s.bindOf n).isSome
  s.setReg (0x701004 + 0x40 * n) ((v &&& m) ||| (s.srcReg n &&& ~~~m))

/-- `TEFF_SLs_STATUS` (R790). -/
def State.slotStatus (s : State) (n : Nat) : Word :=
  let t := s.ts n
  placeB (t.pend.isSome && s.slotOn n) 31 ||| placeB t.satHi 30 ||| placeB t.satLo 29 ||| placeB t.dsat 28 |||
    placeB t.plausFail 27 ||| placeB t.staleLim 26 ||| placeB t.stranded 25 ||| placeB t.overrun 24 |||
    place t.stale 0 16

/-- A write of `TEFF_SLs_STATUS`: its W1C bits (R790). -/
def State.slotStatusClear (n : Nat) (v : Word) (s : State) : State :=
  s.onTs n fun t => { t with staleLim := t.staleLim && !bitOf v 26, overrun := t.overrun && !bitOf v 24 }

/-- `TEFF_STATUS` (R792). -/
def State.teffStatus (s : State) : Word :=
  placeB s.teff.reloc 31 ||| (List.range 4).foldl (fun w l => w ||| place (s.lane l).code (2 * l) 2) 0

end Sys2Proof.Machine
end

