-- ==== Sys2Proof/Machine/SheafOps.lean ====
section
/-! DEFINITION. Machine/SheafOps.lean: frames, credits, pins and the books of Sheaf (R398 to R442). -/
namespace Sys2Proof.Machine

/-! ## Frames and pools -/

/-- Change the SHF block. -/
def State.onShf (f : Shf → Shf) (s : State) : State := { s with shf := f s.shf }

/-- A pool's counters. -/
def State.pool (s : State) (p : Nat) : Pool := nth {} s.shf.pools p

/-- Change a pool's counters. -/
def State.onPool (p : Nat) (f : Pool → Pool) (s : State) : State :=
  s.onShf fun x => { x with pools := modAt x.pools p f }

/-- The budget of a pool. -/
def State.budget (s : State) (p : Nat) : Nat := nth 0 s.shf.budgets p

/-- A frame that is not FREE. -/
def State.frame? (s : State) (f : Nat) : Option Frame := find? f s.shf.frames

/-- Write a frame's entry. -/
def State.putFrame (f : Nat) (x : Frame) (s : State) : State :=
  s.onShf fun h => { h with frames := kput f x h.frames }

/-- A frame is HELD by a pool. -/
def State.heldBy (s : State) (f p : Nat) : Bool :=
  match s.frame? f with
  | some x => decide (x.st = .held) && decide (x.pool = p)
  | none => false

/-- The frames that a token holds in a pool, in order. -/
def State.framesOf (s : State) (k p : Nat) : List (Nat × Frame) :=
  s.shf.frames.filter fun x => decide (x.2.pool = p) && (match x.2.owner with
    | some (j, _, _) => decide (j = k)
    | none => false)

/-- The frame that holds frame f of plane p of token k in a pool. -/
def State.frameFor (s : State) (k p f pool : Nat) : Option (Nat × Frame) :=
  s.shf.frames.find? fun x => decide (x.2.pool = pool) && decide (x.2.owner = some (k, p, f))

/-! ## Credits -/

/-- A request for n credits in pool p is granted (R409, R410); none when it is not. -/
def State.credit (p n : Nat) (s : State) : Option State :=
  if n = 0 then some s
  else if (s.pool p).issued + n ≤ s.budget p then
    some (s.onPool p fun x => { x with issued := x.issued + n, out := x.out + n })
  else none

/-- A return of n unused credits (R414). -/
def State.uncredit (p n : Nat) (s : State) : State :=
  s.onPool p fun x => { x with issued := x.issued - n, out := x.out - n }

/-- The lowest FREE frame. DEDUCED, log entry 38. -/
def State.lowestFree (s : State) : Option Nat :=
  let f := firstGap 0 s.shf.frames
  if f < s.shf.total then some f else none

/-! ## What stands in the frames -/

/-- The Mover descriptor of a channel: source, destination, count. -/
def State.movSrc (s : State) (k : Nat) : Nat :=
  (s.reg (0x480100 + 0x20 * k)).toNat + 2 ^ 32 * (s.reg (0x480104 + 0x20 * k)).toNat
def State.movDst (s : State) (k : Nat) : Nat :=
  (s.reg (0x480108 + 0x20 * k)).toNat + 2 ^ 32 * (s.reg (0x48010C + 0x20 * k)).toNat
def State.movCount (s : State) (k : Nat) : Nat := (s.reg (0x480110 + 0x20 * k)).toNat

/-- Frame f meets the n bytes at address a. -/
def meets (f a n : Nat) : Bool := decide (0 < n) && decide (a / 65536 ≤ f) && decide (f ≤ (a + n - 1) / 65536)

/-- A running Mover channel holds the frame (R449). -/
def State.movHolds (s : State) (f : Nat) : Bool :=
  s.mov.running && (match s.mov.queue with
    | k :: _ => meets f (s.movSrc k) (s.movCount k) || meets f (s.movDst k) (s.movCount k)
    | [] => false)

/-- The bytes of the plane that a frame holds, from its part on: of the raw or pre-coded input in the host-submit
pool, of the coded stream elsewhere (R398); a scratch frame, which is the host's own (R909), holds none. DESIGN
CHOICE, log entry 5. -/
def State.frameBytes (s : State) (x : Frame) : Option (List Byte) :=
  if x.pool = 6 then none else x.owner.map fun o =>
    let t := sget {} o.1 s.pgf.tokens
    let d := nth {} t.planes o.2.1
    ((if x.pool ≠ 1 then d.coded else if o.2.1 = 4 then t.tagInput else d.input).drop (65536 * o.2.2)).take 65536

/-- The byte of DRAM at an address: of the plane that the frame holds, or the stored cell (R398). -/
def State.dramByte (s : State) (a : Nat) : Byte :=
  match (s.frame? (a / 65536)).bind s.frameBytes with
  | some l => l.getD (a % 65536) 0
  | none => sget 0 a s.dram

/-- The bytes that are not 0 among the n at an address, as cells (R398). -/
def State.cellsAt (s : State) (a n : Nat) : List (Nat × Byte) :=
  let inside (c : Nat × Byte) : Bool := decide (a ≤ c.1 ∧ c.1 < a + n)
  (s.dram.filter fun c => inside c && ((s.frame? (c.1 / 65536)).bind s.frameBytes).isNone) ++
    (s.shf.frames.filter fun f => meets f.1 a n).flatMap fun f => match s.frameBytes f.2 with
      | none => []
      | some l => (l.zipIdx.map fun p => (65536 * f.1 + p.2, p.1)).filter fun c => inside c && decide (c.2 ≠ 0)

/-- Copy n bytes from a to b (R450). DESIGN CHOICE, log entry 37. -/
def State.copyBytes (a b n : Nat) (s : State) : State :=
  let src := s.cellsAt a n
  let kept := s.dram.filter fun c => !decide (b ≤ c.1 ∧ c.1 < b + n)
  { s with dram := src.foldl (fun l c => sput 0 c.2 (c.1 - a + b) l) kept }

/-- A frame belongs to no token any more; the bytes of the plane that it held stay in it (R427, R449). -/
def State.orphan (f : Nat) (s : State) : State :=
  match s.frame? f with
  | none => s
  | some x =>
    if x.owner.isNone then s
    else (s.copyBytes (65536 * f) (65536 * f) 65536).putFrame f { x with owner := none }

/-! ## The way out of a pool -/

/-- Change the pin count of a HELD frame. -/
def State.repin (f pins : Nat) (s : State) : State :=
  match s.frame? f with
  | none => s
  | some x =>
    let s1 := s.putFrame f { x with pins := pins }
    s1.onPool x.pool fun c => { c with pinned := c.pinned + (if 0 < pins then 1 else 0) - (if 0 < x.pins then 1 else 0) }

/-- A frame begins its transit out of its pool, HELD or DIF, with its pins: to the free list, or to the reserve pool
when it is marked, whose credit Sheaf issues itself (R413, R426, R437, R439). -/
def State.leave (f : Nat) (s : State) : State :=
  match s.frame? f with
  | none => s
  | some x =>
    let s1 := (s.onPool x.pool fun c =>
      { c with held := if x.st = .held then c.held - 1 else c.held, dif := if x.st = .dif then c.dif - 1 else c.dif,
               pinned := if 0 < x.pins then c.pinned - 1 else c.pinned, issued := c.issued - 1 }).onShf fun h =>
      { h with transit := h.transit + 1 }
    if x.retire then
      let s2 := (s1.putFrame f { st := .toPool, pool := 7 }).onPool 7 fun c =>
        { c with issued := c.issued + 1, tin := c.tin + 1 }
      if s2.budget 7 < (s2.pool 7).issued then (s2.onShf fun h => { h with overcommit := true }).raise 101 else s2
    else s1.putFrame f { st := .toFree, pool := x.pool }

/-- A frame arrives where its transit leads (R412, R413). One whose free has been asked for on the way leaves again; one
that has been marked on its way to the free list is a marked FREE frame (R436, R437). -/
def State.arrive (f : Nat) (s : State) : State :=
  match s.frame? f with
  | none => s
  | some x =>
    let out (t : State) := t.onShf fun h => { h with transit := h.transit - 1 }
    match x.st with
    | .toPool =>
      let s1 := out ((s.putFrame f { x with st := .held }).onPool x.pool fun c =>
        { c with tin := c.tin - 1, held := c.held + 1, pinned := c.pinned + (if 0 < x.pins then 1 else 0) })
      let s2 := if s1.shf.allocFrame = some f then
          s1.onShf fun h => { h with allocFrame := none, cmdStatus := 1, cmdResult := f }
        else s1
      if x.freeLater && !s2.movHolds f then s2.leave f else s2
    | .toFree =>
      out (s.onShf fun h => { h with frames := kdel f h.frames, free := h.free + 1,
                                     marked := if x.retire then h.marked ++ [f] else h.marked })
    | .held | .dif => s

/-- The frames in TRANSIT arrive, lowest first, until fewer than 8 are left. -/
def State.makeRoom : Nat → State → State
  | 0, s => s
  | n + 1, s =>
    if s.shf.transit < 8 then s
    else match s.shf.frames.find? fun f => decide (f.2.st = .toPool ∨ f.2.st = .toFree) with
      | some (f, _) => State.makeRoom n (s.arrive f)
      | none => s

/-- At most 8 frames are in TRANSIT: others have arrived before a ninth begins (R402). -/
def State.transitRoom (s : State) : State := s.makeRoom 16

/-- Free a frame (R413): a frame of a running Mover channel is freed when the channel ends (R449), one in TRANSIT
into its pool once it has arrived, and one that is DIF once its write has ended (R427). -/
def State.freeFrame (f : Nat) (s : State) : State :=
  match s.frame? f with
  | none => s
  | some x =>
    match x.st with
    | .toFree | .dif => s
    | .toPool => s.putFrame f { x with freeLater := true, owner := none, pins := 0 }
    | .held =>
      if s.movHolds f then
        let t := (s.repin f 0).orphan f
        match t.frame? f with
        | some y => t.putFrame f { y with freeLater := true }
        | none => t
      else s.transitRoom.leave f

/-- Free several frames. -/
def State.freeFrames (l : List Nat) (s : State) : State := l.foldl (fun t f => t.freeFrame f) s

/-! ## Allocation -/

/-- Frame f leaves the free list for pool p, against one of the pool's outstanding credits (R412). -/
def State.enter (f p : Nat) (owner : Option (Nat × Nat × Nat)) (s : State) : State :=
  let s1 := s.putFrame f { st := .toPool, pool := p, owner := owner, retire := s.shf.marked.contains f }
  let s2 := s1.onShf fun x => { x with free := x.free - 1, transit := x.transit + 1,
                                       marked := x.marked.filter fun g => decide (g ≠ f) }
  s2.onPool p fun x => { x with out := x.out - 1, tin := x.tin + 1 }

/-- Allocate one frame, which is in TRANSIT then (R402, R412); none when the free list is empty. -/
def State.alloc (p : Nat) (owner : Option (Nat × Nat × Nat)) (s : State) : State × Option Nat :=
  let t := s.transitRoom
  match t.lowestFree with
  | none => (t, none)
  | some f => (t.enter f p owner, some f)

/-- The plane's frame that an allocation is for. -/
def AllocFor.owner : AllocFor → Option (Nat × Nat × Nat)
  | .plane k p f => some (k, p, f)
  | .block _ | .record _ | .stage _ => none

/-- The block command that an allocation is for. -/
def AllocFor.host : AllocFor → Option Nat
  | .block r => some r
  | .plane _ _ _ | .record _ | .stage _ => none

/-- Take a frame of pool p for a purpose, against an outstanding credit (R412); none when the free list is empty. -/
def State.allocFor (a : AllocWait) (s : State) : State × Option Nat :=
  match s.alloc a.pool a.who.owner with
  | (t, some f) => (match a.who.host, t.frame? f with
    | some r, some x => t.putFrame f { x with block := some r }
    | _, _ => t, some f)
  | (t, none) => (t, none)

/-- An allocation finds the free list empty and waits, with its credit (R416). -/
def State.allocWaits (a : AllocWait) (s : State) : State :=
  (s.onShf fun h => { h with allocs := h.allocs ++ [a] }).raise 97

/-- Take a frame, or wait for one (R412, R416). -/
def State.allocOrWait (a : AllocWait) (s : State) : State × Option Nat :=
  match s.allocFor a with
  | (t, some f) => (t, some f)
  | (t, none) => (t.allocWaits a, none)

/-- Allocate n frames of pool p for frames `i`, `i + 1`, … of plane `q` of token `k`: an allocation that finds the
free list empty waits (R416). -/
def State.allocPlane (p k q : Nat) : Nat → Nat → State → State
  | 0, _, s => s
  | n + 1, i, s => State.allocPlane p k q n (i + 1) (s.allocOrWait { pool := p, who := .plane k q i }).1

/-- The allocations that wait and that `p` names are given up, with their credits. -/
def State.dropAllocs (p : AllocWait → Bool) (s : State) : State :=
  let gone := s.shf.allocs.filter p
  (gone.foldl (fun t a => t.uncredit a.pool 1) s).onShf fun h => { h with allocs := h.allocs.filter fun a => !p a }

/-- An allocation for a plane of token k, in pool p or in any. -/
def AllocWait.serves (k : Nat) (p : Option Nat) (a : AllocWait) : Bool :=
  (match a.who with
    | .plane j _ _ => decide (j = k)
    | .block _ | .record _ | .stage _ => false) && (match p with
    | some q => decide (a.pool = q)
    | none => true)

/-! ## Retirement at a start -/

/-- The reserve pool takes a frame that is retired from the start on (R438, R439). -/
def State.toReserve (f : Nat) (s : State) : State :=
  let s1 := (s.putFrame f { st := .held, pool := 7 }).onPool 7 fun x => { x with issued := x.issued + 1, held := x.held + 1 }
  if s1.budget 7 < (s1.pool 7).issued then
    (s1.onShf fun x => { x with overcommit := true }).raise 101
  else s1

/-! ## Spool extents -/

/-- Extents in use, as first extent and count, over every token. -/
def State.extentsUsed (s : State) : List (Nat × Nat) :=
  s.pgf.tokens.flatMap fun t => t.2.planes.filterMap fun p =>
    p.extent.map fun e => (e, ceilDiv p.coded.length 65536)

/-- The first fit for F consecutive extents (R424). -/
def firstFit (used : List (Nat × Nat)) (total f : Nat) : Nat → Nat → Option Nat
  | 0, _ => none
  | fuel + 1, e =>
    if total < e + f then none
    else match used.find? fun u => decide (u.1 < e + f) && decide (e < u.1 + u.2) with
      | none => some e
      | some u => firstFit used total f fuel (u.1 + u.2)

/-- The first of F free consecutive extents, if there is one (R424). -/
def State.findExtents (s : State) (f : Nat) : Option Nat :=
  firstFit s.extentsUsed (s.reg 0x40001C).toNat f (s.extentsUsed.length + 1) 0

/-- The LBA of an extent (R423). -/
def State.extentLba (s : State) (e : Nat) : Nat :=
  (s.reg 0x400014).toNat + 2 ^ 32 * (s.reg 0x400018).toNat + 16 * e

/-! ## The books -/

/-- The number of frames that no list of Sheaf's counters accounts for is 0, and each pool balances (R432). -/
def Shf.balanced (h : Shf) : Bool :=
  decide (h.total = h.free + h.transit + (h.pools.map fun p => p.held + p.dif).sum) &&
    h.pools.all fun p => decide (p.issued = p.held + p.out + p.dif + p.tin)

/-- The six counters of a pool in the order of R408. -/
def Pool.counts (p : Pool) : List Nat := [p.issued, p.held, p.pinned, p.out, p.dif, p.tin]

/-- A failure of the identities raises source 102 and writes two BOOKS records (R434). -/
def State.checkFrames (s : State) : State :=
  if s.shf.balanced then s
  else
    let a := [s.shf.free, s.shf.transit] ++ (s.shf.pools.take 4).flatMap Pool.counts
    let b := (s.shf.pools.drop 4).flatMap Pool.counts
    ((s.raise 102).glume 8 false 102 (a.flatMap u32le)).glume 8 false 102 (b.flatMap u32le)

/-- A snapshot of the frame, pool and Mover books (R435). -/
def State.snapBooks (s : State) : State :=
  s.onShf fun h =>
    { h with snapFree := h.free, snapTransit := h.transit, snapPools := h.pools,
             snapMov := [s.mov.requested, s.mov.moved, s.mov.abandoned, s.mov.pend, s.mov.buffered],
             snapTime := s.time.now, snapTstat := s.time.stat.code, snapValid := true,
             snapSeq := (h.snapSeq + 1) % 65536 }

/-- The 256 bytes of OD 2C00:07 (R467). -/
def Shf.booksBytes (h : Shf) : List Byte :=
  u32le h.snapFree ++ u32le h.snapTransit ++
    (h.snapPools.flatMap fun p => [p.issued, p.held, p.out, p.dif, p.tin, p.pinned].flatMap u32le) ++
    h.snapMov.flatMap u64le ++ u64le h.snapTime.toNat ++ [BitVec.ofNat 8 h.snapTstat] ++ List.replicate 7 0

/-- The default budgets at a TOTAL (R404). -/
def defaultBudgets (total : Nat) : List Nat :=
  let b := [64, 32, 16, 128, 4, 4, 7, 1].map fun share => total * share / 256
  b.set 6 (nth 0 b 6 + (total - b.sum))

/-- Write one byte of DRAM that belongs to no plane. -/
def State.putDram (a : Nat) (b : Byte) (s : State) : State := { s with dram := sput 0 b a s.dram }

end Sys2Proof.Machine
end

