-- ==== Sys2Proof/Machine/HqOps.lean ====
section
/-! DEFINITION. Machine/HqOps.lean: queue pairs, completions and their posting (R911 to R923, R935), and the journal
(R943 to R951). -/
namespace Sys2Proof.Machine

/-! ## Queue pairs -/

/-- Change the HQ block. -/
def State.onHq (f : Hq → Hq) (s : State) : State := { s with hq := f s.hq }

/-- A queue pair. -/
def State.qp (s : State) (q : Nat) : QPair := nth {} s.hq.qs q

/-- Change a queue pair. -/
def State.onQp (q : Nat) (f : QPair → QPair) (s : State) : State := s.onHq fun h => { h with qs := modAt h.qs q f }

/-- `HQ_Qq_CFG` (R964). -/
def State.qCfg (s : State) (q : Nat) : Word := s.reg (0xA01010 + 0x40 * q)
def State.qKind (s : State) (q : Nat) : Nat := fld (s.qCfg q) 29 2
def State.qSize (s : State) (q : Nat) : Nat := fld (s.qCfg q) 16 12 + 1

/-- The CQ of a queue has a free entry (R914, R915). DEDUCED, log entry 64. -/
def State.cqRoom (s : State) (q : Nat) : Bool := decide (((s.qp q).cqTail + 1) % s.qSize q ≠ (s.qp q).cqHead)

/-- Put a queue in ERROR (R916). -/
def State.qError (q code : Nat) (s : State) : State := s.onQp q fun x => { x with error := true, errcode := code }

/-- ACTIVE falls once nothing fetched is left to complete or to post (R918). -/
def State.settleQ (q : Nat) (s : State) : State :=
  s.onQp q fun x =>
    if x.stopping ∧ x.inflight = [] ∧ x.due = [] then { x with active := false, stopping := false } else x

/-- Write one entry in the CQ and send its message (R914, R922, R935, R956). -/
def State.writeCq (q : Nat) (c : Cpl) (sqHead : Nat) (s : State) : State :=
  let n := s.qSize q
  (s.onQp q fun x =>
    { x with posted := x.posted ++ [{ cpl := c, sqHead := sqHead, phase := x.cqPhase, qid := q }],
             cqTail := (x.cqTail + 1) % n, cqPhase := if x.cqTail + 1 = n then !x.cqPhase else x.cqPhase }).msi
    (fld (s.qCfg q) 8 6)

/-- Post the completions that are due, in their order, as far as the CQ has room; a link that is down fails the write
(R915 to R918). -/
def State.flushN (q : Nat) : Nat → State → State
  | 0, s => s
  | n + 1, s =>
    match (s.qp q).due with
    | [] => s
    | (c, h) :: rest =>
      if s.hq.d3 then s
      else if !s.hq.linkUp then
        ((((s.onQp q fun x => { x with due := [] }).qError q 4).onHq fun x =>
          { x with cntUncorr := satInc 0xFFFFFFFF x.cntUncorr }).raise 233).raise 234
      else if !s.cqRoom q then s
      else State.flushN q n ((s.onQp q fun x => { x with due := rest }).writeCq q c h)

/-- Post what is due on a queue; the first lack of room raises source 239 (R915). -/
def State.flush (q : Nat) (s : State) : State :=
  let s1 := State.flushN q ((s.qp q).due.length + 1) s
  let full := (s1.qp q).active && !s1.cqRoom q
  let s2 := if full && !(s1.qp q).fullSeen then (s1.onQp q fun x => { x with fullSeen := true }).raise 239
    else if full then s1 else s1.onQp q fun x => { x with fullSeen := false }
  s2.settleQ q

/-- Complete the descriptor at place i of a queue with a completion (R918, R935). -/
def State.complete (q i : Nat) (c : Cpl) (s : State) : State :=
  match (s.qp q).inflight[i]? with
  | none => s
  | some d => (s.onQp q fun x => { x with inflight := x.inflight.eraseIdx i, due := x.due ++ [(c, d.sqHead)] }).flush q

/-- The place in flight of the SUBMIT_PAGE that reads the pages of a token. -/
def State.submitOf (s : State) (q slot : Nat) : Option Nat :=
  (s.qp q).inflight.findIdx? fun d => decide (d.phase = 1) && decide (d.token = slot)

/-- The command identifier of a descriptor (R926). -/
def Desc.cid (d : Desc) : Nat := leAt d.bytes 2 2

/-! ## The journal -/

/-- Change the journal. -/
def State.onJrn (f : Journal → Journal) (s : State) : State := { s with jrn := f s.jrn }

/-- CAP (R945). -/
def Journal.cap (j : Journal) : Nat := 32 * j.jrnSectors

/-- OLDEST (R949). -/
def Journal.oldest (j : Journal) : Nat := j.next - j.cap

/-- The sector of a record (R945). -/
def Journal.sectorOf (j : Journal) (seq : Nat) : Nat := j.jrnBase + seq % j.cap / 32

/-- JRN_ANCHOR: OD 1132:09 (R948). -/
def State.jrnAnchor (s : State) : Nat := leNat (s.odGet (0x1132 * 256 + 9) (leBytes 4 1024))

/-- Write the SEQ and the SEAL of the last record into Glume (R948). -/
def State.anchor (s : State) : State :=
  if s.jrn.next = 0 then s
  else
    let a := (s.jrn.next - 1, s.jrn.headSeal)
    (({ s with die := { s.die with anchor := some a } }).onJrn fun j => { j with sinceAnchor := 0 }).glume 6 false 0
      (u64le a.1 ++ a.2)

/-- The journal frame being filled has room for one more record. -/
def State.jrnRoom (s : State) : Bool :=
  match s.jrn.fill with
  | some (_, n) => decide (n < 512)
  | none => false

/-- The journal waits for a frame against a credit that it has. -/
def State.jrnAwaits (s : State) : Bool := s.shf.allocs.any fun a => decide (a.pool = 4)

/-- The record of slot k waits for a credit of the journal pool (R417). -/
def State.jrnQueue (k : Nat) (s : State) : State :=
  s.onShf fun h => { h with waits := h.waits ++ [{ consumer := 3, pool := 4, n := 1, ref := k, plane := 0 }] }

/-- A new frame of the journal pool, with no record in it, against a credit of pool 4 (R409); none where the record of
slot k waits, for a credit (R417) or with one for a frame (R416). -/
def State.jrnNew (k : Nat) (s : State) : State × Option (Nat × Nat) :=
  if s.jrnAwaits then (s.jrnQueue k, none)
  else match s.credit 4 1 with
    | none => (s.jrnQueue k, none)
    | some t => match t.allocOrWait { pool := 4, who := .record k } with
      | (u, some f) => (u, some (f, 0))
      | (u, none) => (u, none)

/-- A place for one more record in the journal pool: in the frame being filled, or in a new one (R947). -/
def State.jrnPlace (k : Nat) (s : State) : State × Option (Nat × Nat) :=
  match s.jrn.fill with
  | some (f, n) => if n < 512 then (s, some (f, n)) else s.jrnNew k
  | none => s.jrnNew k

/-- Seal a record: SHA-256 over the previous seal and bytes 0 to 95 (R944). -/
def sealOf (prev : List Byte) (body : List Byte) : List Byte := sha256 (prev ++ body)

/-- Append a record whose bytes 8 to 95 are `body` in the place found (R943, R944, R948). DEDUCED, log entry 72. -/
def State.jrnAppend (f n : Nat) (body : List Byte) (s : State) : State :=
  let seq := s.jrn.next
  let b := u64le seq ++ padTo 88 body
  let sl := sealOf s.jrn.headSeal b
  let s1 := s.onJrn fun j =>
    { j with next := seq + 1, headSeal := sl, pool := j.pool ++ [{ seq := seq, bytes := b ++ sl, frame := f }],
             fill := some (f, n + 1), sinceAnchor := j.sinceAnchor + 1 }
  if s1.jrnAnchor ≤ s1.jrn.sinceAnchor then s1.anchor else s1

/-- Bytes 8 to 95 of a genesis record (R943, R944). -/
def genesisBody (time : Time) (tstat : Nat) : List Byte :=
  u64le time.toNat ++ [BitVec.ofNat 8 tstat, 2#8] ++ List.replicate 78 0

end Sys2Proof.Machine
end

