-- ==== Sys2Proof/Machine/TokOps.lean ====
section
/-! DEFINITION. Machine/TokOps.lean: page geometry (R305 to R310), tokens and their transitions (R311 to R317), pins and
ring credits (R418 to R422), spoils (R336), and the books of tokens (R341 to R343). -/
namespace Sys2Proof.Machine

/-! ## Geometry -/

/-- Plane p is present. -/
def Header.has (h : Header) (p : Nat) : Bool := decide (h.planes / 2 ^ p % 2 = 1)

/-- The present planes. -/
def Header.list (h : Header) : List Nat := (List.range 4).filter h.has

/-- RATIO of plane p. -/
def Header.ratioOf (h : Header) (p : Nat) : Nat := h.ratio / 4 ^ p % 4

/-- Blocks per band, bands, block budget, band size, plane size, and frames of a plane (R306). -/
def Header.k (h : Header) : Nat := ceilDiv h.width 16
def Header.nb (h : Header) : Nat := ceilDiv h.height 16
def Header.q (h : Header) (p : Nat) : Nat := match h.ratioOf p with | 0 => 128 | 1 => 64 | _ => 32
def Header.bb (h : Header) (p : Nat) : Nat := h.k * h.q p
def Header.size (h : Header) (p : Nat) : Nat := h.nb * h.bb p
def Header.frames (h : Header) (p : Nat) : Nat := ceilDiv (h.size p) 65536

/-- The frames of the spool pool that a page needs. -/
def Header.spoolFrames (h : Header) : Nat := (h.list.map h.frames).sum

/-- The host-submit frames of the bytes of plane p, and of the whole page (R310, R417). -/
def Header.inFrames (h : Header) (p : Nat) : Nat := ceilDiv (nth 0 h.bytes p) 65536
def Header.submitFrames (h : Header) : Nat := (h.list.map h.inFrames).sum + ceilDiv h.tagBytes 65536

/-- A station is present with a contone plane (R213, R214). -/
def State.planeStation (s : State) (p : Nat) : Option Nat :=
  (List.range 4).find? fun n => s.on .img && bitOf (s.lsReg n 0) 31 && decide (fld (s.lsReg n 0) 26 2 = p)

/-- The check of R310, in the order of its table: the reason, or 0. `lens` are the buffer lengths of planes 0 to 3
and of the tag plane; `follows` says that a back token directly follows its front. -/
def State.headerReason (s : State) (h : Header) (lens : List Nat) (follows : Bool) : Nat :=
  let geo := decide (h.width = 0 ∨ 8192 < h.width ∨ h.height = 0 ∨ 30708 < h.height ∨ h.planes = 0 ∨ h.pair = 3) ||
    h.list.any fun p => decide (h.ratioOf p = 3)
  if geo then 1
  else if h.list.any fun p => decide (nth 0 h.blocks p ≠ h.k * h.nb) then 1
  else if h.precoded && h.list.any fun p => decide (nth 0 h.bytes p ≠ nth 0 h.blocks p * h.q p) then 2
  else if !h.precoded && ((h.list.any fun p => decide (nth 0 h.bytes p ≠ h.width * h.height)) ||
      decide (h.tagBytes ≠ if h.tags then h.height * ceilDiv h.width 4 else 0)) then 2
  else if (h.list.any fun p => decide (nth 0 lens p < nth 0 h.bytes p)) || decide (nth 0 lens 4 < h.tagBytes) ||
      decide (s.budget 1 < h.submitFrames) || decide (s.budget 3 < h.spoolFrames) then 2
  else if h.list.any fun p => (s.planeStation p).isNone then 3
  else if decide (h.pair = 2) && !follows then 4
  else 0

/-! ## Token records -/

/-- Change the PGF block. -/
def State.onPgf (f : Pgf → Pgf) (s : State) : State := { s with pgf := f s.pgf }

/-- The token in a slot. -/
def State.tok (s : State) (k : Nat) : Token := sget {} k s.pgf.tokens

/-- Write the token of a slot. -/
def State.putTok (k : Nat) (t : Token) (s : State) : State :=
  s.onPgf fun g => { g with tokens := sput {} t k g.tokens }

/-- Change the token of a slot. -/
def State.onTok (k : Nat) (f : Token → Token) (s : State) : State := s.putTok k (f (s.tok k))

/-- A slot is free (R312). -/
def Token.isFree (t : Token) : Bool :=
  decide (t.state = .free) || (t.recorded && decide (t.state = .delivered ∨ t.state = .spoiled ∨ t.state = .rejected))

/-- Waiting, and in flight (R313). -/
def Token.waits (t : Token) : Bool := decide (t.state = .submitted ∨ t.state = .accepted ∨ t.state = .armed)
def Token.flies (t : Token) : Bool := decide (t.state = .committed ∨ t.state = .imaged)

/-- Free slots: `PGF_STATUS.FREE_SLOTS` (R345). -/
def State.freeSlots (s : State) : Nat := 1024 - (s.pgf.tokens.filter fun t => !t.2.isFree).length

/-- The lowest free slot. DEDUCED, log entry 38. -/
def State.freeSlot (s : State) : Option Nat := (List.range 1024).find? fun k => (s.tok k).isFree

/-- The slots whose token is in flight, or waits. -/
def State.flying (s : State) : List Nat := (s.pgf.tokens.filter fun t => t.2.flies).map (·.1)
def State.waitingSlots (s : State) : List Nat := (s.pgf.tokens.filter fun t => t.2.waits).map (·.1)

/-- The gate evaluates a token or its partner (R334). -/
def State.underGate (s : State) (k : Nat) : Bool :=
  match s.pgf.gate with
  | none => false
  | some g => decide (g.slot = k) || decide ((s.tok k).partner = some g.slot)

/-! ## Books -/

/-- The seven counts of R341, in the order of R348. -/
def Pgf.counts (g : Pgf) : List Word :=
  [g.cntSubmitted, g.cntRejected, g.cntWaiting, g.cntCommitted, g.cntDelivered, g.cntSpoiled, g.cntInFlight]

/-- The identities of R341. -/
def Pgf.balanced (g : Pgf) : Bool :=
  decide (g.cntSubmitted = g.cntRejected + g.cntWaiting + g.cntCommitted) &&
    decide (g.cntCommitted = g.cntDelivered + g.cntSpoiled + g.cntInFlight)

/-- The check of R343. -/
def State.checkTokens (s : State) : State :=
  if s.pgf.balanced then s
  else (s.raise 87).glume 8 false 87 (s.pgf.counts.flatMap fun w => u32le w.toNat)

/-- The counters that a transition touches (R342). -/
def Pgf.count (g : Pgf) (old new : TState) : Pgf :=
  let cls (x : TState) : Nat := match x with
    | .submitted | .accepted | .armed => 1
    | .committed | .imaged => 2
    | .free | .delivered | .spoiled | .rejected => 0
  let g1 := if cls new = 1 ∧ cls old = 0 then { g with cntSubmitted := g.cntSubmitted + 1, cntWaiting := g.cntWaiting + 1 }
    else if cls old = 1 ∧ cls new ≠ 1 then { g with cntWaiting := g.cntWaiting - 1 } else g
  let g2 := if cls new = 2 ∧ cls old = 1 then
      { g1 with cntCommitted := g1.cntCommitted + 1, cntInFlight := g1.cntInFlight + 1 }
    else if cls old = 2 ∧ cls new ≠ 2 then { g1 with cntInFlight := g1.cntInFlight - 1 } else g1
  match new with
  | .delivered => { g2 with cntDelivered := g2.cntDelivered + 1 }
  | .spoiled => { g2 with cntSpoiled := g2.cntSpoiled + 1 }
  | .rejected => { g2 with cntRejected := g2.cntRejected + 1 }
  | _ => g2

/-- Tell the host of a token's new state (R953). -/
def State.notifyToken (k : Nat) (s : State) : State :=
  let c := s.reg 0xA00004
  let t := s.tok k
  if bitOf c 31 && bitOf c t.state.code then
    let r := s.post (fld c 24 2)
      { kind := 2, tstat := s.time.stat.code, code := t.state.code, reason := t.reason, arg := t.num, time := s.time.now }
    if r.2 then r.1.raise 236 else r.1
  else s

/-- One transition of R314: the state, the reason, the time, the counters, the books and the host (R342, R343, R953). -/
def State.move (k : Nat) (new : TState) (reason : Nat) (s : State) : State :=
  let t := s.tok k
  let s1 := (s.putTok k { t with state := new, reason := reason, time := s.time.now, tstat := s.time.stat.code }).onPgf
    fun g => g.count t.state new
  (s1.notifyToken k).checkTokens

/-! ## What a token holds -/

/-- Remove one pin from every pinned spool frame of a token (R420). -/
def State.unpinSpool (k : Nat) (s : State) : State :=
  (s.framesOf k 3).foldl (fun t f => if 0 < f.2.pins then t.repin f.1 (f.2.pins - 1) else t) s

/-- Free every frame of a token in a pool. -/
def State.freeAll (k p : Nat) (s : State) : State :=
  (s.framesOf k p).foldl (fun t f => t.freeFrame f.1) s

/-- The spool frames of an ended token lose their pins and are freed; one that is being paged out belongs to no
token any more, and its write goes on (R420, R422, R427). -/
def State.freeSpool (k : Nat) (s : State) : State :=
  (s.framesOf k 3).foldl (fun t f =>
    if f.2.st = .dif then t.orphan f.1 else ((if 0 < f.2.pins then t.repin f.1 0 else t).freeFrame f.1)) s

/-- Return the unused ring credits of a token (R421). -/
def State.returnRing (k : Nat) (s : State) : State :=
  (s.uncredit 0 (s.tok k).ringLeft).onTok k fun t => { t with ringLeft := 0 }

/-- A transfer serves a token. -/
def DKind.serves (d : DKind) (k : Nat) : Bool :=
  match d with
  | .plan j _ => decide (j = k)
  | _ => false

/-- Print work is pending (R576). -/
def Rch.printing (r : Rch) : Bool := !r.plans.isEmpty || r.cur.any fun x => x.kind.print

/-- Without print work the credit is 0 (R580). -/
def State.creditRest (s : State) : State :=
  if s.rch.printing then s else { s with rch := { s.rch with credit := 0 } }

/-- Cancel the disk reads of a token: waiting runs leave, a running one ends, and landing frames are given up (R336). -/
def State.cancelRuns (k : Nat) (s : State) : State :=
  let r := s.rch
  let stop := match r.cur with
    | some x => x.kind.serves k
    | none => false
  let s1 : State := { s with
    rch := { r with
      plans := r.plans.filter fun x => !x.kind.serves k
      waiting := r.waiting.filter fun x => !x.kind.serves k
      cur := if stop then none else r.cur
      recov := if stop then .fresh else r.recov
      firstSoft := if stop then none else r.firstSoft }
    srv := if stop then { s.srv with ofs := 0 } else s.srv }
  ((s1.creditRest.freeAll k 2).dropAllocs (AllocWait.serves k (some 2))).onTok k fun t => { t with planCancelled := true }

/-- The first raw plane to be coded is begun: its data has landed, PIX and MEM are on, and its effort is taken
(R379, R385, R388). -/
def State.coderGo (s : State) : State :=
  match s.husk.coding with
  | [] => s
  | (k, _) :: _ =>
    if s.husk.busy || !s.on .pix || !s.on .mem || (s.tok k).reading then s
    else { s with husk := { s.husk with busy := true, effort := fld (s.reg 0x380004) 0 3 } }

/-- The plane in progress is left, and the coder goes on to the next (R379, R385). -/
def State.coderLeaves (s : State) : State :=
  ({ s with husk := { s.husk with coding := s.husk.coding.drop 1, busy := false, coderWaits := false } } : State).coderGo

/-- Discard what a token waits for: its planes to be coded, its credits and its allocations. -/
def State.forget (k : Nat) (s : State) : State :=
  let mine := match s.husk.coding with
    | x :: _ => decide (x.1 = k)
    | [] => false
  let s1 : State := { s with husk := { s.husk with
    coding := s.husk.coding.filter fun x => decide (x.1 ≠ k)
    busy := s.husk.busy && !mine
    coderWaits := s.husk.coderWaits && !mine } }
  let s2 := s1.onShf fun h => { h with waits := h.waits.filter fun w => !(decide (w.ref = k) && decide (w.consumer ≤ 1)) }
  (s2.dropAllocs (AllocWait.serves k none)).coderGo

/-- Give back everything that an ended token holds (R420 to R422). -/
def State.releaseToken (k : Nat) (s : State) : State :=
  let s1 := (s.cancelRuns k).forget k
  let s2 := (((s1.freeSpool k).freeAll k 1).freeAll k 0).returnRing k
  { s2.onTok k (fun t => { t with planes := t.planes.map fun p => { p with extent := none }, plan := [] }) with
    ls := s2.ls.map fun n => { n with pages := n.pages.filter fun p => decide (p.slot ≠ k)
                                      bandStore := n.bandStore.filter fun b => decide (b.slot ≠ k) } }

/-! ## The end of a token -/

/-- Bytes 8 to 95 of a token's end record (R340, R943). -/
def State.endBody (s : State) (k : Nat) : List Byte :=
  let t := s.tok k
  let h := t.hdr
  u64le t.time.toNat ++ [BitVec.ofNat 8 t.tstat, 1#8, BitVec.ofNat 8 t.state.code, BitVec.ofNat 8 t.reason] ++
    u32le t.num ++ u32le (t.sheet.getD 0xFFFFFFFF) ++
    u32le (h.planes + 16 * h.pair + (if h.precoded then 64 else 0) + (if h.tags then 128 else 0) + 256 * h.ratio) ++
    leBytes 2 h.width ++ leBytes 2 h.height ++ u32le 0 ++ u64le t.hostref ++
    (t.marks.flatMap fun m => match m with
      | some (turn, div) => u32le turn ++ leBytes 2 div ++ [0, 0]
      | none => List.replicate 8 0xFF#8) ++ u64le t.submitTime.toNat ++ List.replicate 8 0

/-- The record of slot k stands at place n of frame f: the end record of its token, or for slot 1024 a genesis record
(R340, R944). -/
def State.putRecord (k f n : Nat) (s : State) : State :=
  if k = 1024 then s.jrnAppend f n (genesisBody s.time.now s.time.stat.code)
  else (s.jrnAppend f n (s.endBody k)).onTok k fun x => { x with recorded := true, endWaits := false }

/-- Place the record of slot k in the journal pool, or let it wait for a credit or for a FREE frame (R312, R340, R416,
R417). -/
def State.placeEnd (k : Nat) (s : State) : State :=
  match s.jrnPlace k with
  | (t, some (f, n)) => t.putRecord k f n
  | (t, none) => if k = 1024 then t else t.onTok k fun x => { x with endWaits := true }

/-- Stop the reading of a page's data, return its credits, and complete its SUBMIT_PAGE (R414, R930, R938). -/
def State.stopReading (k status reason : Nat) (s : State) : State :=
  let t := s.tok k
  if t.reading then
    let s0 := if t.creditWait = 0 then s.uncredit 1 t.hdr.submitFrames else s
    let s1 := s0.onTok k fun x => { x with reading := false, creditWait := 0 }
    match s1.submitOf t.queue k with
    | none => s1
    | some i =>
      match (s1.qp t.queue).inflight[i]? with
      | none => s1
      | some d => s1.complete t.queue i
          { cid := d.cid, status := status, reason := reason, result := t.num, result2 := s1.freeSlots }
  else s

/-- A token ends (R314, R340, R422). -/
def State.endTok (k : Nat) (new : TState) (reason : Nat) (s : State) : State :=
  let s1 := (s.move k new reason).onTok k fun t => { t with spoilMark := false }
  let s2 := if new = .rejected then s1.raise 80 else s1
  ((s2.releaseToken k).placeEnd k).stopReading k 12 reason

/-- Reject one waiting token. -/
def State.rejectOne (k reason : Nat) (s : State) : State := if (s.tok k).waits then s.endTok k .rejected reason else s

/-- Reject a waiting token, and its partner with reason PAIR (R315). -/
def State.reject (k reason : Nat) (s : State) : State :=
  if (s.tok k).waits then
    let s1 := s.rejectOne k reason
    match (s.tok k).partner with
    | some j => s1.rejectOne j 4
    | none => s1
  else s

/-- A station whose running line belongs to a page that is spoiled at a tick emits code 0 from then on (R336). -/
def Station.hush (k tick : Nat) (t : Station) : Station :=
  match t.pages with
  | p :: _ => if t.lineOn && decide (p.slot = k) && p.sweep.isSome && t.quiet.isNone then { t with quiet := some tick } else t
  | [] => t

/-- Mark a spoil on one token (R317, R336): its stations emit code 0, its remaining reads are cancelled and its ring
frames freed (R421). -/
def State.spoilOne (k reason : Nat) (s : State) : State :=
  let t := s.tok k
  if t.flies && !t.spoilMark then
    let s1 := (s.onTok k fun t => { t with spoilMark := true, reason := reason }).raise 82
    let s2 : State := { s1 with ls := s1.ls.map (Station.hush k s1.culm.tick) }
    ((s2.cancelRuns k).freeAll k 0)
  else s

/-- One cause touches several tokens in one fabric cycle: each takes its reason, and then the partners that it has not
touched take PARTNER (R315, R317). -/
def State.spoilMany (ks : List Nat) (reason : Nat) (s : State) : State :=
  let hit := ks.filter fun k => (s.tok k).flies && !(s.tok k).spoilMark
  let s1 := hit.foldl (fun t k => t.spoilOne k reason) s
  (hit.filterMap fun k => (s.tok k).partner).foldl (fun t j => t.spoilOne j 23) s1

/-- Mark a spoil on a token, and on its partner with reason PARTNER (R315). -/
def State.spoil (k reason : Nat) (s : State) : State := s.spoilMany [k] reason

/-- Mark a spoil on every token in flight. -/
def State.spoilAll (reason : Nat) (s : State) : State := s.spoilMany s.flying reason

/-- The end of a token in flight whose sheet leaves the path at the output, or by the purge path (R314). A purged one
that no spoil has touched keeps reason 0. DESIGN CHOICE, log entry 115. -/
def State.sheetLeft (k : Nat) (purged : Bool) (s : State) : State :=
  let t := s.tok k
  if !t.flies then s
  else if t.spoilMark || purged then s.endTok k .spoiled t.reason
  else if t.state = .imaged then s.endTok k .delivered 0
  else s

/-- The end of a token whose sheet jams (R338). -/
def State.jamTok (k reason : Nat) (s : State) : State :=
  let t := s.tok k
  if t.flies then s.endTok k .spoiled (if t.spoilMark then t.reason else reason) else s

end Sys2Proof.Machine
end

