-- ==== Sys2Proof/Machine/MotOps.lean ====
section
/-! DEFINITION. Machine/MotOps.lean: the profile generator (R623 to R633), moves, switches and homing (R634 to R650),
and sheet tracking with its jams and books (R651 to R673). -/
namespace Sys2Proof.Machine

/-! ## The profile generator -/

/-- The bounds of one evaluation, in internal units (R623): least velocity, cap, AMAX, DMAX, jerk, EMAX. -/
structure Gen where
  vs : Int
  vc : Int
  amax : Int
  dmax : Int
  j : Int
  emax : Int
  deriving DecidableEq, Repr

/-- Register fields in internal units (R623). -/
def velU (w : Nat) : Int := ((w * 2 ^ 40 / 12800000000 : Nat) : Int)
def accU (w : Nat) : Int := ((w * 2 ^ 64 / 640000000000000000 : Nat) : Int)
def jerkU (w : Nat) : Int := ((w * 1000 * 2 ^ 88 / 512000000000000000000000000 : Nat) : Int)

/-- A quotient truncated toward 0; with a divisor of 0 the spec states none, and `free` is taken. -/
def qdiv (a b free : Int) : Int := if b = 0 then free else a.tdiv b

/-- The test of R630: the distance left, in 2^-16 u, has come within the stopping distance. -/
def Profile.nearEnd (p : Profile) (g : Gen) (free : Int) : Bool :=
  let r := asr ((p.xt - p.x) * p.dir) 8
  let ap := max p.a 0
  let ve := p.v + qdiv (ap * ap) (2 * g.j) free
  let dramp := qdiv (p.v * ap) g.j free + qdiv (ap * ap * ap) (3 * g.j * g.j) free
  let dstop := qdiv (ve * ve) (2 * g.dmax) free + qdiv (ve * g.dmax) (2 * g.j) free
  decide (r ≤ dramp + dstop)

/-- dneed of R630. -/
def Profile.need (p : Profile) (g : Gen) (free : Int) : Int :=
  let r := asr ((p.xt - p.x) * p.dir) 8
  let re := max (r - qdiv (p.v * (p.a.natAbs : Int)) (2 * g.j) free) 1
  (p.v * p.v).tdiv (2 * re)

/-- The phase of an evaluation (R629, R630). -/
def Profile.nextPhase (p : Profile) (g : Gen) (free : Int) : Phase :=
  if p.position ∧ !p.stopping ∧ (p.phase = .decel ∨ p.nearEnd g free = true) then .decel
  else if p.v < g.vc then .accel
  else if g.vc < p.v then .slow
  else if p.a = 0 then .cruise
  else if p.phase = .decel then .accel else p.phase

/-- The acceleration that a phase moves toward, and its bound (R629, R631). -/
def Profile.goal (p : Profile) (ph : Phase) (g : Gen) (need free : Int) : Int × Int :=
  let gap := qdiv (p.a * p.a) (2 * g.j) free
  match ph with
  | .accel => (if gap < g.vc - p.v then g.amax else 0, g.amax)
  | .cruise => (0, g.amax)
  | .slow => (if gap < p.v - g.vc then -g.dmax else 0, g.dmax)
  | .decel => (if gap < p.v - g.vs then -need else 0, need)

/-- One evaluation after `dt` ticks (R624, R627 to R633, R637): the profile without its position. The bound alim is the
phase's, or |a| where a lies above it, so that a changes toward a new bound under the jerk limit (R632); the cap of v is
vc, or v where v lies above it, so that SLOW and DECEL bring it down (R629, R637, R674). DEDUCED, log entry 125. -/
def Profile.eval (p : Profile) (g : Gen) (dt : Nat) (free : Int) : Profile :=
  if p.quick then
    { p with a := -g.emax, v := max g.vs (min p.v (p.v + asr (-g.emax * dt) 24)) }
  else
    let ph := p.nextPhase g free
    let need := p.need g free
    let held := decide (ph = .decel) && decide (g.dmax < need)
    let goal := p.goal ph g need free
    let jc := if p.a < goal.1 then g.j else if goal.1 < p.a then -g.j else 0
    let lim := max goal.2 (p.a.natAbs : Int)
    let a := clampI (-lim) lim (sat64 (p.a + asr (jc * dt) 24))
    { p with phase := ph, held := held, heldSeen := p.heldSeen || held, a := a,
             v := clampI g.vs (max g.vc p.v) (p.v + asr (a * dt) 24) }

/-- Ticks to the next step of a stepper (R624). -/
def Profile.interval (p : Profile) : Nat := (clampI 200 4294967295 ((2 ^ 40 + asr p.v 1).fdiv p.v)).toNat

/-! ## Axes -/

/-- Change the MOT block. -/
def State.onMot (f : Mot → Mot) (s : State) : State := { s with mot := f s.mot }

/-- Raise a source of MOT, and name its axis or input in `MOT_LAST` (R676). -/
def State.motRaise (src idx : Nat) (s : State) : State :=
  (s.onMot fun m => { m with lastSource := src, lastIndex := idx }).raise src

/-- The bounds of an axis's evaluation (R623, R629, R637, R647): the cap is VMAX unless the move has a cap of its
own. -/
def State.genOf (s : State) (k : Nat) : Gen :=
  let m := s.mx k
  let w (off : Nat) : Nat := (s.motReg k off).toNat
  let vs := if s.mServo k then 0 else velU (w 0x20)
  { vs := vs, amax := accU (w 0x14), dmax := accU (w 0x18), j := jerkU (w 0x1C), emax := accU (w 0x24),
    vc := if m.prof.stopping then vs
      else if m.st = .homing then velU (if m.homeStep = 1 then w 0x44 else w 0x48)
      else if s.mot.runout && s.pathAxis k then m.prof.vc
      else velU (w 0x10) }

/-- `MOT_AXk_SW` fields (R682). -/
def State.homeDin (s : State) (k : Nat) : Option Nat :=
  let w := s.motReg k 4
  if bitOf w 15 then some (fld w 8 5) else none
def State.limitDin (s : State) (k : Nat) (pos : Bool) : Option Nat :=
  let w := s.motReg k 4
  if pos then (if bitOf w 31 then some (fld w 24 5) else none) else (if bitOf w 23 then some (fld w 16 5) else none)
def State.homeDir (s : State) (k : Nat) : Int := if bitOf (s.motReg k 4) 7 then 1 else -1

/-- A debounced level. -/
def State.dinLevel (s : State) (i : Nat) : Bool := (nth {} s.mot.dins i).level

/-- The limit switch in a direction is active (R638, R645). -/
def State.limitActive (s : State) (k : Nat) (dir : Int) : Bool :=
  match s.limitDin k (decide (0 < dir)) with
  | some i => s.dinLevel i
  | none => false

/-- Begin a motion of an axis in a direction: at VSTART for a stepper, at 0 for a servo (R625, R627, R641). -/
def State.launch (k : Nat) (st : MSt) (dir : Int) (xt : Option Int) (s : State) : State :=
  let g := s.genOf k
  s.onMx k fun m =>
    { m with st := st, holding := false, ien := false,
             prof := { x := m.prof.x, v := g.vs, a := 0, dir := dir, xt := xt.getD m.prof.x, vs := g.vs,
                       vc := g.vc, phase := .accel, position := xt.isSome } }

/-- The direction and target of a move OP (R629, R634). -/
def State.moveTo (s : State) (k op : Nat) (target : Int) : Int × Option Int :=
  let x := (s.mx k).prof.x
  let t := target * (2 ^ 24 : Nat)
  match op with
  | 0 => (if x ≤ t then 1 else -1, some t)
  | 1 => (if 0 ≤ target then 1 else -1, some (x + t))
  | 2 => (1, none)
  | _ => (-1, none)

/-- The axis fault of a stopped axis (R620, R621). -/
def State.enterFault (k code : Nat) (s : State) : State :=
  (s.onMx k fun m => { m with st := .fault, homed := false, fcode := code, queue := none, strobed := none, homeStep := 0,
                              homeBack := none, faultAfter := 0,
                              prof := { m.prof with v := 0, a := 0, held := false, stopping := false } }).motRaise 144 k

/-- Stop an axis under R637: a STOP, or a quick stop, which sets the acceleration to −EMAX at once. The queue slot
empties. -/
def State.halt (k : Nat) (quick : Bool) (s : State) : State :=
  let emax := accU (s.motReg k 0x24).toNat
  s.onMx k fun m =>
    match m.st with
    | .moving | .homing | .stopping =>
      { m with st := .stopping, queue := none, strobed := none, homeStep := 0, homeBack := none,
               prof := { m.prof with stopping := true, quick := m.prof.quick || quick, held := false,
                                     a := if quick then -emax else m.prof.a } }
    | .disabled => m
    | .idle | .fault => { m with queue := none, strobed := none }

/-- Axis k has gone from the acceleration that it had in `s`: the feed-forward that follows it is refreshed (R139,
R628). -/
def State.accOut (k : Nat) (s t : State) : State :=
  if s.mAcc k = t.mAcc k then t else t.refreshAff 1 k (t.mAcc k)

/-! ## Sheets -/

/-- A sheet of the path. -/
def State.onSheet (num : Nat) (f : Sheet → Sheet) (s : State) : State :=
  s.onMot fun m => { m with sheets := m.sheets.map fun x => if x.num = num then f x else x }

/-- The identity of R670, checked (R672). -/
def State.checkSheets (s : State) : State :=
  let m := s.mot
  if m.fed = m.delivered + m.purged + m.inPath + m.cleared then s
  else (s.motRaise 157 0).glume 8 false 157 ([m.fed, m.delivered, m.purged, m.inPath, m.cleared].flatMap fun w => u32le w.toNat)

/-- The tokens of a sheet. -/
def Sheet.tokens (x : Sheet) : List Nat := x.front :: x.back.toList

/-- Every sheet record becomes STOPPED (R101, R662, R669). -/
def State.stopSheets (s : State) : State :=
  s.onMot fun m => { m with sheets := m.sheets.map fun x => { x with stopped := true } }

/-- What `MOT_LAST` names for a jam: the input of its point, the diverter axis of a DIVERT jam, or the axis that has
faulted (R676). DEDUCED, log entry 53. -/
def State.jamIndex (s : State) (kind point : Nat) : Nat :=
  if kind = 5 then point else if kind = 4 then s.divAxis else fld (s.reg (0x605100 + 0x10 * point)) 16 5

/-- Declare a jam (R662, R663): kind, point or axis, and sheet. A jam that another one follows leaves its place in
`MOT_JAM` to it. DEDUCED, log entry 126. -/
def State.jamUp (kind point sheet : Nat) (s : State) : State :=
  let toks := (s.mot.sheets.filter fun x => !x.stopped).flatMap Sheet.tokens
  let s1 := (List.range 12).foldl (fun t k => if t.pathAxis k then t.halt k true else t) s
  let s2 := s1.stopSheets.onMot fun m => { m with jam := some { kind := kind, point := point, sheet := sheet % 65536 } }
  toks.foldl (fun t k => t.jamTok k (if kind = 5 then 20 else 21)) (s2.motRaise 152 (s.jamIndex kind point))

/-- A sheet approaches DIV_POS: its route is set, and its leading edge has not come there (R659, R674). DEDUCED, log
entry 126. -/
def State.approachesDiv (s : State) : Bool :=
  s.mot.sheets.any fun x => !x.stopped && decide (x.route ≠ 0) && !x.divChecked

/-- An axis faults (R621, R645, R648, R662): HOMED clears and the axis stops, then enters FAULT; a path axis declares a
jam, and so does the diverter axis while a sheet approaches it (R674). -/
def State.axisFault (k code : Nat) (quick : Bool) (s : State) : State :=
  let m := s.mx k
  if m.st = .fault ∨ m.st = .disabled then s
  else
    let s1 := (s.halt k quick).onMx k fun m => { m with homed := false, fcode := code, faultAfter := code }
    let s2 := if m.st = .idle then s1.enterFault k code else s1
    if s.pathAxis k || (s.divEn && decide (k = s.divAxis) && s.approachesDiv) then
      s2.jamUp 5 k (((s2.mot.sheets.filter fun x => !x.stopped).head?.map (·.num)).getD 0)
    else s2

/-- `MOT_SEGs` (R651): axis, 2^-16 µm per u, and start. -/
def State.segAxis (s : State) (i : Nat) : Nat := fld (s.reg (0x605000 + 0x10 * i)) 0 4
def State.segUm (s : State) (i : Nat) : Nat := (s.reg (0x605004 + 0x10 * i)).toNat
def State.segStart (s : State) (i : Nat) : Nat := (s.reg (0x605008 + 0x10 * i)).toNat

/-- The number of segments in use: the leading ones whose UM is not 0. -/
def State.segCount (s : State) : Nat := ((List.range 12).takeWhile fun i => decide (s.segUm i ≠ 0)).length

/-- The segment that holds a position in 2^-16 µm (R651, R656). -/
def State.segAt (s : State) (le : Int) : Option Nat :=
  ((List.range s.segCount).filter fun i => decide (i = 0) || decide (((65536 * s.segStart i : Nat) : Int) ≤ le)).getLast?

/-- `MOT_PTp` fields (R652, R685). -/
def State.ptCfg (s : State) (p : Nat) : Word := s.reg (0x605100 + 0x10 * p)
def State.ptPos (s : State) (p : Nat) : Int := ((s.reg (0x605104 + 0x10 * p)).toNat : Int) * 65536
def State.ptKind (s : State) (p : Nat) : Nat := fld (s.ptCfg p) 28 2
def State.ptWin (s : State) (p : Nat) : Int := (fld (s.ptCfg p) 0 16 : Int) * 65536
def State.ptDin (s : State) (p : Nat) : Nat := fld (s.ptCfg p) 16 5

/-- A sensor or exit point applies to a sheet (R652, R653, R657). -/
def State.applies (s : State) (p : Nat) (x : Sheet) : Bool :=
  let c := s.ptCfg p
  let br := (s.reg 0x60007C).toNat
  let dl := (s.reg 0x600080).toNat
  let pos := (s.reg (0x605104 + 0x10 * p)).toNat
  bitOf c 31 && decide (s.ptKind p ≠ 3) && (!bitOf c 30 || x.back.isSome) &&
    (decide (fld c 24 2 = 0) || decide (fld c 24 2 = x.route)) &&
    (x.back.isSome || !decide (br ≤ pos ∧ pos < br + dl))

/-- The trailing edge of a sheet in 2^-16 µm. -/
def Sheet.te (x : Sheet) : Int := x.le - x.len

/-- The first SENSOR point in use, the one of the lowest position (R658). -/
def State.firstSensor (s : State) : Option Nat :=
  ((List.range 16).filter fun p => bitOf (s.ptCfg p) 31 && decide (s.ptKind p = 0)).foldl (fun best p => match best with
    | none => some p
    | some b => if s.ptPos p < s.ptPos b then some p else some b) none

/-- OD 2800:04 PURGE_PATH. -/
def State.purgePath (s : State) : Bool := decide (leNat (s.odGet (0x2800 * 256 + 4) [0]) = 1)

/-- The profile of a stepper axis takes one step (R624, R631). -/
def State.stepProf (k : Nat) (s : State) : State :=
  let m := s.mx k
  let g := s.genOf k
  let p := m.prof.eval g m.prof.interval (sx 32 s.fresh)
  let p1 := { p with x := p.x + p.dir * (2 ^ 24 : Nat), vs := g.vs, vc := g.vc }
  let s1 := (if g.j = 0 ∨ g.dmax = 0 then s.used else s).onMx k fun m => { m with prof := p1 }
  if p1.heldSeen && !m.prof.heldSeen then s1.motRaise 149 k else s1

/-- Start a move of an idle axis (R625, R635). -/
def State.startMove (k op : Nat) (target : Int) (ien : Bool) (s : State) : State :=
  let d := s.moveTo k op target
  (s.launch k .moving d.1 d.2).onMx k fun m => { m with ien := ien }

/-- The route of a sheet that has come to DIV_POS − DIV_LEAD (R659). A spoil marked before this point sends the sheet
to the purge path where OD 2800:04 asks for it, and one marked later does not (R337, R660). -/
def State.routeSheet (x : Sheet) (s : State) : State :=
  let spoiled := x.tokens.any fun k => (s.tok k).spoilMark
  s.onSheet x.num fun y => { y with route := if spoiled && s.purgePath then 2 else 1 }

/-- The position of the diverter for a route, in u (R659). -/
def State.divTarget (s : State) (route : Nat) : Int := s32 (s.reg (if route = 2 then 0x600078 else 0x600074))

/-- The move of the diverter for a route (R659): a move to where it is, or toward an active limit, does not start
(R638). `go` issues the first step (R625). -/
def State.divert (go : Nat → State → State) (route : Nat) (s : State) : State :=
  let d := s.divAxis
  let target := s.divTarget route
  if s.divEn && decide ((s.mx d).st = .idle) && decide ((s.mx d).prof.x ≠ target * (2 ^ 24 : Nat)) &&
      !s.limitActive d (s.moveTo d 0 target).1 then
    go d (s.startMove d 0 target false)
  else s

/-- The diverter has reached the position of a route (R659). -/
def State.divReady (s : State) (route : Nat) : Bool :=
  !s.divEn || (decide ((s.mx s.divAxis).st = .idle) &&
    decide ((s.mx s.divAxis).prof.x = s.divTarget route * (2 ^ 24 : Nat)))

/-- The first point of kind DIVERTER, which a DIVERT jam names. DEDUCED, log entry 53. -/
def State.divPoint (s : State) : Nat :=
  ((List.range 16).find? fun p => bitOf (s.ptCfg p) 31 && decide (s.ptKind p = 3)).getD 0

/-- What the new position of one sheet brings about: the branch of a simplex sheet, its route, and its jams
(R653, R657, R659). -/
def State.trackOne (num : Nat) (s : State) : State :=
  match s.mot.sheets.find? fun x => decide (x.num = num) with
  | none => s
  | some x0 =>
    let br := ((s.reg 0x60007C).toNat : Int) * 65536
    let dl := ((s.reg 0x600080).toNat : Int) * 65536
    let x := if x0.back.isNone ∧ !x0.branched ∧ 0 < dl ∧ br ≤ x0.le then
        { x0 with le := x0.le + dl, branched := true } else x0
    let s1 := s.onSheet num fun _ => x
    if x.stopped then s1
    else
    let div := ((s.reg 0x60006C).toNat : Int) * 65536
    let lead := ((s.reg 0x600070).toNat : Int) * 65536
    let s2 := if x.route = 0 ∧ div - lead ≤ x.le then s1.routeSheet x else s1
    let route := ((s2.mot.sheets.find? fun y => decide (y.num = num)).map (·.route)).getD 0
    let s3 := if !x.divChecked ∧ div ≤ x.le then
        let t := s2.onSheet num fun y => { y with divChecked := true }
        if t.divReady route then t else t.jamUp 4 t.divPoint num
      else s2
    (List.range 16).foldl (fun t p =>
      match t.mot.sheets.find? fun y => decide (y.num = num) with
      | none => t
      | some y =>
        if y.stopped || !t.applies p y then t
        else
          let on := t.dinLevel (t.ptDin p)
          let hi := t.ptPos p + t.ptWin p
          if !y.lead.getLsbD p && decide (hi < y.le) && !on then t.jamUp 0 p num
          else if !y.trail.getLsbD p && decide (hi < y.te) && on then t.jamUp 1 p num
          else t) s3

/-- The numbers of the sheets that axis k moves: those whose leading edge lies in a segment of it (R656). -/
def State.movedBy (s : State) (k : Nat) : List Nat :=
  (s.mot.sheets.filter fun x => (s.segAt x.le).any fun i => decide (s.segAxis i = k)).map (·.num)

/-- Axis k has moved by `du` microsteps or counts: the leading edges that it moves advance (R656). -/
def State.carry (k : Nat) (du : Int) (s : State) : State :=
  (s.movedBy k).foldl (fun t n => t.onSheet n fun y => match s.segAt y.le with
    | some i => { y with le := y.le + du * (s.segUm i : Int) }
    | none => y) s

/-- The route of a sheet, 0 while it is not set. -/
def State.routeOf (s : State) (num : Nat) : Nat :=
  ((s.mot.sheets.find? fun y => decide (y.num = num)).map (·.route)).getD 0

/-- What the new positions of some sheets bring about, and the moves of the diverter for those whose route has been
set now (R659). -/
def State.trackAll (go : Nat → State → State) (nums : List Nat) (s : State) : State :=
  let t := nums.foldl (fun t n => t.trackOne n) s
  (nums.filter fun n => decide (s.routeOf n = 0 ∧ t.routeOf n ≠ 0)).foldl (fun u n => u.divert go (u.routeOf n)) t

/-! ## The end of motions -/

/-- A motion ends: the axis is at rest (R620), and a move that asked for it raises source 150 (R676, R683). -/
def State.restAt (k : Nat) (st : MSt) (s : State) : State :=
  let s1 := s.onMx k fun m =>
    { m with st := st, homeStep := 0, ien := false,
             prof := { m.prof with v := 0, a := 0, stopping := false, quick := false, held := false } }
  if (s.mx k).ien then s1.motRaise 150 k else s1

/-- A sheet is fed with the pick move that starts (R654, R655): its record, and FED and IN_PATH. -/
def State.feedSheet (front : Nat) (back : Option Nat) (s : State) : State :=
  let n := s.mot.nextSheet
  let x : Sheet := { num := n, front := front, back := back, le := 0, len := ((s.reg 0x600060).toNat : Int) * 65536,
                     frontNum := (s.tok front).num, backNum := (back.map fun b => (s.tok b).num).getD 0 }
  let s1 := s.onMot fun m => { m with sheets := m.sheets ++ [x], nextSheet := (n + 1) % 2 ^ 32, fed := m.fed + 1,
                                      inPath := m.inPath + 1 }
  ((front :: back.toList).foldl (fun t k => t.onTok k fun y => { y with sheet := some n }) s1).checkSheets

/-- The queued move of a stopped axis starts, for a strobe or a pick, which feeds its sheet (R635, R655); a move toward
an active limit is refused (R638). -/
def State.startQueued (k : Nat) (q : QMove) (why : Option Strobe) (s : State) : State :=
  let s1 := s.onMx k fun m => { m with queue := none, strobed := none }
  let d := s1.moveTo k q.op q.target
  if s1.limitActive k d.1 then s1.onMx k fun m => { m with cmdStatus := 3 }
  else
    let s2 := match why with
      | some (.pick f b) => s1.feedSheet f b
      | _ => s1
    s2.startMove k q.op q.target q.ien

/-- A stopped axis takes up its queued move when `now`, or when a strobe or a pick has come for it (R635). DESIGN
CHOICE, log entry 91. -/
def State.takeQueued (k : Nat) (now : Bool) (s : State) : State :=
  match (s.mx k).queue with
  | some q => if now || (s.mx k).strobed.isSome then s.startQueued k q (s.mx k).strobed else s
  | none => s

/-- The end of a STOP or quick stop that homing or a command asked for (R637, R648). -/
def State.stopEnd (k : Nat) (s : State) : State :=
  let code := (s.mx k).faultAfter
  let s1 := s.restAt k .idle
  if code ≠ 0 then s1.enterFault k code else s1.takeQueued k false

/-- The move of an axis ends (R625, R635, R683). -/
def State.endMove (k : Nat) (s : State) : State := (s.restAt k .idle).takeQueued k (bitOf (s.motReg k 0) 18)

/-- A homing step's STOP: the axis slows while it stays in HOMING (R647). -/
def State.homeSlow (k step : Nat) (s : State) : State :=
  s.onMx k fun m => { m with homeStep := step, prof := { m.prof with stopping := true } }

/-- The home switch is inactive in step 3: HBACK further steps or counts remain (R647). -/
def State.homeLeft (k : Nat) (s : State) : State :=
  let b := (s.motReg k 0x4C).toNat
  if b = 0 then s.homeSlow k 6 else s.onMx k fun m => { m with homeBack := some b }

/-- The debounced home switch is active. -/
def State.homeOn (s : State) (k : Nat) : Bool := (s.homeDin k).any s.dinLevel

/-- The direction of a step of the homing sequence (R647). -/
def State.homeWay (s : State) (k step : Nat) : Int := if step = 3 then -(s.homeDir k) else s.homeDir k

/-- A limit switch other than the home switch stands in the way of a homing step (R638, R649). -/
def State.homeBarred (s : State) (k step : Nat) : Bool :=
  s.limitActive k (s.homeWay k step) && decide (s.limitDin k (decide (0 < s.homeWay k step)) ≠ s.homeDin k)

/-- Begin a step of the homing sequence (R647): an active limit in its way faults the axis (R649). -/
def State.homeStep (k step : Nat) (s : State) : State :=
  if s.homeBarred k step then (((s.restAt k .idle).enterFault k 1).motRaise 145 k).motRaise 147 k
  else
    let s1 := s.onMx k fun m => { m with homeStep := step, homeTravel := 0, homeBack := none, st := .homing }
    let s2 := s1.launch k .homing (s.homeWay k step) none
    if step = 3 ∧ s2.homeOn k = false then s2.homeLeft k else s2

/-- The end of a STOP within homing: step 2 leads to step 3, the stop after step 3 to step 4, and step 5 ends (R647). -/
def State.homeStopped (k : Nat) (s : State) : State :=
  match (s.mx k).homeStep with
  | 2 => s.homeStep k 3
  | 6 => s.homeStep k 4
  | _ => (((s.restAt k .idle).onMx k fun m => { m with homed := true }).motRaise 146 k).takeQueued k false

/-- Homing has travelled too far (R648). -/
def State.homeTooFar (k : Nat) (s : State) : State := (s.axisFault k 2 false).motRaise 147 k

/-- Count the travel of a homing step, in u (R647, R648). -/
def State.homeTravelled (k n : Nat) (s : State) : State :=
  let m := s.mx k
  if m.st ≠ .homing ∨ m.prof.stopping then s
  else
    let d := m.homeTravel + n
    let s1 := s.onMx k fun m => { m with homeTravel := d, homeBack := m.homeBack.map (· - n) }
    if (m.homeBack.any fun left => decide (left ≤ n)) then s1.homeSlow k 6
    else if (s.motReg k 0x54).toNat < d then s1.homeTooFar k else s1

/-- The end conditions after an evaluation (R625, R627, R637). -/
def State.motEnd (k : Nat) (s : State) : State :=
  let m := s.mx k
  let slow := decide (m.prof.v ≤ m.prof.vs)
  match m.st with
  | .moving => if m.prof.position && decide (m.prof.x = m.prof.xt) then s.endMove k else s
  | .homing => if m.prof.stopping && slow then s.homeStopped k else s
  | .stopping => if slow then s.stopEnd k else s
  | .disabled | .idle | .fault => s

/-- New microstep tables come into force at a full-step boundary (R642). -/
def State.stepTables (k : Nat) (s : State) : State :=
  s.onMx k fun m => match m.tblNew with
    | some l => if asr m.prof.x 24 * (2 ^ (8 - s.mStep k) : Nat) % 256 = 0 then { m with tbls := l, tblNew := none } else m
    | none => m

/-- One step of a stepper axis (R624, R625, R631): the generator, the step, the sheets it carries by `tr`, homing
travel, and the end of the motion; the feed-forward follows (R139). -/
def State.stepOnce (tr : Nat → Int → State → State) (k : Nat) (s : State) : State :=
  let m := s.mx k
  if m.st = .moving ∧ m.prof.position ∧ m.prof.x = m.prof.xt then s.accOut k (s.endMove k)
  else
    let s1 := (s.stepProf k).stepTables k
    let s2 := tr k m.prof.dir (s1.refreshAff 1 k (s1.mAcc k))
    s2.accOut k ((s2.homeTravelled k 1).motEnd k)

/-- A step of a stepper axis; when it ends a move and a queued one starts, that one's first step is issued too
(R625, R635). -/
def State.stepWith (tr : Nat → Int → State → State) (k : Nat) (s : State) : State :=
  let t := s.stepOnce tr k
  if (s.mx k).queue.isSome && (t.mx k).queue.isNone && decide ((t.mx k).st = .moving) then t.stepOnce tr k else t

/-- The first step of a move that has started (R625), of a stepper axis. -/
def State.firstStep (tr : Nat → Int → State → State) (k : Nat) (s : State) : State :=
  if s.mServo k then s else s.stepWith tr k

/-- Axis k has moved by `du` microsteps or counts: the sheets that it moves advance (R656), and what their positions
bring about follows; a diverter that starts makes its first step, which may move sheets in its turn, `depth` times
at most. -/
def State.trackN : Nat → Nat → Int → State → State
  | 0, k, du, s => (s.carry k du).trackAll (fun _ t => t) (s.movedBy k)
  | depth + 1, k, du, s => (s.carry k du).trackAll (State.firstStep (State.trackN depth)) (s.movedBy k)

/-- The tracker follows axis k (R656): each of the up to 16 sheets (R654) starts the diverter at most once. -/
def State.track (k : Nat) (du : Int) (s : State) : State := s.trackN 16 k du

/-- A step of a stepper axis (R624, R625). -/
def State.stepAxis (k : Nat) (s : State) : State := s.stepWith State.track k

/-- A sheet has come to a new position by a point (R657, R659). -/
def State.sheetAt (num : Nat) (s : State) : State := s.trackAll (State.firstStep State.track) [num]

/-- One evaluation of a servo axis's setpoint (R627): the last one takes the target exactly. -/
def State.servoAxis (k : Nat) (s : State) : State :=
  let m := s.mx k
  let g := s.genOf k
  let dt := (s.motReg k 0x58).toNat
  let p := m.prof.eval g dt (sx 32 s.fresh)
  let d := asr (p.v * dt) 16
  let past := p.position && decide ((p.xt - p.x) * p.dir ≤ d)
  let p1 := if past then { p with x := p.xt, v := 0, a := 0 } else { p with x := p.x + p.dir * d, vs := g.vs, vc := g.vc }
  let u := (asr p1.x 24 - asr m.prof.x 24).natAbs
  let s1 := (if g.j = 0 ∨ g.dmax = 0 then s.used else s).onMx k fun m => { m with prof := p1 }
  let s2 := if p1.heldSeen && !m.prof.heldSeen then s1.motRaise 149 k else s1
  let s3 := s2.refreshAff 1 k (s2.mAcc k)
  s3.accOut k ((s3.homeTravelled k u).motEnd k)

/-- A queued-move strobe, or a pick (R635, R636). A running move keeps its target (R634): the queued one starts when the
axis has stopped. DESIGN CHOICE, log entry 91. -/
def State.strobe (k : Nat) (why : Strobe) (s : State) : State :=
  match (s.mx k).queue with
  | none => s.motRaise 158 k
  | some q =>
    if (s.mx k).st = .idle then
      let t := s.startQueued k q (some why)
      if (t.mx k).st = .moving then t.firstStep State.track k else t
    else s.onMx k fun m => { m with strobed := some (m.strobed.getD why) }

/-- The path is clear (R665). A move in the slot that a strobe or a pick has already asked for is no move for the next
pick. DESIGN CHOICE, log entry 91. -/
def State.pathClear (s : State) : Bool :=
  let axes := (List.range 12).filter fun k => s.pathAxis k || decide (k = s.pickAxis) || (s.divEn && decide (k = s.divAxis))
  s.on .eng && s.mot.jam.isNone && !s.mot.runout &&
    (axes.all fun k => decide ((s.mx k).st ≠ .fault) && (s.mx k).homed) && (s.mx s.pickAxis).queue.isSome &&
    (s.mx s.pickAxis).strobed.isNone &&
    decide (s.mot.inPath.toNat < fld (s.reg 0x600008) 16 5) &&
    (decide (s.mot.inPath = 0) || (match s.mot.sheets.getLast? with
      | some x => decide (((s.reg 0x600068).toNat : Int) * 65536 ≤ x.te)
      | none => true))

/-- The run-out ends (R668): every path axis stops. -/
def State.runoutEnd (s : State) : State :=
  if s.mot.runout ∧ s.mot.inPath = 0 then
    let s1 := (List.range 12).foldl (fun t k => if t.pathAxis k then t.halt k false else t) s
    (s1.onMot fun m => { m with runout := false }).motRaise 156 0
  else s

/-- A sheet leaves the path at exit point p (R661). -/
def State.exitSheet (x : Sheet) (p : Nat) (s : State) : State :=
  let purge := decide (s.ptKind p = 2)
  let s1 := s.onMot fun m =>
    { m with sheets := m.sheets.filter fun y => decide (y.num ≠ x.num), inPath := m.inPath - 1,
             delivered := if purge then m.delivered else m.delivered + 1,
             purged := if purge then m.purged + 1 else m.purged }
  let s2 := s1.checkSheets.motRaise (if purge then 155 else 154) (s.ptDin p)
  (x.tokens.foldl (fun t k => t.sheetLeft k purge) s2).runoutEnd

/-- The sheets to which point p applies. -/
def State.sheetsAt (s : State) (p : Nat) : List Sheet := s.mot.sheets.filter (s.applies p)

/-- A position lies in the window of point p (R657). -/
def State.inWindow (s : State) (p : Nat) (x : Int) : Bool := decide (s.ptPos p - s.ptWin p ≤ x ∧ x ≤ s.ptPos p + s.ptWin p)

/-- A point's input has become active (R657): the sheet whose leading edge is expected takes its position; with none,
and none that covers the point, it is an EARLY jam. -/
def State.pointOn (p : Nat) (s : State) : State :=
  let pos := s.ptPos p
  let due := (s.sheetsAt p).filter fun x => s.inWindow p x.le
  match (due.find? fun x => !x.lead.getLsbD p) <|> due.head? with
  | some x => (s.onSheet x.num fun y => { y with le := pos, lead := y.lead ||| (1#16 <<< p) }).sheetAt x.num
  | none =>
    if (s.sheetsAt p).any fun x => decide (x.te ≤ pos ∧ pos ≤ x.le) then s
    else s.jamUp 2 p (((s.mot.sheets.find? fun x => !x.stopped).map (·.num)).getD 0)

/-- The length of a sheet is measured at the first SENSOR point (R658). -/
def State.measure (p : Nat) (s : State) : State :=
  if s.firstSensor = some p then
    match (s.sheetsAt p).find? fun x => !x.stopped && x.lead.getLsbD p && !x.measured with
    | some x => s.onSheet x.num fun y => { y with len := y.le - s.ptPos p, measured := true }
    | none => s
  else s

/-- A point's input has become inactive (R657, R658, R661). -/
def State.pointOff (p : Nat) (s0 : State) : State :=
  let s := s0.measure p
  let pos := s.ptPos p
  match (s.sheetsAt p).find? fun x => !x.stopped && !x.trail.getLsbD p && s.inWindow p x.te with
  | some x =>
    let s1 := s.onSheet x.num fun y => { y with trail := y.trail ||| (1#16 <<< p) }
    let media := ((s.reg 0x600060).toNat : Int) * 65536
    let tol := ((s.reg 0x600064).toNat : Int) * 65536
    if s.firstSensor = some p ∧ tol < ((x.len - media).natAbs : Int) then s1.jamUp 3 p x.num
    else if s.ptKind p = 0 then s1 else s1.exitSheet x p
  | none =>
    match (s.sheetsAt p).find? fun x => !x.stopped && decide (x.te < pos - s.ptWin p ∧ pos ≤ x.le) with
    | some x => s.jamUp 2 p x.num
    | none => s

end Sys2Proof.Machine
end

