-- ==== Sys2Proof/Machine/MotCmd.lean ====
section
/-! DEFINITION. Machine/MotCmd.lean: what the commands of paper-path motion do. -/
namespace Sys2Proof.Machine

/-! ## Axis commands -/

/-- A write of `MOT_AXk_CMD` with GO = 1: its fields are stored, then the operation answers STATUS (R683). -/
def axisCommand (k op : Nat) (queue ien : Bool) (f : State → Nat × State) (s : State) : State :=
  s.bar0 (0x601008 + 0x80 * k) .setp fun s =>
    let s1 := s.onMx k fun m => { m with cmdWord := placeB queue 27 ||| placeB ien 26 ||| place op 0 4 }
    let r := f s1
    r.2.onMx k fun m => { m with cmdStatus := r.1 }

/-- A move OP (R634, R635, R638): queued, started, or refused. -/
def State.cmdMove (k op : Nat) (queue ien : Bool) (s : State) : Nat × State :=
  let m := s.mx k
  let target := s32 (s.motReg k 0x0C)
  if m.st = .disabled ∨ m.st = .fault then (3, s)
  else if queue then
    if m.queue.isSome then (4, s)
    else (2, s.onMx k fun m => { m with queue := some { op := op, target := target, ien := ien } })
  else if m.st ≠ .idle then (3, s)
  else
    let d := s.moveTo k op target
    if s.limitActive k d.1 then (3, s)
    else
      (1, (s.startMove k op target ien).firstStep State.track k)

/-- MOVE_ABSOLUTE, MOVE_RELATIVE, VELOCITY_POSITIVE and VELOCITY_NEGATIVE: OP 0 to 3. -/
def moveAbsolute (k : Nat) (queue ien : Bool) (s : State) : State := axisCommand k 0 queue ien (State.cmdMove k 0 queue ien) s
def moveRelative (k : Nat) (queue ien : Bool) (s : State) : State := axisCommand k 1 queue ien (State.cmdMove k 1 queue ien) s
def velocityPositive (k : Nat) (queue ien : Bool) (s : State) : State := axisCommand k 2 queue ien (State.cmdMove k 2 queue ien) s
def velocityNegative (k : Nat) (queue ien : Bool) (s : State) : State := axisCommand k 3 queue ien (State.cmdMove k 3 queue ien) s

/-- OP 4 and OP 5 (R637). -/
def State.cmdHalt (k : Nat) (quick : Bool) (s : State) : Nat × State :=
  if (s.mx k).st = .disabled then (3, s) else (1, s.halt k quick)

/-- STOP and QUICK_STOP. -/
def stop (k : Nat) (s : State) : State := axisCommand k 4 false false (State.cmdHalt k false) s
def quickStop (k : Nat) (s : State) : State := axisCommand k 5 false false (State.cmdHalt k true) s

/-- OP 6 (R647): the homing sequence starts at step 3 when the home switch is active. An active limit in the way of its
first step refuses it (R638). -/
def State.cmdHome (k : Nat) (s : State) : Nat × State :=
  let first := if s.homeOn k then 3 else 1
  if (s.mx k).st ≠ .idle ∨ s.homeBarred k first = true then (3, s)
  else (1, (s.homeStep k first).firstStep State.track k)

/-- HOME. -/
def home (k : Nat) (s : State) : State := axisCommand k 6 false false (State.cmdHome k) s

/-- Set the position of an axis: its setpoint, and the count of its encoder for a servo (R618, R622, R647). -/
def State.setPosition (k : Nat) (p : Int) (s : State) : State :=
  let off := p - s.mPos k
  let s1 := if s.mServo k then s.onMot fun m => { m with enc := modAt m.enc (s.mEnc k) fun _ => p } else s
  s1.onMx k fun m => { m with prof := { m.prof with
    x := if s.mServo k then m.prof.x + off * (2 ^ 24 : Nat) else p * (2 ^ 24 : Nat) } }

/-- OP 7 (R622). -/
def State.cmdSetPos (k : Nat) (s : State) : Nat × State :=
  if (s.mx k).st ≠ .idle then (3, s)
  else (1, (s.setPosition k (s32 (s.motReg k 0x0C))).onMx k fun m => { m with homed := true })

/-- SET_POS. -/
def setPos (k : Nat) (s : State) : State := axisCommand k 7 false false (State.cmdSetPos k) s

/-- AXIS_FAULT_CLEAR: a write of `MOT_AXk_CMD` with CLR = 1 (R683). -/
def axisFaultClear (k : Nat) (s : State) : State :=
  s.bar0 (0x601008 + 0x80 * k) .setp fun s =>
    if (s.mx k).st = .fault then s.onMx k fun m => { m with st := .idle, fcode := 0 } else s

/-! ## Steps and evaluations -/

/-- An axis is being driven through a profile. -/
def MAxis.runs (m : MAxis) : Bool := decide (m.st = .moving ∨ m.st = .homing ∨ m.st = .stopping)

/-- MICROSTEP (R624). -/
def microstep (k : Nat) (s : State) : State :=
  if s.on .eng && !s.mServo k && (s.mx k).runs then s.stepAxis k else s

/-- The following error of a servo axis is judged (R676), and its slot triggered (R619, R763). -/
def State.follow (k : Nat) (s : State) : State :=
  let fe := satS 32 (asr (s.mx k).prof.x 24 - s.mPos k)
  let s1 := s.onMx k fun m => { m with ferr := fe }
  if (s.motReg k 0x3C).toNat < fe.natAbs then (s1.axisFault k 4 true).motRaise 151 k
  else s1.nextInstant.trigger (fld (s.motReg k 0) 8 8) (s1.mPos k) false false

/-- SERVO_EVALUATION (R619, R627). -/
def servoEvaluation (k : Nat) (s : State) : State :=
  if !s.on .eng || !s.mServo k then s
  else match (s.mx k).st with
    | .disabled | .fault => s
    | .idle => s.follow k
    | .moving | .homing | .stopping =>
      let t := s.servoAxis k
      t.accOut k (t.follow k)

/-- HOLD_DELAY_EXPIRY (R641). -/
def holdDelayExpiry (k : Nat) (s : State) : State :=
  if s.on .eng && decide ((s.mx k).st = .idle) then s.onMx k fun m => { m with holding := true } else s

/-- ENCODER_COUNT: encoder e counts by `d`; the sheets of the servo axes that use it advance (R618, R656). -/
def encoderCount (e : Nat) (d : Int) (s : State) : State :=
  if !s.on .eng then s
  else
    let s1 := s.onMot fun m => { m with enc := modAt m.enc e fun c => satS 32 (c + d) }
    (List.range 12).foldl (fun t k =>
      if t.mEn k && t.mServo k && bitOf (t.motReg k 0) 28 && decide (t.mEnc k = e) then t.track k d else t) s1

/-! ## Switches -/

/-- The switch i is a limit switch, or the home switch, of an axis. -/
def State.switchOf (s : State) (k i : Nat) : Bool :=
  decide (s.homeDin k = some i) || decide (s.limitDin k true = some i) || decide (s.limitDin k false = some i)

/-- The home switch of an axis has changed during homing (R647). -/
def State.homeEdge (k : Nat) (on : Bool) (s : State) : State :=
  let m := s.mx k
  if m.prof.stopping then s
  else match m.homeStep, on with
    | 1, true => s.homeSlow k 2
    | 3, false => s.homeLeft k
    | 4, true => ((s.setPosition k (s32 (s.motReg k 0x50))).homeSlow k 5)
    | _, _ => s

/-- A limit switch of an axis has become active (R645, R649, R674). -/
def State.limitEdge (k i : Nat) (s : State) : State :=
  let m := s.mx k
  if m.st = .homing then
    if s.homeDin k = some i then s
    else ((s.axisFault k 1 true).motRaise 145 k).motRaise 147 k
  else
    let dirHit := decide (s.limitDin k (decide (0 < m.prof.dir)) = some i)
    if m.runs && dirHit then (s.axisFault k 1 true).motRaise 145 k else s

/-- What a new debounced level brings about on one axis. -/
def State.axisSwitch (i : Nat) (on : Bool) (k : Nat) (s : State) : State :=
  let s1 := if on && (decide (s.limitDin k true = some i) || decide (s.limitDin k false = some i)) then s.limitEdge k i else s
  if decide ((s1.mx k).st = .homing) && decide (s1.homeDin k = some i) then s1.homeEdge k on else s1

/-- What a new debounced level brings about at the points that use the input, exit points or SENSOR points (R657). -/
def State.pointSwitch (i : Nat) (on exits : Bool) (s : State) : State :=
  (List.range 16).foldl (fun t p =>
    if bitOf (t.ptCfg p) 31 && decide (t.ptDin p = i) &&
        decide (if exits then t.ptKind p = 1 ∨ t.ptKind p = 2 else t.ptKind p = 0) then
      (if on then t.pointOn p else t.pointOff p)
    else t) s

/-- The debounced level of input i takes a new value (R643, R645, R647, R657): at the exits first, so that a sheet that
reaches one counts as delivered (R339, R674); at the axes but those of `but`; at the SENSOR points. -/
def State.debounced (i : Nat) (on : Bool) (but : List Nat) (s : State) : State :=
  let s1 := s.onMot fun m => { m with dins := modAt m.dins i fun d => { d with level := on } }
  (((List.range 12).filter fun k => !but.contains k).foldl (fun t k => t.axisSwitch i on k)
    (s1.pointSwitch i on true)).pointSwitch i on false

/-- The active level of input i: its raw level, inverted when INV is 1 (R685). -/
def State.dinActive (s : State) (i : Nat) (raw : Bool) : Bool := xor raw (bitOf (s.reg (0x603000 + 8 * i)) 31)

/-- DIN_DEBOUNCED: the raw level has held for DEBOUNCE (R643). -/
def dinDebounced (i : Nat) (s : State) : State :=
  let d := nth {} s.mot.dins i
  let a := s.dinActive i d.raw
  if s.on .eng && decide (a ≠ d.level) then s.debounced i a [] else s

/-- The axes in homing that use a switch. -/
def State.homersOf (s : State) (i : Nat) : List Nat :=
  (List.range 12).filter fun k => decide ((s.mx k).st = .homing) && s.switchOf k i

/-- Chatter ends the homing of the axes that use a switch (R650). -/
def State.chatterHoming (i : Nat) (s : State) : State :=
  (s.homersOf i).foldl (fun t k => (t.axisFault k 3 false).motRaise 147 k) s

/-- DIN_CHANGE: the raw level of input i becomes `raw`; changes within CHAT_WIN are counted (R643, R644, R650). On an
axis whose homing the chatter ends, chatter wins over the edge (R674). -/
def dinChange (i : Nat) (raw : Bool) (s : State) : State :=
  let d := nth {} s.mot.dins i
  if !s.on .eng || decide (d.raw = raw) then s
  else
    let c := s.reg (0x603000 + 8 * i)
    let now := s.time.now.toNat
    let rec' := (now :: d.recent).filter fun t => decide (now - t < fld c 0 8 * 1000000)
    let chat := decide (fld c 8 4 ≠ 0) && decide (fld c 8 4 < rec'.length)
    let s1 := s.onMot fun m => { m with dins := modAt m.dins i fun d =>
      { d with raw := raw, recent := rec'.take 17, chatter := d.chatter || chat } }
    let s2 := if chat then (s1.chatterHoming i).motRaise 148 i else s1
    let a := s2.dinActive i raw
    if fld c 12 16 = 0 ∧ a ≠ (nth {} s2.mot.dins i).level then s2.debounced i a (if chat then s1.homersOf i else []) else s2

/-! ## The path -/

/-- CLEAR_JAM is legal (R666, R674). -/
def State.mayClear (s : State) : Bool :=
  !s.mot.runout && ((List.range 12).all fun k => !s.pathAxis k || decide ((s.mx k).st = .idle ∨ (s.mx k).st = .fault)) &&
    (List.range 16).all fun p => !bitOf (s.ptCfg p) 31 || decide (s.ptKind p ≠ 0) || !s.dinLevel (s.ptDin p)

/-- The clear of R666, with its answer in STATUS. A token in flight whose sheet is cleared has left the path with it
(R314, R667). DEDUCED, log entry 126. -/
def clearJamStore (s : State) : Abort × State :=
  if !s.mayClear then (.stateConflict, s.onMot fun m => { m with pathStatus := 3 })
  else
    let gone := s.mot.sheets.filter fun x => x.stopped
    let n := gone.length
    let s1 := s.onMot fun m =>
      { m with sheets := m.sheets.filter fun x => !x.stopped, jam := none, pathStatus := 1,
               inPath := m.inPath - BitVec.ofNat 32 n, cleared := m.cleared + BitVec.ofNat 32 n }
    (.none, gone.foldl (fun t x => (x.tokens.filter fun k => decide ((t.tok k).sheet = some x.num)).foldl
      (fun u k => u.sheetLeft k true) t) (s1.checkSheets.motRaise 153 0))

/-- CLEAR_JAM: a write of `MOT_PATH_CMD` with GO = 1 and OP 0 (R666, R678). -/
def clearJam (s : State) : State := s.bar0 0x600004 .setp fun s => (clearJamStore s).2

/-- A snapshot of the five counts (R673). -/
def State.snapSheets (s : State) : State :=
  s.onMot fun m =>
    { m with snap := [m.fed, m.delivered, m.purged, m.inPath, m.cleared], snapTime := s.time.now,
             snapTstat := s.time.stat.code, snapValid := true, snapSeq := (m.snapSeq + 1) % 65536 }

/-- The 29 bytes of OD 3800:05 (R687). -/
def Mot.countBytes (m : Mot) : List Byte :=
  (m.snap.flatMap fun w => u32le w.toNat) ++ u64le m.snapTime.toNat ++ [BitVec.ofNat 8 m.snapTstat]

/-- The snapshot that a read of OD 3800:05 takes (R673). -/
def sheetsTake (s : State) : State :=
  if !s.on .eng then s.replied .stateConflict
  else
    let s1 := s.snapSheets
    { s1 with zop := { s1.zop with reply := .none, replyData := s1.mot.countBytes } }

/-- MOT_SNAPSHOT: a write of `MOT_SNAP_CTRL` with REQ = 1, or a read of OD 3800:05 (R673). -/
def motSnapshot (byRead : Bool) (s : State) : State :=
  if byRead then s.answers sheetsTake else s.bar0 0x600040 .any State.snapSheets

/-- The shadow microstep table t (R642). -/
def State.shadowSteps (s : State) (t : Nat) : List Nat :=
  (List.range 256).map fun i => fld (s.reg (0x604000 + 0x400 * t + 4 * i)) 0 12

/-- The apply of R642: each stepper axis takes both tables at its next full-step boundary. -/
def microstepApplyStore (s : State) : State :=
  let l := [s.shadowSteps 0, s.shadowSteps 1]
  (s.onMot fun m => { m with axes := m.axes.map fun a => { a with tblNew := some l } }).motRaise 159 0

/-- MICROSTEP_TABLE_APPLY: a write of 1 to OD 3840:03 (R642, R689). -/
def microstepTableApply (s : State) : State :=
  s.dict fun s => if !s.on .eng || !s.mayWrite .shadow then (.stateConflict, s) else (.none, microstepApplyStore s)

/-- A write of `MOT_AXk_CFG` has changed EN (R620, R681). -/
def State.axisEnable (k : Nat) (en : Bool) (s : State) : State :=
  s.onMx k fun m =>
    if !en then { m with st := .disabled, queue := none, strobed := none, ien := false, homeStep := 0, homeBack := none, fcode := 0,
                         faultAfter := 0, prof := { m.prof with v := 0, a := 0, stopping := false, quick := false } }
    else if m.st = .disabled then { m with st := .idle } else m

end Sys2Proof.Machine
end

