-- ==== Sys2Proof/Machine/StOps.lean ====
section
/-! DEFINITION. Machine/StOps.lean: the conditions of an imaging station: enabled, locked, APC-good, ready (R213, R252,
R253, R265, R267), the page in flight on it, and the loss of its readiness (R268). -/
namespace Sys2Proof.Machine

/-- A station is enabled (R213). -/
def State.stEnabled (s : State) (n : Nat) : Bool :=
  s.on .img && bitOf (s.lsReg n 0) 31 && !(s.st n).disable

/-- The source i of station n (R287). -/
def stSource (n i : Nat) : Nat := 48 + 8 * n + i

/-- NBEAM (R216, R288). -/
def State.nbeam (s : State) (n : Nat) : Nat := 4 * 2 ^ fld (s.lsReg n 0) 24 2

/-- The polygon motor's observer reports the rotor as plausible (R265, R717): a unit serves the station, and each
that does is PLAUSIBLE. DEDUCED, log entry 84. -/
def State.polyPlausible (s : State) (n : Nat) : Bool :=
  let l := s.unitsOfStation n
  !l.isEmpty && l.all fun u => (s.du u).plausible

/-- `LSn_STATUS.POLY_LOCKED` (R265). -/
def State.polyLocked (s : State) (n : Nat) : Bool :=
  decide ((s.culm.ax (s.scanAxis n)).st = .locked) && decide (fld (s.lsReg n 0x24) 8 8 ≤ (s.st n).polyGood) &&
    s.polyPlausible n

/-- A sample lies within `tol` counts of the target (R252). -/
def sampleOk (tgt tol : Nat) (x : Option Nat) : Bool :=
  match x with
  | some v => decide (((v : Int) - tgt).natAbs ≤ tol)
  | none => false

/-- TGT and TOL of beam b in force now (R252). -/
def State.apcTgt (s : State) (n b : Nat) : Nat := fld (s.lsReg n (0x180 + 4 * b)) 0 12
def State.apcTol (s : State) (n : Nat) : Nat := fld (s.lsReg n 0x2C) 0 12

/-- APC-good of beam b (R252). -/
def State.apcGood (s : State) (n b : Nat) : Bool :=
  let x : Beam := nth {} (s.st n).beams b
  sampleOk (s.apcTgt n b) (s.apcTol n) x.sample0 && sampleOk (s.apcTgt n b) (s.apcTol n) x.sample1 &&
    decide (x.age ≤ fld (s.lsReg n 0x28) 0 8) && !x.satSince

/-- `LSn_STATUS.APC_VALID` (R253, R257). -/
def State.apcValid (s : State) (n : Nat) : Bool := s.apcEn n && (List.range (s.nbeam n)).all fun b => s.apcGood n b

/-- Calibration id runs on an instance (R1040). -/
def State.calRuns (s : State) (id inst : Nat) : Bool :=
  match (nth {} s.cal.chans id).run with
  | some r => decide (r.inst = inst)
  | none => false

/-- Calibration id with a run, or held as pending, on an instance (R1040, R1061). -/
def State.calOn (s : State) (id inst : Nat) : Bool :=
  let c := nth {} s.cal.chans id
  s.calRuns id inst || (c.pendHold && (match c.pending with
    | some p => decide (p.1 = inst)
    | none => false))

/-- CAL holds READY of a station at not ready (R1040, R1044, R1061). -/
def State.calHeld (s : State) (n : Nat) : Bool :=
  s.calOn 0 (s.scanAxis n) || s.calOn 9 (s.scanAxis n) || s.calOn 2 n || s.calOn 3 n

/-- `LSn_STATUS.READY` (R267). -/
def State.stReady (s : State) (n : Nat) : Bool :=
  s.stEnabled n && s.polyLocked n && s.apcValid n && (s.st n).pllLocked && !(s.st n).ilkLatch && !s.calHeld n

/-- The page of a station whose top-of-page mark has come and which is not yet emitted whole. -/
def Station.page (t : Station) : Option SPage :=
  match t.pages with
  | [] => none
  | p :: _ => if p.sweep.isSome then some p else none

/-- The tokens in flight on a station: those committed whose page the station has still to emit (R268, R275). -/
def Station.slots (t : Station) : List Nat := t.pages.map (·.slot)

/-- The station has lost its readiness: every token committed on it whose page it has still to emit is spoiled
(R268, R273, R275, R334). -/
def State.spoilStation (n reason : Nat) (s : State) : State := s.spoilMany (s.st n).slots reason

/-- The token in flight on a station is spoiled (R255). -/
def State.spoilFront (n reason : Nat) (s : State) : State := s.spoilMany ((s.st n).slots.take 1) reason

/-- The station sets GATE_HOLD, raises a source, and its page in flight is spoiled (R268). -/
def State.readinessLost (n src : Nat) (s : State) : State :=
  ((s.onLs n fun t => { t with gateHold := true }).raise src).spoilStation n 16

/-- The gate hold of the station whose fault caused a spoil (R255, R336). -/
def State.gateHoldOn (n : Nat) (s : State) : State := s.onLs n fun t => { t with gateHold := true }

/-- VEL_set of a polygon speed (R265). -/
def velSet (rpm : Nat) : Nat := (2 * rpm * 2 ^ 48 + 48000000000) / 96000000000

/-- The rotor speed at an accepted edge lies within the tolerance of `LSn_POLY` (R265). -/
def polyWithin (poly : Word) (vel : Int) : Bool :=
  let v := velSet (fld poly 16 16)
  decide ((vel - v).natAbs * 1000000 ≤ fld poly 0 8 * 10 * v)

/-- A station whose POLY_LOCKED is 1 remembers it, whatever has made it rise: its fall is answered (R268). -/
def State.polySeen (s : State) : State :=
  (List.range 4).foldl (fun t n =>
    if t.polyLocked n && !(t.st n).polyWas then t.onLs n fun x => { x with polyWas := true } else t) s

/-- An edge of axis k has been judged: the stations whose scanner it is count the edges within tolerance (R265). -/
def State.polyEdge (k : Nat) (accepted : Bool) (s : State) : State :=
  (List.range 4).foldl (fun t n =>
    if t.scanAxis n ≠ k then t
    else
      let ok := polyWithin (t.lsReg n 0x24) (velOf (t.culm.ax k).omega)
      if accepted then t.onLs n fun x => { x with polyGood := if ok then satInc 255 x.polyGood else 0 } else t) s

/-- A facet of the polygons of axis k has passed, with its edge accepted or missed: the beams' samples age (R252).
DEDUCED, log entry 84. -/
def State.facetPass (k : Nat) (s : State) : State :=
  (List.range 4).foldl (fun t n =>
    if t.scanAxis n ≠ k then t
    else t.onLs n fun x => { x with beams := x.beams.map fun b => { b with age := b.age + 1 } }) s

end Sys2Proof.Machine
end

