-- ==== Sys2Proof/Machine/DrvOps.lean ====
section
/-! DEFINITION. Machine/DrvOps.lean: drive units: starting, stopping, faults, rotor loss and catches (R693, R694,
R719 to R725), and the motor bus (R728 to R736). -/
namespace Sys2Proof.Machine

/-- Change the DRV block. -/
def State.onDrv (f : Drv → Drv) (s : State) : State := { s with drv := f s.drv }

/-- Raise a source of DRV, and name its unit or bridge in `DRV_LAST` (R742). -/
def State.drvRaise (src idx : Nat) (s : State) : State :=
  (s.onDrv fun d => { d with lastSource := src, lastIndex := idx }).raise src

/-- The enabled units (R690). -/
def State.unitsOn (s : State) : List Nat := unitsWhere fun u => s.duEn u && decide (s.duCount u ≠ 0)

/-- The record of R736: VBUS, the chopper current, and the state and speed of every enabled unit. -/
def State.busRecord (src : Nat) (s : State) : State :=
  s.faultRecord src ([s.drv.vbus, code 32 s.drv.ibrk] ++
    s.unitsOn.map fun u => (s.du u).st.code * 2 ^ 28 + code 28 (s.duRpm u))

/-- The unit may drive its bridges now (R694). -/
def State.unitLive (s : State) (u : Nat) : Bool :=
  s.on .eng && (s.outputsLive ||
    (decide (s.sys.mode = .safe) && s.mot.runout && decide (s.duSrc u = 1) && s.pathAxis (s.duIndex u)) ||
    ((decide (s.sys.mode = .safe) || s.sys.transit) && (decide ((s.du u).st = .stopping) ||
      (decide (s.duSrc u = 1) && decide ((s.mx (s.duIndex u)).st = .moving ∨ (s.mx (s.duIndex u)).st = .homing ∨
        (s.mx (s.duIndex u)).st = .stopping)))))

/-- The gates of bridge i of a unit (R692, R694, R695, R697, R706, R722, R731, R733, R738). -/
def State.unitGates (s : State) (u i : Nat) : Gates :=
  let d := s.du u
  let w := s.drvReg u 4
  let p := sectorPhases d.sector
  if !s.on .ana then .floating
  else if !s.unitLive u || s.drv.hardCut || s.drv.gateUv then .off
  else match d.st with
    | .disabled | .idle | .coast | .fault => .off
    | .stopping => if d.lowSides then .lowHeld else .off
    | .sense | .ramp | .run | .catching =>
      if s.duType u = 1 ∧ !s.duSine u ∧ i = p.2.2 then .off
      else if s.duType u = 1 ∧ !s.duSine u ∧ i = p.2.1 then .lowHeld
      else gatesOf (fld w 16 15) (fld w 0 10) (nth 0 d.cmp i)

/-- The gates of half-bridge b: both low where it belongs to no enabled unit (R690, R692); floating while ANA is off
(R695). -/
def State.bridgeGates (s : State) (b : Nat) : Gates :=
  match (unitsWhere fun u => s.duEn u && decide (s.duBase u ≤ b ∧ b < s.duBase u + s.duCount u)).head? with
  | some u => s.unitGates u (b - s.duBase u)
  | none => if s.on .ana then .off else .floating

/-- The PWM counter of a unit, which all its bridges share (R696). -/
def State.unitCount (s : State) (u : Nat) : Nat := pwmCount (fld (s.drvReg u 4) 16 15) (s.culm.tick - (s.du u).valley)

/-- An offset calibration holds the unit: a start ends BUSY (R1040). -/
def State.unitCal (s : State) (u : Nat) : Bool := s.calRuns 4 u

/-- A fresh attempt of a unit: SENSE for a three-phase motor, RUN at once for the others (R719). -/
def State.attempt (u : Nat) (s : State) : State :=
  s.onDu u fun d =>
    { d with st := if s.duType u = 1 then .sense else .run, plausible := false, reached := false, clock := 0, sector0 := 0,
             sector := 0, omega := 0, ea := 0, eb := 0, iAl := 0, iBe := 0, failRow := List.replicate 5 0, passRow := 0,
             zcBad := false, zcInt := [], zcLast := none, commAt := none, input := [0, 0, 0, 0], attemptWait := false,
             catchWait := false, regenCoast := false, lowSides := false, stopWanted := false }

/-- Start a unit (R719): refused during a hard cut or a calibration (R721, R1040). -/
def State.startUnit (u : Nat) (s : State) : State :=
  if s.drv.hardCut || s.unitCal u || !s.engineLive || decide ((s.du u).st ≠ .idle) then s
  else (s.attempt u).onDu u fun d => { d with attempts := 1, catches := 0, fcode := 0 }

/-- Stop a unit: it coasts to BRAKE_MAX and holds its low sides on until the rotor stops (R722 step 7, R746). A stepper
and an open-duty unit have no rotor to wait for. -/
def State.stopUnit (u : Nat) (s : State) : State :=
  s.onDu u fun d =>
    match d.st with
    | .disabled | .idle | .fault => d
    | .sense | .ramp | .run | .coast | .catching | .stopping =>
      if s.duType u = 1 ∨ s.duType u = 3 then
        { d with st := .stopping, stopWanted := true, attemptWait := false, regenCoast := false, commAt := none }
      else { d with st := .idle, lowSides := false }

/-- A unit enters FAULT, and on a trip, a hard cut or an undervoltage the motion axis that it serves faults (R733, R735,
R737). -/
def State.faultUnit (u fcode : Nat) (s : State) : State :=
  if (s.du u).st = .fault ∨ (s.du u).st = .disabled then s
  else
    let s1 := (s.onDu u fun d => { d with st := .fault, fcode := fcode, attemptWait := false, catchWait := false,
                                          regenCoast := false, lowSides := false, commAt := none }).drvRaise 160 u
    if s1.duSrc u = 1 ∧ (fcode = 3 ∨ fcode = 5 ∨ fcode = 6) then s1.axisFault (s1.duIndex u) 5 false else s1

/-- Whether the unit is decelerating (R730). -/
def State.duDecel (s : State) (u : Nat) : Bool :=
  let d := s.du u
  let t := s.duType u
  let cmd : Int := if s.duSrc u = 1 then d.axisRef else (s.ts ((s.duSlot u + 2) % 256)).u
  let m := s.mx (s.duIndex u)
  ((decide (t = 1) || decide (t = 3)) && decide (d.st = .run) && (decide (cmd < 0 ∧ 0 < d.omega) ||
      decide (0 < cmd ∧ d.omega < 0)) &&
    decide (handover16 (s.drvReg u 0x20) ≤ d.omega.natAbs)) ||
  (decide (s.duSrc u = 1) && (decide (m.st = .stopping) ||
    (decide (m.st = .moving ∨ m.st = .homing) && decide (m.prof.phase = .decel ∨ m.prof.phase = .slow))))

/-- BRAKE_MAX, rpm (R748). -/
def State.brakeMax (s : State) (u : Nat) : Int := (fld (s.drvReg u 0x2C) 16 16 : Nat)

/-- The spoil marks of a rotor loss (R723). -/
def State.lossSpoils (u : Nat) (s : State) : State :=
  match s.duSrc u with
  | 1 => s
  | 2 => s.spoilStation (s.duIndex u % 4) 16
  | _ =>
    let w := s.drvReg u 0x54
    if bitOf w 12 then s.spoilAll 20
    else s.spoilMany (((List.range 4).filter fun n => bitOf w (8 + n)).flatMap fun n => (s.st n).slots) 20

/-- STOPPING after catches have failed, or without a catch (R722 step 7). -/
def State.giveUp (u : Nat) (s : State) : State :=
  (s.onDu u fun d => { d with st := .stopping, catchWait := false, regenCoast := false, commAt := none }).drvRaise 163 u

/-- Rotor loss of a unit in RUN (R722 to R724). -/
def State.rotorLoss (u : Nat) (s : State) : State :=
  let s1 := (s.onDu u fun d => { d with st := .coast, catches := 0, catchWait := false, commAt := none,
                                        zcInt := [], zcLast := none }).drvRaise 162 u
  let s2 := match s1.duSrc u with
    | 1 =>
      let t := s1.axisFault (s1.duIndex u) 5 false
      t.onDu u fun d => { d with st := .stopping, stopWanted := true }
    | 2 =>
      let n := s1.duIndex u % 4
      (s1.onLs n fun x => { x with polyWas := false }).readinessLost n (stSource n 1)
    | _ => s1
  s2.lossSpoils u

/-- The catch of a unit succeeds (R722 step 5). -/
def State.caught (u : Nat) (s : State) : State :=
  (s.onDu u fun d => { d with st := .run, plausible := true, reached := true }).drvRaise 164 u

/-- A coasting unit whose speed is known begins a catch, keeps coasting, or stops (R722 steps 5 and 7, R732, R740). -/
def State.coastJudge (u : Nat) (s : State) : State :=
  let d := s.du u
  let set : Int := (s.duSet u : Nat)
  let rpm := rpmOf (d.omega.natAbs : Int) (s.duPoles u)
  let c := s.drvReg u 0x28
  let begin (t : State) : State := t.onDu u fun d =>
    { d with st := .catching, catches := d.catches + 1, regenCoast := false, plausible := false, passRow := 0,
             failRow := List.replicate 5 0, theta := sixTheta d.sector 0 d.t60 }
  if d.st ≠ .coast ∨ d.stopWanted ∨ d.attemptWait then s
  else if set = 0 then s.giveUp u
  else if d.regenCoast then (if rpm ≤ set then begin s else s)
  else if rpm * 100 < set * (fld c 8 8 : Nat) then s.giveUp u
  else if rpm * 100 ≤ set * (fld c 16 8 : Nat) ∧ !d.catchWait then begin s
  else s

/-- A change of a setpoint: a coasting unit whose setpoint has become 0 stops (R722 step 7, R740). -/
def State.setpointChanged (u : Nat) (s : State) : State :=
  if (s.du u).st = .coast ∧ s.duSet u = 0 ∧ !(s.du u).stopWanted ∧ !(s.du u).attemptWait then s.giveUp u else s

/-- Start every unit that a transition to READY starts (R693). -/
def State.startUnits (s : State) : State :=
  s.unitsOn.foldl (fun t u =>
    let go := match t.duSrc u with
      | 0 => bitOf (t.drvReg u 0x54) 13
      | 1 => t.mEn (t.duIndex u)
      | 2 => t.stEnabled (t.duIndex u % 4)
      | _ => false
    if go then t.startUnit u else t) s

/-- Stop every unit (R739): units of path axes follow their axes, unless `all`. -/
def State.stopUnits (all : Bool) (s : State) : State :=
  s.unitsOn.foldl (fun t u =>
    if !all && decide (t.duSrc u = 1) && t.pathAxis (t.duIndex u) then t else t.stopUnit u) s

/-- Open the bridges of a unit (R692). -/
def State.openUnit (u : Nat) (s : State) : State :=
  s.onDu u fun d =>
    if d.st = .disabled ∨ d.st = .fault then d
    else { d with st := .idle, lowSides := false, commAt := none, attemptWait := false, catchWait := false,
                  regenCoast := false }

/-- A unit has not stopped. -/
def DUnit.turns (d : DUnit) : Bool :=
  match d.st with
  | .disabled | .idle | .fault => false
  | .coast => !d.stopWanted
  | .sense | .ramp | .run | .catching | .stopping => true

/-- A unit that has not stopped opens its bridges and coasts (R739); a stepper and an open-duty half-bridge have no
rotor that coasts. -/
def State.coastUnit (u : Nat) (s : State) : State :=
  (s.openUnit u).onDu u fun d =>
    if d.st = .idle ∧ (s.duType u = 1 ∨ s.duType u = 3) then { d with st := .coast, stopWanted := true } else d

/-- Open the bridges of every unit (R692, R694, R739). -/
def State.openUnits (s : State) : State := s.unitsOn.foldl (fun t u => t.openUnit u) s

/-! ## The bus -/

/-- The thresholds in force in the bus comparators: KDIV, WARN, HYST, HARD, UV (R742 ff.). -/
def State.busLim (s : State) (i : Nat) : Nat := (nth 0 s.drv.mirror i).toNat

/-- Copy the bus settings into the comparators while ANA is on. -/
def State.mirrorBus (s : State) : State :=
  if s.on .ana then
    s.onDrv fun d => { d with mirror := [s.reg 0x680014, s.reg 0x680018, s.reg 0x68001C, s.reg 0x680020, s.reg 0x680024] }
  else s

/-- VBUS lies below WARN − HYST (R734). -/
def State.busLow (s : State) : Bool := decide (s.drv.vbus + s.busLim 2 < s.busLim 1)

/-- The speed of a unit lies at or below BRAKE_MAX. -/
def State.duSlow (s : State) (u : Nat) : Bool := decide (((s.duRpm u).natAbs : Int) ≤ s.brakeMax u)

/-- A decelerating unit takes its REGEN_ACT (R731): it coasts, or at or below BRAKE_MAX it holds its low sides on, which
a unit does in STOPPING (R692, R722). DEDUCED, log entry 127. -/
def State.regenAct (u : Nat) (s : State) : State :=
  s.onDu u fun d =>
    if d.st = .fault ∨ d.st = .disabled then d
    else if bitOf (s.drvReg u 0) 13 && s.duSlow u then
      { d with st := .stopping, regenCoast := false, lowSides := true, commAt := none }
    else { d with st := .coast, regenCoast := true, lowSides := false, commAt := none }

/-- Inhibit regeneration (R731). -/
def State.inhibitRegen (s : State) : State :=
  if s.drv.regenInh || !s.drv.chopFault || decide (s.drv.vbus < s.busLim 1) then s
  else
    let s1 := ((s.onDrv fun d => { d with regenInh := true, cntInh := satInc 0xFFFFFFFF d.cntInh }).drvRaise 169 0)
    let units := s.unitsOn.filter s.duDecel
    let s2 := units.foldl (fun t u =>
      let t1 := t.regenAct u
      if t1.duSrc u = 1 then t1.axisFault (t1.duIndex u) 5 false else t1) s1
    (s2.spoilAll 20).busRecord 169

/-- The chopper is faulty (R729). -/
def State.chopFaulty (hold : Bool) (s : State) : State :=
  let s1 := if hold then s.onDrv fun d => { d with chopOn := false, chopHeld := true } else s
  let s2 := if s1.drv.chopFault then s1
    else ((s1.onDrv fun d => { d with chopFault := true }).drvRaise 168 0).busRecord 168
  s2.inhibitRegen

/-- BRK_GATE follows VBUS (R728). -/
def State.chopper (s : State) : State :=
  let d := s.drv
  let warn := if s.busLim 1 ≤ d.vbus then true else if s.busLow then false else d.busWarn
  let on := warn && !d.chopHeld
  let s1 := s.onDrv fun d => { d with busWarn := warn, chopOn := on, chopLow := on && (d.chopLow || !d.chopOn) }
  if on && !d.chopOn then
    (s1.onDrv fun d => { d with cntChop := satInc 0xFFFFFFFF d.cntChop }).drvRaise 167 0
  else s1

end Sys2Proof.Machine
end

