-- ==== Sys2Proof/Machine/DrvCmd.lean ====
section
/-! DEFINITION. Machine/DrvCmd.lean: what the commands of the motor drives do. -/
namespace Sys2Proof.Machine

/-! ## The PWM period -/

/-- The current of a bridge from its conversions, in mA (R701, R702); none when it has no valid sample. `free` stands
where the shunt is 0. -/
def State.bridgeMa (s : State) (u i : Nat) (codes : List Nat) (free : Int) : Option Int :=
  let w := s.drvReg u 8
  let n := nsOf w
  if codes.length < n then none
  else some (shuntMa ((codes.take n).map fun c => (c % 4096 : Nat)).sum n (nth 0 s.cal.ofs (s.duBase u + i)) (gainOf w)
    (fld w 0 16) free)

/-- Store the samples of a unit's bridges, and raise source 172 for a code at an end of the range (R702, R705). -/
def State.putBridges (u : Nat) (convs : List (List Nat)) (s : State) : State :=
  let n := nsOf (s.drvReg u 8)
  (List.range (s.duCount u)).foldl (fun t i =>
    let l := nth [] convs i
    let b := t.duBase u + i
    let t1 := t.onDrv fun d => { d with bridges := modAt d.bridges b fun _ =>
      if l.length < n then { valid := false, code := 0 } else { valid := true, code := ((l.take n).map (· % 4096)).sum / n } }
    if l.any fun c => decide (c % 4096 = 0 ∨ c % 4096 = 4095) then t1.drvRaise 172 b else t1) s

/-- The currents fed to the slots (R703), from the current of each bridge. -/
def State.fedOf (s : State) (u : Nat) (ma : Nat → Option Int) : List (Option Int) :=
  match s.duType u with
  | 1 =>
    if s.duSine u then
      match ma 0, ma 1, ma 2 with
      | some a, some b, some c => [some a, some b, some c]
      | none, some b, some c => [some (-(b + c)), some b, some c]
      | some a, none, some c => [some a, some (-(a + c)), some c]
      | some a, some b, none => [some a, some b, some (-(a + b))]
      | _, _, _ => [none, none, none]
    else [(ma (sectorPhases (s.du u).sector).2.1).map fun x => -x]
  | 2 =>
    let w (i : Nat) : Option Int := match ma i, ma (i + 1) with
      | some a, some b => some ((a - b).tdiv 2)
      | _, _ => none
    [w 0, w 2]
  | 3 => [match ma 0, ma 1 with
      | some a, some b => some ((a - b).tdiv 2)
      | _, _ => none]
  | 4 => [ma 0]
  | _ => []

/-- SENSE has ended: the ramp begins from the sector found (R719 steps 1 and 2). -/
def State.senseEnd (u sector : Nat) (s : State) : State :=
  let start := s.drvReg u 0x20
  s.onDu u fun d =>
    if d.st = .sense ∧ senseMs start ≤ d.ms then
      { d with st := .ramp, sector0 := if bitOf start 31 then 0 else sector % 6 }
    else d

/-- The open-loop sector of RAMP (R719 step 2). -/
def State.rampSector (u : Nat) (s : State) : State :=
  if (s.du u).st = .ramp ∧ !s.duSine u then
    (s.onDu u fun d => { d with sector := d.rampTheta (s.drvReg u 0x20) (s.drvReg u 0x24) (s.duReverse u) * 6 / 4294967296 % 6 }).putCmp u
  else s

/-- The observer and the supervision of a three-phase unit in one period (R713 to R717): with its bridges open a
sinusoidal unit takes its speed from the zero crossings, like a six-step one (R722 step 4). A unit that has tripped in
this period is judged to the period's end (R740). -/
def State.observeUnit (u : Nat) (s : State) : State :=
  let d := s.du u
  let start := s.drvReg u 0x20
  let ke := (s.drvReg u 0x38).toNat
  let per := fld (s.drvReg u 4) 16 15
  let ab := clarke (nth 0 d.cur 0) (nth 0 d.cur 1)
  let v := invPark (nth 0 d.input 1) (nth 0 d.input 0) (s.duTheta u / 65536)
  let d1 := if s.duSine u && decide (d.st ≠ .coast ∧ d.st ≠ .stopping) then
      d.observe ab.1 ab.2 v.1 v.2 (s.drvReg u 0x30).toNat (s.drvReg u 0x34).toNat ke (s.drvReg u 0x3C) per start
        (sx 32 s.fresh)
    else if d.st = .ramp then { d with omega := signed (s.duReverse u) (d.rampOmega start (s.drvReg u 0x24)) }
    else { d with omega := if d.t60 = 0 then d.omega else signed (s.duReverse u) (sixOmega d.t60),
                  theta := sixTheta d.sector (match d.zcLast with
                    | some _ => s.culm.tick - d.commLast
                    | none => 0) d.t60 }
  let s1 := (if s.duSine u then s.used else s).onDu u fun _ => d1
  let above := match d.st with
    | .ramp => decide (handover16 start ≤ d.rampOmega start (s.drvReg u 0x24))
    | .run | .catching => true
    | .fault => d.tripped
    | _ => false
  if !above then s1
  else
    let c := s1.drvReg u 0
    let ax := s1.culm.ax (fld c 7 5)
    let axis := if bitOf c 12 && decide (ax.st = .locked) then some (axisHz16 ax) else none
    let fails := d1.checks (s1.duSine u) d.omega ke (s1.drvReg u 0x3C) (s1.drvReg u 0x40) (s1.drvReg u 0x44) axis
      (s1.duPoles u)
    s1.onDu u fun _ => d1.supervise fails (fld (s1.drvReg u 0x40) 24 8)

/-- What the supervision brings about: the hand-over, the end of a catch, rotor loss, and 90 % of the setpoint
(R719, R720, R722); of a rotor loss in the period of a trip, the spoil marks (R740). -/
def State.superviseEnd (u : Nat) (was : Bool) (s : State) : State :=
  let d := s.du u
  match d.st with
  | .ramp => if 8 ≤ d.passRow then s.onDu u fun d => { d with st := .run, plausible := true } else s
  | .catching => if max 1 (fld (s.drvReg u 0x40) 24 8) ≤ d.passRow then s.caught u else s
  | .run =>
    let near := decide ((s.duSet u : Int) * 9 ≤ ((s.duRpm u).natAbs : Int) * 10)
    let s1 := if near && d.plausible then s.onDu u fun d => { d with reached := true } else s
    if was && !d.plausible && d.reached then s1.rotorLoss u else s1
  | .fault => if d.tripped && was && !d.plausible && d.reached then s.lossSpoils u else s
  | _ => s

/-- Feed the unit's slots (R703, R704, R716); `stales` says of each current whether it is stale. -/
def State.feedSlots (u : Nat) (stales : List Bool) (s : State) : State :=
  let stale := stales.any id
  let d := s.du u
  let sl := s.duSlot u
  let t (j : Nat) (y : Int) (st : Bool) (x : State) : State :=
    if x.duUses u j then x.trigger ((sl + j) % 256) y st false else x
  let s1 := s.nextInstant
  match s.duType u with
  | 1 =>
    let q := parkOf (clarke (nth 0 d.cur 0) (nth 0 d.cur 1)).1 (clarke (nth 0 d.cur 0) (nth 0 d.cur 1)).2
      (s.duTheta u / 65536)
    let a := if s.duSine u then t 1 (q.1.tdiv 65536) stale (t 0 (q.2.tdiv 65536) stale s1)
      else t 0 (nth 0 d.cur 0) stale s1
    t 2 (s.duRpm u) false a
  | 2 => t 1 (nth 0 d.cur 1) (nth false stales 1) (t 0 (nth 0 d.cur 0) (nth false stales 0) s1)
  | 3 => t 2 (s.duRpm u) false (t 0 (nth 0 d.cur 0) stale s1)
  | _ => s1

/-- PWM_PERIOD: a period of unit u ends. `convs` are the conversions of each bridge that R702 takes, and `sector` the
sector that the inductive pulses of SENSE find (R702 to R717, R719). -/
def pwmPeriod (u : Nat) (convs : List (List Nat)) (sector : Nat) (s : State) : State :=
  if !s.on .eng || !s.duEn u || decide (s.duCount u = 0) then s
  else
    let was := (s.du u).plausible
    let w := s.drvReg u 8
    let zero := decide (fld w 0 16 = 0)
    let free := s.fresh
    let s1 := (if zero then s.used else s).putBridges u convs
    let fed := s1.fedOf u fun i => s1.bridgeMa u i (nth [] convs i) (sx 32 (free / 2 ^ (32 * i)))
    let stale := fed.any Option.isNone
    let per := fld (s1.drvReg u 4) 16 15
    let s2 := s1.onDu u fun d =>
      { d with valley := s1.culm.tick, nextAt := d.cmp.map fun c => s1.culm.tick + nextEdge per c 0,
               cur := (fed.zipIdx.map fun p => p.1.getD (nth 0 d.cur p.2)) ++ d.cur.drop fed.length,
               stale := if stale then satInc 65535 d.stale else d.stale,
               clock := match d.st with
                 | .sense | .ramp => d.clock + 2 * per
                 | _ => d.clock }
    let s3 := if s2.duType u = 1 then
        (((s2.senseEnd u sector).rampSector u).observeUnit u).superviseEnd u was
      else s2
    let s4 := if (s3.du u).regenCoast && decide ((s3.du u).st = .coast) then s3.regenAct u else s3
    (s4.onDu u fun d =>
      { d with decel := s4.duDecel u, lowSides := decide (d.st = .stopping) && s4.duSlow u,
               tripped := false }).feedSlots u (fed.map Option.isNone)

/-! ## Unit commands -/

/-- A write of `DRV_Uu_CMD` with GO = 1: OP is stored in the modes of its class, and the operation answers its STATUS
(R746). A start is judged in every mode (R694). -/
def duCommand (u op : Nat) (f : State → Nat × State) (s : State) : State :=
  s.bar0 (0x68100C + 0x80 * u) (if op = 0 then .any else .setp) fun s =>
    let s1 := if s.mayWrite .setp then s.onDu u fun d => { d with cmdOp := op } else s
    let r := if op ≤ 2 ∧ (s1.duSrc u = 1 ∨ s1.duSrc u = 2) then (3, s1) else f s1
    r.2.onDu u fun d => { d with cmdStatus := r.1 }

/-- OP 0 (R694, R721, R746, R1040). -/
def State.cmdStart (u : Nat) (s : State) : Nat × State :=
  if s.unitCal u then (4, s)
  else if !s.engineLive || s.drv.hardCut || !s.duEn u || decide (s.duCount u = 0) then (3, s)
  else match (s.du u).st with
    | .idle => (1, s.startUnit u)
    | .disabled | .fault => (3, s)
    | .sense | .ramp | .run | .coast | .catching | .stopping => (4, s)

/-- UNIT_START. -/
def unitStart (u : Nat) (s : State) : State := duCommand u 0 (State.cmdStart u) s

/-- OP 1 and OP 2 (R746): a unit that is not running, or is in FAULT, takes neither. -/
def State.cmdStopUnit (u : Nat) (coast : Bool) (s : State) : Nat × State :=
  match (s.du u).st with
  | .disabled | .fault => (3, s)
  | .idle => (1, s)
  | .sense | .ramp | .run | .coast | .catching | .stopping =>
    if coast then
      (1, s.onDu u fun d => { d with st := .coast, stopWanted := true, attemptWait := false, catchWait := false,
                                     regenCoast := false, lowSides := false, commAt := none })
    else (1, s.stopUnit u)

/-- UNIT_STOP. -/
def unitStop (u : Nat) (s : State) : State := duCommand u 1 (State.cmdStopUnit u false) s

/-- UNIT_COAST. -/
def unitCoast (u : Nat) (s : State) : State := duCommand u 2 (State.cmdStopUnit u true) s

/-- OP 3: a fault is cleared, and the unit becomes IDLE (R746). -/
def State.cmdClearUnit (u : Nat) (s : State) : Nat × State :=
  if (s.du u).st = .fault then (1, s.onDu u fun d => { d with st := .idle, fcode := 0, attempts := 0 }) else (3, s)

/-- UNIT_FAULT_CLEAR. -/
def unitFaultClear (u : Nat) (s : State) : State := duCommand u 3 (State.cmdClearUnit u) s

/-- ADVANCE_TABLE_APPLY: OP 4 (R709). -/
def advanceTableApply (u : Nat) (s : State) : State :=
  duCommand u 4 (fun s => (1, s.onDu u fun d => { d with advArmed := true })) s

/-! ## Six-step -/

/-- ZERO_CROSSING: the floating phase of unit u crosses half the bus at tick `tick` (R707, R714, R715, R722). -/
def zeroCrossing (u tick : Nat) (s : State) : State :=
  if !s.on .eng || decide (s.duType u ≠ 1) || !s.duEn u then s
  else
    let d := s.du u
    let t60 := d.t60
    let tol := fld (s.drvReg u 0x44) 0 8
    let bad := match d.zcLast with
      | some z => decide (0 < t60) && decide (tol * t60 < 100 * ((tick : Int) - (z + t60 : Nat)).natAbs)
      | none => false
    let d1 := { d with zcBad := bad, zcLast := some tick,
                       zcInt := match d.zcLast with
                         | some z => (tick - z) :: d.zcInt.take 1
                         | none => d.zcInt }
    let t := d1.t60
    let adv := advanceAt d.adv (fld (s.drvReg u 0x50) 0 16) (sixOmega t)
    match d.st with
    | .run | .catching =>
      if s.duSine u then s
      else s.onDu u fun _ =>
        { d1 with omega := if t = 0 then d.omega else signed (s.duReverse u) (sixOmega t),
                  commAt := if t = 0 then none else some ((tick : Int) + (t : Int) * (120 - adv) / 240).toNat }
    | .coast =>
      if t = 0 then s.onDu u fun _ => d1
      else (s.onDu u fun _ => { d1 with omega := signed (s.duReverse u) (sixOmega t) }).coastJudge u
    | .ramp | .stopping => s.onDu u fun _ => d1
    | _ => s

/-- COMMUTATION: the scheduled time arrives, and unit u steps to the next sector (R706, R707, R709, R714). -/
def commutation (u : Nat) (s : State) : State :=
  let d := s.du u
  match d.commAt with
  | none => s
  | some c =>
    if !s.on .eng || decide (d.st ≠ .run ∧ d.st ≠ .catching) then s
    else
      let sec := if s.duReverse u then (d.sector + 5) % 6 else (d.sector + 1) % 6
      let s1 := s.onDu u fun d => { d with sector := sec, commAt := none, commLast := c }
      let s2 := if sec = 0 ∧ d.advArmed then
          (s1.onDu u fun d => { d with advArmed := false,
                                       adv := (List.range 17).map fun i => fld (s1.reg (0x683000 + 0x80 * u + 4 * i)) 0 8 }).drvRaise 174 u
        else s1
      s2.putCmp u

/-- A start attempt of unit u has failed for the cause given (R720): 0 with the degrees of the backward turn, 1 as
RAMP_MAX has passed, 2 as PLAUSIBLE fell before 90 % of the setpoint. -/
def State.attemptFails (s : State) (u cause degrees : Nat) : Bool :=
  let d := s.du u
  match cause with
  | 0 => (decide (d.st = .sense ∨ d.st = .ramp) || (decide (d.st = .run) && !d.reached)) && decide (fld (s.drvReg u 0x20) 20 8 < degrees)
  | 1 => decide (d.st = .sense ∨ d.st = .ramp)
  | _ => decide (d.st = .run) && !d.reached && !d.plausible

/-- UNIT_ATTEMPT_FAILED: the bridges open; the unit waits for 50 ms without zero crossings, or faults (R720, R721). -/
def unitAttemptFailed (u cause degrees : Nat) (s : State) : State :=
  if !s.on .eng || decide (s.duType u ≠ 1) || !s.attemptFails u cause degrees then s
  else if fld (s.drvReg u 0x20) 28 3 < (s.du u).attempts then (s.drvRaise 161 u).faultUnit u 1
  else s.onDu u fun d => { d with st := .coast, attemptWait := true, commAt := none }

/-- CATCH_TIMEOUT: CATCH_TIME passes (R722 steps 6 and 7). -/
def catchTimeout (u : Nat) (s : State) : State :=
  let d := s.du u
  if !s.on .eng || decide (s.duType u ≠ 1) then s
  else match d.st with
    | .catching =>
      if 3 ≤ d.catches then s.giveUp u
      else s.onDu u fun d => { d with st := .coast, catchWait := true, zcInt := [], zcLast := none, commAt := none }
    | .coast => s.onDu u fun d => { d with catchWait := false }
    | _ => s

/-- The rotor of unit u has stopped (R720, R722 step 8, R724, R739). -/
def State.unitStopped (u : Nat) (s : State) : State :=
  let d := s.du u
  if !s.on .eng then s
  else if d.attemptWait then
    if s.engineLive then (s.attempt u).onDu u fun x => { x with attempts := satInc 15 d.attempts }
    else s.onDu u fun x => { x with st := .idle, attemptWait := false }
  else match d.st with
    | .stopping =>
      if d.stopWanted || !s.engineLive || decide (s.duSrc u = 1) then
        s.onDu u fun x => { x with st := .idle, lowSides := false, omega := 0 }
      else (s.attempt u).onDu u fun x => { x with attempts := 1, catches := 0 }
    | .coast =>
      if d.stopWanted then s.onDu u fun x => { x with st := .idle, omega := 0 }
      else (s.onDu u fun x => { x with omega := 0 }).coastJudge u
    | _ => s

/-! ## The bus -/

/-- The chopper current, in mA, of `mv` mV at BRK_ISNS: `DRV_BRK_SCALE` is in mA per V (R748). -/
def State.brkMa (s : State) (mv : Int) : Int := (mv * ((s.reg 0x68002C).toNat : Int)).tdiv 1000

/-- VBUS_SAMPLE: a conversion of VBUS_SNS, in mV, with BRK_ISNS at `isns` mV (R726, R728, R731, R735). A divider of 0
gives no voltage that the spec states. DESIGN CHOICE, log entry 46. -/
def vbusSample (sns : Nat) (isns : Int) (s : State) : State :=
  if !s.on .eng || !s.on .ana then s
  else
    let ibrk := s.brkMa isns
    let k := s.busLim 0
    let v := (if k = 0 then s.fresh else vbusOf (min sns 2400) k) % 65536
    let s0 := if k = 0 then s.used else s
    let imin : Int := (fld (s.reg 0x680028) 12 12 * 10 : Nat)
    let s1 := (s0.onDrv fun d => { d with vbus := v, ibrk := ibrk }).chopper
    let s2 := s1.onDrv fun d => { d with chopLow := d.chopLow && decide (ibrk < imin),
                                         busUv := d.busUv && !decide (s1.busLim 4 + s1.busLim 2 < v) }
    s2.inhibitRegen

/-- CHOPPER_CHECK: BRK_TCHK has elapsed since BRK_GATE turned on, or the current is judged against BRK_IMAX, with
BRK_ISNS at `isns` mV (R729, R731). -/
def chopperCheck (elapsed : Bool) (isns : Int) (s : State) : State :=
  if !s.on .eng || !s.on .ana then s
  else
    let ibrk := s.brkMa isns
    let w := s.reg 0x680028
    let s1 := s.onDrv fun d => { d with ibrk := ibrk, chopLow := d.chopLow && decide (ibrk < (fld w 12 12 * 10 : Nat)) }
    if ((fld w 0 12 * 10 : Nat) : Int) < ibrk then s1.chopFaulty true
    else if elapsed && s1.drv.chopOn && s1.drv.chopLow then s1.chopFaulty false
    else s1

/-- BUS_UNDERVOLTAGE: VBUS has stayed below UV for 10 µs (R735, R736). -/
def busUndervoltage (s : State) : State :=
  if !s.on .eng || !s.on .ana || decide (s.busLim 4 ≤ s.drv.vbus) || s.drv.busUv then s
  else
    let s1 := (s.onDrv fun d => { d with busUv := true }).drvRaise 171 0
    ((s1.unitsOn.foldl (fun t u => t.faultUnit u 6) s1).spoilAll 20).busRecord 171

/-- BUS_HARD_CUT: VBUS_SNS crosses the hard threshold (R733, R736). -/
def busHardCut (s : State) : State :=
  if !s.on .eng || !s.on .ana || s.drv.hardCut then s
  else
    let s1 := s.onDrv fun d => { d with hardCut := true, cntCut := satInc 0xFFFFFFFF d.cntCut }
    let s2 := s1.unitsOn.foldl (fun t u => t.faultUnit u 5) s1
    ((s2.spoilAll 20).drvRaise 170 0).busRecord 170

/-- A write of `DRV_BUS_CMD` with GO = 1 (R734, R744). -/
def busCommand (op : Nat) (f : Drv → Drv) (s : State) : State :=
  s.bar0 0x680004 .test fun s =>
    if s.busLow then s.onDrv fun d => { f d with busOp := op, busStatus := 1 }
    else s.onDrv fun d => { d with busOp := op, busStatus := 3 }

/-- CHOP_FAULT_CLEAR. -/
def chopFaultClear (s : State) : State :=
  busCommand 0 (fun d => { d with chopFault := false, regenInh := false, chopHeld := false }) s

/-- HARD_CUT_CLEAR. -/
def hardCutClear (s : State) : State := busCommand 1 (fun d => { d with hardCut := false }) s

/-- OVERCURRENT: a shunt conversion of `ma` mA exceeds OC_TRIP, or a high side desaturates (R737). -/
def overcurrent (u : Nat) (ma : Int) (desat : Bool) (s : State) : State :=
  if !s.on .eng || !s.duEn u || decide (s.duCount u = 0) ||
      !(desat || decide (fld (s.drvReg u 0x48) 16 16 * 10 < ma.natAbs)) || decide ((s.du u).st = .fault) then s
  else
    let on := decide ((s.du u).st = .run) && (s.du u).plausible
    ((s.drvRaise 165 u).faultUnit u 3).onDu u fun d => { d with tripped := on }

/-- GATE_SUPPLY: the 10 V gate supply falls below 8.5 V (R738). -/
def gateSupply (s : State) : State :=
  if !s.on .eng || s.drv.gateUv then s
  else
    let s1 := s.onDrv fun d => { d with gateUv := true }
    (s1.unitsOn.foldl (fun t u => t.faultUnit u 4) s1).drvRaise 166 0

/-- GATE_SUPPLY_RESTORED. -/
def gateSupplyRestored (s : State) : State := s.inDom .eng fun s => s.onDrv fun d => { d with gateUv := false }

end Sys2Proof.Machine
end

