-- ==== Sys2Proof/Machine/HvCmd.lean ====
section
/-! DEFINITION. Machine/HvCmd.lean: what the high-voltage supplies, the thermistors, the over-temperature cut and the
fuser do (R797 to R837). -/
namespace Sys2Proof.Machine

/-- The STATUS code of a command register for an outcome (R744, R845). -/
def Abort.status : Abort → Nat
  | .none => 1
  | _ => 3

/-- Change the HV block, the FUS block and the cut. -/
def State.onHvB (f : Hv → Hv) (s : State) : State := { s with hv := f s.hv }
def State.onFusB (f : Fus → Fus) (s : State) : State := { s with fus := f s.fus }
def State.onCut (f : Cut → Cut) (s : State) : State := { s with cut := f s.cut }

/-! ## High voltage -/

/-- MAXD, FB_OFS, FB_SCALE, AC_EN, SETTLE of a channel (R840, R845). -/
def State.hvMaxd (s : State) (k : Nat) : Nat := fld (s.hvReg k 0x18) 16 16
def State.hvAc (s : State) (k : Nat) : Bool := bitOf (s.hvReg k 0) 28
def State.hvSettle (s : State) (k : Nat) : Nat := fld (s.hvReg k 0x1C) 0 8

/-- The scaled conversion y_c (R801). -/
def State.hvScaled (s : State) (k c : Nat) : Int :=
  sat32 (asr ((((c % 4096 : Nat) : Int) - sx 16 (fld (s.hvReg k 0x18) 0 16)) * s32 (s.hvReg k 0x14)) 12)

/-- The shadow sine table (R834). -/
def State.shadowSine (s : State) : List Int := (List.range 256).map fun i => sx 16 (fld (s.reg (0x781000 + 4 * i)) 0 16)

/-- A channel takes the armed sine table (R834). -/
def State.takeSine (k : Nat) (s : State) : State :=
  let t := s.shadowSine
  let s1 := s.onHv k fun c => { c with sine := t, sineWait := false }
  (s1.onHvB fun h => { h with apply := if h.chans.any fun c => c.sineWait then h.apply else 2 }).raise 196

/-- A channel leaves its window, trips or loses its feedback: the spoil marks of R809. -/
def State.hvLost (k : Nat) (s : State) : State :=
  if s.flying = [] then s
  else
    let stn := fld (s.hvReg k 0) 24 4
    let s1 := s.raise 194
    if stn = 0 then s1.spoilAll 18
    else s1.spoilMany (((List.range 4).filter fun n => decide (stn / 2 ^ n % 2 = 1)).flatMap fun n => (s1.st n).slots) 18

/-- TRIP or FB_FAULT latches (R811, R812). -/
def State.hvLatch (k src : Nat) (f : HvCh → HvCh) (s : State) : State :=
  ((s.onHv k fun c => { f c with inWindow := false, inRow := 0, outRow := 0 }).raise src).hvLost k

/-- The test of R807 on one update. -/
def State.hvInside (s : State) (k : Nat) : Bool :=
  let c := s.hvCh k
  let set := s32 (s.hvReg k 4)
  let w := s.hvReg k 0x24
  decide (c.r = set) && decide ((c.y - set).natAbs ≤ fld (s.hvReg k 0xC) 16 16) &&
    (!s.hvAc k || decide (fld w 16 16 ≤ c.pp ∧ c.pp ≤ fld w 0 16))

/-- PP of an AC channel fails its range (R810). -/
def State.hvPpBad (s : State) (k : Nat) : Bool :=
  let w := s.hvReg k 0x24
  s.hvAc k && !decide (fld w 16 16 ≤ (s.hvCh k).pp ∧ (s.hvCh k).pp ≤ fld w 0 16)

/-- AC faults and broken feedback, counted at each update (R810, R812); a duty that the output does not carry is not one
at which it has stood. DEDUCED, log entry 55. -/
def State.hvFaults (k : Nat) (s : State) : State :=
  let c := s.hvCh k
  let outN := fld (s.hvReg k 0xC) 0 8
  let row := if s.hvPpBad k then satInc 255 c.ppRow else 0
  let s1 := s.onHv k fun c => { c with ppRow := row }
  let s2 := if outN ≤ row ∧ s.hvPpBad k ∧ !c.acFault then (s1.onHv k fun c => { c with acFault := true }).raise 195 else s1
  let fb := if s.hvLive k = true ∧ c.duty = s.hvMaxd k ∧ 4 * c.y.natAbs < c.r.natAbs then satInc 64 c.fbRow else 0
  let s3 := s2.onHv k fun c => { c with fbRow := fb }
  if 64 ≤ fb ∧ !c.fbFault then s3.hvLatch k 193 fun c => { c with fbFault := true } else s3

/-- The window of a channel at one update, while its gate is open (R806, R807, R809). -/
def State.hvWindow (k : Nat) (s : State) : State :=
  let c := s.hvCh k
  let w := s.hvReg k 0xC
  if !s.hvGate k || c.trip || c.fbFault then s
  else if 0 < c.settle then s.onHv k fun c => { c with settle := c.settle - 1 }
  else if s.hvInside k then
    let row := satInc 255 c.inRow
    s.onHv k fun c => { c with inRow := row, outRow := 0, inWindow := c.inWindow || decide (fld w 8 8 ≤ row),
                               acFault := if !c.inWindow ∧ fld w 8 8 ≤ row then false else c.acFault }
  else
    let row := satInc 255 c.outRow
    let s1 := s.onHv k fun c => { c with inRow := 0, outRow := row }
    if c.inWindow ∧ fld w 0 8 ≤ row then (s1.onHv k fun c => { c with inWindow := false }).hvLost k else s1

/-- The conversion of a period: the trip, the mean, and the extremes of the AC period (R801 to R803, R811). -/
def State.hvConvert (k c : Nat) (s : State) : State :=
  let y := s.hvScaled k c
  let lim := (s.hvReg k 0x10).toNat
  let exceeds := decide (lim < y.natAbs)
  let ch := s.hvCh k
  let s1 := s.onHv k fun h =>
    { h with overLim := exceeds, sum := h.sum + y, num := h.num + 1,
             hi := some (match h.hi with | some a => max a y | none => y),
             lo := some (match h.lo with | some a => min a y | none => y) }
  if exceeds && ch.overLim && !ch.trip then s1.hvLatch k 192 fun h => { h with trip := true } else s1

/-- The ticks of each period for which HVk_PWM is high (R797, R800). -/
def State.hvHigh (s : State) (k : Nat) : Nat :=
  if s.hvLive k then (s.hvCh k).duty * fld (s.hvReg k 0) 0 16 / 65536 else 0

/-- An update of the channel's slot with the mean y has run: the channel is judged (R807 to R812). -/
def State.hvUpdated (k : Nat) (y : Int) (s : State) : State :=
  ((s.onHv k fun c => { c with y := y }).hvFaults k).hvWindow k

/-- The slot is triggered with the mean of the conversions, and an AC period gives PP (R802, R803). The mean is cut to a
whole number. DESIGN CHOICE, log entry 128. -/
def State.hvTrigger (k : Nat) (s : State) : State :=
  let c := s.hvCh k
  let y := if c.num = 0 then 0 else c.sum.tdiv c.num
  let pp : Nat := match c.hi, c.lo with
    | some a, some b => (a - b).toNat
    | _, _ => 0
  let s1 := s.onHv k fun h => { h with pp := if s.hvAc k then pp else h.pp, sum := 0, num := 0, hi := none, lo := none }
  s1.nextInstant.trigger (64 + k) y false false

/-- HV_PWM_PERIOD: a period of channel k ends with the conversion code c (R800 to R812, R834). -/
def hvPwmPeriod (k c : Nat) (s : State) : State :=
  if !s.hvEn k then s
  else
    let s1 := s.hvConvert k c
    let ac := s1.hvAc k
    let ph := (s1.hvCh k).ph + (if ac then (s1.hvReg k 0x20).toNat else 0)
    let wraps := ac && decide (2 ^ 32 ≤ ph)
    let s2 := s1.onHv k fun h => { h with ph := ph % 2 ^ 32 }
    let s3 := if wraps && (s2.hvCh k).sineWait then s2.takeSine k else s2
    let s4 := s3.onHv k fun h =>
      let a := if ac then asr ((fld (s3.hvReg k 0x1C) 16 16 : Nat) * nth 0 h.sine (h.ph / 2 ^ 24)) 15 else 0
      ({ h with duty := (clampI 0 (s3.hvMaxd k) (h.u + a)).toNat } : HvCh)
    if (ac && wraps) || (!ac && decide (fld (s4.hvReg k 0) 16 8 < (s4.hvCh k).num)) then s4.hvTrigger k else s4

/-- The output gate of a channel opens: r restarts, and the window counts again after SETTLE updates (R806). -/
def State.hvOpens (k : Nat) (s : State) : State :=
  s.onHv k fun c => { c with r := c.y, settle := s.hvSettle k, inRow := 0, outRow := 0, inWindow := false }

/-- The output gate of a channel closes. -/
def State.hvCloses (k : Nat) (s : State) : State :=
  s.onHv k fun c => { c with inWindow := false, inRow := 0, outRow := 0 }

/-- The gate of a channel in GATE_MODE 1 opens or closes on an EDGE action (R805, R806). -/
def State.hvEdge (k : Nat) (opens : Bool) (s : State) : State :=
  if !bitOf (s.hvReg k 0) 29 then s
  else s.onHv k fun c =>
    if opens then (if c.gate then c else
      { c with gate := true, r := c.y, settle := s.hvSettle k, inRow := 0, outRow := 0, inWindow := false })
    else { c with gate := false, inWindow := false, inRow := 0, outRow := 0 }

/-- An enabled channel counts as in window for check 4 of R325 (R808). -/
def State.hvOk (s : State) (k : Nat) : Bool :=
  let c := s.hvCh k
  !s.hvEn k || c.inWindow || (bitOf (s.hvReg k 0) 29 && !c.gate && !c.trip && !c.fbFault)

/-- The clear of TRIP and FB_FAULT of a channel (R813). -/
def State.hvClear (k : Nat) (s : State) : Abort × State :=
  if !s.mayWrite .setp then (.stateConflict, s)
  else (.none, (s.onHv k fun c =>
    { c with trip := false, fbFault := false, overLim := false, fbRow := 0, r := c.y, settle := s.hvSettle k,
             inRow := 0, outRow := 0 }).restartSlots [64 + k])

/-- The arm of the sine table: at once on a channel without AC, at the next wrap on the others (R834, R835). -/
def State.hvArm (s : State) : Abort × State :=
  if !s.mayWrite .shadow || decide (s.hv.apply = 1) then (.stateConflict, s)
  else
    let t := s.shadowSine
    let ks := (List.range 16).filter fun k => s.hvEn k && s.hvAc k
    let s1 := s.onHvB fun h => { h with
      apply := if ks = [] then 2 else 1
      chans := h.chans.zipIdx.map fun p => if ks.contains p.2 then { p.1 with sineWait := true } else { p.1 with sine := t } }
    (.none, if ks.length = 16 then s1 else s1.raise 196)

/-- The cancel of R834. -/
def State.hvCancel (s : State) : Abort × State :=
  if !s.mayWrite .shadow then (.stateConflict, s)
  else if s.hv.apply = 1 then
    (.none, s.onHvB fun h => { h with apply := 3, chans := h.chans.map fun c => { c with sineWait := false } })
  else (.none, s)

/-- The class of OP and CH of `HV_CMD`, by the object that matches the OP: the trip clear is a setpoint, the tables are
shadowed (R114, R845, R846). -/
def hvClass (op : Nat) : Cls := if op = 0 then .setp else .shadow

/-- The RWL fields of `HV_CMD` take a written word where the class permits it (R27, R114). -/
def State.hvFields (op ch : Nat) (s : State) : State :=
  if s.mayWrite (hvClass op) then s.onHvB fun h => { h with cmdWord := place op 0 2 ||| place ch 16 4 } else s

/-- A write of `HV_CMD` with GO = 1 (R845, R846). -/
def hvCommand (op ch : Nat) (f : State → Abort × State) (s : State) : State :=
  s.bar0 0x780008 .any fun s =>
    let r := f (s.hvFields op ch)
    r.2.onHvB fun h => { h with cmdStatus := r.1.status }

/-- HV_TRIP_CLEAR. -/
def hvTripClear (k : Nat) (s : State) : State := hvCommand 0 k (State.hvClear (k % 16)) s

/-- HV_TABLE_ARM. -/
def hvTableArm (s : State) : State := hvCommand 1 0 State.hvArm s

/-- HV_TABLE_CANCEL. -/
def hvTableCancel (s : State) : State := hvCommand 2 0 State.hvCancel s

/-! ## The fuser window -/

/-- The channels in MASK (R845). -/
def State.fusMask (s : State) : List Nat := (List.range 4).filter fun k => bitOf (s.reg 0x7C0010) k

/-- The conditions of R831 apart from the temperatures. -/
def State.fusSound (s : State) : Bool :=
  s.fus.mainsOk && !s.cut.set && s.fusMask.all fun k => s.fusEn k && (s.th (s.fusTh k)).valid

/-- Every channel in MASK lies within w of its SET. -/
def State.fusWithin (s : State) (w : Nat) : Bool :=
  s.fusMask.all fun k => decide (((s.th (s.fusTh k)).t - s32 (s.fusReg k 4)).natAbs ≤ w)

/-- The fuser leaves its window (R831, R833). -/
def State.fusLeave (s : State) : State :=
  if !s.fus.inWindow then s.onFusB fun f => { f with winRow := 0 }
  else
    let s1 := s.onFusB fun f => { f with inWindow := false, winRow := 0 }
    if s1.flying = [] then s1 else (s1.raise 198).spoilAll 19

/-- The conditions that end the window at once (R831). -/
def State.fusCheck (s : State) : State := if s.fusSound then s else s.fusLeave

/-- The window at a half-cycle (R831, R832). -/
def State.fusHalfWindow (s : State) : State :=
  let w := s.reg 0x7C000C
  if s.fus.inWindow then (if s.fusSound && s.fusWithin (fld w 0 16) then s else s.fusLeave)
  else if s.fusSound && s.fusWithin (fld w 16 16) then
    let row := satInc 255 s.fus.winRow
    if fld (s.reg 0x7C0010) 8 8 ≤ row then (s.onFusB fun f => { f with inWindow := true, winRow := row }).raise 203
    else s.onFusB fun f => { f with winRow := row }
  else s.onFusB fun f => { f with winRow := 0 }

/-! ## Firing -/

/-- Every pulse that may no longer stand ends, and no angle stays placed (R798, R830). -/
def State.stopHeat (s : State) : State :=
  (List.range 4).foldl (fun t k => if t.fusLive k then t else
    t.onFus k fun c => { c with pulse := false, due := [], p := 0 }) s

/-- The power in force of a channel: 0 while its thermistor is invalid (R824, R837). -/
def State.fusPower (s : State) (k : Nat) : Nat :=
  if (s.th (s.fusTh k)).valid then min (nth {} s.fus.chans k).u (fld (s.fusReg k 8) 16 16) else 0

/-- The firing fraction of a power, by the INV table in force (R825). -/
def State.firing (s : State) (p : Nat) : Int :=
  let i := p / 1024
  let a : Int := nth 0 s.fus.inv i
  let b : Int := nth 0 s.fus.inv (i + 1)
  a + asr ((b - a) * (p % 1024 : Nat)) 10

/-- The pulse of half-cycle h is placed, or placed anew after the update of the slot (R824 to R826). -/
def State.placeHalf (k h : Nat) (again : Bool) (s : State) : State :=
  let p := s.fusPower k
  let lim := s.fusReg k 8
  let ang := s.fusReg k 0xC
  match fld (s.fusReg k 0) 29 2 with
  | 0 =>
    let a := s.firing p
    let due := if p = 0 ∨ ((fld ang 16 16 : Nat) : Int) < a then [] else
      [h * 2 ^ 31 + (max a (fld ang 0 16 : Nat)).toNat * 2 ^ 15]
    s.onFus k fun c => { c with p := p, due := if c.fired then [] else due }
  | 1 =>
    if h = 0 ∧ !again then
      s.onFus k fun c =>
        let acc := c.acc + p
        ({ c with p := p, acc := acc % 65536,
                  due := if 65536 ≤ acc then [fld lim 0 16 * 2 ^ 15, 2 ^ 31 + fld lim 0 16 * 2 ^ 15] else [] } : FusCh)
    else s.onFus k fun c => { c with p := p }
  | _ => s.onFus k fun c => { c with p := p, due := [] }

/-- The shadow INV and LIN tables come into force (R834). -/
def State.takeFusTables (s : State) : State :=
  let inv := (List.range 65).map fun i => fld (s.reg (0x7C0C00 + 4 * i)) 0 16
  let lin (j : Nat) : List Int := (List.range 33).map fun i => s32 (s.reg (0x7C0400 + 0x100 * j + 4 * i))
  (s.onFusB fun f => { f with apply := 2, inv := inv, ths := f.ths.zipIdx.map fun p => { p.1 with lin := lin p.2 } }).raise 204

/-- HEATER_HALF_CYCLE: the mains axis reaches fraction 0 (h = 0) or 2^31 (h = 1) (R824 to R826, R831, R834). -/
def State.halfCycle (h : Nat) (s : State) : State :=
  let s1 := if h = 0 ∧ s.fus.apply = 1 then s.takeFusTables else s
  let s2 := (s1.onFusB fun f => { f with half := h, chans := f.chans.map fun c => { c with fired := false } }).fusHalfWindow
  let s3 := s2.nextInstant
  (List.range 4).foldl (fun t k =>
    let t1 := t.trigger (80 + k) (t.th (t.fusTh k)).t false false
    if t1.fusLive k then t1.placeHalf k h false else t1) s3

/-- A channel reaches its firing angle, or follows an EDGE action in table mode (R825 to R828). -/
def State.fire (k ang : Nat) (s : State) : State :=
  if s.fusLive k then s.onFus k fun c => { c with pulse := true, fired := true, fire := ang, due := c.due.filter fun a => decide (a ≠ ang) }
  else s

/-- FUSk_TRG in table mode (R827). -/
def State.fusEdge (k : Nat) (high : Bool) (s : State) : State :=
  if fld (s.fusReg k 0) 29 2 ≠ 2 then s
  else if high then (if s.fusLive k then s.onFus k fun c => { c with pulse := true } else s)
  else s.onFus k fun c => { c with pulse := false }

/-- TRIGGER_PULSE_END: TRG_W after its rising edge the pulse ends (R828). -/
def triggerPulseEnd (k : Nat) (s : State) : State := s.inDom .eng fun s => s.onFus k fun c => { c with pulse := false }

/-- MAINS_OK as the mains axis has it now (R823). -/
def State.mainsNow (s : State) : Bool :=
  let a := s.culm.ax s.mainsAxis
  let w := s.reg 0x7C0004
  decide (a.st = .locked) && decide (((fld w 8 8 * 65536 : Nat) : Int) ≤ axisHz16 a) &&
    decide (axisHz16 a ≤ ((fld w 0 8 * 65536 : Nat) : Int))

/-- MAINS_OK follows the mains axis (R823, R831, R834). -/
def State.mainsUpdate (s : State) : State :=
  let ok := s.mainsNow
  if ok = s.fus.mainsOk then s
  else
    let s1 := s.onFusB fun f => { f with mainsOk := ok }
    if ok then s1
    else
      let s2 := ((s1.raise 200).stopHeat).fusCheck
      if s2.fus.apply = 1 then s2.takeFusTables else s2

/-! ## Thermistors -/

/-- The temperature of a code (R815). -/
def thTemp (lin : List Int) (x : Nat) : Int :=
  let a := nth 0 lin (x / 128)
  a + asr ((nth 0 lin (x / 128 + 1) - a) * (x % 128 : Nat)) 7

/-- TH_CONVERSION: thermistor j converts to a 12-bit code (R814 to R816, R831, R837). -/
def thConversion (j c : Nat) (s : State) : State :=
  if !s.on .eng || !bitOf (s.thReg j 0) 31 then s
  else
    let h := s.th j
    let x := c % 4096
    let t := thTemp h.lin x
    let pl := s.thReg j 4
    let lm := s.thReg j 8
    let bad := decide (fld (s.thReg j 0) 0 12 < x) || decide (x < fld lm 16 12) ||
      decide (t < 10 * sx 16 (fld pl 0 16)) || decide (10 * sx 16 (fld pl 16 16) < t)
    let fast := h.seen && decide (fld lm 0 16 < 10 * (t - h.t).natAbs)
    let rate := if fast then satInc 3 h.rateRow else 0
    let pass := if bad || fast then 0 else satInc 100 h.passRow
    let valid := if bad || decide (3 ≤ rate) then false else h.valid || decide (100 ≤ pass)
    let s1 := s.onFusB fun f => { f with ths := modAt f.ths j fun h =>
      { h with code := x, t := t, seen := true, rateRow := rate, passRow := pass, valid := valid } }
    let s2 := if h.valid && !valid then s1.raise 199 else s1
    s2.stopHeat.fusCheck

/-! ## The cut -/

/-- The cut latch sets with a cause (R818). DEDUCED, log entry 26. DEDUCED, log entry 74. -/
def State.setCut (cause : Nat) (s : State) : State :=
  let s1 := ((s.onCut fun c => { c with set := true, cause := cause }).raise 201).glume 12 true 201
    (BitVec.ofNat 8 cause :: s.cut.codes.flatMap (leBytes 2))
  if s1.on .eng then s1.stopHeat.fusCheck else s1

/-- CUT_COMPARE: the comparators sample the eight inputs (R817). -/
def cutCompare (codes : List Nat) (s : State) : State :=
  let low (j : Nat) : Bool := bitOf (s.thReg j 0) 30 && decide (nth 0 codes j < fld (s.thReg j 0) 16 12)
  let opens (j : Nat) : Bool := bitOf (s.thReg j 0) 29 && decide (fld (s.thReg j 0) 0 12 < nth 0 codes j)
  let row (b : Nat → Bool) (l : List Nat) : List Nat := (List.range 8).map fun j => if b j then satInc 4 (nth 0 l j) else 0
  let c := s.cut
  let lr := row low c.lowRow
  let op := row opens c.openRow
  let act := BitVec.ofNat 8 (((List.range 8).map fun j => if low j || opens j then 2 ^ j else 0).sum)
  let s1 := s.onCut fun c => { c with lowRow := lr, openRow := op, codes := padNat codes, active := act }
  if lr.contains 3 then s1.setCut 2 else if op.contains 3 then s1.setCut 3 else s1
where
  /-- Eight codes. -/
  padNat (l : List Nat) : List Nat := (List.range 8).map fun j => nth 0 l j % 4096

/-- The clear of a cut (R821). -/
def State.clearCut (s : State) : Abort × State :=
  if !s.mayWrite .test || decide (s.cut.active ≠ 0) then (.stateConflict, s)
  else if s.cut.set then (.none, (s.onCut fun c => { c with set := false, cause := 0 }).raise 202)
  else (.none, s)

/-- The forced cut (R822). -/
def State.forceCut (s : State) : Abort × State :=
  if !s.mayWrite .test then (.stateConflict, s) else (.none, s.setCut 4)

/-- A POWER_ON cut clears at the start of the first transition to READY, while no enabled comparator is active
(R820). -/
def State.powerOnCut (s : State) : State :=
  if s.cut.set ∧ s.cut.cause = 1 ∧ s.cut.active = 0 then s.onCut fun c => { c with set := false, cause := 0 } else s

/-- The arm of the INV and LIN tables (R834, R835). -/
def State.fusArm (s : State) : Abort × State :=
  if !s.mayWrite .shadow || decide (s.fus.apply = 1) then (.stateConflict, s)
  else if s.fus.mainsOk then (.none, s.onFusB fun f => { f with apply := 1 })
  else (.none, s.takeFusTables)

/-- The cancel of R834. -/
def State.fusCancel (s : State) : Abort × State :=
  if !s.mayWrite .shadow then (.stateConflict, s)
  else (.none, s.onFusB fun f => { f with apply := if f.apply = 1 then 3 else f.apply })

/-- The class of OP of `FUS_CMD`, by the object that matches the OP: the cut is Fault and test, the tables are shadowed
(R114, R845, R846). -/
def fusClass (op : Nat) : Cls := if op = 0 ∨ op = 3 then .test else .shadow

/-- The RWL field of `FUS_CMD` takes a written OP where the class permits it (R27, R114). -/
def State.fusFields (op : Nat) (s : State) : State :=
  if s.mayWrite (fusClass op) then s.onFusB fun h => { h with cmdWord := place op 0 2 } else s

/-- A write of `FUS_CMD` with GO = 1 (R845, R846). -/
def fusCommand (op : Nat) (f : State → Abort × State) (s : State) : State :=
  s.bar0 0x7C0008 .any fun s =>
    let r := f (s.fusFields op)
    r.2.onFusB fun h => { h with cmdStatus := r.1.status }

/-- CUT_CLEAR. -/
def cutClear (s : State) : State := fusCommand 0 State.clearCut s

/-- FUS_TABLE_ARM. -/
def fusTableArm (s : State) : State := fusCommand 1 State.fusArm s

/-- FUS_TABLE_CANCEL. -/
def fusTableCancel (s : State) : State := fusCommand 2 State.fusCancel s

/-- CUT_FORCE. -/
def cutForce (s : State) : State := fusCommand 3 State.forceCut s

end Sys2Proof.Machine
end

