-- ==== Sys2Proof/Machine/DiskOps.lean ====
section
/-! DEFINITION. Machine/DiskOps.lean: the track format (R470 to R478), the preamplifier's frames (R518 to R520), the
write-inhibit causes (R582 to R585), parking and retracting (R597 to R601), and the ends of disk transfers (R510). -/
namespace Sys2Proof.Machine

/-! ## Blocks and registers -/

/-- Change a block of DSK. -/
def State.onRch (f : Rch → Rch) (s : State) : State := { s with rch := f s.rch }
def State.onSrv (f : Srv → Srv) (s : State) : State := { s with srv := f s.srv }
def State.onSpn (f : Spn → Spn) (s : State) : State := { s with spn := f s.spn }
def State.onRet (f : Retract → Retract) (s : State) : State := { s with ret := f s.ret }

/-! ## The format -/

/-- HEADS, TURNS and FORMAT_RPM (R472, R475, R536). -/
def State.heads (s : State) : Nat := fld (s.rchReg 4) 0 3
def State.turns (s : State) : Nat := (s.rchReg 0x14).toNat
def State.fmtRpm (s : State) : Nat := fld (s.rchReg 8) 0 14

/-- N_REV (R470): U32. -/
def nRevOf (m rpm : Nat) : Nat := m * 12500000 * 60 / rpm % 2 ^ 32

/-- N_REV of the configuration. -/
def State.nRev (s : State) : Nat := nRevOf (fld (s.rchReg 4) 16 8) s.fmtRpm

/-- t_sec in ps (R478). -/
def tSecOf (nRev rpm : Nat) : Nat := ceilDiv (38912 * 60 * 10 ^ 12) (nRev * rpm)
def State.tSec (s : State) : Nat := tSecOf s.nRev s.fmtRpm

/-- One spindle revolution in ps, rounded down (R330). DESIGN CHOICE, log entry 113. -/
def State.tRev (s : State) : Nat := 60 * 10 ^ 12 / s.fmtRpm

/-- S_H and CAPACITY (R472). -/
def State.sectPerHead (s : State) : Nat := s.turns * s.nRev / 38912
def State.capacity (s : State) : Nat := s.heads * s.sectPerHead

/-- Where an LBA lies: head, turn and spindle-axis fraction (R473). -/
def State.lbaAt (s : State) (lba : Nat) : Nat × Nat × Nat :=
  let b := lba % s.sectPerHead * 38912
  (lba / s.sectPerHead, b / s.nRev, b % s.nRev * 2 ^ 32 / s.nRev)

/-- The radial zone of a turn (the zones of fly height). -/
def zoneOf (turns turn : Nat) : Nat := ((List.range 8).filter fun z => decide (z * turns / 8 ≤ turn)).getLastD 0

/-- The zone under the active head. -/
def State.zone (s : State) : Nat := zoneOf s.turns s.srv.turn

/-- The seek allowance of a distance, in µs (R574). -/
def skBin (d : Nat) : Nat := if d = 0 then 0 else min 24 (d.log2 + 1)
def State.skOf (s : State) (d : Nat) (switch : Bool) : Nat :=
  (s.srvReg (0x100 + 4 * skBin d)).toNat + if switch then (s.srvReg 0x50).toNat else 0

/-- The spindle is at speed and the servo is track-following: the condition of R92. -/
def State.diskUp (s : State) : Bool := s.on .dsk && decide (s.spn.st = .atSpeed) && decide (s.srv.st = .follow)

/-- The conditions of R477 (R566), and the part of them that the spindle carries. -/
def State.spinReady (s : State) : Bool :=
  s.on .dsk && decide (s.spn.st = .atSpeed) && decide (s.spn.rpmSet = s.fmtRpm)
def State.diskReady (s : State) : Bool := s.spinReady && decide (s.srv.st = .follow)

/-- A token is COMMITTED or IMAGED, or ARMED with a non-empty plan (R527, R594, R606). -/
def State.diskClaimed (s : State) : Bool :=
  s.pgf.tokens.any fun t => t.2.flies ||
    (decide (t.2.state = .armed) && t.2.plan.any fun r => decide (0 < r.frames))

/-! ## The preamplifier -/

/-- The preamp map entry of a function (R518, R545): address, place of its field, width. -/
def State.paMap (s : State) (i : Nat) : Nat × Nat × Nat :=
  let w := s.rchReg (0x300 + 4 * i)
  (fld w 16 7, fld w 8 3, fld w 0 4)

/-- Replace the field of a function in a register of the preamplifier (R519). -/
def paPut (old lsb width v : Nat) : Nat :=
  (old - old / 2 ^ lsb % 2 ^ width * 2 ^ lsb + v % 2 ^ width * 2 ^ lsb) % 256

/-- The first frame due goes out when the port is free (R519, R531). -/
def Rch.nextFrame (r : Rch) : Rch :=
  match r.paCur, r.paDue with
  | none, f :: t => { r with paCur := some f, paDue := t }
  | _, _ => r

/-- An automatic write of a function: it begins with a read of its register (R519, R520). -/
def State.paWrite (i v : Nat) (s : State) : State :=
  s.onRch fun r => ({ r with paDue := r.paDue ++
    [{ read := true, addr := (s.paMap i).1, data := 0, fn := some i, value := some v }] } : Rch).nextFrame

/-- The read of FAULT (R520). -/
def State.paFaultRead (s : State) : State :=
  s.onRch fun r => ({ r with paDue := r.paDue ++
    [{ read := true, addr := (s.paMap 6).1, data := 0, fn := some 6 }] } : Rch).nextFrame

/-- A frame other than those of HEATER and FAULT is still to run: a transfer waits for it (R520). -/
def Rch.paHolds (r : Rch) : Bool :=
  (r.paCur.toList ++ r.paDue).any fun f => match f.fn with
    | some i => decide (i ≠ 4 ∧ i ≠ 6)
    | none => false

/-- The HDA temperature in whole °C, and its validity (R525, R1015). -/
def State.hdaTemp (s : State) : Int × Bool :=
  let c := nth {} s.thm.chans (12 + fld (s.srvReg 0x30) 16 5)
  (c.val.tdiv 100, c.valid)

/-- The settings in force of the active head. -/
def State.headSet (s : State) : HeadSet := nth {} s.rch.heads s.rch.head

/-- The heater code of R525. -/
def heaterOf (htr : Nat) (tcomp temp : Int) : Nat := (clampI 0 255 (htr + asr ((temp - 25) * tcomp) 4)).toNat

/-- The heater code that the active head needs now, lowered by HTR_BACK in ladder step 6 (R506, R524, R525). -/
def State.heaterNow (s : State) : Nat :=
  let h := s.headSet
  let w := nth 0 h.htr s.zone
  let code := heaterOf (if s.rch.heatWrite then fld w 8 8 else fld w 0 8) (sx 8 (fld h.tcomp 0 8)) s.hdaTemp.1
  match s.rch.recov with
  | .ladder 6 _ => code - fld (s.rchReg 0x54) 4 4
  | _ => code

/-- How far the spindle axis has to turn until the head, on the target turn, reaches the first bit of an LBA, in
2^-64 turn (R473, R571). -/
def State.toSector (s : State) (lba : Nat) : Int :=
  let a := s.lbaAt lba
  let x : Int := ((a.2.1 : Int) - s.srv.tgt) * 2 ^ 64 + (a.2.2 * 2 ^ 32 : Nat) -
    ((s.culm.ax s.spindleAxis).theta % 2 ^ 64 : Nat)
  if x < 0 then x.emod (2 ^ 64) else x

/-- FH_LEAD, in µs (R524). -/
def State.fhLead (s : State) : Nat := fld (s.rchReg 0x5C) 0 10

/-- The next window would end less than FH_LEAD before the first sector of the write (R524, R581). -/
def State.leadDue (s : State) (lba : Nat) : Bool :=
  decide (3 * s.toSector lba < (s.culm.ax s.spindleAxis).omega * (2400 * s.fhLead + 10000 : Nat))

/-- The heater has been at the write code for FH_LEAD; until then a write waits for the next revolution (R524,
R581). -/
def State.leadOver (s : State) : Bool := decide (6 * s.fhLead < 25 * (s.rch.heatWin + 1))

/-- Send a heater code if it has changed (R520). -/
def State.heat (code : Nat) (s : State) : State :=
  if s.rch.heater = code then s else (s.onRch fun r => { r with heater := code }).paWrite 4 code

/-- A touchdown calibration runs (R527, R579). -/
def Rch.fhRuns (r : Rch) : Bool := r.fhCal.any fun c => c.begun

/-- The heater returns to the code that holds now, unless a sector is in progress or a calibration sets it (R526,
R527). -/
def State.heatNow (s : State) : State :=
  if s.rch.writing || s.rch.fhRuns || !s.on .dsk then s else s.heat s.heaterNow

/-- The first four settings of a head selection as they stand in the shadow tables (R523, R545). -/
def State.shadowHead (s : State) (h : Nat) : HeadSet :=
  { iw := s.rchReg (0x400 + 0x40 * h), tcomp := s.rchReg (0x404 + 0x40 * h),
    htr := (List.range 8).map fun z => s.rchReg (0x410 + 0x40 * h + 4 * z) }

/-- A head is selected: its tables come into force, and its frames are issued (R520, R523, R615). -/
def State.selectHead (h : Nat) (s : State) : State :=
  let hs := s.shadowHead h
  let s1 := (s.onRch fun r => { r with head := h, heads := modAt r.heads h fun _ => hs,
                                       fhNew := if r.fhNew = some h then none else r.fhNew }).onSrv fun v =>
    { v with rdofs := (List.range 8).map fun z => sx 16 (fld (s.srvReg (0x200 + 0x20 * h + 4 * z)) 0 16) }
  let s2 := (((s1.paWrite 1 h).paWrite 2 (fld hs.iw 0 7)).paWrite 3 (fld hs.iw 8 7)).paWrite 5 (fld hs.iw 16 8)
  (s2.onRch fun r => { r with heater := s2.heaterNow }).paWrite 4 s2.heaterNow

/-! ## Ends of transfers -/

/-- Change the descriptor in flight of a block command. -/
def State.onCmd (q cid : Nat) (f : Desc → Desc) (s : State) : State :=
  s.onQp q fun x => { x with inflight := x.inflight.map fun d => if d.cid = cid then f d else d }

/-- The running transfer ends with a status of R510: a block command learns its status, and a page-out that failed is
marked as never to be written again (R428); its write is then reported by PAGEOUT_WRITE_COMPLETE. The heater of a
write goes back to the read code (R524). -/
def State.endXfer (status : Nat) (s : State) : State :=
  match s.rch.cur with
  | none => s
  | some x =>
    let st := if status = 0 ∧ x.recovered then 1 else status
    let s1 := (s.onRch fun r =>
      { r with cur := none, recov := .fresh, firstSoft := none, abandoned := false, rewrites := 0, writing := false, stopNext := false,
               heatWrite := false, heatWin := 0,
               credit := if !x.kind.print && r.pieceCharged then r.credit - r.pieceUs else r.credit, pieceUs := 0 }).onSrv
      fun v => { v with ofs := 0 }
    let s2 := match x.kind with
      | .plan k i => if nth (2 ^ 64) (s.tok k).charges i < s.time.now.toNat ∧ st ≤ 1 then s1.raise 84 else s1
      | .pageOut f =>
        if st ≤ 1 then s1
        else match s1.frame? f with
          | some y => s1.putFrame f { y with noPage := true }
          | none => s1
      | .hostRead q c | .hostWrite q c => s1.onCmd q c fun d => { d with phase := 2, status := st, done := x.done }
    s2.creditRest.heatNow

/-- The running non-print piece ends, and the rest of its transfer is the first of its class to go on (R577, R578). -/
def State.pieceStop (s : State) : State :=
  match s.rch.cur with
  | none => s
  | some x =>
    (s.onRch fun r => { r with cur := none, waiting := x :: r.waiting, stopNext := false, heatWrite := false, heatWin := 0,
                               recov := .fresh, firstSoft := none, rewrites := 0, abandoned := false,
                               credit := if r.pieceCharged then r.credit - r.pieceUs else r.credit,
                               pieceUs := 0 }).creditRest.heatNow

/-- The plan runs of every committed token are cancelled, with their landing frames freed as under R431 (R595). -/
def State.cancelPlans (s : State) : State :=
  let ks := (s.pgf.tokens.filter fun t => t.2.flies && t.2.plan.any fun r => decide (0 < r.frames)).map (·.1)
  ks.foldl (fun t k => t.cancelRuns k) s

/-! ## Write safety -/

/-- The source of a cause (R585). -/
def causeSource : Nat → Option Nat
  | 0 => some 134
  | 1 => some 133
  | 2 => some 132
  | 3 => some 137
  | _ => none

/-- A grown defect (R505, R508, R549): source 126 when the list is full. -/
def State.growDefect (lba kind : Nat) (s : State) : State :=
  if 4096 ≤ s.die.glist.length then s.raise 126
  else { s with die := { s.die with glist := s.die.glist ++ [(lba, kind)] } }

/-- A write fails (R505): the grown-defect list, source 113, and the end of its transfer. -/
def State.writeFailed (s : State) : State :=
  match s.rch.cur with
  | none => s
  | some x =>
    (((s.growDefect (x.lba + x.done) 2).raise 113).onRch fun r =>
      { r with cntWfail := satInc 0xFFFFFFFF r.cntWfail }).endXfer 3

/-- The write gate closes, and the sector being written is abandoned (R504). -/
def State.gateCut (src : Nat) (s : State) : State :=
  if s.rch.writing then
    (s.onRch fun r =>
      { r with writing := false, abandoned := true, cntWabort := satInc 0xFFFFFFFF r.cntWabort }).raise src
  else s

/-- The sector being written is abandoned (R504); with its rewrites used up the write fails (R505). -/
def State.abandon (src : Nat) (s : State) : State :=
  let t := s.gateCut src
  if s.rch.writing && decide (fld (s.rchReg 0x30) 20 4 ≤ s.rch.rewrites) then t.writeFailed else t

/-- A cause of R582 is set (R585): latched, its source raised on entry, and a write in progress abandoned (R504). -/
def State.setCause (i : Nat) (s : State) : State :=
  if s.srv.winh.getLsbD i then s
  else
    let w := s.rch.writing
    let b := BitVec.ofNat 6 (2 ^ i)
    let s1 := s.onSrv fun v => { v with winh := v.winh ||| b, latch := v.latch ||| b,
                                        cntWunsafe := if i = 2 ∧ w then satInc 0xFFFFFFFF v.cntWunsafe else v.cntWunsafe }
    let s2 := match causeSource i with
      | some src => if i = 2 ∧ !w then s1 else s1.raise src
      | none => s1
    s2.abandon 121

/-- A cause clears. -/
def State.clearCause (i : Nat) (s : State) : State :=
  s.onSrv fun v => { v with winh := v.winh &&& ~~~(BitVec.ofNat 6 (2 ^ i)) }

/-- SERVO and SPINDLE follow the states of SRV and SPN (R582). -/
def State.follows (s : State) : State :=
  if !s.on .dsk then s
  else
    let s1 := if s.srv.st = .follow then s.clearCause 4 else s.setCause 4
    if s1.spinReady then s1.clearCause 5 else s1.setCause 5

/-- A command or an event of the disk: only while DSK is on, with the causes brought up to date. -/
def State.inDisk (f : State → State) (s : State) : State := if s.on .dsk then (f s).follows else s

/-! ## Parking, retracting and stopping -/

/-- A running `SRV_CMD` ends with a status (R606). -/
def State.srvDone (status : Nat) (s : State) : State :=
  if s.srv.cmdRun then s.onSrv fun v => { v with cmdRun := false, cmdStatus := status } else s

/-- The servo leaves the target turn under a running transfer: a sector being written is abandoned and waits for its
rewrite (R505); any other transfer is the first of its queue again, until R477 holds. DESIGN CHOICE, log entry 121.
-/
def State.cutXfer (s : State) : State :=
  let s1 := s.abandon 121
  match s1.rch.cur with
  | none => s1
  | some x =>
    if s1.rch.abandoned then s1
    else match x.kind with
      | .plan _ _ =>
        ((s1.onRch fun r => { r with cur := none, plans := x :: r.plans, recov := .fresh, firstSoft := none }).onSrv fun v =>
          { v with ofs := 0 }).heatNow
      | _ => (s1.onSrv fun v => { v with ofs := 0 }).pieceStop

/-- SRV enters PARKING (R565), from any loaded state: a seek or a load that runs has failed (R606). -/
def State.park (s0 : State) : State :=
  match s0.srv.st with
  | .loading | .acquire | .seek | .settle | .follow =>
    let s := (s0.srvDone 6).cutXfer
    s.onSrv fun v => { v with st := .parking, pending := none, seeking := false, prof := {}, settleRow := 0 }
  | _ => s0

/-- The servo is lost: PARKING, with source 128 (R563, R565). -/
def State.servoLost (s : State) : State := s.park.raise 128

/-- The retract circuit fires (R599 to R601): only while the heads are loaded. The spindle stage rectifies, so
commutation stops. -/
def State.fireRetract (s : State) : State :=
  if !s.ret.loaded || s.ret.running then s
  else
    let s1 := s.onRet fun r => { r with flag := true, running := true }
    let s2 := s1.onSpn fun p => match p.st with
      | .stopped | .fault | .stopping => p
      | _ => { p with st := .coast, plausible := false }
    if s2.srv.st = .fault then s2 else s2.park

/-- SPN brakes or coasts to a stop (R593, R595 step 7). -/
def State.spnStopping (s : State) : State :=
  s.onSpn fun p => match p.st with
    | .stopped | .fault => p
    | _ => { p with st := .stopping, stopAfterPark := false, catchDue := false, attemptWait := false, reached := false }

/-- Stop the spindle, the heads parked first (R593). -/
def State.spnStop (s : State) : State :=
  match s.spn.st with
  | .stopped | .fault | .stopping => s
  | _ =>
    if s.srv.st.loaded then s.park.onSpn fun p => { p with stopAfterPark := true, catchDue := false, freshStart := false }
    else (s.spnStopping).onSpn fun p => { p with freshStart := false }

/-- SPN enters FAULT: the bridge opens, and the heads park (R590, R604). -/
def State.spnFault (src : Nat) (s : State) : State :=
  ((s.onSpn fun p => { p with st := .fault, attemptWait := false, catchDue := false, freshStart := false,
                              stopAfterPark := false, plausible := false, reached := false }).park).raise src

/-- The spindle leaves AT_SPEED: the heads park (R565, R591). -/
def State.leaveSpeed (s : State) : State := (s.onSpn fun p => { p with st := .accel }).park

/-- The heads are on the ramp: PARKED, or RETRACTED (R565); a stop that waited for them begins (R593). -/
def State.latchHeads (st : SrvSt) (s : State) : State :=
  let s1 := (s.onSrv fun v => { v with st := st, valid := false, headers := 0 }).onRet fun r => { r with loaded := false }
  if s1.spn.stopAfterPark then s1.spnStopping else s1

/-- A seek on the active head begins (R565, R570): a profile from the present position to the target turn. -/
def State.seekProfile (turn : Nat) (s : State) : State :=
  let x := s.srv.p
  let xt := (turn : Int) * 16384 + nth 0 s.srv.rdofs (zoneOf s.turns turn)
  s.onSrv fun v =>
    { v with st := .seek, tgt := turn, pending := none, settleRow := 0,
             prof := { x := x * (2 ^ 24 : Nat), xt := xt * (2 ^ 24 : Nat), dir := if x ≤ xt then 1 else -1,
                       position := true } }

/-- A seek to a head and a turn (R571 to R573). -/
def State.seekTo (h turn : Nat) (s : State) : State :=
  let s1 := s.onSrv fun v =>
    { v with cntSeeks := satInc 0xFFFFFFFF v.cntSeeks, seekWin := 0, seeking := true, seekHead := decide (h ≠ s.rch.head),
             seekBin := skBin (((turn : Int) - v.turn).natAbs) }
  if h = s.rch.head then s1.seekProfile turn
  else (s1.selectHead h).onSrv fun v => { v with st := .acquire, pending := some turn, validRow := 0, headers := 0 }

/-- A seek to the first bit of an LBA, when the profile is predicted to end at fraction ψ (R571). -/
def State.seekLba (lba psi : Nat) (s : State) : State :=
  let a := s.lbaAt lba
  s.seekTo a.1 (if psi + 2 ^ 25 ≤ a.2.2 then a.2.1 else a.2.1 - 1)

/-- A fresh start attempt of the spindle: SENSE (R588). -/
def State.spnAttempt (s : State) : State :=
  s.onSpn fun p => { p with st := .sense, attempts := satInc 255 p.attempts, attemptWait := false, plausible := false,
                            reached := false, catchDue := false, freshStart := false,
                            cntStarts := satInc 0xFFFFFFFF p.cntStarts }

/-- A start begins (R588): the setpoint is not 0, the mode permits it, and the spindle stands. -/
def State.spnStart (s : State) : State :=
  if s.on .dsk && decide (s.spn.rpmSet ≠ 0) && s.spindleLive && decide (s.spn.st = .stopped) then
    (s.onSpn fun p => { p with attempts := 0 }).spnAttempt
  else s

end Sys2Proof.Machine
end

