-- ==== Sys2Proof/Machine/Husk.lean ====
section
/-! DEFINITION. Machine/Husk.lean: the fixed-ratio block code, to the bit: the coder's choices (R373 to R378) and the
decoder (R360 to R372, R381, R382). -/
namespace Sys2Proof.Machine

/-! ## Bits, blocks and budgets -/

/-- The `n` bits of a field, least significant first (R359). -/
def fieldBits : Nat → Nat → List Bool
  | 0, _ => []
  | n + 1, v => decide (v % 2 = 1) :: fieldBits n (v / 2)

/-- The number whose bits, least significant first, are `bs`. -/
def bitsNat : List Bool → Nat
  | [] => 0
  | b :: t => (if b then 1 else 0) + 2 * bitsNat t

/-- Read a field of `n` bits; none when a bit beyond the block would be read (R381). -/
def takeBits (n : Nat) (bs : List Bool) : Option (Nat × List Bool) :=
  if bs.length < n then none else some (bitsNat (bs.take n), bs.drop n)

/-- Read `count` fields of `n` bits. -/
def takeFields (n : Nat) : Nat → List Bool → Option (List Nat × List Bool)
  | 0, bs => some ([], bs)
  | c + 1, bs => do
    let (v, r) ← takeBits n bs
    let (vs, r2) ← takeFields n c r
    pure (v :: vs, r2)

/-- The block budget Q in bytes (R356). -/
def budgetQ (ratio : Nat) : Nat := match ratio with | 0 => 128 | 1 => 64 | _ => 32

/-- The tag cap in bits (R356). -/
def tagCap (ratio : Nat) : Nat := match ratio with | 0 => 544 | 1 => 256 | _ => 64

/-- Bits of a byte string (R359). -/
def bytesBits (bs : List Byte) : List Bool := bs.flatMap fun b => fieldBits 8 b.toNat

/-- `n` bytes from bits, padded with zeros (R361). -/
def bitsBytes : Nat → List Bool → List Byte
  | 0, _ => []
  | n + 1, bs => BitVec.ofNat 8 (bitsNat (bs.take 8)) :: bitsBytes n (bs.drop 8)

/-- The pixel index of pixel j of sub-block s (R355). -/
def subIndex (s j : Nat) : Nat := 16 * (4 * (s / 4) + j / 4) + 4 * (s % 4) + j % 4

/-- The 16 pixels of sub-block s. -/
def subPix (px : List Nat) (s : Nat) : List Nat := (List.range 16).map fun j => px.getD (subIndex s j) 0

/-- The 256 pixels of a block from its 16 sub-blocks. -/
def fromSubs (subs : List (List Nat)) : List Nat :=
  (List.range 256).map fun i =>
    let x := i % 16
    let y := i / 16
    (subs.getD (4 * (y / 4) + x / 4) []).getD (4 * (y % 4) + x % 4) 0

/-- The signed value of an `n`-bit field. -/
def sField (n v : Nat) : Int := sx n v

/-- The place that candidate c names: DBAND is −1 when the flag is set, and DCOL (R367). -/
def candidate (c : Nat) : Bool × Int :=
  let k := c / 2
  if c % 2 = 0 then (false, -((k : Int) + 1))
  else (true, if k % 2 = 1 then -(((k + 1) / 2 : Nat) : Int) else ((k / 2 : Nat) : Int))

/-- The reference block of candidate c for the block at column `col`: `cur` holds the band's blocks decoded so far and
`above` those of the band above, empty for band 0 (R367, R368). -/
def reference (above cur : List (List Nat)) (kBlocks col c : Nat) : Option (List Nat) :=
  let p := candidate c
  let column := (col : Int) + p.2
  if column < 0 ∨ (kBlocks : Int) ≤ column then none
  else if p.1 then above[column.toNat]? else cur[column.toNat]?

/-! ## Decoding -/

/-- Decode the tag layer: 16 rows of 16 tags (R364). -/
def decodeTags : Nat → List Nat → List Bool → Option (List (List Nat) × List Bool)
  | 0, _, bs => some ([], bs)
  | n + 1, prev, bs => do
    let (m, r) ← takeBits 2 bs
    let (row, r2) ← (match m with
      | 0 => some (prev, r)
      | 1 => do
        let (t, q) ← takeBits 2 r
        pure (List.replicate 16 t, q)
      | 2 => do
        let (a, q) ← takeBits 2 r
        let (b, q2) ← takeBits 2 q
        let (sp, q3) ← takeBits 4 q2
        pure ((List.range 16).map fun x => if x < sp then a else b, q3)
      | _ => takeFields 2 16 r)
    let (rows, r3) ← decodeTags n row r2
    pure (row :: rows, r3)

/-- Decode one sub-block of PREDICT against its reference pixels (R369). -/
def decodeSubPredict (ref : List Nat) (bs : List Bool) : Option (List Nat × List Bool) := do
  let (sm, r) ← takeBits 2 bs
  match sm with
  | 0 => pure (ref, r)
  | 1 => do
    let (d, q) ← takeBits 6 r
    pure (ref.map fun p => (clampI 0 255 ((p : Int) + sField 6 d)).toNat, q)
  | 2 => do
    let (km1, q) ← takeBits 3 r
    let (rs, q2) ← takeFields (km1 + 1) 16 q
    pure ((ref.zip rs).map fun x => (((x.1 : Int) + sField (km1 + 1) x.2) % 256).toNat, q2)
  | _ => takeFields 8 16 r

/-- Decode the sub-blocks of PREDICT from sub-block `16 - n` on. -/
def decodePredict (ref : List Nat) : Nat → List Bool → Option (List (List Nat) × List Bool)
  | 0, bs => some ([], bs)
  | n + 1, bs => do
    let (p, r) ← decodeSubPredict (subPix ref (15 - n)) bs
    let (ps, r2) ← decodePredict ref n r
    pure (p :: ps, r2)

/-- Decode the sub-blocks of QUANT (R370, R371). -/
def decodeQuant (qs : Nat) : Nat → List Bool → Option (List (List Nat) × List Bool)
  | 0, bs => some ([], bs)
  | n + 1, bs => do
    let (f, r) ← takeBits 1 bs
    let (base, r2) ← takeBits 8 r
    let (us, r3) ← if f = 1 ∨ 7 ≤ qs then some (List.replicate 16 0, r2) else takeFields (7 - qs) 16 r2
    let (ps, r4) ← decodeQuant qs n r3
    pure (us.map (fun u => min (base + u * 2 ^ (qs + 1)) 255) :: ps, r4)

/-- The contone of a block by its MODE (R365 to R371); none when malformed. -/
def decodePayload (mode : Nat) (above cur : List (List Nat)) (kBlocks col : Nat) (bs : List Bool) : Option (List Nat) :=
  match mode with
  | 0 => do
    let (v, _) ← takeBits 8 bs
    pure (List.replicate 256 v)
  | 1 => do
    let (a, r) ← takeBits 8 bs
    let (b, r2) ← takeBits 8 r
    let (m, _) ← takeFields 1 256 r2
    pure (m.map fun x => if x = 1 then b else a)
  | 2 => do
    let (c, r) ← takeBits 7 bs
    let ref ← reference above cur kBlocks col c
    let (ps, _) ← decodePredict ref 16 r
    pure (fromSubs ps)
  | _ => do
    let (qs, r) ← takeBits 3 bs
    let (ps, _) ← decodeQuant qs 16 r
    pure (fromSubs ps)

/-- A decoded block: 256 contone values and 16 rows of tags. -/
structure HBlock where
  contone : List Nat
  tags : List (List Nat)
  deriving DecidableEq, Repr

/-- The tags of a block without a tag layer (R363). -/
def noTags : List (List Nat) := List.replicate 16 (List.replicate 16 0)

/-- Decode one block; none when it is malformed (R360, R381). -/
def decodeBlock? (above cur : List (List Nat)) (kBlocks col : Nat) (bs : List Bool) : Option HBlock := do
  let (mode, r) ← takeBits 2 bs
  let (tg, r2) ← takeBits 1 r
  let (tags, r3) ← if tg = 1 then decodeTags 16 (List.replicate 16 0) r2 else some (noTags, r2)
  let c ← decodePayload mode above cur kBlocks col r3
  pure { contone := c, tags := tags }

/-- What a malformed block decodes to (R382). -/
def malformedBlock : HBlock := { contone := List.replicate 256 0, tags := noTags }

/-- Decode the blocks of a band in column order: the blocks, and the columns of the malformed ones. `bad` names columns
whose bytes the memory controller reported (R436). -/
def decodeBlocks (q : Nat) (above : List (List Nat)) (kBlocks : Nat) (bad : Nat → Bool) :
    Nat → List Byte → List HBlock → List HBlock × List Nat
  | 0, _, acc => (acc, [])
  | n + 1, bytes, acc =>
    let col := kBlocks - (n + 1)
    let d := if bad col then none
      else decodeBlock? above (acc.map (·.contone)) kBlocks col (bytesBits (bytes.take q))
    let r := decodeBlocks q above kBlocks bad n (bytes.drop q) (acc ++ [d.getD malformedBlock])
    (r.1, if d.isNone then col :: r.2 else r.2)

/-! ## Coding -/

/-- The row of a tag layer coded exactly, by the first row mode that reproduces it (R364, R373). -/
def codeTagRow (prev row : List Nat) : List Bool :=
  let t0 := row.getD 0 0
  let split := (List.range 16).find? fun i => decide (0 < i) && decide (row.getD i 0 ≠ row.getD (i - 1) 0)
  if row = prev then fieldBits 2 0
  else if row.all fun t => decide (t = t0) then fieldBits 2 1 ++ fieldBits 2 t0
  else match split with
    | some i =>
      if (row.drop i).all fun t => decide (t = row.getD i 0) then
        fieldBits 2 2 ++ fieldBits 2 t0 ++ fieldBits 2 (row.getD i 0) ++ fieldBits 4 i
      else fieldBits 2 3 ++ row.flatMap (fieldBits 2)
    | none => fieldBits 2 3 ++ row.flatMap (fieldBits 2)

/-- The exact tag layer (R373). -/
def codeTags : List Nat → List (List Nat) → List Bool
  | _, [] => []
  | prev, row :: rows => codeTagRow prev row ++ codeTags row rows

/-- The tag that occurs most often in a row, the lower one on a tie (R374). -/
def majority (row : List Nat) : Nat :=
  (List.range 4).foldl (fun best t => if row.count best < row.count t then t else best) 0

/-- The tag layer that the coder writes, and whether it is the reduced one (R374). -/
def tagLayer (cap : Nat) (rows : List (List Nat)) : List Bool × Bool :=
  let exact := codeTags (List.replicate 16 0) rows
  if exact.length ≤ cap then (exact, false)
  else (codeTags (List.replicate 16 0) (rows.map fun r => List.replicate 16 (majority r)), true)

/-- A residual of RESID (R376). -/
def residual (p r : Nat) : Int := (((p : Int) - (r : Int) + 128) % 256) - 128

/-- The least k that holds every residual as a signed field (R376). -/
def residBits (rs : List Int) : Nat :=
  ((List.range 8).find? fun i => rs.all fun r =>
    decide (-(2 ^ i : Nat) ≤ r) && decide (r < ((2 ^ i : Nat) : Int))).getD 7 + 1

/-- The codes of a sub-block against a reference, one for each sub-mode that applies, in the order of SM (R369,
R376). -/
def subCodes (px ref : List Nat) : List (List Bool) :=
  let rs := (px.zip ref).map fun x => residual x.1 x.2
  let k := residBits rs
  let off := (List.range 64).find? fun i =>
    (px.zip ref).all fun x => decide ((clampI 0 255 ((x.2 : Int) + ((i : Int) - 32))).toNat = x.1)
  (if px = ref then [fieldBits 2 0] else []) ++
  (match off with
    | some i => [fieldBits 2 1 ++ fieldBits 6 (code 6 ((i : Int) - 32))]
    | none => []) ++
  [fieldBits 2 2 ++ fieldBits 3 (k - 1) ++ rs.flatMap fun r => fieldBits k (code k r)] ++
  [fieldBits 2 3 ++ px.flatMap (fieldBits 8)]

/-- The shortest of a list of codes, the first one on a tie. -/
def shortest : List (List Bool) → List Bool
  | [] => []
  | c :: t => t.foldl (fun best x => if x.length < best.length then x else best) c

/-- The PREDICT payload of a block for candidate c, if it is valid (R367 to R369, R376). -/
def codePredict (px : List Nat) (above cur : List (List Nat)) (kBlocks col c : Nat) : Option (List Bool) :=
  (reference above cur kBlocks col c).map fun ref =>
    fieldBits 7 c ++ (List.range 16).flatMap fun s => shortest (subCodes (subPix px s) (subPix ref s))

/-- The best PREDICT payload within an effort level, the lowest candidate on a tie (R376). -/
def bestPredict (effort : Nat) (px : List Nat) (above cur : List (List Nat)) (kBlocks col : Nat) : Option (List Bool) :=
  match (List.range (2 ^ effort)).filterMap fun c => codePredict px above cur kBlocks col c with
  | [] => none
  | c :: t => some (shortest (c :: t))

/-- One sub-block of QUANT (R370, R372). -/
def codeSubQuant (qs : Nat) (px : List Nat) : List Bool :=
  if qs ≤ 6 then
    let base := px.foldl min 255
    let us := px.map fun p => min ((p - base + 2 ^ qs) / 2 ^ (qs + 1)) (2 ^ (7 - qs) - 1)
    if us.all fun u => decide (u = 0) then fieldBits 1 1 ++ fieldBits 8 base
    else fieldBits 1 0 ++ fieldBits 8 base ++ us.flatMap (fieldBits (7 - qs))
  else fieldBits 1 1 ++ fieldBits 8 ((px.foldl (· + ·) 0 + 8) / 16)

/-- The QUANT payload at a step (R370). -/
def codeQuant (qs : Nat) (px : List Nat) : List Bool :=
  fieldBits 3 qs ++ (List.range 16).flatMap fun s => codeSubQuant qs (subPix px s)

/-- A coded block: MODE, its payload, and whether its tag layer was reduced. -/
structure Coded where
  mode : Nat
  bits : List Bool
  tagred : Bool
  deriving DecidableEq, Repr

/-- The coder's choice for one block (R375). -/
def codeBlock (effort ratio : Nat) (tags : Option (List (List Nat))) (px : List Nat) (above cur : List (List Nat))
    (kBlocks col : Nat) : Coded :=
  let layer := match tags with
    | none => ([], false)
    | some rows => tagLayer (tagCap ratio) rows
  let room := 8 * budgetQ ratio - 3 - layer.1.length
  let head := fun mode => fieldBits 2 mode ++ fieldBits 1 (if tags.isSome then 1 else 0) ++ layer.1
  let v0 := px.getD 0 0
  let lo := px.foldl min 255
  let hi := px.foldl max 0
  if px.all fun p => decide (p = v0) then { mode := 0, bits := head 0 ++ fieldBits 8 v0, tagred := layer.2 }
  else if (px.all fun p => decide (p = lo) || decide (p = hi)) && decide (272 ≤ room) then
    { mode := 1, tagred := layer.2,
      bits := head 1 ++ fieldBits 8 lo ++ fieldBits 8 hi ++ px.map fun p => decide (p = hi) }
  else
    let quant := (((List.range 8).map fun qs => codeQuant qs px).find? fun c => decide (c.length ≤ room)).getD
      (codeQuant 7 px)
    match bestPredict effort px above cur kBlocks col with
    | some c =>
      if c.length ≤ room then { mode := 2, bits := head 2 ++ c, tagred := layer.2 }
      else { mode := 3, bits := head 3 ++ quant, tagred := layer.2 }
    | none => { mode := 3, bits := head 3 ++ quant, tagred := layer.2 }

/-- Counts of one coded plane (R395): blocks, FLAT, TWO_TONE, PREDICT, QUANT, reduced tag layers. -/
structure CodeCounts where
  blocks : Nat := 0
  flat : Nat := 0
  two : Nat := 0
  pred : Nat := 0
  quant : Nat := 0
  tagred : Nat := 0
  deriving DecidableEq, Repr

/-- Count one coded block. -/
def CodeCounts.add (n : CodeCounts) (c : Coded) : CodeCounts :=
  { blocks := n.blocks + 1, flat := n.flat + (if c.mode = 0 then 1 else 0), two := n.two + (if c.mode = 1 then 1 else 0),
    pred := n.pred + (if c.mode = 2 then 1 else 0), quant := n.quant + (if c.mode = 3 then 1 else 0),
    tagred := n.tagred + (if c.tagred then 1 else 0) }

/-- A pixel of a raw plane, filled beyond its edges by the last pixel of the row and the last row (R358, R385). -/
def rawPixel (raw : List Byte) (width height x y : Nat) : Nat :=
  (raw.getD (min y (height - 1) * width + min x (width - 1)) 0).toNat

/-- A tag of the raw tag plane, filled the same way (R308, R358). -/
def rawTag (tags : List Byte) (width height x y : Nat) : Nat :=
  let xx := min x (width - 1)
  (tags.getD (min y (height - 1) * ceilDiv width 4 + xx / 4) 0).toNat / 4 ^ (xx % 4) % 4

/-- Code the blocks of one band from column `kBlocks - n` on (R357, R377). -/
def codeBand (effort ratio kBlocks : Nat) (pixel tag : Nat → Nat → Nat) (hasTags : Bool) (above : List (List Nat)) :
    Nat → List (List Nat) → List Byte → CodeCounts → List (List Nat) × List Byte × CodeCounts
  | 0, cur, out, cnt => (cur, out, cnt)
  | n + 1, cur, out, cnt =>
    let col := kBlocks - (n + 1)
    let px := (List.range 256).map fun i => pixel (16 * col + i % 16) (i / 16)
    let tg := if hasTags then
        some ((List.range 16).map fun y => (List.range 16).map fun x => tag (16 * col + x) y)
      else none
    let c := codeBlock effort ratio tg px above cur kBlocks col
    let back := (decodeBlock? above cur kBlocks col
      (c.bits ++ List.replicate (8 * budgetQ ratio - c.bits.length) false)).getD malformedBlock
    codeBand effort ratio kBlocks pixel tag hasTags above n (cur ++ [back.contone])
      (out ++ bitsBytes (budgetQ ratio) c.bits) (cnt.add c)

/-- Code a raw plane from band `nb - n` on (R357, R385). -/
def codeBands (effort ratio width height kBlocks nb : Nat) (raw tags : List Byte) (hasTags : Bool) :
    Nat → List (List Nat) → List Byte → CodeCounts → List Byte × CodeCounts
  | 0, _, out, cnt => (out, cnt)
  | n + 1, above, out, cnt =>
    let band := nb - (n + 1)
    let r := codeBand effort ratio kBlocks (fun x y => rawPixel raw width height x (16 * band + y))
      (fun x y => rawTag tags width height x (16 * band + y)) hasTags above kBlocks [] out cnt
    codeBands effort ratio width height kBlocks nb raw tags hasTags n r.1 r.2.1 r.2.2

/-- Code one plane: its stream and its counts. -/
def codePlane (effort ratio width height : Nat) (raw tags : List Byte) (hasTags : Bool) : List Byte × CodeCounts :=
  let nb := ceilDiv height 16
  codeBands effort ratio width height (ceilDiv width 16) nb raw tags hasTags nb [] [] {}

/-- Row y of the contone of a decoded band. -/
def bandRow (bl : List HBlock) (y : Nat) : List Nat := bl.flatMap fun b => (b.contone.drop (16 * y)).take 16

/-- Row y of the tags of a decoded band. -/
def bandTagRow (bl : List HBlock) (y : Nat) : List Nat := bl.flatMap fun b => b.tags.getD y []

/-- The blocks' contone of a decoded band, from its 16 rows, as PREDICT reads it. -/
def rowsToBlocks (rows : List (List Nat)) (kBlocks : Nat) : List (List Nat) :=
  (List.range kBlocks).map fun c => rows.flatMap fun r => (r.drop (16 * c)).take 16

end Sys2Proof.Machine
end

