-- ==== Sys2Proof/Machine/SheafCmd.lean ====
section
/-! DEFINITION. Machine/SheafCmd.lean: what the commands of Sheaf, the Mover and the Husk coder do. -/
namespace Sys2Proof.Machine

/-! ## Page-out -/

/-- Frames that are DIF (R458). -/
def State.difAll (s : State) : Nat := (s.shf.pools.map fun p => p.dif).sum

/-- The water marks of R425: page-out starts at HI and ends at LO. -/
def State.pageWater (s : State) : State :=
  let c := s.reg 0x400010
  let i := (s.pool 3).issued
  let b := s.budget 3
  if !s.shf.paging && decide (fld c 24 8 * b ≤ 256 * i) && decide (0 < i) then
    (s.onShf fun h => { h with paging := true }).raise 103
  else if s.shf.paging && decide (256 * i ≤ fld c 16 8 * b) then s.onShf fun h => { h with paging := false }
  else s

/-- The disk can take page-outs (R417). -/
def State.canPageOut (s : State) : Bool := s.on .dsk && !s.boot.noDisk

/-- A spool frame may be paged out, apart from what asks for it (R403, R425, R428). -/
def State.pageable (s : State) (x : Frame) : Bool :=
  decide (x.st = .held) && decide (x.pool = 3) && decide (x.pins = 0) && !x.noPage && !x.freeLater &&
    (match x.owner with
      | none => false
      | some (k, p, _) => decide ((s.tok k).state ≠ .armed) && (nth {} (s.tok k).planes p).ready)

/-- Some spool frame could be paged out (R417). -/
def State.anyPageable (s : State) : Bool := s.canPageOut && s.shf.frames.any fun f => s.pageable f.2

/-- Frame a of one token goes before frame b: ascending token number, then the highest frame first (R425). -/
def State.pagesBefore (s : State) (a b : Frame) : Bool :=
  match a.owner, b.owner with
  | some (k, p, i), some (j, q, l) =>
    let x := (s.tok k).num
    let y := (s.tok j).num
    decide (x < y) || (decide (x = y) && (decide (q < p) || (decide (p = q) && decide (l < i))))
  | _, _ => false

/-- The next frame to be paged out: under the water marks, or of a page for print-from-platter (R425). -/
def State.nextPageOut (s : State) : Option (Nat × Frame) :=
  let ok (x : Frame) := s.pageable x && (s.shf.paging || (match x.owner with
    | some (k, _, _) => (s.tok k).platter
    | none => false))
  (s.shf.frames.filter fun f => ok f.2).foldl (fun best f => match best with
    | none => some f
    | some b => if s.pagesBefore f.2 b.2 then some f else best) none

/-- Page-out is active: under the water marks, or for print-from-platter, or frames are being written (R425, R458). -/
def State.pagesOut (s : State) : Bool :=
  s.shf.paging || decide (0 < s.difAll) || (s.canPageOut && s.nextPageOut.isSome)

/-- A frame becomes DIF, and its write joins the non-print work (R426, R579). -/
def State.beginPageOut (f : Nat) (x : Frame) (s : State) : State :=
  match x.owner with
  | none => s
  | some (k, p, i) =>
    let e := ((nth {} (s.tok k).planes p).extent.getD 0) + i
    let s1 := (s.putFrame f { x with st := .dif }).onPool 3 fun c => { c with held := c.held - 1, dif := c.dif + 1 }
    { s1 with rch := { s1.rch with
        waiting := s1.rch.waiting ++ [{ kind := .pageOut f, lba := s1.extentLba e, count := 16 }] } }

/-- Page out frames while at most 16 are DIF (R425, R426). -/
def State.pageOuts : Nat → State → State
  | 0, s => s
  | n + 1, s =>
    if !s.canPageOut || decide (16 ≤ s.difAll) then s
    else match s.nextPageOut with
      | none => s
      | some (f, x) => State.pageOuts n (s.beginPageOut f x)

/-- The page-out that is due (R425). -/
def State.pageOutDue (s : State) : State := State.pageOuts 16 s.pageWater

/-- A page-out has failed or was abandoned: the frame returns to HELD and is never paged out again; the frame of an
ended token is freed (R422, R427, R428). -/
def State.pageOutFailed (f : Nat) (s : State) : State :=
  match s.frame? f with
  | some x =>
    let s1 := ((s.putFrame f { x with st := .held, noPage := true }).onPool x.pool fun c =>
      { c with held := c.held + 1, dif := c.dif - 1 }).raise 98
    if x.owner.isNone then s1.freeFrame f else s1
  | none => s

/-- A DIF frame whose write has ended is freed (R426), once no running Mover channel holds it (R449). -/
def State.freeDif (f : Nat) (s : State) : State :=
  if s.movHolds f then
    match (s.orphan f).frame? f with
    | some x => (s.orphan f).putFrame f { x with freeLater := true }
    | none => s
  else s.transitRoom.leave f

/-- PAGEOUT_WRITE_COMPLETE: the write of frame f completes or fails (R426 to R428). -/
def pageoutWriteComplete (f : Nat) (ok : Bool) (s : State) : State :=
  match s.frame? f with
  | none => s
  | some x =>
    if !s.on .mem || decide (x.st ≠ .dif) || x.freeLater then s
    else
      let mine (d : DXfer) : Bool := decide (d.kind = .pageOut f)
      let left := s.rch.waiting.any mine || (match s.rch.cur with
        | some d => mine d
        | none => false)
      if ok && left then s
      else
        let s1 := { s with rch := { s.rch with waiting := s.rch.waiting.filter fun d => !mine d } }
        if ok && !x.noPage then s1.freeDif f else s1.pageOutFailed f

/-! ## The coder -/

/-- The coder finds no spool frame (R386). -/
def State.codeFailed (k : Nat) (s : State) : State := ((s.raise 96).raise 90).reject k 7

/-- A plane of token k enters the spool pool: its stream, its frames against credits granted, and its extents; its
host-submit frames are freed, and with the last plane those of the tag plane (R413, R424). -/
def State.enterSpool (k p ext : Nat) (stream : List Byte) (s : State) : State :=
  let h := (s.tok k).hdr
  let s1 := s.onTok k fun t => { t with planes := modAt t.planes p fun _ =>
    { input := [], coded := stream, ready := true, extent := some ext } }
  let s2 := State.allocPlane 3 k p (h.frames p) 0 s1
  let last := h.list.all fun q => (nth {} (s2.tok k).planes q).ready
  ((s2.framesOf k 1).filter fun f => last || (match f.2.owner with
    | some (_, q, _) => decide (q = p)
    | none => false)).foldl (fun t f => t.freeFrame f.1) s2

/-- The raw plane in progress is coded: it enters the spool pool, with the counters and sources 89 and 91 (R385, R389,
R395). -/
def State.finishPlane (k p ext : Nat) (s : State) : State :=
  let t := s.tok k
  let h := t.hdr
  let r := codePlane s.husk.effort (h.ratioOf p) h.width h.height (nth {} t.planes p).input t.tagInput h.tags
  let c := r.2
  let s1 := (s.enterSpool k p ext r.1).coderLeaves
  let x := s1.husk
  let s2 := { s1 with husk := { x with
    cntBlocks := satAdd 0xFFFFFFFF x.cntBlocks c.blocks, cntFlat := satAdd 0xFFFFFFFF x.cntFlat c.flat,
    cntTwo := satAdd 0xFFFFFFFF x.cntTwo c.two, cntPred := satAdd 0xFFFFFFFF x.cntPred c.pred,
    cntQuant := satAdd 0xFFFFFFFF x.cntQuant c.quant, cntTagred := satAdd 0xFFFFFFFF x.cntTagred c.tagred } }
  let s3 := if 0 < c.quant then s2.raise 89 else s2
  if 0 < c.tagred then s3.raise 91 else s3

/-- A pre-coded plane is moved into the spool pool as it is (R314). -/
def State.movePlane (k p ext : Nat) (s : State) : State :=
  s.enterSpool k p ext (nth {} (s.tok k).planes p).input

/-- A plane asks for its extents and spool credits: it enters the spool pool by `go`, waits while frames can be
paged out, or its token is rejected (R386, R417, R424). -/
def State.askSpool (k p : Nat) (go : Nat → State → State) (s : State) : State :=
  let f := (s.tok k).hdr.frames p
  match s.findExtents f with
  | none => s.reject k 7
  | some e => match s.credit 3 f with
    | some t => go e t
    | none =>
      if s.anyPageable then
        ({ s with husk := { s.husk with coderWaits := s.husk.coderWaits || !(s.tok k).hdr.precoded } } : State).onShf fun h =>
          ({ h with waits := h.waits ++ [({ consumer := 1, pool := 3, n := f, ref := k, plane := p } : CreditWait)] } : Shf)
      else s.codeFailed k

/-- PLANE_CODED: the plane in progress is finished, waits for spool frames, or fails (R385, R386, R389, R424). -/
def planeCoded (s : State) : State :=
  match s.husk.coding with
  | [] => s
  | (k, p) :: _ =>
    if !s.on .pix || !s.on .mem || !s.husk.busy || s.husk.coderWaits then s
    else s.askSpool k p (State.finishPlane k p)

/-- Every plane of a pre-coded page is moved into the spool pool, or its token is rejected (R314, R386).
DEDUCED, log entry 85. -/
def State.movePlanes (k : Nat) (s : State) : State :=
  (s.tok k).hdr.list.foldl (fun t p => if (t.tok k).waits then t.askSpool k p (State.movePlane k p) else t) s

/-! ## Credits and frames -/

/-- Take the credit wait at place i away. -/
def State.dropWait (i : Nat) (s : State) : State := s.onShf fun h => { h with waits := h.waits.eraseIdx i }

/-- The disk-cache credits that block commands hold: those of their frames in the pool or on the way there, and of their
allocations that wait (R416, R429). -/
def State.blockCredits (s : State) : Nat :=
  (s.shf.frames.filter fun f => f.2.block.isSome && decide (f.2.st = .held ∨ f.2.st = .toPool)).length +
    (s.shf.allocs.filter fun a => a.who.host.isSome).length

/-- Disk-cache credits are left for one more block command, outside the landing share (R417, R429). -/
def State.blockRoom (s : State) : Bool := decide (s.blockCredits + fld (s.reg 0x400010) 0 16 < s.budget 2)

/-- A block command takes a disk-cache frame outside the landing share; it waits for the credit, and with the credit for
a FREE frame (R416, R417, R429). -/
def State.blockFrame (ref : Nat) (s : State) : State :=
  let wait : State := s.onShf fun h => { h with waits := h.waits ++ [{ consumer := 2, pool := 2, n := 1, ref := ref, plane := 0 }] }
  if !s.blockRoom then wait
  else match s.credit 2 1 with
    | some t => (t.allocOrWait { pool := 2, who := .block ref }).1
    | none => wait

/-- The frame of a block command. -/
def State.frameOfBlock (s : State) (ref : Nat) : Option Nat :=
  (s.shf.frames.find? fun f => decide (f.2.block = some ref) && decide (f.2.st = .held ∨ f.2.st = .toPool) &&
    !f.2.freeLater).map (·.1)

/-- Put bytes into DRAM from an address on (R398). -/
def State.storeBytes (a : Nat) (l : List Byte) (s : State) : State :=
  let kept := s.dram.filter fun c => !decide (a ≤ c.1 ∧ c.1 < a + l.length)
  { s with dram := l.zipIdx.foldl (fun d b => sput 0 b.1 (a + b.2) d) kept }

/-- A block command ends: its frame, or its wait with what it holds, is given back (R413, R414). -/
def State.blockFree (ref : Nat) (s : State) : State :=
  let s1 := (s.onShf fun h => { h with waits := h.waits.filter fun w => !decide (w.consumer = 2 ∧ w.ref = ref) }).dropAllocs
    fun a => decide (a.who = .block ref)
  match s1.frameOfBlock ref with
  | some f => s1.freeFrame f
  | none => s1

/-- A pre-coded page of its token waits, and not the coder. -/
def State.moves (s : State) (w : CreditWait) : Bool := (s.tok w.ref).hdr.precoded

/-- The place of the first wait, in ascending consumer order, that has room, or, for the coder, whose wait has become
hopeless (R415 to R417). -/
def State.nextWait (s : State) : Option Nat :=
  let room (w : CreditWait) : Bool := decide ((s.pool w.pool).issued + w.n ≤ s.budget w.pool)
  let fits (w : CreditWait) : Bool := match w.consumer with
    | 0 => room w
    | 1 => (s.on .pix || s.moves w) && (room w || !s.anyPageable)
    | 2 => room w && s.blockRoom
    | _ => s.jrnRoom || (room w && !s.jrnAwaits)
  ((s.shf.waits.zipIdx.filter fun w => fits w.1).foldl (fun best w => match best with
    | none => some w
    | some b => if w.1.consumer < b.1.consumer then some w else best) none).map (·.2)

/-- The wait of a plane ends: it enters the spool pool, or its token is rejected (R386, R417, R424). -/
def State.spoolGrant (w : CreditWait) (s : State) : State :=
  if s.moves w then s.askSpool w.ref w.plane (State.movePlane w.ref w.plane)
  else ({ s with husk := { s.husk with coderWaits := false } } : State).askSpool w.ref w.plane (State.finishPlane w.ref w.plane)

/-- CREDIT_GRANT: the first waiting request that has room is granted, with what the consumer then does (R409, R417). -/
def creditGrant (s : State) : State :=
  if !s.on .mem then s
  else match s.nextWait with
    | none => s
    | some i =>
      match s.shf.waits[i]? with
      | none => s
      | some w =>
        let s1 := s.dropWait i
        match w.consumer with
        | 0 => match s1.credit w.pool w.n with
          | some t => t.onTok w.ref fun x => { x with creditWait := 0 }
          | none => s
        | 1 => s1.spoolGrant w
        | 2 => s1.blockFrame w.ref
        | _ => s1.placeEnd w.ref

/-- TRANSIT_ARRIVE. -/
def transitArrive (f : Nat) (s : State) : State := s.inDom .mem (State.arrive f)

/-- What the frame that an allocation waited for is taken for: a record goes into it at once, and a transfer stages its
bytes there (R884, R947). -/
def State.allocDone (who : AllocFor) (f : Nat) (s : State) : State :=
  match who with
  | .record k => s.putRecord k f 0
  | .stage id => { s with zop := { s.zop with xfers := s.zop.xfers.map fun x =>
      if x.id = id then { x with frames := x.frames ++ [f] } else x } }
  | .plane _ _ _ | .block _ => s

/-- The next other allocation that waits takes a frame (R416). -/
def State.allocNext (s : State) : State :=
  match s.shf.allocs with
  | [] => s
  | a :: rest => match s.allocFor a with
    | (t, some f) => (t.onShf fun h => { h with allocs := rest }).allocDone a.who f
    | (_, none) => s

/-- ALLOC_COMPLETE: an allocation that waited takes a frame, that of `SHF_CMD` before others (R416, R461).
DEDUCED, log entry 85. -/
def allocComplete (s : State) : State :=
  if !s.on .mem then s
  else match s.shf.allocWait with
    | none => s.allocNext
    | some p => match s.alloc p none with
      | (t, some f) => t.onShf fun h => { h with allocWait := none, allocFrame := some f }
      | (_, none) => s

/-- SHF_SNAPSHOT: a write of `SHF_SNAP_CTRL` with REQ = 1 (R435, R462). -/
def shfSnapshot (s : State) : State := s.bar0 0x400030 .any State.snapBooks

/-- The snapshot that a read of OD 2C00:07 takes (R435, R467). -/
def booksTake (s : State) : State :=
  if !s.on .mem then s.replied .stateConflict
  else
    let s1 := s.snapBooks
    { s1 with zop := { s1.zop with reply := .none, replyData := s1.shf.booksBytes } }

/-- BOOKS_READ: a read of OD 2C00:07 (R435, R467). -/
def booksRead (s : State) : State := s.answers booksTake

/-- A RETIREMENT record of a frame (R438). -/
def State.retireRecord (f : Nat) (s : State) : State := s.glume 5 true 0 (u32le f)

/-- DRAM_UNCORRECTABLE: an uncorrectable error at byte `o` of frame f (R436, R438). -/
def dramUncorrectable (f o : Nat) (s : State) : State :=
  if !s.on .mem || decide (s.shf.total ≤ f) then s
  else
    let s1 := s.onShf fun h => { h with errs := h.errs ++ [65536 * f + o % 65536] }
    match s1.frame? f with
    | some x =>
      if x.retire || decide (x.pool = 7) then s1
      else ((s1.putFrame f { x with retire := true }).raise 100).retireRecord f
    | none =>
      if s1.shf.marked.contains f then s1
      else ((s1.onShf fun h => { h with marked := h.marked ++ [f] }).raise 100).retireRecord f

/-- The argument of `SHF_CMD`. -/
def State.shfArg (s : State) : Nat := (s.reg 0x400024).toNat

/-- A write of `SHF_CMD` with GO = 1: POOL and OP are stored, a busy command refuses it, then the operation answers its
STATUS (R460, R461). -/
def shfCommand (op pool : Nat) (f : State → Nat × State) (s : State) : State :=
  s.bar0 0x400020 .any fun s =>
    let s1 := s.onShf fun h => { h with cmdPool := pool % 8, cmdOp := op }
    if s1.shf.allocWait.isSome || s1.shf.allocFrame.isSome then s1.onShf fun h => { h with cmdStatus := 5 }
    else if pool ≠ 5 ∧ pool ≠ 6 then s1.onShf fun h => { h with cmdStatus := 3 }
    else let r := f s1; r.2.onShf fun h => { h with cmdStatus := r.1 }

/-- OP 0 (R409, R411, R417). -/
def State.cmdCredit (pool : Nat) (s : State) : Nat × State :=
  match s.credit pool s.shfArg with
  | some t => (1, t)
  | none => (2, s.raise 96)

/-- SHF_CREDIT. -/
def shfCredit (pool : Nat) (s : State) : State := shfCommand 0 pool (State.cmdCredit pool) s

/-- OP 1 (R414). -/
def State.cmdReturn (pool : Nat) (s : State) : Nat × State :=
  if (s.pool pool).out < s.shfArg then (2, s) else (1, s.uncredit pool s.shfArg)

/-- SHF_RETURN. -/
def shfReturn (pool : Nat) (s : State) : State := shfCommand 1 pool (State.cmdReturn pool) s

/-- OP 2 (R412, R416, R461). -/
def State.cmdAllocate (pool : Nat) (s : State) : Nat × State :=
  if (s.pool pool).out = 0 then (2, s)
  else match s.alloc pool none with
    | (t, some f) => (1, t.onShf fun h => { h with cmdResult := f })
    | (t, none) => (6, (t.onShf fun h => { h with allocWait := some pool }).raise 97)

/-- SHF_ALLOCATE. -/
def shfAllocate (pool : Nat) (s : State) : State := shfCommand 2 pool (State.cmdAllocate pool) s

/-- OP 3 and OP 4 (R413, R437, R449, R461); a transfer that staged its bytes in the frame has it no longer. -/
def State.cmdLeave (pool : Nat) (retire : Bool) (s : State) : Nat × State :=
  let f := s.shfArg
  match s.frame? f with
  | none => (3, s)
  | some x =>
    if x.st ≠ .held ∨ x.pool ≠ pool then (3, s)
    else if 0 < x.pins then (4, s)
    else
      let s1 := (if retire then s.retireRecord f else s).putFrame f { x with retire := x.retire || retire }
      let s2 : State := { s1 with zop := { s1.zop with xfers := s1.zop.xfers.map fun y =>
        { y with frames := y.frames.filter fun g => decide (g ≠ f) } } }
      (1, s2.freeFrame f)

/-- SHF_FREE. -/
def shfFree (pool : Nat) (s : State) : State := shfCommand 3 pool (State.cmdLeave pool false) s

/-- SHF_RETIRE. -/
def shfRetire (pool : Nat) (s : State) : State := shfCommand 4 pool (State.cmdLeave pool true) s

/-- The judgement of a budget (R405, R406), and its store. -/
def budgetStore (p v : Nat) (s : State) : Abort × State :=
  let l := s.shf.budgets.set p v
  if s.shf.total < l.sum then (.range, s)
  else if p = 2 ∧ v < fld (s.reg 0x400010) 0 16 + 16 then (.range, s)
  else if p = 4 ∧ v < 16 then (.range, s)
  else if v < (s.pool p).issued then (.stateConflict, s)
  else (.none, s.onShf fun h => { h with budgets := l })

/-- POOL_BUDGET_WRITE: a write of `SHF_POOLp_BUDGET`; a refused one is discarded (R405 to R407, R1174). -/
def poolBudgetWrite (p : Nat) (v : Word) (s : State) : State :=
  s.bar0 (0x400100 + 0x20 * p) .fixed fun s => if p < 8 then (budgetStore p v.toNat s).2 else s

/-! ## The Mover -/

/-- Change the MOV block. -/
def State.onMov (f : Mov → Mov) (s : State) : State := { s with mov := f s.mov }

/-- Change a channel. -/
def State.onMovCh (k : Nat) (f : MovCh → MovCh) (s : State) : State :=
  s.onMov fun m => { m with chans := modAt m.chans k f }

/-- `MOV_CHk_CTRL` as stored. -/
def State.movCtrl (s : State) (k : Nat) : Word := s.reg (0x480114 + 0x20 * k)

/-- Every frame that n bytes at an address meet is HELD by a pool. -/
def State.rangeHeld (s : State) (a n pool : Nat) : Bool :=
  let lo := a / 65536
  (List.range ((a + n - 1) / 65536 - lo + 1)).all fun i => s.heldBy (lo + i) pool

/-- The check of a descriptor (R444): none when it passes. -/
def State.movCheck (s : State) (k : Nat) : Option MovStatus :=
  let c := s.movCtrl k
  let a := s.movSrc k
  let b := s.movDst k
  let n := s.movCount k
  let dp := fld c 20 3
  if fld c 24 3 = 7 ∨ (dp ≠ 5 ∧ dp ≠ 6) then some .range
  else if !(s.rangeHeld a n (fld c 24 3) && s.rangeHeld b n dp) then some .length
  else if a < b + n ∧ b < a + n then some .range
  else none

/-- The byte identity of R455, checked. -/
def State.checkMov (s : State) : State :=
  let m := s.mov
  if m.requested = m.moved + m.abandoned + m.pend + m.buffered then s
  else (s.raise 107).glume 8 false 107 ([m.requested, m.moved, m.abandoned, m.pend, m.buffered].flatMap u64le)

/-- A start of channel k (R443 to R447). -/
def State.movGo (k : Nat) (s : State) : State :=
  let n := s.movCount k
  if s.mov.queue.contains k then (s.onMovCh k fun c => { c with missed := true }).raise 106
  else if n = 0 then
    let s1 := s.onMovCh k fun c => { c with status := .done, left := 0 }
    if bitOf (s.movCtrl k) 29 then s1.raise 104 else s1
  else match s.movCheck k with
    | some e => (s.onMovCh k fun c => { c with status := e }).raise 105
    | none => (s.onMovCh k fun c => { c with status := .queued, left := n }).onMov fun m =>
        { m with queue := m.queue ++ [k], requested := m.requested + n, pend := m.pend + n }

/-- MOV_START: a write of `MOV_CHk_CTRL` with START = 1; the descriptor bits of a queued or running channel stay
(R443, R465, R466). -/
def movStart (k : Nat) (ctrl : Word) (s : State) : State :=
  s.bar0 (0x480114 + 0x20 * k) .any fun s =>
    let s1 := s.onMovCh k fun c => { c with missed := c.missed && !bitOf ctrl 7 }
    (if s1.mov.queue.contains k then s1 else s1.setReg (0x480114 + 0x20 * k) (ctrl &&& 0x67700000)).movGo k

/-- Free the frames whose free waited for a channel to end (R449). -/
def State.freeDeferred (s : State) : State :=
  (s.shf.frames.filter fun f => f.2.freeLater).foldl (fun t f =>
    if t.movHolds f.1 || decide (f.2.st = .toPool) then t else t.transitRoom.leave f.1) s

/-- The running or first channel leaves the queue with a status, `lost` of its bytes not written (R453 to R455). -/
def State.movEnd (k : Nat) (st : MovStatus) (lost : Nat) (s : State) : State :=
  let n := s.movCount k
  let runs := s.mov.running && decide (s.mov.queue.head? = some k)
  let held := if runs then s.mov.buffered else 0
  let s1 := (s.onMov fun m =>
    { m with queue := m.queue.filter fun j => decide (j ≠ k), running := m.running && !runs,
             abandoned := m.abandoned + lost, moved := m.moved + (n - lost), pend := m.pend - (n - held),
             buffered := m.buffered - held }).onMovCh k fun c =>
    { c with status := st, left := lost }
  s1.freeDeferred.checkMov

/-- MOV_CHANNEL_RUN (R447, R448): how many bytes the channel has read and not yet written while it runs, at most
512, is a free value (R455). DESIGN CHOICE, log entry 40. -/
def movChannelRun (s : State) : State :=
  match s.mov.queue with
  | [] => s
  | k :: _ =>
    if !s.on .mem || s.mov.running then s
    else match s.movCheck k with
      | some e => (s.movEnd k e (s.movCount k)).raise 105
      | none =>
        let b := min (s.fresh % 513) (s.movCount k)
        (s.used.onMov fun m =>
          { m with running := true, cur := k, buffered := m.buffered + b, pend := m.pend - b }).onMovCh k fun c =>
          { c with status := .running }

/-- MOV_CHANNEL_DONE (R450 to R452, R454). -/
def movChannelDone (s : State) : State :=
  match s.mov.queue with
  | [] => s
  | k :: _ =>
    if !s.on .mem || !s.mov.running then s
    else
      let s1 := (s.copyBytes (s.movSrc k) (s.movDst k) (s.movCount k)).movEnd k .done 0
      if bitOf (s.movCtrl k) 29 then s1.raise 104 else s1

/-- The abort of one channel; `blocks` are the 64-byte blocks of its destination that a running channel has come to,
so that it stops at a 64-byte boundary (R453). DESIGN CHOICE, log entry 40. -/
def State.movAbort1 (k blocks : Nat) (s : State) : State :=
  if !s.mov.queue.contains k then s
  else
    let n := s.movCount k
    if s.mov.running ∧ s.mov.queue.head? = some k then
      let w := min n (64 * blocks - s.movDst k % 64)
      ((s.copyBytes (s.movSrc k) (s.movDst k) w).movEnd k .aborted (n - w)).raise 105
    else (s.movEnd k .aborted n).raise 105

/-- MOV_ABORT: a write of `MOV_ABORT` (R453). -/
def movAbort (mask : Word) (blocks : Nat) (s : State) : State :=
  s.bar0 0x480004 .any fun s =>
    (List.range 16).foldl (fun t k => if bitOf mask k then t.movAbort1 k blocks else t) s

end Sys2Proof.Machine
end

