-- ==== Sys2Proof/Machine/RchMath.lean ====
section
/-! DEFINITION. Machine/RchMath.lean: a sector's way through the read channel: the scrambler and the codeword (R481 to
R483), the defect flag and the adaptation loops (R485 to R491), sync marks and alignment (R492 to R495), decoding (R496,
R498) and its checks (R499, R500). -/
namespace Sys2Proof.Machine

/-! ## The codeword -/

/-- One step of the scrambler x^15 + x^14 + 1: its output bit, and its next register (R483). -/
def scrStep (r : Nat) : Bool × Nat :=
  let b := (r / 2 ^ 14 + r / 2 ^ 13) % 2
  (decide (b = 1), (2 * r + b) % 2 ^ 15)

/-- Eight steps of the scrambler: a byte, its first bit uppermost. -/
def scrByte (r : Nat) : Nat × Nat :=
  (List.range 8).foldl (fun p _ => let q := scrStep p.2; (2 * p.1 + (if q.1 then 1 else 0), q.2)) (0, r)

/-- XOR bytes with the scrambler's output from register r on. -/
def scramble : Nat → List Byte → List Byte
  | _, [] => []
  | r, b :: t => let q := scrByte r; (b ^^^ BitVec.ofNat 8 q.1) :: scramble q.2 t

/-- The seed of a sector (R483). -/
def scrSeed (lba : Nat) : Nat := lba % 32767 + 1

/-- The four bytes of a number, most significant first. -/
def u32be (v : Nat) : List Byte := (u32le v).reverse

/-- User bytes, tag and CRC of a sector, before scrambling (R481, R482). -/
def sectorBytes (lba : Nat) (user : List Byte) : List Byte :=
  let b := padTo 4096 user ++ u32be lba
  b ++ u32be (crc32 b).toNat

/-- The bits that are written ahead of the parity, as bytes (R481 to R483). -/
def codeSector (lba : Nat) (user : List Byte) : List Byte := scramble (scrSeed lba) (sectorBytes lba user)

/-- The circulant at a position of the base matrix: none is the zero circulant. The 342 columns of information come
first, then 57 columns of parity in a dual-diagonal staircase; the shifts are free (R484). DEDUCED, log entry 88. -/
def ldpcShift (i j : Nat) : Option Nat :=
  let v := Config.ldpcBase (399 * i + j)
  if j < 342 then (if v % 97 = 96 then none else some (v % 97))
  else if j = 342 + i ∨ j + 1 = 342 + i then some (v % 96) else none

/-- The byte of a position as OD 3000:10 shows it (R484). -/
def ldpcByte (k : Nat) : Byte := match ldpcShift (k / 399) (k % 399) with
  | none => 0xFF
  | some v => BitVec.ofNat 8 v

/-- A byte with its bits in the other order. -/
def turnByte (b : Byte) : Byte := b.reverse

/-- Block j of a codeword whose bytes are most significant bit first: bit k is bit 96 j + k of the codeword. -/
def cwBlock (l : List Byte) (j : Nat) : BitVec 96 := BitVec.ofNat 96 (leNat ((slice l (12 * j) 12).map turnByte))

/-- The bytes of a block. -/
def blockBytes (b : BitVec 96) : List Byte := (leBytes 12 b.toNat).map turnByte

/-- Row i of the parity checks over the blocks of the first n columns: bit r takes bit r + shift of each (R484). -/
def rowSum (i n : Nat) (u : Nat → BitVec 96) : BitVec 96 :=
  (List.range n).foldl (fun a j => match ldpcShift i j with
    | some v => a ^^^ (u j).rotateRight v
    | none => a) 0

/-- Every parity check of a codeword of 4,788 bytes is satisfied (R484, R499). -/
def parityOk (l : List Byte) : Bool := (List.range 57).all fun i => decide (rowSum i 399 (cwBlock l) = 0)

/-- The 57 parity blocks of 4,104 information bytes, each of which satisfies its row after the one before it (R484). -/
def parityBlocks (info : List Byte) : List (BitVec 96) :=
  (List.range 57).foldl (fun p i =>
    let before := match i, ldpcShift i (341 + i) with
      | _ + 1, some v => (p.getLastD 0).rotateRight v
      | _, _ => 0
    p ++ [(rowSum i 342 (cwBlock info) ^^^ before).rotateLeft ((ldpcShift i (342 + i)).getD 0)]) []

/-- The codeword of a sector (R481 to R484). -/
def codeword (lba : Nat) (user : List Byte) : List Byte :=
  let info := codeSector lba user
  info ++ (parityBlocks info).flatMap blockBytes

/-! ## What is written -/

/-- The two sync marks (R479). -/
def sm1 : Word := 0x4B3E1D96
def sm2 : Word := 0x2DB87C52

/-- A sector from PRE to POST, 38,656 channel bits, first bit uppermost in each byte (R479 to R484, R501). -/
def trackSector (lba : Nat) (user : List Byte) : List Byte :=
  let c := codeword lba user
  List.replicate 32 0x33 ++ u32be sm1.toNat ++ c.take 2394 ++ u32be sm2.toNat ++ c.drop 2394 ++ List.replicate 4 0x33

/-- The bits of bytes, most significant first. -/
def bitsMsb (l : List Byte) : List Bool := l.flatMap fun b => (List.range 8).map fun i => b.getLsbD (7 - i)

/-- Where the transitions of written bits lie, in 1/64 bit, the bit at the head having place k and `gap` bits having
passed since the last transition (R502): a transition is a change from one bit to the next. DEDUCED, log entry 88.
-/
def transitions (wpc1 wpc2 : Nat) : Nat → Nat → List Bool → List Int
  | k, gap, a :: b :: t =>
    if a = b then transitions wpc1 wpc2 (k + 1) (gap + 1) (b :: t)
    else
      let early := if gap = 1 then wpc1 else if gap = 2 then wpc2 else 0
      (64 * (k + 1 : Int) - early) :: transitions wpc1 wpc2 (k + 1) 1 (b :: t)
  | _, _, _ => []

/-- The transitions of the sector written last, with write precompensation (R502, R545). -/
def Rch.transitions (r : Rch) : List Int :=
  Sys2Proof.Machine.transitions (fld r.writtenWpc 8 5) (fld r.writtenWpc 0 5) 0 3 (bitsMsb r.written)

/-! ## Front end -/

/-- What a pass keeps from bit to bit. -/
structure RWork where
  /-- Consecutive bits below the drop-out level, and above the asperity level (R488). -/
  drop : Nat := 0
  ta : Nat := 0
  /-- The defect flag, and the bits that it still stays up (R488). -/
  flag : Bool := false
  hold : Nat := 0
  /-- The length of the running flag; flags raised; some flag was too long (R490). -/
  len : Nat := 0
  raised : Nat := 0
  long : Bool := false
  /-- The flag of every bit so far, newest first. -/
  flags : List Bool := []
  loops : RLoop := {}
  /-- The last samples y and decisions, newest first. -/
  ys : List Int := []
  ds : List Int := []
  deriving DecidableEq, Repr

/-- The settings of a pass. -/
structure RSet where
  dropTh : Nat
  taTh : Nat
  defLen : Nat
  defHold : Nat
  adapt : Word
  target : List Int
  frozen : Bool
  deriving DecidableEq, Repr

/-- The sum and the number of the envelopes of the preamble, whose average is the level of R488. -/
def preLevel (bits : List RBit) : Nat × Nat :=
  let l := (bits.take 256).map (·.env)
  (l.sum, l.length)

/-- The defect flag at one bit, against the level averaged over the preamble (R488). -/
def RWork.defect (w : RWork) (c : RSet) (level : Nat × Nat) (env : Nat) : RWork :=
  let drop := if 256 * env * level.2 < c.dropTh * level.1 then w.drop + 1 else 0
  let ta := if (256 + c.taTh) * level.1 < 256 * env * level.2 then w.ta + 1 else 0
  let cond := decide (c.defLen ≤ drop ∨ c.defLen ≤ ta)
  let flag := cond || (w.flag && decide (0 < w.hold))
  let len := if flag then w.len + 1 else 0
  { w with drop := drop, ta := ta, flag := flag, hold := if cond then c.defHold else w.hold - 1, len := len,
           raised := if flag && !w.flag then w.raised + 1 else w.raised, long := w.long || decide (4096 < len),
           flags := flag :: w.flags }

/-- Saturation to S16. -/
def sat16 (x : Int) : Int := satS 16 x

/-- An S32 result (R487). -/
def i32 (x : Int) : Int := s32 (w32 x)

/-- The equalizer and the loops at one bit (R485 to R487), and the timing loop of the bit clock, whose rule the spec
does not give: it stands still under the defect flag (R489). -/
def RWork.adapt (w : RWork) (c : RSet) (pre : Bool) (b : RBit) : RWork :=
  let l := w.loops
  let x := satS 8 b.x
  let y := i32 (x - l.offset + asr (i32 (l.asym * x * x)) 12)
  let ys := y :: w.ys.take 9
  let ds := (if b.d then 1 else -1) :: w.ds.take 2
  let z := sat16 (asr ((l.taps.zip ys).map fun p => p.1 * p.2).sum 12)
  let t := ((c.target.zip ds).map fun p => p.1 * p.2).sum
  let e := z - t
  let w1 := { w with ys := ys, ds := ds, loops := if w.flag then l else { l with timing := l.timing + 1 } }
  if w.flag || c.frozen then w1
  else
    { w1 with loops :=
        { gain := clampI 0 4095 (l.gain - asr (i32 (e * t.sign)) (if pre then fld c.adapt 4 4 else fld c.adapt 20 4))
          offset := clampI (-64) 63 (l.offset + asr e (fld c.adapt 16 4))
          asym := clampI (-2048) 2047 (l.asym - asr (i32 (e * asr (i32 (y * y)) 6)) (fld c.adapt 12 4))
          taps := l.taps.zipIdx.map fun p => sat16 (p.1 - asr (i32 (e * nth 0 ys p.2)) (fld c.adapt 8 4))
          timing := w1.loops.timing } }

/-- Every bit of a pass in turn; the first 256 are the preamble (R479, R486). -/
def RWork.pass (c : RSet) (level : Nat × Nat) : Nat → List RBit → RWork → RWork
  | _, [], w => w
  | k, b :: t, w => RWork.pass c level (k + 1) t ((w.defect c level b.env).adapt c (decide (k < 256)) b)

/-- The detector output of a pass: a log-likelihood ratio of 0 under the defect flag (R489). -/
def softOf (bits : List RBit) (flags : List Bool) : List Int := (bits.zip flags).map fun p => if p.2 then 0 else p.1.llr

/-- Two detector outputs summed (R506 step 7). -/
def softSum (a b : List Int) : List Int := (a.zip b).map fun p => p.1 + p.2

/-! ## Sync marks -/

/-- The agreement of 32 decisions with a mark, sent most significant bit first (R480, R493). -/
def agreement (mark : Word) (bits : List RBit) : Nat :=
  ((bits.take 32).zipIdx.filter fun p => p.1.d = bitOf mark (31 - p.2)).length

/-- A candidate position is better than another: higher agreement, then nearer the prediction, then earlier (R493). -/
def betterMark (pred : Nat) (a b : Nat × Nat) : Bool :=
  let da := ((a.1 : Int) - pred).natAbs
  let db := ((b.1 : Int) - pred).natAbs
  decide (b.2 < a.2) || (decide (a.2 = b.2) && (decide (da < db) || (decide (da = db) && decide (a.1 < b.1))))

/-- The position of a mark in the window around its prediction, none when it is missed (R492 to R494). -/
def findMark (mark : Word) (pred w th : Nat) (bits : List RBit) (flags : List Bool) : Option Nat :=
  let c := ((List.range (2 * w + 1)).map fun i => pred - w + i).filter fun p =>
    decide (p + 32 ≤ bits.length) && !((flags.drop p).take 32).any id
  let q := (c.map fun p => (p, agreement mark (bits.drop p))).filter fun x => decide (th ≤ x.2)
  (q.foldl (fun best x => match best with
    | none => some x
    | some b => if betterMark pred x b then some x else best) none).map (·.1)

/-- What the marks tell (R495). -/
inductive Marks where
  | both | differ | single | missed
  deriving DecidableEq, Repr

/-- The judgement of the two marks (R495). -/
def judgeMarks : Option Nat → Option Nat → Marks
  | some a, some b => if b = a + 19184 then .both else .differ
  | some _, none => .single
  | none, some _ => .single
  | none, none => .missed

/-- Where the codeword's two halves begin (R495). -/
def alignOf : Option Nat → Option Nat → Option (Int × Int)
  | some a, some b => if b = a + 19184 then some ((a : Int) + 32, (b : Int) + 32) else some ((b : Int) - 19152, (b : Int) + 32)
  | some a, none => some ((a : Int) + 32, (a : Int) + 19216)
  | none, some b => some ((b : Int) - 19152, (b : Int) + 32)
  | none, none => none

/-! ## Decoding -/

/-- The log-likelihood ratios of the codeword's 38,304 bits at an alignment that is shifted by d bits (R495, R496). -/
def alignedLlrs (soft : List Int) (al : Int × Int) (d : Int) : List Int :=
  let llr (k : Int) : Int := if k < 0 then 0 else soft.getD k.toNat 0
  ((List.range 19152).map fun i : Nat => llr (al.1 + d + i)) ++ (List.range 19152).map fun i : Nat => llr (al.2 + d + i)

/-- The hard decisions of log-likelihood ratios: a negative one says 1. DESIGN CHOICE, log entry 118. -/
def hardBits (l : List Int) : List Bool := l.map fun x => decide (x < 0)

/-- Bits as bytes, the first bit uppermost. -/
def bytesMsb : List Bool → List Byte
  | a :: b :: c :: d :: e :: f :: g :: h :: t =>
    BitVec.ofNat 8 ([a, b, c, d, e, f, g, h].foldl (fun n x => 2 * n + (if x then 1 else 0)) 0) :: bytesMsb t
  | _ => []

/-- The codeword bits that parity check `96 i + r` takes, one for each circulant of row i (R484). -/
def checkBits (n : Nat) : List Nat :=
  (List.range 399).filterMap fun j => (ldpcShift (n / 96) j).map fun v => 96 * j + (n % 96 + v) % 96

/-- What a check tells one of its bits: the product of the others' signs, and the least of their magnitudes (R498). -/
def minSumMsg (q : List Int) (k : Nat) : Int :=
  let o := q.eraseIdx k
  let m := (o.map Int.natAbs).min?.getD 0
  if (o.filter fun x => decide (x < 0)).length % 2 = 1 then -m else m

/-- One check of a layer: its bits' values without its old messages, and with its new ones (R498). -/
def minSumCheck (n : Nat) (w : List Int × List (List Int)) : List Int × List (List Int) :=
  let bits := checkBits n
  let old := nth [] w.2 n
  let q := bits.zipIdx.map fun b => nth 0 w.1 b.1 - nth 0 old b.2
  let new := (List.range bits.length).map (minSumMsg q)
  ((bits.zipIdx.foldl (fun l b => modAt l b.1 fun _ => nth 0 q b.2 + nth 0 new b.2) w.1), modAt w.2 n fun _ => new)

/-- Layered min-sum with at most n iterations, which stops as soon as every parity check is satisfied: the bytes of the
codeword found, and none where some check stays unsatisfied (R498). DESIGN CHOICE, log entry 118. -/
def minSum : Nat → List Int × List (List Int) → Option (List Byte)
  | 0, w => if parityOk (bytesMsb (hardBits w.1)) then some (bytesMsb (hardBits w.1)) else none
  | n + 1, w =>
    if parityOk (bytesMsb (hardBits w.1)) then some (bytesMsb (hardBits w.1))
    else minSum n ((List.range 5472).foldl (fun w i => minSumCheck i w) w)

/-- Decode at an alignment shifted by d bits, with at most `iter` iterations (R496, R498). -/
def decodeAt (soft : List Int) (al : Int × Int) (iter : Nat) (d : Int) : Option (List Byte) :=
  minSum iter (alignedLlrs soft al d, List.replicate 5472 [])

/-- What a decode gives: it fails a parity check or the CRC, its tag is another sector's, or it passes with the user
bytes (R499, R500). -/
inductive Checked where
  | bad | tag | good (user : List Byte)
  deriving DecidableEq, Repr

/-- The checks of R499 and R500 on a decode: none is one with an unsatisfied parity check. -/
def checkDecode (lba : Nat) : Option (List Byte) → Checked
  | none => .bad
  | some c =>
    let b := scramble (scrSeed lba) (padTo 4104 c)
    if slice b 4096 4 ≠ u32be lba then .tag
    else if slice b 4100 4 ≠ u32be (crc32 (b.take 4100)).toNat then .bad
    else .good (b.take 4096)

/-- The shifts in their order: 0, +1, −1, +2, −2 and so on (R496). -/
def shiftOf (k : Nat) : Int := if k % 2 = 1 then ((k + 1) / 2 : Nat) else -((k / 2 : Nat) : Int)

/-- The outcome of decodes in their order: the first that passes, with its place; else whether one had another sector's
tag (R496, R500). -/
def firstGood : Nat → List Checked → Checked × Nat
  | k, [] => (.bad, k)
  | k, .good u :: _ => (.good u, k)
  | k, .bad :: t => firstGood (k + 1) t
  | k, .tag :: t => match firstGood (k + 1) t with
    | (.good u, n) => (.good u, n)
    | (_, n) => (.tag, n)

/-- The decodes of a sector at its alignment, and with a single mark at the shifts up to ±SHIFT_MAX, as far as the first
that passes (R496, R499): the outcome, its place, and the tags that differed. -/
def tryDecodes (soft : List Int) (al : Int × Int) (lba iter n : Nat) : Checked × Nat × Nat :=
  let l := (List.range (n + 1)).map fun k => checkDecode lba (decodeAt soft al iter (shiftOf k))
  let r := firstGood 0 l
  (r.1, r.2, ((l.take r.2).filter fun c => decide (c = .tag)).length)

end Sys2Proof.Machine
end

