-- ==== Sys2Proof/Machine/RchCmd.lean ====
section
/-! DEFINITION. Machine/RchCmd.lean: what the commands of the read channel do: pieces and plan runs, reading, recovery,
writing, the preamplifier port, and fly height. -/
namespace Sys2Proof.Machine

/-! ## Pieces and runs -/

/-- The preamplifier goes to ACTIVE before the first transfer after IDLE (R520). -/
def State.paActivate (s : State) : State :=
  if s.rch.paActive then s else (s.onRch fun r => { r with paActive := true, leaving := false }).paWrite 0 (fld (s.rchReg 0x320) 0 8)

/-- Some record of the journal pool may be written: the journal goes first (R579, R946, R947). -/
def State.journalDue (s : State) : Bool := s.jrn.pool.any fun r => decide (r.seq < s.jrn.acked + s.jrn.cap)

/-- A waiting transfer has what it needs: that of a block command its frame (R417). -/
def State.mayStart (s : State) (x : DXfer) : Bool :=
  match x.kind with
  | .hostRead q c | .hostWrite q c => (s.frameOfBlock (q * 65536 + c)).isSome
  | .pageOut _ | .plan _ _ => true

/-- The first transfer of the highest class that waits and may start (R417, R579). -/
def State.firstWaiting (s : State) : Option (DXfer × List DXfer) :=
  let best := (s.rch.waiting.filter s.mayStart).foldl (fun (b : Option DXfer) x => match b with
    | none => some x
    | some y => if x.kind.cls < y.kind.cls then some x else some y) none
  best.map fun x => (x, s.rch.waiting.erase x)

/-- The estimate of a non-print piece of n sectors, in µs (R577). -/
def State.estimate (s : State) (x : DXfer) (n : Nat) : Rat :=
  let a := s.lbaAt (x.lba + x.done)
  let e := s.lbaAt (x.lba + x.done + n)
  let b := match s.rch.plans with
    | y :: _ => s.lbaAt (y.lba + y.done)
    | [] => e
  let d (i j : Nat) : Nat := ((i : Int) - (j : Int)).natAbs
  (s.skOf (d s.srv.turn a.2.1) (decide (s.rch.head ≠ a.1)) : Rat) + (s.tRev + n * s.tSec : Nat) / 1000000 +
    (s.skOf (d e.2.1 b.2.1) (decide (e.1 ≠ b.1)) : Nat)

/-- HTR_START (R544). -/
def State.htrStart (s : State) : Nat := fld (s.rchReg 0x54) 24 8

/-- The next zone of a touchdown calibration begins: the head goes there, and the first heater code is sent (R528). -/
def State.fhZone (s : State) : State :=
  match s.rch.fhCal with
  | none => s
  | some c => match c.zones with
    | [] => s
    | z :: _ =>
      let s1 := s.onRch fun r => { r with fhCal := some { c with htr := s.htrStart, td := none } }
      let s2 := if s1.diskReady then s1.seekTo c.head (z * s1.turns / 8) else s1
      s2.heat s2.htrStart

/-- A touchdown calibration that was asked for begins once no other work of the disk runs or waits (R527, R579). -/
def State.fhBegin (s : State) : State :=
  match s.rch.fhCal with
  | some c =>
    if c.begun || s.rch.cur.isSome || s.journalDue || s.firstWaiting.isSome then s
    else (s.onRch fun r => { r with fhCal := some { c with begun := true } }).fhZone
  | none => s

/-- NONPRINT_PIECE_START: the first waiting piece starts, its seek predicted to end at fraction ψ, or its transfer
ends at once with LENGTH or NOT_READY; a touchdown calibration comes last (R477, R510, R511, R577 to R580). DEDUCED, log
entry 51. -/
def nonprintPieceStart (psi : Nat) (s : State) : State := s.inDisk fun s =>
  match s.firstWaiting with
  | none => s.fhBegin
  | some (x, rest) =>
    if s.rch.cur.isSome || s.journalDue || s.rch.fhRuns || (decide (x.kind.cls = 3) && s.calOn 7 0) then s
    else
      let left := x.count - x.done
      let n := if s.rch.printing then min left (fld (s.srvReg 0x38) 16 13) else left
      let go (s : State) : State := s.onRch fun r =>
        { r with cur := some x, waiting := rest, pieceEnd := x.done + n, pieceUs := 0, pieceCharged := r.printing,
                 stopNext := false, recov := .fresh, firstSoft := none, rewrites := 0, abandoned := false, heatWrite := false,
                 heatWin := 0 }
      if x.count = 0 then (go s).endXfer 0
      else if s.capacity < x.lba + x.count then (go s).endXfer 6
      else if !s.diskReady then (if x.done = 0 then (go s).endXfer 4 else s)
      else if s.rch.printing && decide (s.rch.credit < s.estimate x n) then s
      else ((go s).paActivate).seekLba (x.lba + x.done) psi

/-- PLAN_RUN_START: a non-print piece in progress stops at its next sector boundary; otherwise the first plan run
starts, or ends at once with LENGTH or NOT_READY (R429, R477, R510, R511, R576, R578). -/
def planRunStart (psi : Nat) (s : State) : State := s.inDisk fun s =>
  match s.rch.plans, s.rch.cur with
  | [], _ => s
  | _ :: _, some c => if c.kind.print then s else s.onRch fun r => { r with stopNext := true }
  | x :: rest, none =>
    let s1 := s.onRch fun r => { r with cur := some x, plans := rest, recov := .fresh, firstSoft := none, heatWrite := false,
                                        heatWin := 0 }
    if x.count ≤ x.done then s1.endXfer 0
    else if s.capacity < x.lba + x.count then s1.endXfer 6
    else if !s.diskReady then s1.endXfer 4
    else s1.paActivate.seekLba (x.lba + x.done) psi

/-! ## Reading -/

/-- The settings of a pass (R487, R488, R491, R506). -/
def State.passSet (s : State) (step : Nat) : RSet :=
  let d := s.rchReg 0x24
  let t := s.rchReg 0x38
  let half := decide (step = 8)
  { dropTh := if half then fld d 24 8 / 2 else fld d 24 8, taTh := if half then fld d 16 8 / 2 else fld d 16 8,
    defLen := fld d 8 8, defHold := if half then 2 * fld d 0 8 else fld d 0 8, adapt := s.rchReg 0x28,
    target := [sx 8 (fld t 0 8), sx 8 (fld t 8 8), sx 8 (fld t 16 8)],
    frozen := bitOf (s.rchReg 0x28) 31 || decide (step = 3) }

/-- What the defect detector and the loops leave (R487 to R490). -/
def State.passDone (w : RWork) (s : State) : State :=
  let s1 := s.onRch fun r => { r with loops := w.loops, defect := w.flag, cntDefect := satAdd 0xFFFFFFFF r.cntDefect w.raised }
  if w.long then s1.raise 118 else s1

/-- The counts and sources of the marks (R495). -/
def State.countMarks (m : Marks) (s : State) : State :=
  match m with
  | .differ => (s.onRch fun r => { r with cntSmdis := satInc 0xFFFFFFFF r.cntSmdis }).raise 114
  | .missed => (s.onRch fun r => { r with cntSmmiss := satInc 0xFFFFFFFF r.cntSmmiss }).raise 115
  | .both | .single => s

/-- A pass keeps its detector output, summed with that of the first read in the second one of ladder step 7 (R489, R496,
R506). -/
def State.keepSoft (bits : List RBit) (flags : List Bool) (s : State) : State :=
  s.onRch fun r => { r with soft := match r.firstSoft with
    | some l => softSum l (softOf bits flags)
    | none => softOf bits flags }

/-- The front end on one pass of the sector under the head (R485 to R495): where the marks were found, and the state
after it, with the detector output in `Rch.soft`. -/
def State.frontPass (p : ReadPass) (th step : Nat) (s : State) : (Option Nat × Option Nat) × State :=
  let w := RWork.pass (s.passSet step) (preLevel p.bits) 0 p.bits
    { loops := if step = 3 then s.rch.goodLoops else s.rch.loops }
  let flags := w.flags.reverse
  let win := fld (s.rchReg 0x20) 24 8
  let m := (findMark sm1 256 win th p.bits flags, findMark sm2 19440 win th p.bits flags)
  (m, ((s.passDone w).keepSoft p.bits flags).countMarks (judgeMarks m.1 m.2))

/-- Count n decodes whose tag was another sector's (R500). -/
def State.countTags : Nat → State → State
  | 0, s => s
  | n + 1, s => State.countTags n ((s.onRch fun x => { x with cntTagmis := satInc 0xFFFFFFFF x.cntTagmis }).raise 117)

/-- The decodes of the detector output that a pass left (R495 to R500): at the alignment that the marks give, and with a
single mark at its shifts. -/
def State.decodeSoft (m : Option Nat × Option Nat) (iter lba : Nat) (s : State) : Checked × State :=
  match alignOf m.1 m.2 with
  | none => (.bad, s)
  | some al =>
    let n := if judgeMarks m.1 m.2 = .single then 2 * fld (s.rchReg 0x20) 0 3 else 0
    let r := tryDecodes s.rch.soft al lba iter n
    let s1 := s.countTags r.2.2
    match r.1 with
    | .good u => (.good u, if 0 < r.2.1 then s1.onRch fun x => { x with cntShiftok := satInc 0xFFFFFFFF x.cntShiftok } else s1)
    | c => (c, s1)

/-- One pass of the sector under the head (R485 to R500): its marks, what its decodes give, and the state after it. -/
def State.readPass (p : ReadPass) (th iter step lba : Nat) (s : State) : Marks × Checked × State :=
  let f := s.frontPass p th step
  let d := f.2.decodeSoft f.1 iter lba
  (judgeMarks f.1.1 f.1.2, d.1, d.2)

/-- Time passes under the running transfer: print work earns credit, and a non-print piece adds to its duration
(R576, R577). -/
def State.earn (us : Nat) (s : State) : State :=
  match s.rch.cur with
  | none => s
  | some x => match x.kind with
    | .plan _ _ =>
      let rho := fld (s.srvReg 0x38) 0 8
      s.onRch fun r => { r with credit := min 100000 (r.credit + ((100 - rho) * us : Nat) / (rho : Rat)) }
    | _ => s.onRch fun r => { r with pieceUs := r.pieceUs + us }

/-- Put bytes at an offset of a list, within its length. -/
def putAt (l : List Byte) (o : Nat) (b : List Byte) : List Byte :=
  l.take o ++ b.take (l.length - o) ++ l.drop (o + b.length)

/-- A plan run's frame under way: plane and frame number. -/
def State.planFrame (s : State) (x : DXfer) : Option (Nat × Nat × Nat) :=
  match x.kind with
  | .plan k i => ((s.tok k).plan[i]?).map fun r => (k, r.plane, r.first + x.done / 16)
  | _ => none

/-- The landing frame of a plan frame, taken at its first sector against a credit of the landing share (R417, R429),
with whether the sector may land: without a FREE frame the allocation waits with its credit (R416). -/
def State.landingFrame (x : DXfer) (s : State) : State × Bool :=
  match s.planFrame x with
  | none => (s, true)
  | some (k, p, f) =>
    if x.done % 16 ≠ 0 || (s.frameFor k p f 2).isSome then (s, true)
    else if s.shf.allocs.any fun a => decide (a.pool = 2 ∧ a.who = .plane k p f) then (s, false)
    else match s.credit 2 1 with
      | none => (s, false)
      | some t =>
        let r := t.allocOrWait { pool := 2, who := .plane k p f }
        (r.1, r.2.isSome)

/-- A plan frame has landed whole: it moves to the station rings against one of the token's ring credits, with a pin
(R430); without a credit left it is not needed, and is freed. -/
def State.toRing (k p f : Nat) (s : State) : State :=
  match s.frameFor k p f 2 with
  | none => s
  | some (n, x) =>
    let s0 := if x.st = .toPool then s.arrive n else s
    let s1 := s0.onTok k fun t => { t with planDone := t.planDone + 1 }
    if (s1.tok k).ringLeft = 0 then s1.freeFrame n
    else
      let s2 := (s1.transitRoom.onTok k fun t => { t with ringLeft := t.ringLeft - 1 }).onPool 2 fun c =>
        { c with held := c.held - 1, issued := c.issued - 1 }
      ((s2.putFrame n { x with st := .toPool, pool := 0, pins := 1, retire := ((s2.frame? n).map (·.retire)).getD false }).onPool 0 fun c =>
        { c with out := c.out - 1, tin := c.tin + 1 }).onShf fun h => { h with transit := h.transit + 1 }

/-- The bytes of a sector reach their place in their frame (R499): a plan frame's in the plane's stream, a host read's
in the frame of its command, from which they go to the host. -/
def State.landBytes (x : DXfer) (user : List Byte) (s : State) : State :=
  match s.planFrame x with
  | none => (match x.kind with
    | .hostRead q c => (match s.frameOfBlock (q * 65536 + c) with
      | some f => s.storeBytes (65536 * f + 4096 * (x.done % 16)) user
      | none => s)
    | _ => s)
  | some (k, p, f) =>
    let s1 := s.onTok k fun t => { t with planes := modAt t.planes p fun d =>
      { d with coded := putAt d.coded (65536 * f + 4096 * (x.done % 16)) user } }
    if x.done % 16 = 15 then s1.toRing k p f else s1

/-- The transfer goes on after a sector, ends, or stops at this boundary (R507, R510, R577, R578). -/
def State.sectorDone (recovered : Bool) (s : State) : State :=
  match s.rch.cur with
  | none => s
  | some x =>
    let y := { x with done := x.done + 1, recovered := x.recovered || recovered }
    let s1 := (s.onRch fun r =>
      { r with cur := some y, recov := .fresh, firstSoft := none, rewrites := 0, abandoned := false }).onSrv fun v =>
      { v with ofs := 0 }
    if y.count ≤ y.done then s1.endXfer 0
    else if y.cut then s1.endXfer 5
    else if !x.kind.print && (s1.rch.stopNext || decide (s1.rch.pieceEnd ≤ y.done)) then s1.pieceStop
    else s1.heatNow

/-- A sector has passed its checks, and lands (R499, R508). -/
def State.landSector (user : List Byte) (recovered : Bool) (s : State) : State :=
  match s.rch.cur with
  | none => s
  | some x =>
    let s1 := s.onRch fun r => { r with cntRead := satInc 0xFFFFFFFF r.cntRead, goodLoops := r.loops }
    (s1.landBytes x user).sectorDone recovered

/-- A read exhausts its steps (R431, R508). -/
def State.readFailed (s : State) : State :=
  match s.rch.cur with
  | none => s
  | some x =>
    let s1 := (((s.growDefect (x.lba + x.done) 1).raise 112).onRch fun r =>
      { r with cntRfail := satInc 0xFFFFFFFF r.cntRfail }).endXfer 2
    match x.kind with
    | .plan k _ => (s1.cancelRuns k).creditRest.raise 99
    | _ => s1

/-- The next enabled step of the ladder after step i, with `ran` run already (R506, R507). -/
def State.ladderNext (s : State) (x : DXfer) (i ran : Nat) : Option Nat :=
  let w := s.rchReg 0x30
  let lim := if x.kind.print then fld w 16 4 else fld w 12 4
  if lim ≤ ran then none else ((List.range 9).filter fun j => decide (i < j) && bitOf w (j - 1)).head?

/-- A step of the ladder becomes due: its read offset and its heater (R506, R567, R526). -/
def State.ladderStep (i ran : Nat) (s : State) : State :=
  let ofs : Int := (fld (s.rchReg 0x30) 8 4 : Nat) * 512
  let s1 := (s.onRch fun r => { r with recov := .ladder i ran, firstSoft := none }).onSrv fun v =>
    { v with ofs := if i = 4 then ofs else if i = 5 then -ofs else 0 }
  s1.heatNow

/-- The attempt has failed: on to the next step of the ladder, or the read fails (R506 to R509). -/
def State.toLadder (s : State) : State :=
  match s.rch.cur with
  | none => s
  | some x => match s.rch.recov with
    | .ladder i ran => (match s.ladderNext x i ran with
      | some j => s.ladderStep j (ran + 1)
      | none => s.readFailed)
    | _ =>
      let s1 := (s.onRch fun r => { r with cntLadder := satInc 0xFFFFFFFF r.cntLadder }).raise 116
      match s1.ladderNext x 0 0 with
      | some j => s1.ladderStep j 1
      | none => s1.readFailed

/-- A sector of the running read may pass now (R477, R520, R522). -/
def State.canRead (s : State) : Bool :=
  s.diskReady && !s.rch.paFault && !s.rch.paHolds && (match s.rch.cur with
    | some x => !x.kind.writes && decide ((s.lbaAt (x.lba + x.done)).1 = s.rch.head)
    | none => false)

/-- One read attempt of the present sector, and what follows from it (R495 to R500, R506): the first of the two
reads of ladder step 7 only leaves its detector output. -/
def State.attemptRead (p : ReadPass) (th iter step : Nat) (relaxedNext : Bool) (s : State) : State :=
  match s.rch.cur with
  | none => s
  | some x => match s.landingFrame x with
    | (t, false) => t
    | (s0, true) =>
      let e := s0.earn p.us
      if step = 7 && s.rch.firstSoft.isNone then (e.frontPass p th step).2.onRch fun c => { c with firstSoft := some c.soft }
      else
        let r := e.readPass p th iter step (x.lba + x.done)
        match r.2.1 with
        | .good u => r.2.2.landSector u (decide (0 < step) || !relaxedNext)
        | .tag => r.2.2.toLadder
        | .bad =>
          if relaxedNext && decide (r.1 = .missed ∨ r.1 = .single) then r.2.2.onRch fun c => { c with recov := .relaxed }
          else r.2.2.toLadder

/-- TH, TH_RELAX, ITER and ITER_EXT (R537, R540). -/
def State.thNormal (s : State) : Nat := fld (s.rchReg 0x20) 16 6
def State.iterNormal (s : State) : Nat := fld (s.rchReg 0x2C) 0 8

/-- SECTOR_READ_COMPLETE: a sector has passed at normal settings. -/
def sectorReadComplete (p : ReadPass) (s : State) : State := s.inDisk fun s =>
  if s.canRead && decide (s.rch.recov = .fresh) then s.attemptRead p s.thNormal s.iterNormal 0 true else s

/-- RELAXED_REREAD (R497). -/
def relaxedReread (p : ReadPass) (s : State) : State := s.inDisk fun s =>
  if s.canRead && decide (s.rch.recov = .relaxed) then
    s.attemptRead p (fld (s.rchReg 0x20) 8 6) s.iterNormal 0 false
  else s

/-- LADDER_STEP (R506 to R509). -/
def ladderStep (p : ReadPass) (s : State) : State := s.inDisk fun s =>
  match s.rch.recov with
  | .ladder i _ =>
    if s.canRead then s.attemptRead p s.thNormal (if i = 2 then fld (s.rchReg 0x2C) 16 8 else s.iterNormal) i false else s
  | _ => s

/-! ## Writing -/

/-- A write of the present sector may begin (R477, R504, R520, R522, R524, R582). -/
def State.canWrite (s : State) : Bool :=
  s.diskReady && decide (s.srv.winh = 0) && !s.rch.paFault && !s.rch.paHolds && s.rch.heatWrite && s.leadOver &&
    (match s.rch.cur with
      | some x => x.kind.writes && decide ((s.lbaAt (x.lba + x.done)).1 = s.rch.head)
      | none => false)

/-- The user bytes of the sector to be written: of the frame that is paged out, or as fetched from the host. -/
def State.writeBytes (s : State) (x : DXfer) (data : List Byte) : List Byte :=
  match x.kind with
  | .pageOut f => (List.range 4096).map fun i => s.dramByte (65536 * f + 4096 * x.done + i)
  | _ => padTo 4096 data

/-- The write gate opens at B; once 38,656 bits have passed it closes, and the sector is on the medium (R501, R502). -/
def State.writeSector (data : List Byte) (bits us : Nat) (s : State) : State :=
  match s.rch.cur with
  | none => s
  | some x =>
    let lba := x.lba + x.done
    let s1 := (s.earn us).onRch fun r =>
      { r with written := trackSector lba (s.writeBytes x data), writtenWpc := s.rchReg 0x34, abandoned := false }
    if bits < 38656 then s1.onRch fun r => { r with writing := true }
    else (s1.onRch fun r => { r with writing := false, cntWritten := satInc 0xFFFFFFFF r.cntWritten }).sectorDone false

/-- SECTOR_WRITE: `bits` of the sector have passed the head so far; `data` are the user bytes of a host write
(R501 to R503). -/
def sectorWrite (data : List Byte) (bits us : Nat) (s : State) : State := s.inDisk fun s =>
  if s.canWrite && !s.rch.abandoned then s.writeSector data bits us else s

/-- SECTOR_REWRITE (R505). -/
def sectorRewrite (data : List Byte) (bits us : Nat) (s : State) : State := s.inDisk fun s =>
  if s.canWrite && s.rch.abandoned then
    (s.onRch fun r => { r with rewrites := r.rewrites + 1 }).writeSector data bits us
  else s

/-- REWRITE_TIMEOUT: WR_WAIT passes with the cause not cleared (R505). -/
def rewriteTimeout (s : State) : State := s.inDisk fun s =>
  if s.rch.abandoned && (decide (s.srv.winh ≠ 0) || s.rch.paFault) then s.writeFailed else s

/-! ## The preamplifier port -/

/-- The 16 bits of a frame on PA_SDA, first bit first: RW, the address, and the data that is sent or, in a read
frame, that the preamplifier answers (R513 to R515). -/
def PaFrame.bits (f : PaFrame) (answer : Nat) : List Bool :=
  f.read :: ((List.range 7).map fun i => decide (f.addr / 2 ^ (6 - i) % 2 = 1)) ++
    (List.range 8).map fun i => decide ((if f.read then answer else f.data) / 2 ^ (7 - i) % 2 = 1)

/-- The period of PA_SCK in units of 2.5 ns (R516). -/
def State.sckPeriod (s : State) : Nat := 2 * (fld (s.rchReg 0x40) 16 8 + 1)

/-- PREAMP_FAULT: PA_FLT_N asserts (R504, R520, R522). -/
def preampFault (s : State) : State := s.inDisk fun s =>
  let w := s.rch.writing
  let s1 := s.onRch fun r => { r with paFault := true }
  let s2 := (if w then s1.abandon 119 else s1.raise 119).paFaultRead
  match s2.rch.cur with
  | some x => if w || x.kind.writes then s2 else s2.toLadder
  | none => s2

/-- PA_FLT_N_DEASSERT. -/
def paFltNDeassert (s : State) : State := s.inDisk fun s => s.onRch fun r => { r with paFault := false }

/-- A write of `RCH_PA_CMD` and the judgement of its GO (R521, R531, R542). -/
def paCmdStore (v : Word) (s : State) : Abort × State :=
  if !s.mayWrite .test then
    (.stateConflict, if bitOf v 31 then s.onRch fun r => { r with paStatus := 2 } else s)
  else
    let s1 := s.onRch fun r => { r with paWord := v &&& 0x017F00FF }
    if !bitOf v 31 then (.none, s1)
    else if s.rch.paCur.isSome || !s.rch.paDue.isEmpty then (.busy, s1.onRch fun r => { r with paStatus := 3 })
    else (.none, s1.onRch fun r =>
      ({ r with paStatus := 0, paCur := some { read := bitOf v 24, addr := fld v 16 7, data := fld v 0 8 } } : Rch))

/-- PREAMP_MANUAL_FRAME: a write of `RCH_PA_CMD` with GO = 1, stating RW, ADDR and DATA. -/
def preampManualFrame (read : Bool) (addr data : Nat) (s : State) : State :=
  s.bar0 0x500044 .any fun s =>
    (paCmdStore (placeB true 31 ||| placeB read 24 ||| place addr 16 7 ||| place data 0 8) s).2

/-- The frame that follows an automatic frame which has ended with `data` read, and whether a verify read differed
(R519). -/
def State.paFollow (s : State) (f : PaFrame) (data : Nat) : Option PaFrame × Bool :=
  match f.fn with
  | none => (none, false)
  | some i =>
    let m := s.paMap i
    if f.read then
      match f.value with
      | some v => (some { f with read := false, data := paPut data m.2.1 m.2.2 v, value := none }, false)
      | none =>
        if f.verify && decide (data % 256 ≠ f.data) then
          (if f.tries < 2 then some { f with read := false, verify := false } else none, true)
        else (none, false)
    else if bitOf (s.rchReg 0x40) 0 then
      (some { f with read := true, verify := true, tries := f.tries + 1 }, false)
    else (none, false)

/-- PREAMP_FRAME_DONE: the frame in progress ends, with the byte that a read frame read (R515, R519 to R521). -/
def preampFrameDone (data : Nat) (s : State) : State := s.inDisk fun s =>
  match s.rch.paCur with
  | none => s
  | some f =>
    let g := s.paFollow f data
    let m := s.paMap 6
    let s1 := s.onRch fun r => ({ r with
      paCur := g.1
      paStatus := if f.fn.isNone then 1 else r.paStatus
      paWord := if f.fn.isNone && f.read then putFld r.paWord 0 8 data else r.paWord
      paFaultData := if f.fn = some 6 then data % 256 / 2 ^ m.2.1 % 2 ^ m.2.2 else r.paFaultData } : Rch).nextFrame
    if g.2 then s1.raise 120 else s1

/-- HEAD_SELECT (R520, R523, R572): a head other than the active one is acquired anew. -/
def headSelect (h : Nat) (s : State) : State := s.inDisk fun s =>
  if s.heads ≤ h || s.rch.cur.isSome then s
  else
    let old := s.rch.head
    let s1 := s.selectHead h
    match s1.srv.st with
    | .seek | .settle | .follow =>
      if h = old then s1 else s1.onSrv fun v => { v with st := .acquire, pending := none, validRow := 0, headers := 0 }
    | _ => s1

/-! ## Fly height and defects -/

/-- The two codes of a table word lowered by 2 (R529). -/
def lower2 (w : Word) : Word := place (fld w 8 8 - 2) 8 8 ||| place (fld w 0 8 - 2) 0 8

/-- TOUCHDOWN: the variance of the stripe amplitude outside calibration (R529, R531). -/
def touchdown (v : Nat) (s : State) : State := s.inDisk fun s =>
  if v ≤ (s.rchReg 0x58).toNat || s.rch.fhRuns then s
  else
    let h := s.rch.head
    let z := s.zone
    let o := 0x500410 + 0x40 * h + 4 * z
    let s1 := (s.setReg o (lower2 (s.reg o))).onRch fun r => { r with heads := modAt r.heads h fun x =>
      { x with htr := modAt x.htr z lower2 } }
    ((s1.raise 122).faultRecord 122 []).heatNow

/-- The clear of the grown-defect list (R547, R550). -/
def glistClearStore (v : Nat) (s : State) : Abort × State :=
  if !s.mayWrite .test then (.stateConflict, s)
  else if !s.on .dsk then (.stateConflict, s)
  else if v ≠ 1 then (.range, s)
  else (.none, { s with die := { s.die with glist := [] } })

/-- GLIST_CLEAR: a write of 1 to OD 3004:03. -/
def glistClear (s : State) : State := s.dict (glistClearStore 1)

end Sys2Proof.Machine
end

