-- ==== Sys2Proof/Machine/SrvCmd.lean ====
section
/-! DEFINITION. Machine/SrvCmd.lean: what the commands of the servo, of write safety, of the spindle and of the retract
circuit do (R551 to R617). -/
namespace Sys2Proof.Machine

/-! ## Demodulation -/

/-- The fine position of R559 from n and q; with s = 0 the spec states no quotient, and `free` is taken. -/
def pesOf (n q free : Int) : Int :=
  let s : Int := (n.natAbs + q.natAbs : Nat)
  let v := if s = 0 then free
    else if 0 ≤ q then (n * 4096).tdiv s
    else (if 0 < n then 1 else -1) * (8192 - ((n.natAbs : Int) * 4096).tdiv s)
  clampI (-8192) 8191 v

/-- I of R561: the integer that makes I × 2^14 + pes nearest the prediction; where two are nearest, `up` decides. -/
def turnNear (pred pes : Int) (up : Bool) : Int :=
  let d := pred - pes
  let i := d.fdiv 16384
  let r := d.fmod 16384
  if r < 8192 then i else if 8192 < r then i + 1 else if up then i + 1 else i

/-- The two predictions lie equally near (R561). -/
def turnTie (pred pes : Int) : Bool := decide ((pred - pes).fmod 16384 = 8192)

/-- Fields of `SRV_QUAL` and the limits (R609). -/
def State.srvQual (s : State) (lo : Nat) : Nat := fld (s.srvReg 0x28) lo 8

/-- The samples are judged: the heads are on the stripe (R565). -/
def SrvSt.sampled : SrvSt → Bool
  | .acquire | .seek | .settle | .follow => true
  | .off | .parked | .loading | .parking | .retracted | .fault => false

/-- The number of bits that are 1 among the first n of a word. -/
def onesOf (n w : Nat) : Nat := ((List.range n).filter fun i => w.testBit i).length

/-- The parity of a header checks: it is even over FRAME, TURN and P (R552). -/
def headerParity (h : StripeHeader) : Bool := decide ((onesOf 9 h.frame + onesOf 24 h.turn + (if h.p then 1 else 0)) % 2 = 0)

/-- The number that a Gray code of 24 bits stands for (R552). -/
def grayTurn (g : Nat) : Nat := (List.range 24).foldl (fun n i => n ^^^ (g >>> i)) 0

/-- FRAME that is expected (R556): of the division nearest to the angle of a LOCKED axis; else the one that follows the
header before, if that was read. DESIGN CHOICE, log entry 123. -/
def State.frameExpected (s : State) : Option Nat :=
  let a := s.culm.ax s.spindleAxis
  if a.st = .locked then some ((fracOf a.theta + 2 ^ 22) / 2 ^ 23 % 512) else s.srv.frame.map fun f => (f + 1) % 512

/-- A header is good: its parity checks, and FRAME is the one expected (R552, R556). -/
def State.headerGood (s : State) (h : StripeHeader) : Bool :=
  headerParity h && (match s.frameExpected with
    | some f => decide (h.frame = f)
    | none => true)

/-- Take the header that a window has read. -/
def State.takeHeader (h : Option StripeHeader) (s : State) : State :=
  match h with
  | some x =>
    let s1 := if s.headerGood x then
        s.onSrv fun v => { v with headers := satInc 255 v.headers, headTurn := grayTurn x.turn }
      else s
    s1.onSrv fun v => { v with frame := if headerParity x then some x.frame else none }
  | none => s

/-- The sums of the four bursts over the quartets that lie wholly inside a window, U24 each, and their number (R558).
Sums are taken modulo 2^24. DESIGN CHOICE, log entry 123. -/
def burstSums (l : List StripeSlot) : (Nat × Nat × Nat × Nat) × Nat :=
  l.foldl (fun w x => match x with
    | .quartet true a b c d =>
      (((w.1.1 + a) % 2 ^ 24, (w.1.2.1 + b) % 2 ^ 24, (w.1.2.2.1 + c) % 2 ^ 24, (w.1.2.2.2 + d) % 2 ^ 24), w.2 + 1)
    | .quartet false _ _ _ _ | .header => w) ((0, 0, 0, 0), 0)

/-- One position sample (R558 to R563). DESIGN CHOICE, log entry 48. -/
def State.sample (a b c d nq : Nat) (agc : Bool) (s : State) : State :=
  let n : Int := (a : Int) - b
  let q : Int := (c : Int) - d
  let sum := n.natAbs + q.natAbs
  let pes := pesOf n q (sx 14 s.fresh)
  let s0 := if sum = 0 then s.used else s
  let v := s0.srv
  let pred := if v.st = .acquire ∧ 0 < v.headers then (v.headTurn : Int) * 16384 else 2 * v.p - v.p1
  let valid := decide (s0.srvQual 0 ≤ nq) && decide (fld (s0.srvReg 0x2C) 16 16 ≤ sum) && agc
  if valid then
    let i := turnNear pred pes (decide (s0.fresh % 2 = 1))
    let s1 := if turnTie pred pes then s0.used else s0
    let off := ((v.headTurn : Int) - i).natAbs
    let bad := decide (0 < v.headers) && decide (off ≠ 0) && !(decide (off = 1) && decide (4096 < pes.natAbs))
    let s2 := s1.onSrv fun v =>
      { v with valid := true, pes := pes, p1 := v.p, p := i * 16384 + pes, turn := i.toNat % 2 ^ 24, invalidRow := 0,
               validRow := satInc 255 v.validRow, idRow := if bad then v.idRow + 1 else 0,
               cntIdmis := if bad then satInc 0xFFFFFFFF v.cntIdmis else v.cntIdmis }
    if bad then s2.raise 129 else s2
  else
    s0.onSrv fun v =>
      { v with valid := false, pes := pes, p1 := v.p, p := pred, turn := ((pred + 8192).fdiv 16384).toNat % 2 ^ 24,
               invalidRow := v.invalidRow + 1, validRow := 0, cntInvalid := satInc 0xFFFFFFFF v.cntInvalid }

/-! ## The position loop -/

/-- A rate per window, per window² or per window³ in the units of the profile generator (R557, R570, R623). -/
def perWindow (w n frac : Nat) : Int := sat64 ((w * 3 ^ n * 2 ^ frac / 10000 ^ n : Nat) : Int)

/-- The bounds of a seek profile (R570). -/
def State.seekGen (s : State) : Gen :=
  let v := perWindow (s.srvReg 0x40).toNat 1 40
  let a := perWindow (s.srvReg 0x44).toNat 2 64
  { vs := 0, vc := v, amax := a, dmax := a, j := perWindow (s.srvReg 0x48).toNat 3 88, emax := a }

/-- One evaluation of the seek profile, over the ticks of a window (R570); it ends at the target. -/
def State.seekEval (dt : Nat) (s : State) : State :=
  let g := s.seekGen
  let m := s.srv.prof
  if m.x = m.xt then s.onSrv fun v => { v with prof := { m with v := 0, a := 0 } }
  else
    let p := m.eval g dt (sx 32 s.fresh)
    let d := asr (p.v * dt) 16
    let past := decide ((p.xt - p.x) * p.dir ≤ d)
    let p1 := if past then { p with x := p.xt, v := 0, a := 0 } else { p with x := p.x + p.dir * d, vs := g.vs, vc := g.vc }
    (if g.j = 0 ∨ g.dmax = 0 then s.used else s).onSrv fun v => { v with prof := p1 }

/-- The reference of the sample (R565, R567, R570); `was` is the position before it. -/
def State.srvRef (s : State) (was : Int) : Int :=
  match s.srv.st with
  | .seek => asr s.srv.prof.x 24
  | .settle | .follow => (s.srv.tgt : Int) * 16384 + s.srv.ofs + nth 0 s.srv.rdofs s.zone
  | _ => was

/-- A seek has reached FOLLOW: its measured time, which `SRV_SKOBSk` keeps in whole µs (R573). -/
def State.measureSeek (s : State) : State :=
  let v := s.srv
  if !v.seeking then s
  else
    let o := 0x580100 + 4 * v.seekBin
    let s1 := s.onSrv fun v => { v with seeking := false, skobs := modAt v.skobs v.seekBin fun x => max x (v.seekWin * 25 / 6) }
    if 6 * (s1.reg o).toNat < 25 * v.seekWin then
      (s1.setReg o (BitVec.ofNat 32 (ceilDiv (25 * v.seekWin) 600 * 100))).raise 131
    else s1

/-- SRV enters FOLLOW (R565, R606). -/
def State.enterFollow (s : State) : State :=
  ((s.onSrv fun v => { v with st := .follow, settleRow := 0 }).measureSeek).srvDone 2

/-- The first sector that is to be written next: of the running transfer, or with none of the journal (R579). -/
def State.writeNext (s : State) : Option Nat :=
  match s.rch.cur with
  | some x => if x.kind.writes then some (x.lba + x.done) else none
  | none => (s.jrn.pool.find? fun r => decide (r.seq < s.jrn.acked + s.jrn.cap)).map fun r => s.jrn.sectorOf r.seq

/-- The end of a window in FOLLOW: a write, of a transfer or of the journal, raises the heater FH_LEAD before its first
sector, or at once if that is past (R524, R581). -/
def State.leadHeat (s : State) : State :=
  if s.rch.heatWrite then s.onRch fun r => { r with heatWin := satInc 65535 r.heatWin }
  else match s.writeNext with
    | some lba =>
      if decide (s.srv.st = .follow) && s.leadDue lba then
        (s.onRch fun r => { r with heatWrite := true, heatWin := 0 }).heatNow
      else s
    | none => s

/-- What the error of a sample brings about (R565, R568). -/
def State.judgeError (e : Int) (s : State) : State :=
  match s.srv.st with
  | .acquire =>
    if 4 ≤ s.srv.validRow then
      (match s.srv.pending with
        | some t => s.seekProfile t
        | none => (s.onSrv fun v => { v with tgt := (v.turn : Int) }).enterFollow)
    else s
  | .settle =>
    let row := if e.natAbs ≤ fld (s.srvReg 0x24) 0 16 then s.srv.settleRow + 1 else 0
    let s1 := s.onSrv fun v => { v with settleRow := row }
    if max 1 (s.srvQual 24) ≤ row then s1.enterFollow else s1
  | .follow =>
    if fld (s.srvReg 0x24) 16 16 < e.natAbs then s.onSrv fun v => { v with st := .settle, settleRow := 0 } else s
  | _ => s

/-- OFFTRACK (R582). -/
def State.offTrack (e : Int) (s : State) : State :=
  let row := if s.srv.valid && decide (e.natAbs ≤ fld (s.srvReg 0x20) 0 16) then satInc 255 s.srv.qualRow else 0
  let s1 := s.onSrv fun v => { v with qualRow := row }
  if !s1.srv.valid || decide (fld (s1.srvReg 0x20) 16 16 < e.natAbs) then s1.setCause 2
  else if s1.srvQual 16 ≤ row then s1.clearCause 2 else s1

/-- SERVO_WINDOW: a 240 kHz window ends, with the slots of the stripe that it has met, whether the servo AGC is within
its range, and the header that it has read (R557 to R568, R573, R582). -/
def servoWindow (slots : List StripeSlot) (agc : Bool) (h : Option StripeHeader) (s : State) : State := s.inDisk fun s =>
  let k := s.srv.win + 1
  let dt := ceilDiv (10000 * k) 3 - ceilDiv (10000 * (k - 1)) 3
  let s1 := (s.onSrv fun v => { v with win := k, seekWin := if v.seeking then v.seekWin + 1 else v.seekWin }).takeHeader h
  match s1.srv.st with
  | .loading =>
    if agc && decide (4 ≤ s1.srv.headers) then
      s1.onSrv fun v => { v with st := .acquire, validRow := 0, invalidRow := 0, idRow := 0 }
    else s1
  | .acquire | .seek | .settle | .follow =>
    let was := s1.srv.p
    let w := burstSums slots
    let s2 := s1.sample w.1.1 w.1.2.1 w.1.2.2.1 w.1.2.2.2 w.2 agc
    let s3 := if s2.srv.st = .seek then s2.seekEval dt else s2
    let e := sat32 (s3.srvRef was - s3.srv.p)
    let s4 := s3.onSrv fun v => { v with err := e }
    if s4.srvQual 8 < s4.srv.invalidRow ∨ 4 < s4.srv.idRow then (s4.offTrack e).servoLost
    else (((s4.judgeError e).offTrack e).leadHeat).nextInstant.trigger (fld (s4.srvReg 0xC) 16 8) 0 false false
  | .off | .parked | .parking | .retracted | .fault => s1

/-- The spindle axis crosses fraction 0 forward: the target turn advances with the spiral (R567), and with the heads
loaded the axis has measured the speed of a revolution (R591). -/
def State.spindleTurn (s : State) : State :=
  let s1 := if s.srv.st.loaded then s.onSpn fun p =>
      { p with axisRevs := (s.axisMrpm :: p.axisRevs).take 255, rpm := s.axisMrpm / 1000 % 65536 }
    else s.onSpn fun p => { p with axisRevs := [] }
  match s1.srv.st with
  | .settle | .follow => s1.onSrv fun v => { v with tgt := v.tgt + 1 }
  | _ => s1

/-! ## `SRV_CMD` -/

/-- The heads leave the ramp (R565, R598): the active head is selected. -/
def State.loadHeads (s : State) : State :=
  let s1 := s.onSrv fun v => { v with st := .loading, headers := 0, validRow := 0, invalidRow := 0, idRow := 0,
                                      pending := none, vcmOpen := false, frame := none }
  ((s1.onRch fun r => { r with leaving := false }).onRet fun r => { r with loaded := true }).selectHead s1.rch.head

/-- `SRV_CMD` is legal (R606). -/
def State.srvLegal (s : State) : Bool := decide (s.sys.mode = .ready) && !s.sys.transit && !s.diskClaimed

/-- OP 0 (R565, R602). DEDUCED, log entry 50. -/
def State.cmdSeek (head : Nat) (s : State) : Nat × State :=
  let t := fld (s.srvReg 0x10) 0 24
  if !s.srvLegal then (3, s)
  else if s.heads ≤ head ∨ s.turns ≤ t then (5, s)
  else match s.srv.st with
    | .settle | .follow => (1, s.cutXfer.seekTo head t)
    | .parking | .loading | .seek | .acquire => (4, s)
    | .off | .parked | .retracted | .fault => (3, s)

/-- OP 1 (R565, R597, R602). -/
def State.cmdPark (s : State) : Nat × State :=
  if !s.srvLegal then (3, s)
  else match s.srv.st with
    | .loading | .acquire | .seek | .settle | .follow => (1, s.park)
    | .parked | .retracted => (2, s)
    | .parking => (4, s)
    | .off | .fault => (3, s)

/-- OP 2 (R565, R598). -/
def State.cmdLoad (s : State) : Nat × State :=
  if !s.srvLegal then (3, s)
  else match s.srv.st with
    | .parked | .retracted => if s.spn.st = .atSpeed then (1, s.loadHeads) else (3, s)
    | .loading | .acquire | .parking => (4, s)
    | .seek | .settle | .follow | .off | .fault => (3, s)

/-- A write of `SRV_CMD` (R606): HEAD and OP are stored in the modes of their class, and with GO the operation
answers its STATUS, STATE_CONFLICT in a mode in which it is not legal. -/
def srvCmdStore (v : Word) (s : State) : Abort × State :=
  let s1 := if s.mayWrite .setp then s.onSrv fun x => { x with cmdWord := v &&& 0x03000003 } else s
  if !bitOf v 31 then (.none, s1)
  else
    let r := match fld v 0 2 with
      | 0 => s1.cmdSeek (fld v 24 2)
      | 1 => s1.cmdPark
      | 2 => s1.cmdLoad
      | _ => (if s1.srvLegal then 5 else 3, s1)
    let abort : Abort := match r.1 with
      | 3 => .stateConflict
      | 4 => .busy
      | 5 => .range
      | _ => .none
    (abort, r.2.follows.onSrv fun x => { x with cmdStatus := r.1, cmdRun := decide (r.1 = 1) || (x.cmdRun && decide (r.1 ≠ 2)) })

/-- SEEK, PARK and LOAD: a write of `SRV_CMD` with GO = 1. -/
def seek (head : Nat) (s : State) : State :=
  s.bar0 0x580004 .any fun s => (srvCmdStore (placeB true 31 ||| place head 24 2) s).2
def park (s : State) : State := s.bar0 0x580004 .any fun s => (srvCmdStore (placeB true 31 ||| 1) s).2
def load (s : State) : State := s.bar0 0x580004 .any fun s => (srvCmdStore (placeB true 31 ||| 2) s).2

/-! ## Servo events -/

/-- SEEK_PROFILE_DONE. -/
def seekProfileDone (s : State) : State := s.inDisk fun s =>
  if s.srv.st = .seek ∧ s.srv.prof.x = s.srv.prof.xt then s.onSrv fun v => { v with st := .settle, settleRow := 0 } else s

/-- SEEK_TIMEOUT: SEEK_MAX has passed since the command (R565). -/
def seekTimeout (s : State) : State := s.inDisk fun s =>
  match s.srv.st with
  | .seek | .settle => if s.srv.seeking then s.park.raise 130 else s
  | _ => s

/-- LOAD_TIMEOUT: LOAD_MAX has passed; the load fails if no valid header has been read (R565). -/
def loadTimeout (s : State) : State := s.inDisk fun s =>
  if s.srv.st = .loading ∧ s.srv.headers = 0 then s.servoLost else s

/-- PARK_LATCHED (R565). -/
def parkLatched (s : State) : State := s.inDisk fun s =>
  if s.srv.st = .parking then (s.latchHeads .parked).srvDone 2 else s

/-- PARK_TIMEOUT (R565, R599). -/
def parkTimeout (s : State) : State := s.inDisk fun s =>
  if s.srv.st = .parking then
    (((s.srvDone 6).onSrv fun v => { v with st := .fault }).fireRetract).raise 135
  else s

/-- RETRACT_FIRE: the spindle supply falls below 9.0 V, or PWR signals power loss (R599 to R601). The circuit works
outside every domain. -/
def retractFire (s : State) : State := s.fireRetract.follows

/-- RETRACT_COMPLETE: RET_TIME ends (R565, R600). -/
def retractComplete (s : State) : State :=
  if !s.ret.running then s
  else
    let s1 := s.onRet fun r => { r with running := false, loaded := false }
    if s1.on .dsk && s1.srv.st.loaded then ((s1.latchHeads .retracted).srvDone 6).follows else s1

/-- VCM_FAULT (R569). -/
def vcmFault (s : State) : State := s.inDisk fun s =>
  (((s.onSrv fun v => { v with vcmOpen := true, vcm := 0 }).raise 136).fireRetract)

/-- SPN_BRIDGE_FAULT (R604). -/
def spnBridgeFault (s : State) : State := s.inDisk (State.spnFault 143)

/-! ## Write-inhibit causes -/

/-- Whether the state shows the condition of a cause; the pins tell SHOCK and SUPPLY (R582). -/
def State.causeHolds (s : State) (i : Nat) : Bool :=
  let t := nth {} s.thm.chans (12 + fld (s.srvReg 0x30) 16 5)
  match i with
  | 0 => !t.valid || decide (t.val < 100 * fld (s.srvReg 0x30) 0 8) || decide ((100 * fld (s.srvReg 0x30) 8 8 : Nat) < t.val)
  | 1 => true
  | 2 => !s.srv.valid || decide (fld (s.srvReg 0x20) 16 16 < s.srv.err.natAbs)
  | 3 => true
  | 4 => decide (s.srv.st ≠ .follow)
  | 5 => !s.spinReady
  | _ => false

/-- WRITE_INHIBIT_CAUSE. -/
def writeInhibitCause (i : Nat) (s : State) : State := s.inDisk fun s => if s.causeHolds i then s.setCause i else s

/-- The HDA temperature is judged in a housekeeping round (R582, R583), and the heater code recomputed (R526). -/
def State.hdaRound (s : State) : State :=
  if !s.on .dsk then s
  else
    let t := nth {} s.thm.chans (12 + fld (s.srvReg 0x30) 16 5)
    let lo : Int := 100 * (fld (s.srvReg 0x30) 0 8 + 2 : Nat)
    let hi : Int := 100 * ((fld (s.srvReg 0x30) 8 8 : Nat) - 2)
    let s1 := if s.causeHolds 0 then s.setCause 0
      else if t.valid && decide (lo ≤ t.val) && decide (t.val ≤ hi) then s.clearCause 0 else s
    s1.heatNow

/-- SHOCK_ASSERT and SHOCK_HOLD_EXPIRY (R582). -/
def shockAssert (s : State) : State := s.inDisk (State.setCause 1)
def shockHoldExpiry (s : State) : State := s.inDisk (State.clearCause 1)

/-- An attempt has failed: the bridge opens, and the next one waits for the rotor, or SPN faults (R589, R590). -/
def State.spnFailed (s : State) : State :=
  if fld (s.spnReg 8) 21 3 < s.spn.attempts then s.spnFault 138
  else s.onSpn fun p => { p with st := .coast, attemptWait := true, plausible := false }

/-- SUPPLY_LOW: the spindle supply falls to `mv` mV (R582, R602). -/
def supplyLow (mv : Nat) (s : State) : State := s.inDisk fun s =>
  if (s.spnReg 0x20).toNat * 100 ≤ mv then s
  else
    let s1 := s.setCause 3
    match s1.spn.st with
    | .sense | .ramp => s1.spnFailed
    | _ => s1

/-- SUPPLY_RESTORED: the supply has been at `mv` mV or above for 10 ms (R582). -/
def supplyRestored (mv : Nat) (s : State) : State := s.inDisk fun s =>
  if (s.spnReg 0x20).toNat * 100 + 200 < mv then s.clearCause 3 else s

/-! ## Spindle -/

/-- The current that the stage applies, in mA, with the spindle supply at `mv` mV: a braking current ends where it would
raise the supply above 13.2 V (R593, R767). -/
def State.spnCurrent (s : State) (mv : Nat) : Int :=
  let ma := s.spnApplied s.spn.current
  if s.spnStage = .brake ∧ 13200 ≤ mv then max 0 ma else ma

/-- A speed, in thousandths of an rpm, is within the tolerance of the setpoint (R591). -/
def State.spnWithin (s : State) (mrpm : Nat) : Bool :=
  decide (((mrpm : Int) - (1000 * s.spn.rpmSet : Nat)).natAbs * 1000000 ≤ fld (s.spnReg 0x14) 0 8 * 10 * (1000 * s.spn.rpmSet))

/-- The Culm spindle axis is LOCKED, or the heads are parked (R591). -/
def State.spnAxisOk (s : State) : Bool := !s.srv.st.loaded || decide ((s.culm.ax s.spindleAxis).st = .locked)

/-- The measured speed, in thousandths of an rpm: of the axis with the heads loaded, else of the observer (R591). -/
def State.spnMrpm (s : State) (observed : Nat) : Nat := if s.srv.st.loaded then s.axisMrpm else observed

/-- The judgement of a setpoint, and what its change does (R588, R593, R594, R612). -/
def rpmStore (v : Nat) (s : State) : Abort × State :=
  if v ≠ 0 ∧ (v < 3600 ∨ 10000 < v) then (.range, s)
  else if v ≠ s.spn.rpmSet ∧ s.diskClaimed then (.stateConflict, s)
  else
    let old := s.spn.rpmSet
    let s1 := s.onSpn fun p => { p with rpmSet := v }
    let s2 := if v = old then s1
      else if v = 0 then
        (match s1.spn.st with
          | .fault => s1.onSpn fun p => { p with st := .stopped }
          | _ => s1.spnStop)
      else if old = 0 then
        (match s1.spn.st with
          | .stopping => s1.onSpn fun p => { p with freshStart := true }
          | _ => s1.spnStart)
      else if s1.spn.st = .atSpeed ∧ s1.spnWithin (s1.spnMrpm (1000 * s1.spn.rpm)) = false then s1.leaveSpeed.raise 141 else s1
    (.none, s2.follows)

/-- RPM_SET_WRITE: a write of `SPN_CTRL.RPM_SET`; a refused one is discarded. -/
def rpmSetWrite (v : Nat) (s : State) : State := s.bar0 0x5C0004 .setp fun s => (rpmStore v s).2

/-- The spindle supply is low now. -/
def State.supplyBad (s : State) : Bool := s.srv.winh.getLsbD 3

/-- SPINDLE_START: a start that is due begins with SENSE; after SENSE, whose pulses have found the rotor in the sector
given, the motor ramps from it open loop at START_I (R588, R602). -/
def spindleStart (sector : Fin 6) (s : State) : State := s.inDisk fun s =>
  match s.spn.st with
  | .sense => s.onSpn fun p => { p with st := .ramp, sector := sector, current := 10 * (fld (s.spnReg 8) 24 8 : Nat) }
  | .stopped =>
    if s.spn.attemptWait then
      (if s.supplyBad || !s.spindleLive || decide (s.spn.rpmSet = 0) then s else s.spnAttempt)
    else s.spnStart
  | _ => s

/-- The speed of the ramp after `ms` ms, in rpm: the electrical frequency rises at RAMP_RATE (R588, R614). -/
def State.rampRpm (s : State) (ms : Nat) : Nat := 60 * fld (s.spnReg 0x10) 0 16 * ms / fld (s.spnReg 0xC) 0 4

/-- SPINDLE_HANDOVER: the ramp has run for `ms` ms, in which it has reached HANDOVER (R588). -/
def spindleHandover (ms : Nat) (s : State) : State := s.inDisk fun s =>
  if s.spn.st = .ramp ∧ 10 * fld (s.spnReg 8) 0 8 ≤ s.rampRpm ms then
    s.onSpn fun p => { p with st := .accel, plausible := true, rpm := s.rampRpm ms % 65536 }
  else s

/-- SPINDLE_AT_SPEED: the observer's speeds of the last revolutions in thousandths of an rpm, the latest first; with the
heads loaded those of the axis count (R588 step 5, R591). -/
def spindleAtSpeed (revs : List Nat) (s : State) : State := s.inDisk fun s =>
  let n := fld (s.spnReg 0x14) 8 8
  let l := if s.srv.st.loaded then s.spn.axisRevs else revs
  if s.spn.st = .accel ∧ n ≤ l.length ∧ (l.take n).all s.spnWithin ∧ s.spnAxisOk = true ∧ s.spn.rpmSet ≠ 0 then
    let s1 := s.onSpn fun p => { p with st := .atSpeed, reached := true, catchDue := false,
                                        rpm := ((l.headD (1000 * p.rpmSet)) / 1000) % 65536 }
    match s1.srv.st with
    | .parked | .retracted => s1.loadHeads
    | _ => s1
  else s

/-- SPINDLE_ATTEMPT_FAILED: for the cause given (R589): 0 with the electrical degrees of the backward turn, 1 as
RAMP_MAX has passed, 2 as the observer's plausibility fails before AT_SPEED. A stop whose observer fails brakes no more
(R593). -/
def spindleAttemptFailed (cause degrees : Nat) (s : State) : State := s.inDisk fun s =>
  let p := s.spn
  let early := decide (p.st = .sense ∨ p.st = .ramp)
  let runs := decide (p.st = .accel) && !p.reached
  let fails : Bool := match cause with
    | 0 => (early || runs) && decide (fld (s.spnReg 8) 8 8 < degrees)
    | 1 => early
    | _ => runs
  if fails then s.spnFailed
  else if 2 ≤ cause ∧ p.st = .stopping then s.onSpn fun p => { p with plausible := false } else s

/-- SPINUP_TIMEOUT (R590). -/
def spinupTimeout (s : State) : State := s.inDisk fun s =>
  match s.spn.st with
  | .sense | .ramp | .accel => if s.spn.reached then s else s.spnFault 138
  | .coast | .stopped => if s.spn.attemptWait then s.spnFault 138 else s
  | _ => s

/-- SPINDLE_SPEED_FAULT: the observer's speed is `mrpm` thousandths of an rpm; with the heads loaded that of the axis
counts (R591). -/
def spindleSpeedFault (mrpm : Nat) (s : State) : State := s.inDisk fun s =>
  let v := s.spnMrpm mrpm
  if s.spn.st = .atSpeed ∧ (s.spnWithin v = false ∨ s.spnAxisOk = false) then
    ((s.onSpn fun p => { p with rpm := v / 1000 % 65536 }).leaveSpeed).raise 141
  else s

/-- SPINDLE_ROTOR_LOSS (R595, R596): after AT_SPEED has been reached. The running transfer ends ABORTED, without a grown
defect. -/
def spindleRotorLoss (s : State) : State := s.inDisk fun s =>
  if s.spn.reached ∧ (s.spn.st = .accel ∨ s.spn.st = .atSpeed) then
    let s0 := (s.gateCut 121).endXfer 5
    let s1 := (((s0.setCause 5).setCause 4).raise 139).onSpn fun p =>
      { p with st := .coast, plausible := false, catches := 0, catchDue := true, cntLoss := satInc 0xFFFFFFFF p.cntLoss }
    s1.cancelPlans.park.creditRest
  else s

/-- The catches have failed, or the rotor is too slow (R595 step 7). -/
def State.catchFailed (s : State) : State :=
  (s.onSpn fun p => { p with st := .stopping, catchDue := false, freshStart := true, reached := false }).raise 140

/-- SPINDLE_CATCH: the back-EMF of the turning rotor shows the speed given; with the heads latched, a catch begins; `ok`
tells how it ends, none while it runs (R595 steps 5 to 7). -/
def spindleCatch (rpm : Nat) (ok : Option Bool) (s : State) : State := s.inDisk fun s =>
  let s1 := match s.spn.st with
    | .coast | .catching | .stopping => s.onSpn fun p => { p with rpm := rpm % 65536 }
    | _ => s
  let begun := if s.spn.st = .coast ∧ s.spn.catchDue ∧ !s.srv.st.loaded then
      (if rpm < fld (s.spnReg 0x18) 0 16 then s1.catchFailed
       else if rpm ≤ s.spn.rpmSet then s1.onSpn fun p => { p with st := .catching, catches := p.catches + 1 }
       else s1)
    else s1
  if begun.spn.st ≠ .catching then begun
  else match ok with
    | none => begun
    | some true => begun.onSpn fun p => { p with st := .accel, plausible := true, catchDue := false }
    | some false => if 3 ≤ begun.spn.catches then begun.catchFailed else begun.onSpn fun p => { p with st := .coast }

/-- The spindle rotor has stopped (R589, R593, R595 steps 7 and 8, R602). -/
def State.spnStopped (s : State) : State :=
  let p := s.spn
  let live := s.spindleLive && decide (p.rpmSet ≠ 0)
  match p.st with
  | .coast =>
    if p.attemptWait then
      (if live && !s.supplyBad then s.spnAttempt
       else s.onSpn fun p => { p with st := .stopped, rpm := 0, plausible := false, attemptWait := live })
    else
      let s1 := if p.catchDue then s.catchFailed else s
      let s2 := s1.onSpn fun q => { q with st := .stopped, rpm := 0, plausible := false, freshStart := false }
      if p.catchDue then s2.spnStart else s2
  | .stopping =>
    let s1 := s.onSpn fun q => { q with st := .stopped, rpm := 0, plausible := false, current := 0, freshStart := false }
    if p.freshStart then s1.spnStart else s1
  | _ => s

/-- ROTOR_STOPPED: of a drive unit, or of the spindle when none is named. -/
def rotorStopped (who : Option Nat) (s : State) : State :=
  match who with
  | some u => s.unitStopped u
  | none => s.inDisk State.spnStopped

/-- The clear of the retract flag (R601). -/
def retClear (s : State) : State := (s.onRet fun r => { r with flag := false }).onSpn fun p => { p with retracted := false }

/-- RETRACT_FLAG_CLEAR: a write of `SPN_CTRL.RET_CLR`. -/
def retractFlagClear (s : State) : State := s.bar0 0x5C0004 .test retClear

/-! ## The domain -/

/-- DSK enters the on state (R520, R565, R584, R599, R601, R610). -/
def State.diskOn (s : State) : State :=
  let w := s.spnReg 0x24
  let s1 := ((s.onRch fun _ => {}).onSrv fun _ =>
      { st := if s.ret.flag then .retracted else .parked, winh := 0x35, latch := 0x35 }).onSpn fun _ =>
      { retracted := s.ret.flag }
  let s2 := (s1.onRet fun r => { r with code := fld w 0 8, time := fld w 16 16 }).paWrite 0 (fld (s1.rchReg 0x320) 8 8)
  if s.ret.flag then (s2.raise 142).faultRecord 142 [] else s2

/-- DSK is about to leave the on state (R512, R520, R565): transfers end, the retract circuit parks loaded heads,
and the preamplifier is put to sleep; once. -/
def State.diskLeaves (s : State) : State :=
  if s.rch.leaving then s
  else
    let s1 := (s.gateCut 121).endXfer 5
    let s2 := s1.rch.waiting.foldl (fun t x => ((t.onRch fun r => { r with cur := some x, waiting := r.waiting.erase x }).endXfer 5)) s1
    ((s2.fireRetract).onRch fun r => { r with leaving := true, paActive := false }).paWrite 0 (fld (s2.rchReg 0x320) 16 8)

/-- The disk is ready to leave the on state: loaded heads have been retracted, and the preamplifier's frames, SLEEP the
last of them, have gone out (R520, R565). -/
def State.diskGone (s : State) : Bool :=
  s.rch.leaving && !s.ret.running && s.rch.paCur.isNone && s.rch.paDue.isEmpty

/-- DSK has left the on state: OFF (R565, R587). -/
def State.diskOff (s : State) : State := ((s.onRch fun _ => {}).onSrv fun _ => {}).onSpn fun _ => {}

end Sys2Proof.Machine
end

