-- ==== Sys2Proof/Machine/CalCmd.lean ====
section
/-! DEFINITION. Machine/CalCmd.lean: calibration: triggers, held sets, measurements, repeat agreement, corrections and
their switch-over (R1039 to R1066), and the touchdown calibration of the read channel (R527 to R530). -/
namespace Sys2Proof.Machine

/-! ## Fields and held sets -/

/-- Change the CAL block. -/
def State.onCal (f : Cal → Cal) (s : State) : State := { s with cal := f s.cal }

/-- A calibration. -/
def State.calCh (s : State) (id : Nat) : CalCh := nth {} s.cal.chans id

/-- Change a calibration. -/
def State.onCalCh (id : Nat) (f : CalCh → CalCh) (s : State) : State :=
  s.onCal fun c => { c with chans := modAt c.chans id f }

/-- `CAL_CALc_CFG` and `CAL_CALc_INT` (R1070, R1072). -/
def State.calCfg (s : State) (id : Nat) : Word := s.reg (0x840100 + 0x20 * id)
def State.calInt (s : State) (id : Nat) : Word := s.reg (0x840104 + 0x20 * id)

/-- What the record die keeps of a calibration (R1065). -/
def State.calRec (s : State) (id : Nat) : CalRec := nth {} s.die.cal id

/-- Change what the record die keeps of a calibration. -/
def State.onCalRec (id : Nat) (f : CalRec → CalRec) (s : State) : State :=
  { s with die := { s.die with cal := modAt s.die.cal id f } }

/-- The calibration has trimmed elements (R1052). -/
def calTrimmed (id : Nat) : Bool := decide (id ∈ [1, 2, 3, 6, 7])

/-- The number of instances of a calibration (R1039): IDs 6, 7 and 9 have the one instance 0. -/
def State.calCount (s : State) (id : Nat) : Nat :=
  match id with
  | 0 => 24 | 1 => 24 | 2 => 4 | 3 => 4 | 4 => 24 | 5 => 16 | 8 => s.heads | _ => 1

/-- The stations whose scanner is an axis. -/
def State.stationsOf (s : State) (k : Nat) : List Nat :=
  (List.range 4).filter fun n => bitOf (s.lsReg n 0) 31 && decide (s.scanAxis n = k)

/-- A token that is COMMITTED or IMAGED has the plane of a station. -/
def State.tokenOn (s : State) (n : Nat) : Bool :=
  s.flying.any fun k => (s.tok k).hdr.has (fld (s.lsReg n 0) 26 2)

/-- A scanner axis that is enabled (R126). -/
def State.scanner (s : State) (k : Nat) : Bool := (s.culm.ax k).en && decide ((s.culm.ax k).kind = 0)

/-- The preconditions of R1040 and R1041, on an instance. -/
def State.calPre (s : State) (id inst : Nat) : Bool :=
  match id with
  | 0 | 9 =>
    decide (s.sys.mode = .ready ∨ s.sys.mode = .print) && s.scanner inst && decide ((s.culm.ax inst).st = .locked) &&
      decide ((s.culm.ax inst).divs ≤ 16) && (s.stationsOf inst).all fun n => !s.tokenOn n
  | 2 | 3 => s.stEnabled inst && !s.tokenOn inst
  | 4 => decide (s.duCount inst ≠ 0) &&
      decide ((s.du inst).st = .idle ∨ (s.du inst).st = .disabled ∨ (s.du inst).st = .fault)
  | 5 => !s.hvEn inst
  | 7 => s.on .dsk && s.rch.cur.isNone && !s.diskClaimed
  | 8 => s.on .dsk && decide (s.sys.mode = .ready) && !s.sys.transit && !s.diskClaimed
  | _ => true

/-- What a run holds (R1040): stations, Teff slots, and the disk's transfers. -/
structure HeldSet where
  stations : List Nat := []
  slots : List Nat := []
  disk : Bool := false
  deriving DecidableEq, Repr

/-- The held set of a calibration on an instance (R1040). -/
def State.heldSet (s : State) (id inst : Nat) : HeldSet :=
  match id with
  | 0 | 9 => { stations := s.stationsOf inst }
  | 2 | 3 => { stations := [inst], slots := (List.range 16).map fun b => 16 * fld (s.lsReg inst 0x2C) 24 4 + b }
  | 4 => { slots := ((List.range 3).filter fun j => s.duUses inst j).map fun j => (s.duSlot inst + j) % 256 }
  | 7 | 8 => { disk := true }
  | _ => {}

/-- Two held sets meet. -/
def HeldSet.meets (a b : HeldSet) : Bool :=
  a.stations.any (fun n => b.stations.contains n) || a.slots.any (fun n => b.slots.contains n) || (a.disk && b.disk)

/-- The held set of a calibration on an instance meets that of a running one, or the calibration runs already
(R1059). -/
def State.calBusy (s : State) (id inst : Nat) : Bool :=
  (s.calCh id).run.isSome || (List.range 10).any fun j => match (s.calCh j).run with
    | some r => (s.heldSet id inst).meets (s.heldSet j r.inst)
    | none => false

/-- `CAL_STATUS.STALE` of a calibration (R1044, R1068). -/
def State.calStale (s : State) (id : Nat) : Bool :=
  match (s.calCh id).run with
  | some r => decide (s.heldSet id r.inst ≠ {}) || decide (id = 4)
  | none => false

/-! ## Touchdown calibration -/

/-- The zones of `RCH_FH_CMD` (R543). -/
def State.fhZones (s : State) : List Nat := (List.range 8).filter fun z => bitOf s.rch.fhWord (8 + z)

/-! ## Starting and ending a run -/

/-- The method of a run that starts now (R1054). -/
def State.calTap (s : State) (id trig : Nat) : Bool :=
  calTrimmed id && ((decide (trig = 1) && s.boot.starting) || bitOf (s.reg 0x840008) id || (s.calCh id).trimFault)

/-- Set HOLD on slots (R1044). -/
def State.holdSlots (l : List Nat) (s : State) : State :=
  l.foldl (fun t n => t.onTs n fun x => { x with cfg := x.cfg ||| place 1 30 1 }) s

/-- Clear HOLD on slots; their next updates restart (R771, R1046). -/
def State.freeSlotsOf (l : List Nat) (s : State) : State :=
  l.foldl (fun t n => t.onTs n fun x => { x with cfg := x.cfg &&& ~~~(place 1 30 1), restart := true }) s

/-- A run starts (R1044, R1047, R1054). -/
def State.calStart (id inst trig : Nat) (s : State) : State :=
  let h := s.heldSet id inst
  let s1 := (s.onCalCh id fun c =>
    { c with run := some { inst := inst, trig := trig, tap := s.calTap id trig, slots := h.slots }, pending := none,
             pendHold := false }).holdSlots h.slots
  match id with
  | 2 | 3 => s1.onLs inst fun t => { t with calHold := true }
  | 8 =>
    (s1.onRch fun r => { r with fhStatus := 1, fhCal := some { head := inst, zones := s1.fhZones, htr := s1.htrStart } }).fhBegin
  | _ => s1

/-- An automatic trigger (R1058, R1060): the run starts, or becomes pending; a pending or running calibration takes no
second one. -/
def State.calTrigger (id inst trig : Nat) (s : State) : State :=
  if (s.calCh id).run.isSome || (s.calCh id).pending.isSome || (decide (id = 0) && s.calOn 9 inst) then s
  else if s.calPre id inst && !s.calBusy id inst && !(decide (trig = 3) && s.boot.starting) then s.calStart id inst trig
  else s.onCalCh id fun c => { c with pending := some (inst, trig) }

/-- `CAL_CMD.STATUS` of an outcome (R1069). -/
def calStatusOf : Nat → Nat
  | 1 => 2 | 4 => 7 | _ => 3

/-- The holds of a run are released (R1046). `RCH_FH_CMD.STATUS` of a run that is aborted goes back to idle (R543).
DESIGN CHOICE, log entry 122. -/
def State.calRelease (id : Nat) (r : CalRun) (s : State) : State :=
  let s1 := s.freeSlotsOf r.slots
  match id with
  | 2 | 3 => s1.onLs r.inst fun t => { t with calHold := false }
  | 8 => (s1.onRch fun x => { x with fhCal := none, fhStatus := if x.fhStatus = 1 then 0 else x.fhStatus }).heatNow
  | _ => s1

/-- The die temperature that a calibration watches (R1058, R1070). -/
def State.calTemp (s : State) (id : Nat) : Int := (nth {} s.thm.chans (fld (s.calCfg id) 8 4)).val

/-- A run ends with an outcome (R1046, R1062 to R1064): the record, the release, and the sources. The instances still to
be taken follow. -/
def State.calEnd (id outcome : Nat) (s : State) : State :=
  match (s.calCh id).run with
  | none => s
  | some r =>
    let s1 := (s.calRelease id r).onCalRec id fun x =>
      { x with outcome := outcome, inst := r.inst, trig := r.trig, tstat := s.time.stat.code, time := s.time.now,
               method := if r.tap then 1 else 0,
               count := if outcome = 1 then satInc 0xFFFFFFFF x.count else x.count,
               rejects := if outcome = 2 then satInc 0xFFFFFFFF x.rejects else x.rejects,
               temp := if outcome = 1 then s.calTemp id else x.temp }
    let rest := (s.calCh id).turn
    let s2 := (s1.onCalCh id fun c => { c with run := none, turn := rest.drop 1 }).onCal fun c =>
      { c with cmdStatus := if c.cmdStatus = 1 ∧ c.cmdId = id then calStatusOf outcome else c.cmdStatus,
               startBad := c.startBad || (s.boot.starting && decide (r.trig = 1 ∧ (outcome = 2 ∨ outcome = 3))) }
    let s3 := match outcome with
      | 1 => s2.raise 12
      | 2 => s2.raise 13
      | _ => s2.raise 14
    match rest with
    | [] => s3
    | i :: _ => if id = 9 ∨ 3 ≤ outcome then s3.onCalCh id fun c => { c with turn := [] } else s3.calTrigger id i r.trig

/-- Abort the runs of the calibrations and instances that `p` names (R1063). -/
def State.calAbort (p : Nat → Nat → Bool) (s : State) : State :=
  (List.range 10).foldl (fun t id => match (t.calCh id).run with
    | some r => if p id r.inst then t.calEnd id 4 else t
    | none => t) s

/-- The calibrations whose instance or held set lies in a domain that leaves the on state (R1063). -/
def calInDomain : Dom → Nat → Bool
  | .img, id => decide (id ∈ [0, 2, 3, 9])
  | .dsk, id => decide (id = 7 ∨ id = 8)
  | .eng, _ => true
  | _, _ => false

/-! ## Commands and triggers -/

/-- The enabled scanner axes that ID 9 takes (R1039). -/
def State.scanners (s : State) : List Nat := (List.range 24).filter s.scanner

/-- Start ID 9: the enabled scanner axes in turn. An axis that a run of ID 0 has under way keeps that run (R1066). -/
def State.calAll (trig : Nat) (s : State) : Option State :=
  match s.scanners.filter fun k => !s.calRuns 0 k with
  | [] => none
  | k :: rest => if s.calPre 9 k && !s.calBusy 9 k then some ((s.calStart 9 k trig).onCalCh 9 fun c => { c with turn := rest })
    else none

/-- The judgement of a command (R1059): RANGE, then STATE_CONFLICT, then BUSY. Where runs of ID 0 have every axis of an
ID 9 under way, theirs is the result that the command takes (R1066). -/
def calCmdStore (v : Word) (s : State) : Abort × State :=
  let id := fld v 0 4
  let inst := if id = 6 ∨ id = 7 ∨ id = 9 then 0 else fld v 16 5
  let s1 := s.onCal fun c => { c with cmdWord := v &&& 0x001F000F }
  let done (n : Nat) (s : State) : State := s.onCal fun c => { c with cmdStatus := n }
  if !bitOf v 31 then (if 9 < id then (.range, s) else (.none, s1))
  else if 9 < id ∨ s.calCount id ≤ inst then (.range, done 6 s1)
  else
    let first := if id = 9 then s.scanners.headD 24 else inst
    if !s.calPre id first then (.stateConflict, done 4 s1)
    else if s.calBusy id first then (.busy, done 5 s1)
    else
      let s2 := s1.onCal fun c => { c with cmdStatus := 1, cmdId := id }
      (.none, if id = 9 then (s2.calAll 0).getD (s2.onCal fun c => { c with cmdId := 0 }) else s2.calStart id inst 0)

/-- CAL_COMMAND: a write of `CAL_CMD` with GO = 1. -/
def calCommand (id inst : Nat) (s : State) : State :=
  s.bar0 0x840004 .shadow fun s => (calCmdStore (placeB true 31 ||| place inst 16 5 ||| place id 0 4) s).2

/-- CAL_INTERVAL: INTERVAL minutes of device time have passed since the end of the last run (R1058). -/
def calInterval (id : Nat) (s : State) : State := s.inDom .eng fun s =>
  let r := s.calRec id
  let n := fld (s.calInt id) 0 16
  if n = 0 ∨ r.outcome = 0 ∨ s.time.now.toNat < r.time.toNat + n * 60 * 10 ^ 9 ∨ 9 < id then s
  else if id = 9 then (s.calAll 2).getD (s.calTrigger 9 (s.scanners.headD 24) 2)
  else s.calTrigger id r.inst 2

/-- The TEMPERATURE trigger of R1058, at a housekeeping round. -/
def State.calTempRound (s : State) : State :=
  if !s.on .eng then s
  else (List.range 10).foldl (fun t id =>
    let r := t.calRec id
    let d := fld (t.calCfg id) 0 8
    if d ≠ 0 ∧ r.count ≠ 0 ∧ 100 * d ≤ (t.calTemp id - r.temp).natAbs ∧
        (nth {} t.thm.chans (fld (t.calCfg id) 8 4)).valid then t.calTrigger id r.inst 3
    else t) s

/-- CAL_PENDING_START: the obstacle of a pending calibration clears (R1060). -/
def calPendingStart (id : Nat) (s : State) : State := s.inDom .eng fun s =>
  match (s.calCh id).pending with
  | none => s
  | some (inst, trig) =>
    if s.calPre id inst && !s.calBusy id inst && !(decide (trig = 3) && s.boot.starting) then s.calStart id inst trig else s

/-- CAL_PEND_TIMEOUT: a calibration has been pending for PEND_MAX (R1061). -/
def calPendTimeout (id : Nat) (s : State) : State := s.inDom .eng fun s =>
  if fld (s.calInt id) 16 16 = 0 || (s.calCh id).pending.isNone then s
  else s.onCalCh id fun c => { c with pendHold := true }

/-- The instances that a start-up trigger takes: those that could run. -/
def State.calInstances (s : State) (id : Nat) : List Nat :=
  match id with
  | 1 => (List.range 24).filter fun k => (s.culm.ax k).en
  | 9 => s.scanners.take 1
  | _ => (List.range (s.calCount id)).filter fun i => s.calPre id i

/-- Step 15: every calibration with TRIG_START = 1 is triggered (R1058, R1111). -/
def State.calStartUp (s : State) : State :=
  (List.range 10).foldl (fun t id =>
    if !bitOf (t.calCfg id) 31 then t
    else match t.calInstances id with
      | [] => t
      | i :: rest => (t.onCalCh id fun c => { c with turn := if id = 9 then t.scanners.drop 1 else rest }).calTrigger id i 1)
    (s.onCal fun c => { c with startBad := false })

/-- The instances of a trimmed calibration with an element at the TAP method. -/
def State.tapInstances (s : State) (id : Nat) : List Nat :=
  ((s.cal.trims.filter fun p => decide (p.1 / 65536 = id) && decide (p.2.method = 1)).map
    fun p => p.1 % 65536 / 64).dedup

/-- The end of start-up makes the calibrations that last ran by the TAP method pending (R1057). -/
def State.calStartEnd (s : State) : State :=
  if !s.on .eng then s
  else [1, 2, 3, 6, 7].foldl (fun t id =>
    if (t.calRec id).method = 0 || (t.calCh id).pending.isSome then t
    else match t.tapInstances id with
      | [] => t
      | i :: rest => t.onCalCh id fun c => { c with pending := some (i, 1), turn := rest }) s

/-! ## Corrections -/

/-- The key of a trimmed element. -/
def trimKey (id inst elem : Nat) : Nat := id * 65536 + inst * 64 + elem

/-- The correction of ID 0 (R1041): from the accepted means of the divisions, in 2^-32 turn. -/
def State.iofsStore (k : Nat) (ms : List Int) (s : State) : State :=
  let mean := satS 64 (ms.sum.tdiv (max 1 ms.length : Nat))
  let o (j : Nat) : Nat := 0x102000 + 0x40 * k + 4 * j
  let s1 := (List.range ms.length).foldl (fun t j =>
    t.setReg (o j) (w32 (s32 (t.reg (o j)) + nth 0 ms j - mean))) s
  gainCommitStore k (s1.reg (0x101008 + 0x40 * k)) s1

/-- An accepted correction comes into force, all its elements together (R1039, R1050, R1053). -/
def State.calApply (id : Nat) (r : CalRun) (ms : List Int) (s : State) : State :=
  let trim (i : Nat) (t : State) : State :=
    let c := -(nth 0 ms i)
    let v : Trim := if r.tap then { trim := 512, tap := (16 + roundDiv c 32).toNat, method := 1 }
      else { trim := (512 + c).toNat, tap := 16, method := 0 }
    t.onCal fun x => { x with trims := sput {} v (trimKey id r.inst i) x.trims }
  match id with
  | 0 | 9 => s.iofsStore r.inst ms
  | 4 => s.onCal fun c => { c with ofs := (List.range ms.length).foldl (fun l i =>
      modAt l (s.duBase r.inst + i) fun _ => nth 0 ms i - 2048) c.ofs }
  | 5 => s.setReg (0x780118 + 0x40 * r.inst)
      (putFld (s.hvReg r.inst 0x18) 0 16 (code 16 (nth 0 ms 0)))
  | 8 => s
  | _ => (List.range ms.length).foldl (fun t i => trim i t) s

/-- The switch-over point of an accepted run has come: the correction is in force and the run ends (R1050, R1062). -/
def State.calSwitch (id : Nat) (s : State) : State :=
  match (s.calCh id).run with
  | none => s
  | some r => match r.accepted with
    | none => s
    | some ms => (s.calApply id r ms).calEnd id 1

/-- Take the switch-over of a calibration on an instance, at the index edge, PWM period or round that it waits for. -/
def State.calPoint (id inst : Nat) (s : State) : State := if s.calRuns id inst then s.calSwitch id else s

/-- Calibrated heater codes that no head selection has taken come into force (R1039, R1051): the run of ID 8 has ended
with their acceptance. DESIGN CHOICE, log entry 122. -/
def State.fhTake (s : State) : State :=
  match s.rch.fhNew with
  | none => s
  | some h => (s.onRch fun r => { r with fhNew := none, heads := modAt r.heads h fun x => { x with htr := (s.shadowHead h).htr } }).heatNow

/-- CAL_SWITCHOVER_TIMEOUT: one second has passed since the acceptance (R1051). -/
def calSwitchoverTimeout (id : Nat) (s : State) : State :=
  if id = 8 then s.inDisk State.fhTake else s.inDom .eng (State.calSwitch id)

/-- An accepted edge of axis k with its phase error e, in 2^-64 turn: recorded by a run of ID 0 or ID 9 on that axis
(R1041). -/
def State.calEdge (k div : Nat) (e : Int) (s : State) : State :=
  let take (id : Nat) (t : State) : State := if !t.calRuns id k then t
    else t.onCalCh id fun c => { c with run := c.run.map fun r =>
      if r.accepted.isSome then r else { r with sums := modAt r.sums div fun p => (satS 64 (p.1 + e), p.2 + 1) } }
  take 9 (take 0 s)

/-- One element of a measurement: the mean of its samples, rounded as R1041 and R1042 say. -/
def calMean (id : Nat) (l : List Int) : Int :=
  let n := max 1 l.length
  if id = 4 ∨ id = 5 then roundDiv l.sum n else l.sum.tdiv n

/-- The elements of an instance. -/
def State.calElems (s : State) (id inst : Nat) : Nat :=
  match id with
  | 0 | 9 => (s.culm.ax inst).divs
  | 2 => 16
  | 4 => s.duCount inst
  | _ => 1

/-- The measurement that a run has just ended, element by element (R1041 to R1043): of the recorded edges for IDs 0 and
9, of the samples for the others. -/
def State.calMeasured (s : State) (id : Nat) (r : CalRun) (samples : List (List Int)) : List Int :=
  (List.range (s.calElems id r.inst)).map fun i =>
    if id = 0 ∨ id = 9 then
      let p := nth (0, 0) r.sums i
      (p.1.tdiv (max 1 p.2 : Nat)).tdiv (2 ^ 32 : Nat)
    else calMean id (nth [] samples i)

/-- The element with the largest difference between two measurements, the first of equals. -/
def worstElem (a b : List Int) : Nat :=
  let d (i : Nat) : Nat := (nth 0 a i - nth 0 b i).natAbs
  (List.range a.length).foldl (fun best i => if d best < d i then i else best) 0

/-- A run is rejected (R1048). -/
def State.calReject (id : Nat) (m : List Int) (r : CalRun) (s : State) : State :=
  let i := worstElem m r.last
  (s.calEnd id 2).faultRecord 13 [id, r.inst, code 32 (nth 0 r.last i), code 32 (nth 0 m i)]

/-- Every element of a correction lies in the range of its method (R1055, R1056). -/
def trimsFit (tap : Bool) (ms : List Int) : Bool :=
  ms.all fun m => if tap then decide (0 ≤ 16 + roundDiv (-m) 32 ∧ 16 + roundDiv (-m) 32 ≤ 31)
    else decide (0 ≤ 512 - m ∧ 512 - m ≤ 1023)

/-- An accepted run (R1050, R1055, R1056): a trim fault repeats it by the TAP method, a tap out of range fails it; else
the correction comes into force at once, or waits for its point. -/
def State.calAccept (id : Nat) (ms : List Int) (r : CalRun) (readback : Bool) (s : State) : State :=
  if calTrimmed id && !r.tap && !(trimsFit false ms && readback) then
    (s.onCalCh id fun c =>
      { c with trimFault := true, run := some { inst := r.inst, trig := 4, tap := true, slots := r.slots } }).raise 15
  else if calTrimmed id && r.tap && !trimsFit true ms then s.calEnd id 3
  else
    let s1 := s.onCalCh id fun c => { c with run := some { r with accepted := some ms } }
    if id = 9 then
      let s2 := s1.calApply 9 r ms
      match (s2.calCh 9).turn with
      | [] => s2.calEnd 9 1
      | k :: rest =>
        let s3 := (s2.calRelease 9 r).onCalCh 9 fun c => { c with run := none, turn := rest }
        if s3.calPre 9 k && !s3.calBusy 9 k then s3.calStart 9 k r.trig
        else s3.onCalCh 9 fun c => { c with pending := some (k, r.trig) }
    else if id ∈ [0, 2, 3, 5] then s1.calSwitch id
    else s1

/-- CAL_MEASUREMENT_DONE: a measurement of calibration `id` ends; `samples` are those of each element, and `readback`
tells that the trim converters pass their read-back check (R1047, R1048, R1055). -/
def calMeasurementDone (id : Nat) (samples : List (List Int)) (readback : Bool) (s : State) : State := s.inDom .eng fun s =>
  match (s.calCh id).run with
  | none => s
  | some r =>
    if id = 8 || r.accepted.isSome then s
    else
      let m := s.calMeasured id r samples
      let tol := fld (s.calCfg id) 12 12
      let r1 := { r with made := r.made + 1, last := m, sums := List.replicate 16 (0, 0) }
      if decide (0 < r.made) &&
          (List.range m.length).all fun i => decide ((nth 0 m i - nth 0 r.last i).natAbs ≤ tol) then
        s.calAccept id ((List.range m.length).map fun i => (nth 0 m i + nth 0 r.last i).tdiv 2) r1 readback
      else if fld (s.calCfg id) 24 3 ≤ r1.made then s.calReject id m r
      else s.onCalCh id fun c => { c with run := some r1 }

/-- The correction of ID 7 comes into force between two sectors (R1039). -/
def State.calSettle (s : State) : State :=
  match (s.calCh 7).run with
  | some r => if r.accepted.isSome && !s.rch.writing then s.calSwitch 7 else s
  | none => s

/-- The clear of TRIM_FAULT (R1071, R1073). -/
def trimFaultStore (id v : Nat) (s : State) : Abort × State :=
  if !s.on .eng || !s.mayWrite .test then (.stateConflict, s)
  else if v ≠ 1 then (.range, s)
  else (.none, s.onCalCh id fun c => { c with trimFault := false })

/-- TRIM_FAULT_CLEAR: a write of 1 to OD 4C1c:06. -/
def trimFaultClear (id : Nat) (s : State) : State := s.dict (trimFaultStore id 1)

/-! ## The touchdown calibration -/

/-- A write of `RCH_FH_CMD` and the judgement of its GO (R527, R543, R1049): CAL starts the run and keeps its record. -/
def fhCmdStore (v : Word) (s : State) : Abort × State :=
  let h := fld v 16 2
  let s1 := if s.mayWrite .setp then s.onRch fun r => { r with fhWord := v &&& 0x0003FF00 } else s
  if !bitOf v 31 then (.none, s1)
  else if s.heads ≤ h then (.range, s)
  else if !(s.on .eng && s.calPre 8 h) then (.stateConflict, s1.onRch fun r => { r with fhStatus := 5 })
  else if s.calBusy 8 h then (.busy, s1)
  else (.none, s1.calStart 8 h 0)

/-- FH_CAL_START: a write of `RCH_FH_CMD` with GO = 1. -/
def fhCalStart (head : Nat) (zones : BitVec 8) (s : State) : State :=
  s.bar0 0x500050 .any fun s => (fhCmdStore (placeB true 31 ||| place head 16 2 ||| place zones.toNat 8 8) s).2

/-- The search of a zone goes on to the next one, or the calibration ends (R528, R1049). -/
def State.fhNext (s : State) : State :=
  match s.rch.fhCal with
  | none => s
  | some c =>
    match c.zones.drop 1 with
    | [] =>
      let s1 := s.onRch fun r => { r with fhStatus := if c.bad = 0 then 2 else c.bad }
      if c.bad = 0 then (s1.onRch fun r => { r with fhNew := some c.head }).calEnd 8 1
      else if c.bad = 3 then s1.calEnd 8 3
      else s1.calEnd 8 2
    | rest => (s.onRch fun r => { r with fhCal := some { c with zones := rest } }).fhZone

/-- A zone fails with a STATUS (R528, R530); 3 outweighs 4 (R1049). -/
def State.fhFail (status : Nat) (s : State) : State :=
  ((s.onRch fun r => { r with fhCal := r.fhCal.map fun c =>
      { c with bad := if c.bad = 3 then 3 else status }}).raise 124).fhNext

/-- FH_CAL_ZONE_STEP: four revolutions at a heater code have passed, with the variance v (R528 to R530). -/
def fhCalZoneStep (v : Nat) (s : State) : State := s.inDisk fun s =>
  match s.rch.fhCal with
  | none => s
  | some c =>
    let z := c.zones.headD 0
    if !c.begun then s
    else if c.zones = [] then s.fhNext
    else if (s.rchReg 0x58).toNat < v then
      match c.td with
      | none =>
        let s1 := s.onRch fun r => { r with fhCal := some { c with td := some c.htr, htr := s.htrStart } }
        s1.heat s1.htrStart
      | some td =>
        if fld (s.rchReg 0x54) 0 4 < ((td : Int) - (c.htr : Int)).natAbs then
          (s.faultRecord 13 [8, c.head, td, c.htr]).fhFail 4
        else
          let rd := td - fld (s.rchReg 0x54) 16 8
          let wr := td - fld (s.rchReg 0x54) 8 8
          ((s.setReg (0x500410 + 0x40 * c.head + 4 * z) (place wr 8 8 ||| place rd 0 8)).raise 123).fhNext
    else if c.htr = 255 then s.fhFail 3
    else
      let s1 := s.onRch fun r => { r with fhCal := some { c with htr := c.htr + 1 } }
      s1.heat (c.htr + 1)

end Sys2Proof.Machine
end

