-- ==== Sys2Proof/Machine/StMath.lean ====
section
/-! DEFINITION. Machine/StMath.lean: what a station computes within a line: the pixel clock (R224 to R230), the pulses
of a beam (R231 to R236), the rows of a sweep (R259 to R263), and halftoning (R318). -/
namespace Sys2Proof.Machine

/-! ## Fields of the tables -/

/-- PIXELS, SWEEP_OFS, START_BEAM, MINW and JUST of tables in force. -/
def StTables.pixels (t : StTables) : Nat := fld t.line 0 15
def StTables.sweepOfs (t : StTables) : Nat := fld t.preg 4 12
def StTables.startBeam (t : StTables) : Nat := fld t.preg 0 4
def StTables.minw (t : StTables) : Nat := fld t.pulse 0 6
def StTables.just (t : StTables) : Nat := fld t.pulse 8 2

/-- RAMP[i] (R228). -/
def StTables.rampAt (t : StTables) (i : Nat) : Int := s32 (nth 0 t.ramp i)

/-- FT[j][b] (R231, R299). -/
def StTables.ft (t : StTables) (j b : Nat) : Int := sx 16 (fld (nth 0 t.facet (8 * j + b / 2)) (16 * (b % 2)) 16)

/-- START and ROW_OFS of a zone (R298). -/
def StTables.zStart (t : StTables) (z : Nat) : Nat := fld (nth 0 t.zone z) 16 14
def StTables.zOfs (t : StTables) (z : Nat) : Int := sx 8 (fld (nth 0 t.zone z) 0 8)

/-- The number of zones in use (R262). -/
def StTables.zones (t : StTables) : Nat :=
  1 + ((List.range 63).takeWhile fun i => decide (t.zStart (i + 1) ≠ 0)).length

/-- The tables as the shadow registers hold them (R279). -/
def State.shadowTables (s : State) (n : Nat) : StTables where
  dbase := s.lsReg n 0x00C
  sdly := s.lsReg n 0x010
  line := s.lsReg n 0x014
  preg := s.lsReg n 0x018
  pulse := s.lsReg n 0x01C
  ramp := (List.range 256).map fun i => s.lsReg n (0x1000 + 4 * i)
  facet := (List.range 96).map fun i => s.lsReg n (0x1400 + 4 * i)
  zone := (List.range 64).map fun i => s.lsReg n (0x1600 + 4 * i)

/-! ## The pixel clock -/

/-- dmin and dmax of R228, in 2^-24 VCO cycle. -/
def dMin (pllN : Nat) : Int := ((pllN * 2 ^ 24 / 10 : Nat) : Int)
def dMax (pllN : Nat) : Int := ((pllN * 2 ^ 24 * 5 / 8 : Nat) : Int)

/-- d of R228 before the clamp. -/
def StTables.rawD (t : StTables) (x : Nat) : Int :=
  let i := min (x / 64) 255
  let nxt := min (i + 1) 255
  (t.dbase.toNat : Int) + t.rampAt i + asr ((t.rampAt nxt - t.rampAt i) * (x % 64 : Nat)) 6

/-- D(x) (R228). -/
def StTables.dOf (t : StTables) (pllN x : Nat) : Int := clampI (dMin pllN) (dMax pllN) (t.rawD x)

/-- acc(x) (R230). -/
def StTables.acc (t : StTables) (pllN x : Nat) : Int := ((List.range x).map fun i => t.dOf pllN i).sum

/-- S_b of a line whose strobe fired in division j (R231). -/
def StTables.startOf (t : StTables) (j b : Nat) : Int := (fld t.sdly 0 22 : Nat) + t.ft j b

/-- The number of clock periods of a line (R224). -/
def StTables.periods (t : StTables) (j nbeam : Nat) : Nat :=
  let smax := (List.range nbeam).foldl (fun m b => max m (t.startOf j b)) (t.startOf j 0)
  (smax / 64).toNat + t.pixels + 1

/-- The clamped periods among the first `len` (R229). -/
def StTables.clamped (t : StTables) (pllN len : Nat) : Nat :=
  ((List.range len).filter fun x => decide (t.dOf pllN x ≠ t.rawD x)).length

/-! ## Pulses -/

/-- The edges of the pulse of data pixel p of beam b, as taps (R232, R234); none for code 0 (R233). -/
def StTables.pulseOf (t : StTables) (pllN j b p word : Nat) : Option (Int × Int) :=
  let c := word % 64
  if c = 0 then none
  else
    let sb := t.startOf j b
    let x := p + (sb / 64).toNat
    let d := t.dOf pllN x
    let w := if c = 63 then d else asr ((c : Int) * d) 6
    let just := if word / 64 % 4 = 3 then t.just else word / 64 % 4
    let lofs := match just with
      | 0 => 0
      | 1 => d - w
      | _ => asr (d - w) 1
    let lead := t.acc pllN x + asr (sb % 64 * d) 6 + lofs
    some (asr (lead + 2 ^ 19) 20, asr (lead + w + 2 ^ 19) 20)

/-- Join pulses that meet, and close gaps shorter than `minw` taps (R235, R236). -/
def mergePulses (minw : Nat) : List (Int × Int) → List (Int × Int)
  | [] => []
  | p :: rest =>
    match mergePulses minw rest with
    | [] => [p]
    | q :: r => if q.1 - p.2 < minw ∨ q.1 ≤ p.2 then (p.1, max p.2 q.2) :: r else p :: q :: r

/-- The pulses of a beam in a line whose data pixels carry `words` (R234 to R236). -/
def StTables.beamPulses (t : StTables) (pllN j b : Nat) (words : List Nat) : List (Int × Int) :=
  let l := (List.range words.length).filterMap fun p => t.pulseOf pllN j b p (nth 0 words p)
  (mergePulses t.minw l).filter fun p => decide ((t.minw : Int) ≤ p.2 - p.1)

/-! ## Rows -/

/-- The page row that beam b prints in sweep k and zone z (R259). -/
def StTables.rowOf (t : StTables) (nbeam k b z : Nat) : Int :=
  ((k : Int) - t.sweepOfs) * nbeam + b - t.startBeam + t.zOfs z

/-- The lowest row that sweep k can print. -/
def StTables.lowRow (t : StTables) (nbeam k : Nat) : Int :=
  (List.range t.zones).foldl (fun m z => min m (t.rowOf nbeam k 0 z)) (t.rowOf nbeam k 0 0)

/-- The rows that sweep k needs, of a page of `rows` rows. -/
def StTables.needs (t : StTables) (nbeam k rows : Nat) : List Nat :=
  (((List.range t.zones).flatMap fun z => (List.range nbeam).filterMap fun b =>
    let r := t.rowOf nbeam k b z
    if 0 ≤ r ∧ r < (rows : Int) then some r.toNat else none)).dedup

/-- The last page row has been printed in every zone once sweep k has ended (R335). -/
def StTables.pageOver (t : StTables) (nbeam k rows : Nat) : Bool :=
  (List.range t.zones).all fun z => decide ((rows : Int) - 1 ≤ t.rowOf nbeam k (nbeam - 1) z)

/-! ## Halftoning -/

/-- The pulse word of contone c and tag g at data pixel x of page row r (R318). -/
def halftone (screens : List Screen) (tagmap c g x r : Nat) : Nat :=
  let sc := nth {} screens (tagmap / 8 ^ g % 8)
  let cx := (x + sc.px) % sc.w
  let cy := (r + sc.py) % sc.h
  let cell := 3 * (cy * sc.w + cx)
  let th (i : Nat) : Nat := if nth 0 sc.cells (cell + i) < c then 1 else 0
  nth 0 sc.lvl (th 0 + th 1 + th 2)

/-- The pulse words of page row r (R318), from its contone and tag row. -/
def halftoneRow (screens : List Screen) (h : Header) (pixels r : Nat) (contone tags : List Nat) : List Nat :=
  (List.range pixels).map fun x =>
    if h.width ≤ x / 2 ∨ h.height ≤ r / 4 then 0
    else halftone screens h.tagmap (nth 0 contone (x / 2)) (nth 0 tags (x / 2)) x r

/-! ## Screens -/

/-- The judgement of a screen set (R319, R320): none for a value refused, with its abort. -/
def screenOf (bs : List Byte) : Abort × Option Screen :=
  let w := leAt bs 0 2
  let h := leAt bs 2 2
  let px := leAt bs 4 2
  let py := leAt bs 6 2
  if bs.length < 16 ∨ 196624 < bs.length then (.length, none)
  else if w = 0 ∨ 256 < w ∨ h = 0 ∨ 256 < h then (if bs.length ≠ 16 + 3 * w * h then .length else .range, none)
  else if bs.length ≠ 16 + 3 * w * h then (.length, none)
  else
    let cells := (bs.drop 16).map BitVec.toNat
    let good := (List.range (w * h)).all fun i =>
      decide (nth 0 cells (3 * i) ≤ nth 0 cells (3 * i + 1)) && decide (nth 0 cells (3 * i + 1) ≤ nth 0 cells (3 * i + 2))
    if w ≤ px ∨ h ≤ py ∨ leAt bs 12 4 ≠ 0 ∨ !good then (.range, none)
    else (.none, some { w := w, h := h, px := px, py := py, lvl := (slice bs 8 4).map BitVec.toNat, cells := cells })

/-- The bytes of a screen set (R319). -/
def Screen.bytes (c : Screen) : List Byte :=
  leBytes 2 c.w ++ leBytes 2 c.h ++ leBytes 2 c.px ++ leBytes 2 c.py ++ c.lvl.map (BitVec.ofNat 8) ++ u32le 0 ++
    c.cells.map (BitVec.ofNat 8)

/-- The validation of R280. -/
def tablesBad (t : StTables) (pllN facets nbeam : Nat) : Bool :=
  let z := t.zones
  ((List.range 256).any fun i => decide ((t.dbase.toNat : Int) + t.rampAt i < dMin pllN) ||
    decide (dMax pllN < (t.dbase.toNat : Int) + t.rampAt i)) ||
  decide (t.pixels = 0 ∨ 16384 < t.pixels) || decide (nbeam ≤ t.startBeam) || decide (t.just = 3) ||
  decide (t.zStart 0 ≠ 0) || ((List.range (z - 1)).any fun i => decide (t.zStart (i + 1) ≤ t.zStart i)) ||
  ((List.range 64).any fun i => decide (t.zOfs i < -31 ∨ 31 < t.zOfs i)) ||
  ((List.range facets).any fun j => (List.range nbeam).any fun b =>
    decide (t.startOf j b < 0 ∨ (2 ^ 22 - 1 : Int) < t.startOf j b))

end Sys2Proof.Machine
end

