-- ==== Sys2Proof/Machine/StCmd.lean ====
section
/-! DEFINITION. Machine/StCmd.lean: what the commands of the imaging stations and of their decoders do. -/
namespace Sys2Proof.Machine

/-! ## Line start -/

/-- The mark of a page on a station. -/
def State.markOf (s : State) (n : Nat) (p : SPage) : Option (Nat × Nat) := nth none (s.tok p.slot).marks n

/-- A strobe of station n fires, be it ignored or not: it is the top-of-page mark of the pages that name its turn and
division (R258, R325). -/
def State.markSeen (n turn div : Nat) (s : State) : State :=
  let see (p : SPage) : SPage := if (s.markOf n p) = some (turn, div) then { p with marked := true } else p
  s.onLs n fun t => { t with pages := t.pages.map see }

/-- The pages of a station from the one whose top-of-page mark has come and that has not started; none when no page
starts (R258). -/
def State.startsPage (s : State) (n : Nat) : Option (List SPage) :=
  let l := (s.st n).pages.dropWhile fun p => p.sweep.isSome || !p.marked
  if l = [] then none else some l

/-- The page of a line start: the next sweep of the page in progress, or sweep 0 of a page whose mark has come
(R258). -/
def State.nextSweep (n : Nat) (s : State) : State × Bool :=
  match s.startsPage n with
  | some (p :: rest) =>
    (s.onLs n fun t => { t with pages := { p with sweep := some 0 } :: rest, lineStore := [],
                                bandStore := t.bandStore.filter fun b => (p :: rest).any fun q => decide (q.slot = b.slot) },
     true)
  | _ =>
    (s.onLs n fun t => match t.pages with
      | p :: rest => (match p.sweep with
        | some k => { t with pages := { p with sweep := some (k + 1) } :: rest }
        | none => t)
      | [] => t, false)

/-- The first line start of a page clears GATE_HOLD when the station is ready, and takes the armed screens (R269, R321,
R323). -/
def State.pageBegins (n : Nat) (s : State) : State :=
  match (s.st n).page with
  | none => s
  | some p =>
    let s1 := if decide ((s.tok p.slot).state = .committed) && s.stReady n then
        s.onLs n fun t => { t with gateHold := false } else s
    if p.screens && decide ((s1.st n).screenApply = 1) then
      (s1.onLs n fun t => { t with screens := t.shadowScreens, screenApply := 2,
                                   pages := t.pages.map fun p => { p with screens := false } }).raise 85
    else s1

/-- The shadow tables come into force (R279, R282, R285). -/
def State.takeTables (n : Nat) (s : State) : State :=
  (s.onLs n fun t => { t with tbl := s.shadowTables n, tblArmed := false, tblSwapSeen := false,
                              tblStatus := .applied }).raise (stSource n 6)

/-- The armed apply whose point this line start is (R279, R282), unless it was armed in the tick of the strobe
(R283); a run of BEAM_SKEW defers it (R1066). -/
def State.tablesDue (n : Nat) (first : Bool) (s : State) : State :=
  let t := s.st n
  if t.tblArmed && !s.calRuns 2 n && decide (t.tblTick + 1 ≠ s.culm.tick) &&
      (decide (t.tblPoint = 0) || (decide (t.tblPoint = 1) && first) || (decide (t.tblPoint = 2) && t.tblSwapSeen)) then
    s.takeTables n
  else s

/-- The words of a page row, if its contone row has been decoded (R318). -/
def State.rowWords (s : State) (n slot r : Nat) : Option (List Nat) :=
  let t := s.st n
  (t.bandStore.find? fun b => decide (b.slot = slot ∧ b.band = r / 64)).map fun b =>
    halftoneRow t.screens (s.tok slot).hdr t.tbl.pixels r (nth [] b.contone (r / 4 % 16)) (nth [] b.tags (r / 4 % 16))

/-- The words of a row as they can be had now: from the line store, or from the band store through the halftoner. -/
def State.rowNow (s : State) (n slot r : Nat) : Option (List Nat) :=
  (find? r (s.st n).lineStore).or (s.rowWords n slot r)

/-- The line store holds the rows of the sweep that can be had, at most 96 (R221, R318). -/
def State.fillRows (n slot k : Nat) (s : State) : State :=
  let rows := (s.st n).tbl.needs (s.nbeam n) k (4 * (s.tok slot).hdr.height)
  s.onLs n fun t => { t with lineStore := (rows.filterMap fun r => (s.rowNow n slot r).map fun w => (r, w)).take 96 }

/-- The device time, in 1/64 tick, at which clock period x of a line begins whose strobe fired at `start`, in 1/64 tick:
the strobe's sub-tick position is kept (R223, R227, R230). t_LSD is 16 ticks. DEDUCED, log entry 84. -/
def StTables.periodAt (t : StTables) (pllN start x : Nat) : Nat :=
  start + 1024 + (t.acc pllN x * 2048 / (pllN * 2 ^ 24 : Nat)).toNat

/-- The tick in which clock period x begins. -/
def StTables.periodTick (t : StTables) (pllN start x : Nat) : Nat := t.periodAt pllN start x / 64

/-- The position of the running line's strobe, in 1/64 tick (R156, R223). -/
def Station.strobeAt (t : Station) : Nat := 64 * t.lineTick + t.lineStep

/-- The tick in which beam b emits data pixel p of the running line (R232). -/
def State.pixelTick (s : State) (n b p : Nat) : Nat :=
  let t := s.st n
  t.tbl.periodTick (fld (s.lsReg n 0) 0 8) t.strobeAt (p + (t.tbl.startOf t.lineDiv b / 64).toNat)

/-- The row that beam b prints in zone z of sweep k, when it lies in a page of `rows` rows (R259, R260). -/
def State.zoneRow (s : State) (n k b z rows : Nat) : Option Nat :=
  let r := (s.st n).tbl.rowOf (s.nbeam n) k b z
  if 0 ≤ r ∧ r < (rows : Int) then some r.toNat else none

/-- The first pixels of zones of the line that starts, of the beams that need a row there (R261, R264). -/
def State.zonesOf (s : State) (n slot k : Nat) : List (Nat × Nat × Nat) :=
  let t := (s.st n).tbl
  ((List.range t.zones).filter fun z => decide (t.zStart z < t.pixels)).flatMap fun z =>
    ((List.range (s.nbeam n)).filter fun b => (s.zoneRow n k b z (4 * (s.tok slot).hdr.height)).isSome).map fun b =>
      (s.pixelTick n b (t.zStart z), b, z)

/-- The rows of the line that starts (R259, R260, R264): none after a spoil (R336). -/
def State.lineRows (n : Nat) (s : State) : State :=
  match (s.st n).page with
  | none => s
  | some p => match p.sweep with
    | none => s
    | some k =>
      if (s.tok p.slot).spoilMark then s.onLs n fun t => { t with quiet := some 0 }
      else
        let s1 := s.fillRows n p.slot k
        s1.onLs n fun t => { t with zoneDue := s1.zonesOf n p.slot k }

/-- Missing rows darken their beams from the zones' first pixels on, and are reported; the station applies gate hold
(R255, R264, R336). -/
def State.missRows (n : Nat) (gone : List (Nat × Nat)) (s : State) : State :=
  if gone = [] then s
  else
    let s1 := s.onLs n fun t =>
      { t with dark := t.dark ++ gone.map fun x => (x.1, t.tbl.zStart x.2),
               cntLineFlt := satAdd 0xFFFFFFFF t.cntLineFlt gone.length }
    ((s1.raise (stSource n 5)).raise 83).gateHoldOn n

/-- The first pixels of zones that are due by a tick: each beam's row is in the line store, or is missing (R264). The
token that misses a row is named, for its spoil. -/
def State.judgeStation (n tick : Nat) (s : State) : State × List Nat :=
  let t := s.st n
  match t.page with
  | none => (s.onLs n fun t => { t with zoneDue := [] }, [])
  | some p =>
    let due := t.zoneDue.filter fun e => decide (e.1 ≤ tick)
    if due = [] then (s, [])
    else
      let row (e : Nat × Nat × Nat) : Nat := ((s.st n).tbl.rowOf (s.nbeam n) (p.sweep.getD 0) e.2.1 e.2.2).toNat
      let s1 := s.onLs n fun t =>
        { t with zoneDue := t.zoneDue.filter fun e => !decide (e.1 ≤ tick),
                 lineStore := due.foldl (fun l e => if (find? (row e) l).isSome then l else
                   match s.rowWords n p.slot (row e) with
                   | some w => if l.length < 96 then l ++ [(row e, w)] else l
                   | none => l) t.lineStore }
      if (s.tok p.slot).spoilMark then (s1, [])
      else
        let beams := t.dark.map (·.1)
        let gone := (due.filter fun e =>
          !beams.contains e.2.1 && (find? (row e) (s1.st n).lineStore).isNone).map (·.2)
        (s1.missRows n gone, if gone = [] then [] else [p.slot])

/-- The first pixels of zones that are due by a tick on some stations: the tokens that miss a row are spoiled together
(R264, R317, R336). -/
def State.judgeZones (ns : List Nat) (tick : Nat) (s : State) : State :=
  let r := ns.foldl (fun (a : State × List Nat) n => let b := a.1.judgeStation n tick; (b.1, a.2 ++ b.2)) (s, [])
  r.1.spoilMany r.2 17

/-- A line-start strobe of station n that fires at a step of the present tick, in a turn and division of its scanner
axis (R222 to R229, R258). The tick has been counted already. -/
def State.lineStart (n turn div step : Nat) (s0 : State) : State :=
  if !s0.stEnabled n then s0
  else
    let s := s0.markSeen n turn div
    if (s.st n).lineOn then
      (s.onLs n fun t => { t with cntLineFlt := satInc 0xFFFFFFFF t.cntLineFlt }).raise (stSource n 5)
    else
      let w := s.nextSweep n
      let s1 := if w.2 then w.1.pageBegins n else w.1
      let s2 := s1.tablesDue n w.2
      let t := s2.st n
      let pll := fld (s2.lsReg n 0) 0 8
      let c := t.tbl.clamped pll (t.tbl.periods div (s2.nbeam n))
      let s3 := s2.onLs n fun t =>
        { t with lineOn := true, facet := div % 16, lineDiv := div, lineTick := s2.culm.tick - 1,
                 lineStep := step, dark := [], zoneDue := [], quiet := none,
                  cntLines := satInc 0xFFFFFFFF t.cntLines, cntClamp := satAdd 0xFFFFFFFF t.cntClamp c }
      (if c = 0 then s3 else s3.raise (stSource n 7)).lineRows n

/-- The station has passed a frame: a ring frame is freed, a spool frame loses a pin (R420, R421). -/
def State.passFrame (k p f : Nat) (s : State) : State :=
  match s.frameFor k p f 0 with
  | some x => s.freeFrame x.1
  | none => match s.frameFor k p f 3 with
    | some x => if 0 < x.2.pins then s.repin x.1 (x.2.pins - 1) else s
    | none => s

/-- Pass the frames, from `f` on, whose last band is one of the first j. -/
def State.passFrames (k p bb nframes nb j : Nat) : Nat → Nat → State → State × Nat
  | 0, f, s => (s, f)
  | fuel + 1, f, s =>
    if f < nframes ∧ min (nb - 1) ((65536 * (f + 1) - 1) / bb) < j then
      State.passFrames k p bb nframes nb j fuel (f + 1) (s.passFrame k p f)
    else (s, f)

/-- Station n has passed the first j bands of page p (R420, R421). -/
def State.passBands (n j : Nat) (p : SPage) (s : State) : State :=
  let q := fld (s.lsReg n 0) 26 2
  let h := (s.tok p.slot).hdr
  let w := s.passFrames p.slot q (h.bb q) (h.frames q) h.nb j (h.frames q) p.freed
  w.1.onLs n fun t => { t with pages := t.pages.map fun x => if x.slot = p.slot then { x with freed := w.2 } else x }

/-- How many bands of its page station n has passed once sweep k has ended: no row of a later sweep lies in them. -/
def State.passed (s : State) (n k : Nat) : Nat := ((s.st n).tbl.lowRow (s.nbeam n) (k + 1) / 64).toNat

/-- LINE_END: the pixel clock stops after the line's count of periods, all its zones being due by then, and the
bands above the next sweep are passed; a page whose last row has been printed leaves the station, and its token is
IMAGED with its last station (R224, R335, R420, R421). -/
def lineEnd (n : Nat) (s : State) : State := s.inDom .img fun s =>
  if !(s.st n).lineOn then s
  else
    let last := (s.st n).zoneDue.foldl (fun m e => max m e.1) 0
    let s1 := (if (s.st n).zoneDue = [] then s else s.judgeZones [n] last).onLs n fun t => { t with lineOn := false }
    match (s1.st n).page with
    | none => s1
    | some p =>
      let k := p.sweep.getD 0
      let h := (s1.tok p.slot).hdr
      if !(s1.st n).tbl.pageOver (s1.nbeam n) k (4 * h.height) then s1.passBands n (s1.passed n k) p
      else
        let s2 := ((s1.passBands n h.nb p).onLs n fun t =>
          { t with pages := t.pages.drop 1, lineStore := [], bandStore := t.bandStore.filter fun b => decide (b.slot ≠ p.slot) }).onTok
          p.slot fun t => { t with imagedBy := t.imagedBy ||| BitVec.ofNat 4 (2 ^ n) }
        let tk := s2.tok p.slot
        let all := tk.hdr.list.all fun q => match s2.planeStation q with
          | some m => tk.imagedBy.getLsbD m
          | none => false
        if all && decide (tk.state = .committed) && !tk.spoilMark then s2.move p.slot .imaged 0 else s2

/-! ## What a station emits -/

/-- Beam b of station n lights for a data pixel when its pulse is high (R237). -/
def State.beamLights (s : State) (n b : Nat) : Bool :=
  s.light n && decide (b < s.nbeam n) && (nth {} (s.st n).beams b).gate && !(s.st n).gateHold

/-- The pulse words of beam b in the running line: code 0 outside the page (R260), from a missing row on (R264), and
from the tick of a spoil on (R336). -/
def State.beamWords (s : State) (n b : Nat) : List Nat :=
  let t := s.st n
  let pix := List.range t.tbl.pixels
  match t.page with
  | none => pix.map fun _ => 0
  | some p =>
    let k := p.sweep.getD 0
    let rows := 4 * (s.tok p.slot).hdr.height
    let zoneAt (x : Nat) : Nat := ((List.range t.tbl.zones).filter fun z => decide (t.tbl.zStart z ≤ x)).getLastD 0
    let dark (x : Nat) : Bool := t.dark.any fun e => decide (e.1 = b ∧ e.2 ≤ x)
    let hushed (x : Nat) : Bool := match t.quiet with
      | none => false
      | some q => decide (q ≤ s.pixelTick n b x)
    pix.map fun x => match s.zoneRow n k b (zoneAt x) rows with
      | none => 0
      | some r => if dark x || hushed x then 0 else nth 0 (sget [] r t.lineStore) x

/-- The pulses of beam b in the running line, as taps from its start (R234 to R237). -/
def State.emitted (s : State) (n b : Nat) : List (Int × Int) :=
  let t := s.st n
  if t.lineOn && s.beamLights n b then
    t.tbl.beamPulses (fld (s.lsReg n 0) 0 8) t.lineDiv b (s.beamWords n b)
  else []

/-- `LSn_STATUS.BD_SEARCH` (R242). -/
def State.bdSearch (s : State) (n : Nat) : Bool :=
  s.stEnabled n && decide ((s.culm.ax (s.scanAxis n)).st = .acquire ∨ (s.culm.ax (s.scanAxis n)).st = .lost)

/-- The beam-detect window of R242 or R243 is open, and light is permitted (R244). -/
def State.bdLit (s : State) (n : Nat) : Bool :=
  s.light n && (s.bdSearch n || (decide ((s.culm.ax (s.scanAxis n)).st = .locked) && (s.st n).bdWindow))

/-- APC may run on a station (R251). -/
def State.apcRuns (s : State) (n : Nat) : Bool :=
  decide ((s.culm.ax (s.scanAxis n)).st = .locked) && s.apcEn n && s.light n

/-- The beam that the APC sequence lights, `t20` units of 20 ns after its start or its last sample: the next one to be
sampled for LIT units, after the gap that follows a sample (R246). -/
def State.apcBeam (s : State) (n t20 : Nat) : Option Nat :=
  let w := s.lsReg n 0x28
  let from_ := if (s.st n).apcGap then fld w 8 8 else 0
  match (s.st n).apcLeft with
  | [] => none
  | b :: _ => if s.apcRuns n && decide (from_ ≤ t20 ∧ t20 < from_ + fld w 16 8) then some b else none

/-- Beam b of station n is lit: by data at a tap of the running line (R237), by beam detect (R244), or by the APC
sequence at `t20` (R246); a beam beyond NBEAM is dark (R216). -/
def State.beamLit (s : State) (n b : Nat) (tap : Int) (t20 : Nat) : Bool :=
  s.light n && decide (b < s.nbeam n) &&
    (((s.emitted n b).any fun p => decide (p.1 ≤ tap ∧ tap < p.2)) ||
     (s.bdLit n && decide (fld (s.lsReg n 0x20) 24 4 = b)) || decide (s.apcBeam n t20 = some b))

/-- The current of beam b in nA: lit, permitted and unlit with BIAS_HOLD, or else less than 50 µA, taken as none
(R216, R238 to R240). -/
def State.beamCurrent (s : State) (n b : Nat) (tap : Int) (t20 : Nat) : Nat :=
  let bias := fld (s.lsReg n (0x140 + 4 * b)) 0 12 * 4000000 / 4096
  if s.beamLit n b tap t20 then bias + (nth {} (s.st n).beams b).mod * 16000000 / 4096
  else if s.light n && decide (b < s.nbeam n) && (s.st n).biasHold then bias else 0

/-! ## Decoding -/

/-- Frame f of plane p of token k is resident: pinned in the station ring or the spool (R307). -/
def State.resident (s : State) (k p f : Nat) : Bool :=
  match (s.frameFor k p f 0).or (s.frameFor k p f 3) with
  | some x => decide (x.2.st = .held) && decide (0 < x.2.pins)
  | none => false

/-- The bytes of plane p of token k from `o`, of which n belong to one block, meet an uncorrectable error (R436). -/
def State.blockBad (s : State) (k p o n : Nat) : Bool :=
  (List.range n).any fun i =>
    let a := o + i
    match (s.frameFor k p (a / 65536) 0).or (s.frameFor k p (a / 65536) 3) with
    | some x => s.shf.errs.contains (x.1 * 65536 + a % 65536)
    | none => false

/-- The malformed blocks of a band are counted and named (R383). -/
def State.countMalformed (n k p j : Nat) (cols : List Nat) (s : State) : State :=
  match cols.getLast? with
  | none => s
  | some c =>
    ({ s with husk := { s.husk with decs := modAt s.husk.decs n fun d =>
        { d with malf := satAdd 0xFFFFFFFF d.malf cols.length, malfToken := (s.tok k).num,
                 malfPos := placeB true 31 ||| place p 28 2 ||| place j 16 11 ||| place c 0 9 } } }).raise 88

/-- A station still needs a band: some row of its page's next sweep, or of a later one, lies in it, or page `d`, the
next to be decoded, refers to it (R368, R380). -/
def State.bandNeeded (s : State) (n : Nat) (p d : SPage) (b : DBand) : Bool :=
  let t := s.st n
  if b.slot = d.slot ∧ b.band + 1 = d.bands then true
  else decide (p.slot ≠ b.slot) || decide (t.tbl.lowRow (s.nbeam n) (match p.sweep with
    | some k => k + 1
    | none => 0) < 64 * ((b.band : Int) + 1))

/-- Decode the next band of page p on station n, all of whose frames are resident (R380 to R384). -/
def State.decodeBand (n : Nat) (p : SPage) (kept : List DBand) (s : State) : State :=
  let k := p.slot
  let q := fld (s.lsReg n 0) 26 2
  let h := (s.tok k).hdr
  let j := p.bands
  let bb := h.bb q
  let above := match kept.find? fun b => decide (b.slot = k ∧ b.band + 1 = j) with
    | some b => rowsToBlocks b.contone h.k
    | none => []
  let d := decodeBlocks (h.q q) above h.k (fun c => s.blockBad k q (j * bb + c * h.q q) (h.q q)) h.k
    (slice (nth {} (s.tok k).planes q).coded (j * bb) bb) []
  let band : DBand := { slot := k, band := j, contone := (List.range 16).map (bandRow d.1), tags := (List.range 16).map (bandTagRow d.1) }
  let s1 := s.onLs n fun t =>
    { t with bandStore := kept ++ [band], pages := t.pages.map fun x => if x.slot = k then { x with bands := j + 1 } else x }
  ({ s1 with husk := { s1.husk with decs := modAt s1.husk.decs n fun d =>
      { d with blocks := satAdd 0xFFFFFFFF d.blocks h.k } } }).countMalformed n k q j d.2

/-- The page whose next band the decoder of station n can decode: the first that it has not decoded whole, of which
every frame that holds the band is resident, while the band store has room for it beside the bands that are kept
(R380). -/
def State.decodeNext (s : State) (n : Nat) : Option (SPage × List DBand) :=
  if !(s.on .pix && s.on .img) then none
  else
    let t := s.st n
    let q := fld (s.lsReg n 0) 26 2
    ((t.pages.take 2).find? fun p => decide (p.bands < (s.tok p.slot).hdr.nb)).bind fun p =>
      let h := (s.tok p.slot).hdr
      let bb := h.bb q
      let first := p.bands * bb / 65536
      let last := ((p.bands + 1) * bb - 1) / 65536
      let ready := (List.range (last - first + 1)).all fun i => s.resident p.slot q (first + i)
      let kept := t.bandStore.filter fun b => s.bandNeeded n (t.pages.headD p) p b
      if !h.has q || (s.tok p.slot).spoilMark || !ready || decide (3 ≤ kept.length) then none else some (p, kept)

/-- BAND_DECODE: the decoder of station n decodes the band that it can (R380). -/
def bandDecode (n : Nat) (s : State) : State :=
  match s.decodeNext n with
  | some (p, kept) => s.decodeBand n p kept
  | none => s

/-! ## Beam detect and APC -/

/-- The gates of station n whose beams are in a mask open or close (R161, R241). -/
def State.beamGates (n : Nat) (mask : Nat) (opens : Bool) (s : State) : State :=
  s.onLs n fun t => { t with beams := (List.range 16).map fun b =>
    let x := nth {} t.beams b
    if mask / 2 ^ b % 2 = 1 then { x with gate := opens } else x }

/-- The present APC sequence of a station is cut: a sweep that has not measured its beams is short (R250). -/
def State.apcCut (n : Nat) (s : State) : State :=
  s.onLs n fun t =>
    if t.apcLeft = [] then t
    else { t with apcLeft := [], apcShort := true,
                  cntApcShort := if t.apcShort then t.cntApcShort else satInc 0xFFFFFFFF t.cntApcShort }

/-- A sequence whose station may no longer run APC is cut (R251). -/
def State.apcCuts (s : State) : State :=
  (List.range 4).foldl (fun t n => if (t.st n).apcLeft ≠ [] && !t.apcRuns n then t.apcCut n else t) s

/-- APC_SEQUENCE_START: the sequence of a sweep begins; `fits` beams can be measured before the beam-detect window opens
(R245 to R251). Beams that the last sequence has left are not measured any more. DEDUCED, log entry 84. A sweep
measures each beam at most once. DESIGN CHOICE, log entry 111. -/
def apcSequenceStart (n fits : Nat) (s0 : State) : State :=
  if !s0.apcRuns n || (s0.st n).lineOn || (s0.st n).beams.any (fun b => b.gate) then s0
  else
    let s := s0.apcCut n
    let nb := s.nbeam n
    let per := fld (s.lsReg n 0x28) 24 5
    let take := min (min per nb) fits
    s.onLs n fun x =>
      { x with apcLeft := (List.range take).map fun i => (x.apcNext + i) % nb, apcGap := false,
               apcShort := decide (take < per),
               cntApcShort := if take < per then satInc 0xFFFFFFFF x.cntApcShort else x.cntApcShort }

/-- APC_SAMPLE: the lit interval of the next beam ends with the conversions of its last 100 ns (R247, R248, R252). Their
mean is rounded down. DESIGN CHOICE, log entry 110. -/
def apcSample (n : Nat) (codes : List Nat) (s : State) : State :=
  match (s.st n).apcLeft with
  | [] => s
  | b :: rest =>
    if !s.apcRuns n then s.apcCut n
    else
      let x := codes.sum / max 1 codes.length % 4096
      let ok := sampleOk (s.apcTgt n b) (s.apcTol n) (some x)
      let s1 := s.onLs n fun t =>
        { t with apcLeft := rest, apcGap := true, apcNext := (b + 1) % s.nbeam n, beams := modAt t.beams b fun y =>
            { y with last := x, sample0 := some x, sample1 := y.sample0, age := 0, satSince := y.satSince && !ok } }
      s1.nextInstant.trigger (16 * fld (s1.lsReg n 0x2C) 24 4 + b) x false false

/-- BD_WINDOW: the beam-detect window opens or closes around a predicted division boundary (R243). -/
def bdWindow (n : Nat) (opens : Bool) (s : State) : State :=
  if s.stEnabled n then
    s.onLs n fun t => { t with bdWindow := opens && decide ((s.culm.ax (s.scanAxis n)).st = .locked) }
  else s

/-- BEAM_COMPLIANCE: a lit beam of station n reaches its compliance limit (R254, R255, R336). -/
def beamCompliance (n : Nat) (s : State) : State :=
  if s.stEnabled n then ((s.raise (stSource n 3)).spoilFront n 16).gateHoldOn n else s

/-! ## The interlock -/

/-- The latch of station n, on the BCD die, is set while ANA is on; the station in IMG clears APC_VALID, raises its
source and holds its gates (R270, R273, R336). -/
def State.latchHold (n : Nat) (s : State) : State :=
  if !s.on .ana then s
  else
    let s1 := s.onLs n fun t => { t with ilkLatch := true }
    if !s.on .img then s1
    else
      let s2 := s1.onLs n fun t =>
        { t with gateHold := true, beams := t.beams.map fun b => { b with sample0 := none, sample1 := none } }
      s2.raise (stSource n 0)

/-- The latches of some stations are set in one cycle, and the pages in flight on them are spoiled together (R273,
R317). -/
def State.latchStations (ns : List Nat) (s : State) : State :=
  let s1 := ns.foldl (fun t n => t.latchHold n) s
  if s.on .ana && s.on .img then s1.spoilMany (ns.flatMap fun n => (s.st n).slots) 16 else s1

/-- ANA is on: the BCD die's latches follow the lines that are deasserted now (R270). -/
def State.latchesUp (s : State) : State :=
  s.latchStations ((List.range 4).filter fun n => (s.st n).ilkLocal || s.sys.laserOff)

/-- ILK_DEASSERT: LSn_EN_N of station `line`, or LASER_EN_N (4), is deasserted; a `short` deassertion of less than
t_ILKW may leave the latch clear (R270, R271). DESIGN CHOICE, log entry 39. The BCD die darkens the beams and reports
the inputs (R34, R35). -/
def ilkDeassert (line : Nat) (short : Bool) (s : State) : State :=
  let s1 := if line = 4 then { s with sys := { s.sys with laserOff := true } }
    else s.onLs line fun t => { t with ilkLocal := true }
  let s2 := if short then s1.used else s1
  if short && decide (s.fresh % 2 = 0) then s2
  else s2.latchStations (if line = 4 then List.range 4 else [line])

/-- INTERLOCK_REASSERT: the input returns (R272, R290). -/
def interlockReassert (line : Nat) (s : State) : State :=
  if line = 4 then { s with sys := { s.sys with laserOff := false } }
  else s.onLs line fun t => { t with ilkLocal := false }

/-! ## `LSn_CTRL` -/

/-- The checks of R219. DEDUCED, log entry 35. -/
def State.stationFits (s : State) (n : Nat) : Bool :=
  let a := s.culm.ax (s.scanAxis n)
  let f := fld (s.lsReg n 0) 16 4
  decide (a.kind = 0) && decide (a.source = 1) && decide (a.pin = n) && decide (a.divs = f) && decide (4 ≤ f ∧ f ≤ 12)

/-- A station runs its checks, and is enabled when they pass: its counters restart unless it was enabled already, and a
station that is present starts its polygon drive (R213, R219, R276, R300). One that fails them is disabled, an enabled
one too. DESIGN CHOICE, log entry 109. -/
def State.checkStation (fresh : Bool) (n : Nat) (s : State) : State :=
  if s.stationFits n then
    let s1 := s.onLs n fun t =>
      if fresh then { t with disable := false, cntLines := 0, cntLineFlt := 0, cntApcShort := 0, cntClamp := 0 }
      else { t with disable := false }
    if bitOf (s1.lsReg n 0) 31 then (s1.unitsOfStation n).foldl (fun t u => t.startUnit u) s1 else s1
  else (s.onLs n fun t => { t with disable := true, cfgErr := true }).raise (stSource n 7)

/-- A station that is present becomes enabled, or its checks fail (R219, R300). -/
def State.enterEnabled (n : Nat) (s : State) : State := s.checkStation true n

/-- A write of 0 to DISABLE runs the checks, whatever DISABLE was (R276, R693). -/
def State.enableStation (n : Nat) (s : State) : State :=
  (s.onLs n fun t => { t with bootDisabled := false }).checkStation (!s.stEnabled n && bitOf (s.lsReg n 0) 31) n

/-- A write of 1 to DISABLE (R275, R1063), also to a station that is disabled already. -/
def State.disableStation (n : Nat) (s : State) : State :=
  let s1 := (s.apcCut n).onLs n fun t => { t with disable := true, gateHold := true }
  let s2 := (s1.unitsOfStation n).foldl (fun t u => t.stopUnit u) s1
  (s2.spoilStation n 16).calAbort fun id i => decide ((id = 2 ∨ id = 3) ∧ i = n)

/-- `LSn_CTRL` as read (R289). -/
def State.lsCtrl (s : State) (n : Nat) : Word := placeB (s.st n).biasHold 1 ||| placeB (s.st n).disable 0

/-- A write of `LSn_CTRL` (R274 to R276, R289): BIAS_HOLD, DISABLE, and REARM. -/
def lsCtrlStore (n : Nat) (v : Word) (s : State) : Abort × State :=
  let down := (s.st n).ilkLocal || s.sys.laserOff
  if bitOf v 31 && down then (.stateConflict, s)
  else
    let s1 := s.onLs n fun t => { t with biasHold := bitOf v 1, ilkLatch := t.ilkLatch && !bitOf v 31 }
    (.none, if bitOf v 0 then s1.disableStation n else s1.enableStation n)

/-- A value of `LSn_CTRL` without a REARM that has no effect: the other fields are still written (R274). -/
def State.ctrlHeard (s : State) (n : Nat) (v : Word) : Word :=
  if (s.st n).ilkLocal || s.sys.laserOff then putFld v 31 1 0 else v

/-- A BAR0 write of `LSn_CTRL` (R274 to R276). -/
def lsCtrlWrite (n : Nat) (v : Word) (s : State) : State :=
  s.bar0 (lsBase n + 4) .mgmt fun s => (lsCtrlStore n (s.ctrlHeard n v) s).2

/-- REARM: a write of 1 to `LSn_CTRL.REARM`. -/
def rearm (n : Nat) (s : State) : State := lsCtrlWrite n (s.lsCtrl n ||| placeB true 31) s

/-- STATION_DISABLE: a write of 1 to `LSn_CTRL.DISABLE`. -/
def stationDisable (n : Nat) (s : State) : State := lsCtrlWrite n (s.lsCtrl n ||| 1) s

/-- STATION_ENABLE: a write of 0 to `LSn_CTRL.DISABLE`. -/
def stationEnable (n : Nat) (s : State) : State := lsCtrlWrite n (putFld (s.lsCtrl n) 0 1 0) s

/-- READINESS_LOSS: POLY_LOCKED falls (0), the PLL loses lock (1), or rotor loss is reported (2) (R266, R268). -/
def readinessLoss (n cause : Nat) (s : State) : State :=
  let t := s.st n
  if !s.on .img then s
  else if cause = 0 then
    if t.polyWas && !s.polyLocked n then (s.onLs n fun t => { t with polyWas := false }).readinessLost n (stSource n 1) else s
  else if cause = 1 then
    if t.pllLocked then (s.onLs n fun t => { t with pllLocked := false }).readinessLost n (stSource n 4) else s
  else (s.onLs n fun t => { t with polyWas := false }).readinessLost n (stSource n 1)

/-- PLL_LOCK: the PLL of station n reports lock (R266). -/
def pllLock (n : Nat) (s : State) : State := s.inDom .img fun s => s.onLs n fun t => { t with pllLocked := true }

/-! ## Tables and screens -/

/-- A write of `LSn_TBL` (R279 to R284, R297): WHEN is stored, but by a GO while an apply is armed, which changes
nothing. The contents written are validated here (R303). -/
def tblStore (n : Nat) (v : Word) (s : State) : Abort × State :=
  let t := s.st n
  let whn := fld v 0 2
  let s1 := s.onLs n fun t => { t with tblWhen := whn }
  if !bitOf v 31 then (.none, s1)
  else if whn = 3 then
    (.none, if t.tblArmed then s1.onLs n fun t => { t with tblArmed := false, tblStatus := .cancelled } else s1)
  else if t.tblArmed then (.stateConflict, s.onLs n fun t => { t with tblStatus := .stateConflict })
  else if tablesBad (s.shadowTables n) (fld (s.lsReg n 0) 0 8) (fld (s.lsReg n 0) 16 4) (s.nbeam n) then
    (.range, s1.onLs n fun t => { t with tblStatus := .range })
  else if !s.stEnabled n then (.none, s1.takeTables n)
  else (.none, s1.onLs n fun t =>
    { t with tblArmed := true, tblPoint := whn, tblTick := s.culm.tick, tblSwapSeen := false, tblStatus := .armed })

/-- TABLE_GO: `LSn_TBL` GO with WHEN 0, 1 or 2. -/
def tableGo (n whn : Nat) (s : State) : State :=
  s.bar0 (lsBase n + 0x30) .shadow fun s => (tblStore n (placeB true 31 ||| place (whn % 3) 0 2) s).2

/-- TABLE_CANCEL: `LSn_TBL` GO with WHEN 3. -/
def tableCancel (n : Nat) (s : State) : State :=
  s.bar0 (lsBase n + 0x30) .shadow fun s => (tblStore n (placeB true 31 ||| 3) s).2

/-- The rules of R320, R322 and R353 on a write of OD 282x:00. -/
def screenStore (n i : Nat) (bs : List Byte) (s : State) : Abort × State :=
  if !s.on .img || !s.mayWrite .shadow then (.stateConflict, s)
  else if bs = [] then (.none, s)
  else match screenOf bs with
    | (a, none) => (a, s)
    | (_, some sc) =>
      if (s.st n).screenApply = 1 then (.stateConflict, s)
      else (.none, s.onLs n fun t => { t with shadowScreens := modAt t.shadowScreens i fun _ => sc })

/-- SCREEN_WRITE: a write of screen set i of station n. -/
def screenWrite (n i : Nat) (bs : List Byte) (s : State) : State := s.dict (screenStore n i bs)

/-- The rules of R321, R322 and R353 on a write of OD 281n:01. -/
def screenCmdStore (n v : Nat) (s : State) : Abort × State :=
  if !s.on .img || !s.mayWrite .shadow then (.stateConflict, s)
  else match v with
    | 1 => if (s.st n).screenApply = 1 then (.stateConflict, s) else (.none, s.onLs n fun t => { t with screenApply := 1 })
    | 2 => (.none, if (s.st n).screenApply = 1 then s.onLs n fun t =>
        { t with screenApply := 3, pages := t.pages.map fun p => { p with screens := false } } else s)
    | _ => (.range, s)

/-- SCREEN_ARM and SCREEN_CANCEL. -/
def screenArm (n : Nat) (s : State) : State := s.dict (screenCmdStore n 1)
def screenCancel (n : Nat) (s : State) : State := s.dict (screenCmdStore n 2)

end Sys2Proof.Machine
end

