-- ==== Sys2Proof/Machine/PageCmd.lean ====
section
/-! DEFINITION. Machine/PageCmd.lean: tokens between acceptance and commitment: acceptance, arming, the commitment gate
(R314, R325 to R334, R418, R419), and the snapshots of their counts. -/
namespace Sys2Proof.Machine

/-! ## Acceptance and arming -/

/-- A token and its partner. -/
def State.sides (s : State) (k : Nat) : List Nat := k :: (s.tok k).partner.toList

/-- A token may be accepted: SUBMITTED, with every plane in the spool pool, and its partner there if it has one (R314,
R315). -/
def State.acceptable (s : State) (k : Nat) : Bool :=
  let t := s.tok k
  decide (t.state = .submitted) && !t.reading && (t.hdr.list.all fun p => (nth {} t.planes p).ready) &&
    !(s.shf.allocs.any (AllocWait.serves k none)) &&
    (decide (t.hdr.pair = 0) || t.partner.isSome)

/-- TOKEN_ACCEPT. DEDUCED, log entry 77. -/
def tokenAccept (k : Nat) (s : State) : State :=
  if s.on .pix && s.served .engine && (s.sides k).all s.acceptable then
    (s.sides k).foldl (fun t j => t.move j .accepted 0) s
  else s

/-- Plane p of token k has frame f in the spool pool. -/
def State.spooled (s : State) (k p f : Nat) : Bool :=
  match s.frameFor k p f 3 with
  | some x => decide (x.2.st = .held)
  | none => false

/-- The frames of a plane that a plan covers, with repeats. -/
def planFrames (plan : List PlanRun) (p : Nat) : List Nat :=
  (plan.filter fun r => decide (r.plane = p)).flatMap fun r => (List.range r.frames).map fun i => r.first + i

/-- The validation of a read plan (R329). DEDUCED, log entry 38. -/
def State.planJudge (s : State) (k : Nat) (plan : List PlanRun) : Abort :=
  let h := (s.tok k).hdr
  if plan.any fun r => decide (0 < r.frames) && (decide (h.frames r.plane < r.first + r.frames) || !h.has r.plane ||
      decide (s.capacity < r.lba + 16 * r.frames)) then .length
  else if h.list.any fun p =>
      let l := planFrames plan p
      !decide l.Nodup || (List.range (h.frames p)).any fun f => !s.spooled k p f && !l.contains f then .range
  else .none

/-- Pin the spool frames of a token and take a ring credit for every other frame of its planes; none when the
credits are refused (R417, R418). -/
def State.pinPlanes (k : Nat) (s : State) : Option State :=
  let h := (s.tok k).hdr
  let held := (s.framesOf k 3).filter fun f => decide (f.2.st = .held)
  let others := (h.list.map fun p => ((List.range (h.frames p)).filter fun f => !s.spooled k p f).length).sum
  let s1 := held.foldl (fun t f => t.repin f.1 (f.2.pins + 1)) s
  (s1.credit 0 others).map fun t => t.onTok k fun x => { x with ringLeft := others }

/-- A token may be armed, as far as its state, its DIF frames and its pin counts let it (R314, R418, R419). -/
def State.mayArm (s : State) (k : Nat) : Bool :=
  decide ((s.tok k).state = .accepted) && !(s.framesOf k 3).any fun f => decide (f.2.st = .dif ∨ 15 ≤ f.2.pins)

/-- Arm a token with its plan (R329, R418). -/
def State.armOne (k : Nat) (plan : List PlanRun) (s : State) : Option State :=
  (s.pinPlanes k).map fun t =>
    (t.onTok k fun x => { x with plan := plan, planDone := 0, planCancelled := false }).move k .armed 0

/-- The spool frames of a token that are still in TRANSIT have arrived before it is armed (R402, R418). -/
def State.spoolSettles (k : Nat) (s : State) : State :=
  (s.framesOf k 3).foldl (fun t f => if f.2.st = .toPool then t.arrive f.1 else t) s

/-- TOKEN_ARM: the plans of a token and of its partner; a pair arms together or not at all (R315, R329, R418, R419),
and a refused request for ring credits raises source 96 (R457). DEDUCED, log entry 77. -/
def tokenArm (k : Nat) (plan back : List PlanRun) (s0 : State) : State :=
  if !(s0.on .pix && s0.on .mem && s0.served .engine) then s0
  else
    let s := (s0.sides k).foldl (fun t j => t.spoolSettles j) s0
    let l := (s.sides k).zip [plan, back]
    match (l.map fun x => s.planJudge x.1 x.2).find? fun a => decide (a ≠ .none) with
    | some a => s.replied a
    | none =>
      if !l.all fun x => s.mayArm x.1 then s.replied .stateConflict
      else match l.foldl (fun (t : Option State) x => t.bind fun u => u.armOne x.1 x.2) (some s) with
        | some t => t.replied .none
        | none => (s.raise 96).replied .stateConflict

/-- Take a token back from ARMED (R315, R420, R421). -/
def State.disarmOne (k : Nat) (s : State) : State :=
  if (s.tok k).state ≠ .armed then s
  else (((s.unpinSpool k).returnRing k).onTok k fun x => { x with plan := [] }).move k .accepted 0

/-- TOKEN_DISARM: refused with STATE_CONFLICT while the gate evaluates the token (R315, R334). -/
def tokenDisarm (k : Nat) (s : State) : State :=
  if !(s.on .pix && s.served .engine) then s
  else if s.underGate k || decide ((s.tok k).state ≠ .armed) then s.replied .stateConflict
  else ((s.sides k).foldl (fun t j => t.disarmOne j) s).replied .none

/-- TOKEN_REJECT_POLICY (R314, R316). -/
def tokenRejectPolicy (k : Nat) (s : State) : State :=
  if !(s.on .pix && s.served .engine) then s
  else if s.underGate k || !(s.tok k).waits then s.replied .stateConflict
  else (s.reject k 8).replied .none

/-! ## The gate -/

/-- PICK_REQUEST: firmware names the token and the marks of each side, per station (R325, R334). OUTCOME and FAILED keep
their values until the evaluation ends (R347). DESIGN CHOICE, log entry 116. -/
def pickRequest (k : Nat) (front back : List (Option (Nat × Nat))) (s : State) : State :=
  if !(s.on .pix && s.served .engine) then s
  else if s.pgf.gate.isSome then s.onPgf fun g => { g with gateSlot := k, gateOutcome := 3 }
  else s.onPgf fun g => { g with gateSlot := k, gate := some { slot := k, drain := s.sys.drain, front := front, back := back } }

/-- The predicted time of a mark from now, in ns, at the current velocity without α (R327). -/
def State.markIn (s : State) (n : Nat) (mark : Nat × Nat) : Option Rat :=
  let a := s.culm.ax (s.scanAxis n)
  if a.omega ≤ 0 then none
  else some ((diff96 ((mark.1 % 2 ^ 32 * 2 ^ 32 + divBase a.divs mark.2) * 2 ^ 32) a.theta : Rat) / a.omega * (5 / 4))

/-- T_sw of a station, in ns (R327). -/
def State.sweepNs (s : State) (n : Nat) : Rat :=
  let a := s.culm.ax (s.scanAxis n)
  (5 / 4 : Rat) * 2 ^ 64 / (a.divs * a.omega) * (1 - (fld (s.lsReg n 0x24) 0 8 : Rat) / 100000)

/-- The deadline of frame f of plane p of a token whose mark is `top` ns away, from now in ns (R328). -/
def State.deadline (s : State) (n : Nat) (top : Rat) (bb f : Nat) : Rat :=
  let t := (s.st n).tbl
  let j := 65536 * f / bb
  let k : Int := (t.sweepOfs : Int) + max 0 ((64 * (j : Int) - 31).fdiv (s.nbeam n) - 1)
  top + k * s.sweepNs n - (fld (s.reg 0x300004) 0 8 * 100000 : Nat)

/-- The seek allowance between two places, in ns (R330). -/
def State.seekNs (s : State) (a b : Nat × Nat × Nat) : Rat :=
  ((s.skOf (((a.2.1 : Int) - (b.2.1 : Int)).natAbs) (decide (a.1 ≠ b.1)) * 1000 : Nat) : Rat)

/-- One run as the gate charges it (R330, R331): its plane and first frame, what was charged before it, its seek and
revolution, and its charge A_i, all in ns. -/
structure Charge where
  plane : Nat
  first : Nat
  frames : Nat
  before : Rat
  lead : Rat
  total : Rat

/-- The place where a run of `n` sectors from an LBA ends: behind its last sector, on that sector's head (R330, R472,
R473). -/
def State.endAt (s : State) (lba n : Nat) : Nat × Nat × Nat :=
  let a := lba + n - 1
  let b := (a % s.sectPerHead + 1) * 38912
  (a / s.sectPerHead, b / s.nRev, b % s.nRev * 2 ^ 32 / s.nRev)

/-- The charges of the runs of a plan, from a place of the heads and a sum charged so far (R330). -/
def State.chargeRuns (s : State) : List PlanRun → Nat × Nat × Nat → Rat → List Charge × (Nat × Nat × Nat) × Rat
  | [], pos, sum => ([], pos, sum)
  | r :: rest, pos, sum =>
    if r.frames = 0 then
      let w := s.chargeRuns rest pos sum
      ({ plane := r.plane, first := r.first, frames := 0, before := sum, lead := 0, total := 0 } :: w.1, w.2)
    else
      let lead := s.seekNs pos (s.lbaAt r.lba) + (s.tRev : Rat) / 1000
      let total := lead + 16 * r.frames * (s.tSec : Rat) / 1000
      let w := s.chargeRuns rest (s.endAt r.lba (16 * r.frames)) (sum + total)
      ({ plane := r.plane, first := r.first, frames := r.frames, before := sum, lead := lead, total := total } :: w.1, w.2)

/-- (1 + m) / ρ (R331). -/
def State.diskFactor (s : State) : Rat :=
  (1 + (fld (s.reg 0x300004) 8 8 : Rat) / 100) / ((fld (s.srvReg 0x38) 0 8 : Rat) / 100)

/-- t_start from now, in ns (R331). -/
def State.startIn (s : State) : Rat := ((s.pgf.horizon - s.time.now.toNat : Nat) : Rat)

/-- c_f of frame f of plane p, from now in ns; none when no run covers it (R331). -/
def State.completes (s : State) (cs : List Charge) (p f : Nat) : Option Rat :=
  (cs.find? fun c => decide (c.plane = p ∧ c.first ≤ f ∧ f < c.first + c.frames)).map fun c =>
    s.startIn + s.diskFactor * (c.before + c.lead + 16 * ((f - c.first + 1 : Nat) : Rat) * (s.tSec : Rat) / 1000)

/-- The sides of a token under the gate with their marks. -/
def State.gateSides (s : State) (g : GateEval) : List (Nat × List (Option (Nat × Nat))) :=
  (s.sides g.slot).zip [g.front, g.back]

/-- The marks of a side with their stations and planes; none stands where a station or a mark is missing. -/
def State.sideMarks (s : State) (k : Nat) (marks : List (Option (Nat × Nat))) : List (Nat × Option (Nat × (Nat × Nat))) :=
  (s.tok k).hdr.list.map fun p => (p, (s.planeStation p).bind fun n => (nth none marks n).map fun m => (n, m))

/-- Where the first run's seek starts: at the next sector boundary of a non-print piece in progress, else where the head
is (R330, R578). -/
def State.seekStart (s : State) : Nat × Nat × Nat :=
  match s.rch.cur with
  | some x => if x.kind.print then (s.rch.head, s.srv.turn, 0) else s.lbaAt (x.lba + x.done + 1)
  | none => (s.rch.head, s.srv.turn, 0)

/-- The charges of both sides, front first (R331). -/
def State.gateCharges (s : State) (g : GateEval) : List (List Charge) × Rat :=
  let here := s.seekStart
  (s.sides g.slot).foldl (fun (acc : (List (List Charge) × (Nat × Nat × Nat)) × Rat) k =>
    let w := s.chargeRuns (s.tok k).plan acc.1.2 acc.2
    ((acc.1.1 ++ [w.1], w.2.1), w.2.2)) (([], here), 0) |> fun r => (r.1.1, r.2)

/-- Check 8: the earliest mark comes no sooner than PICK_LEAD (R325). -/
def State.leadOk (s : State) (g : GateEval) : Bool :=
  (s.gateSides g).all fun side => (s.sideMarks side.1 side.2).all fun x => match x.2 with
    | none => false
    | some (n, m) => match s.markIn n m with
      | none => false
      | some t => decide (((fld (s.reg 0x300004) 16 8 * 1000000 : Nat) : Rat) ≤ t)

/-- Check 9 on one side: every frame is resident, or its run completes by its deadline (R325, R328). -/
def State.framesOk (s : State) (k : Nat) (marks : List (Option (Nat × Nat))) (cs : List Charge) : Bool :=
  let h := (s.tok k).hdr
  (s.sideMarks k marks).all fun x => (List.range (h.frames x.1)).all fun f =>
    s.resident k x.1 f || (match x.2, s.completes cs x.1 f with
      | some (n, m), some c => (match s.markIn n m with
        | some top => decide (c ≤ s.deadline n top (h.bb x.1) f)
        | none => false)
      | _, _ => false)

/-- Some run of either side reads something. -/
def State.planNonEmpty (s : State) (g : GateEval) : Bool :=
  (s.sides g.slot).any fun k => (s.tok k).plan.any fun r => decide (0 < r.frames)

/-- Check 9 (R325, R333, R527, R1040): a plan that is not empty needs the disk, and no calibration of it. -/
def State.planOk (s : State) (g : GateEval) : Bool :=
  let cs := (s.gateCharges g).1
  (!s.planNonEmpty g || (s.diskReady && !s.rch.fhRuns && !s.calOn 7 0)) &&
    ((s.gateSides g).zip cs).all fun x => s.framesOk x.1.1 x.1.2 x.2

/-- The checks of R325 that hold, in their order. -/
def State.gateChecks (s : State) (g : GateEval) : List Bool :=
  let t := s.tok g.slot
  [ decide (s.sys.mode = .ready ∨ s.sys.mode = .print) && !(s.sys.transit && decide (s.sys.target = .safe)) && !g.drain,
    decide (t.hdr.pair ≠ 2) && (s.sides g.slot).all fun k => decide ((s.tok k).state = .armed),
    (s.sides g.slot).all fun k => (s.tok k).hdr.list.all fun p => match s.planeStation p with
      | some n => s.stReady n
      | none => false,
    (List.range 16).all fun k => s.hvOk k,
    s.fus.inWindow, s.pathClear, s.thm.printOk, s.leadOk g, s.planOk g ]

/-- `PGF_LAST_GATE.FAILED` of the checks (R347). -/
def failedBits (l : List Bool) : BitVec 9 :=
  (List.range 9).foldl (fun b i => if nth false l i then b else b ||| BitVec.ofNat 9 (2 ^ i)) 0

/-- The pages of a committed side join their stations; the armed screens take the first of them (R258, R321). -/
def State.stationPages (k : Nat) (marks : List (Option (Nat × Nat))) (s : State) : State :=
  (s.sideMarks k marks).foldl (fun t x => match x.2 with
    | none => t
    | some (n, m) => t.onLs n fun y =>
        { y with pages := y.pages ++ [{ slot := k, turn := m.1, div := m.2,
                                        screens := decide (y.screenApply = 1) && !(y.pages.any fun p => p.screens) }] }) s

/-- The plan runs of a committed side join the print work (R429, R576). -/
def State.queuePlan (k : Nat) (s : State) : State :=
  let l := (s.tok k).plan
  let runs := (List.range l.length).filterMap fun i => (l[i]?).bind fun r =>
    if r.frames = 0 then none else some ({ kind := .plan k i, lba := r.lba, count := 16 * r.frames } : DXfer)
  if runs = [] then s
  else s.onRch fun r =>
    { r with plans := r.plans ++ runs, credit := if r.printing then r.credit else 0,
             stopNext := r.stopNext || r.cur.any fun x => !x.kind.print }

/-- The device times at which the charged times of a plan end (R331, R332). -/
def State.chargeEnds (s : State) (cs : List Charge) : List Nat :=
  cs.map fun c => s.time.now.toNat + (s.startIn + s.diskFactor * (c.before + c.total)).floor.toNat

/-- The commitment (R314, R325, R331, R332, R654): in one cycle the tokens, their marks, pages and plans, the
horizon, and the pick move. DEDUCED, log entry 75. -/
def State.commit (g : GateEval) (s : State) : State :=
  let ch := s.gateCharges g
  let horizon := s.time.now.toNat + (s.startIn + s.diskFactor * ch.2).floor.toNat
  let s1 := ((s.gateSides g).zip ch.1).foldl (fun t x =>
    (((t.onTok x.1.1 fun y => { y with marks := x.1.2, charges := s.chargeEnds x.2 }).move x.1.1 .committed 0).stationPages
      x.1.1 x.1.2).queuePlan x.1.1) s
  let s2 := s1.onPgf fun p => { p with gate := none, gateOutcome := 1, gateFailed := 0, horizon := horizon }
  s2.strobe s2.pickAxis (.pick g.slot (s.tok g.slot).partner)

/-- GATE_EVALUATION_COMPLETE (R325, R326). -/
def gateEvaluationComplete (s : State) : State := s.inDom .pix fun s =>
  match s.pgf.gate with
  | none => s
  | some g =>
    let c := s.gateChecks g
    if c.all id then s.commit g
    else (s.onPgf fun p => { p with gate := none, gateOutcome := 2, gateFailed := failedBits c }).raise 81

/-! ## Snapshots -/

/-- A snapshot of the seven counts (R343, R349). -/
def State.snapTokens (s : State) : State :=
  s.onPgf fun g => { g with snap := g.counts, snapTime := s.time.now, snapValid := true, snapSeq := (g.snapSeq + 1) % 65536 }

/-- PGF_SNAPSHOT: a write of `PGF_SNAP_CTRL` with REQ = 1. -/
def pgfSnapshot (s : State) : State := s.bar0 0x300020 .any State.snapTokens

/-- The snapshot that a read of OD 2800:05 takes (R343, R352). -/
def tokensTake (s : State) : State :=
  if !s.on .pix then s.replied .stateConflict
  else
    let s1 := s.snapTokens
    { s1 with zop := { s1.zop with reply := .none, replyData :=
        (s1.pgf.snap.flatMap fun w => u32le w.toNat) ++ u64le s1.pgf.snapTime.toNat ++ [BitVec.ofNat 8 s1.time.stat.code] } }

/-- TOKEN_COUNTS_READ: a read of OD 2800:05 (R343, R352). -/
def tokenCountsRead (s : State) : State := s.answers tokensTake

/-- The eight words of the token record of a slot (R350). -/
def Token.record (t : Token) : List Word :=
  [ place t.state.code 0 4 ||| placeB t.spoilMark 4 ||| place t.hdr.pair 5 2 ||| placeB t.hdr.precoded 7 |||
      place t.hdr.planes 8 4 ||| place t.reason 16 8,
    BitVec.ofNat 32 t.num, place t.hdr.height 16 16 ||| place t.hdr.width 0 16,
    place t.hdr.ratio 0 8 ||| place t.hdr.tagmap 8 12 ||| placeB t.hdr.tags 20,
    BitVec.ofNat 32 (t.time.toNat % 2 ^ 32), BitVec.ofNat 32 (t.time.toNat / 2 ^ 32), place t.tstat 0 3, 0 ]

/-- TOKEN_RECORD_READ: a read of word 0 of the record of slot k latches words 1 to 7 (R351), kept at the offsets of the
record of slot 0 with the slot. -/
def tokenRecordRead (k : Nat) (s : State) : State :=
  if !s.on .pix then s.badAccess (0x310000 + 0x20 * k) false 2
  else
    let r := (s.tok k).record
    { s.onPgf (fun g => { g with latSlot := some k }) with
      latched := (List.range 7).foldl (fun l i => sput 0 (nth 0 r (i + 1)) (0x310004 + 4 * i) l) s.latched }

end Sys2Proof.Machine
end

