-- ==== Sys2Proof/Machine/RegRead.lean ====
section
/-! DEFINITION. Machine/RegRead.lean: what every register of the BAR0 window reads as: the live fields of each block's
registers (the register tables of every chapter), and the stored value of a plain register. -/
namespace Sys2Proof.Machine

/-- Place `n` bits given by number from bit `lo` on. -/
def bitsAt (lo n : Nat) (f : Nat → Bool) : Word := (List.range n).foldl (fun w i => w ||| placeB (f i) (lo + i)) 0

/-- The instance and the rest of an offset in a group of `n` instances `stride` apart from `base`. -/
def grp (base n stride o : Nat) : Option (Nat × Nat) :=
  if base ≤ o ∧ o < base + n * stride then some ((o - base) / stride, (o - base) % stride) else none

/-- A number as a register. -/
def nw (n : Nat) : Word := BitVec.ofNat 32 n

/-- The low, or the high, word of a 64-bit number. -/
def half (hi : Bool) (n : Nat) : Word := if hi then nw (n / 2 ^ 32) else nw (n % 2 ^ 32)

/-! ## SYS (1, 2) -/

/-- `SYS_MODE` (R119). -/
def State.sysMode (s : State) : Word :=
  place s.sys.safeCount 16 8 ||| placeB s.sys.safeLocked 10 ||| place s.sys.phase 8 2 ||| placeB s.sys.transit 7 |||
    place s.sys.target.code 4 3 ||| place s.sys.mode.code 0 3

/-- `SYS_SAFE_CAUSE` (R122). -/
def State.safeCause (s : State) : Word :=
  placeB s.sys.unack 31 ||| place s.sys.origin 8 8 ||| place s.sys.causeSource 0 8

/-- The stepping of a die: 0x01 for the first, higher for later ones (R49). -/
def stepping (die : Nat) : Nat := 1 + Config.dieStep die % 255

/-- `SYS_REV` (R49). -/
def sysRev : Word := place (stepping 0) 24 8 ||| place (stepping 1) 16 8 ||| place (stepping 2) 8 8

/-- `SYS_PAIR` (R65). -/
def State.sysPair (s : State) : Word :=
  place s.sys.failovers 16 8 ||| placeB (decide (s.sys.serviceOn = .b)) 7 ||| placeB (decide (s.sys.engineOn = .b)) 6 |||
    place s.sys.pairB.code 2 2 ||| place s.sys.pairA.code 0 2

/-- SYS (R48 to R52, R65, R119 to R123). -/
def State.sysRead (s : State) (o : Nat) : Word :=
  if o = 0x00 then 0x77400100
  else if o = 0x04 then sysRev
  else if o = 0x08 then 0x20443018
  else if o = 0x10 then s.sys.badAddr
  else if o = 0x14 then
    placeB s.sys.badValid 31 ||| placeB s.sys.badWrite 16 ||| place s.sys.badCount 8 8 ||| place s.sys.badReason 0 3
  else if o = 0x18 then s.sysPair
  else if o = 0x20 then s.sysMode
  else if o = 0x24 then place s.sys.reqSeq 16 8 ||| place s.sys.reqStatus.code 8 3 ||| place s.sys.req 0 3
  else if o = 0x28 then s.safeCause
  else if o = 0x2C then half false s.sys.safeTime.toNat
  else if o = 0x30 then half true s.sys.safeTime.toNat
  else s.reg o

/-! ## CULM (3) -/

/-- `CULM_AXk_STATE` (R207). -/
def Axis.stateWord (a : Axis) : Word :=
  place a.st.code 30 2 ||| placeB a.coast 29 ||| placeB a.cfgErr 28 ||| place a.div 0 16

/-- The live words of an axis, at `r` from its base. -/
def Axis.read (a : Axis) (r : Nat) : Option Word :=
  if r = 0x00 then some a.cfg
  else if r = 0x18 then some a.vparLo
  else if r = 0x1C then some a.vparHi
  else if r = 0x20 then some a.vcfg
  else if r = 0x24 then some a.vofs
  else if r = 0x28 then some a.stateWord
  else if r = 0x2C then some (nw (fracOf a.theta))
  else if r = 0x30 then some a.latTurn
  else if r = 0x34 then some (w32 a.latVel)
  else if r = 0x38 then some (w32 a.err)
  else if r = 0x3C then some (place a.misses 16 16 ||| place a.rejects 0 16)
  else none

/-- Device time and its registers, in AON (R197, R209). -/
def DevTime.read (t : DevTime) (o : Nat) : Option Word :=
  if o = 0xF0000 then some (half false t.now.toNat)
  else if o = 0xF0004 then some (half true t.now.toNat)
  else if o = 0xF0008 then some (place t.port 8 1 ||| place t.stat.code 0 3)
  else if o = 0xF000C then some t.rate
  else if o = 0xF0010 then some t.stepLo
  else if o = 0xF0014 then some t.stepHi
  else none

/-- CULM (R195 to R209). -/
def State.culmRead (s : State) (o : Nat) : Word :=
  let c := s.culm
  if o = 0x00 then placeB c.swapArmed 25 ||| place c.active 24 1 ||| bitsAt 0 24 fun k => decide ((c.ax k).st = .locked)
  else if o = 0x04 then place c.swapStatus 27 3 ||| place c.swapAxis 16 5 ||| placeB c.swapAtTurn 0
  else if o = 0x10 then nw c.late
  else if o = 0x14 then nw c.stale
  else if o = 0x20 then c.ent.w0
  else if o = 0x24 then c.ent.w1
  else if o = 0x28 then c.ent.w2
  else if o = 0x2C then c.ent.w3
  else if o = 0x30 then place c.entStatus 28 3 ||| c.entCmd
  else if o = 0x60 then
    placeB c.snapHold 30 ||| placeB c.snapValid 29 ||| place c.snapDropped 16 8 ||| place c.snapSeq 0 16
  else if o = 0x64 then half false c.snapTime.toNat
  else if o = 0x68 then half true c.snapTime.toNat
  else match grp 0x800 24 0x10 o, grp 0x1000 24 0x40 o, s.time.read o with
    | some (k, r), _, _ =>
      let x : SnapAx := nth {} c.snap k
      if r = 0 then nw x.frac else if r = 4 then nw x.turn else if r = 8 then w32 x.vel else nw x.st
    | none, some (k, r), _ => ((c.ax k).read r).getD (s.reg (0x100000 + o))
    | none, none, some w => w
    | none, none, none => s.reg (0x100000 + o)

/-! ## The stations, PGF and HUSK (4 to 6) -/

/-- The code of `LSn_TBL.STATUS` (R297). -/
def TblStatus.code : TblStatus → Nat
  | .idle => 0 | .armed => 1 | .applied => 2 | .cancelled => 3 | .range => 4 | .stateConflict => 5

/-- `LSn_STATUS` (R290). -/
def State.lsStatus (s : State) (n : Nat) : Word :=
  let t := s.st n
  placeB (s.stReady n) 31 ||| placeB (s.polyLocked n) 30 ||| placeB (s.apcValid n) 29 ||| placeB t.pllLocked 28 |||
    placeB t.ilkLatch 27 ||| placeB t.ilkLocal 26 ||| placeB s.sys.laserOff 25 ||| placeB t.gateHold 24 |||
    placeB (s.bdSearch n) 23 ||| placeB (!t.pages.isEmpty) 22 ||| placeB t.bootDisabled 21 ||| placeB t.cfgErr 20 |||
    place t.facet 16 4 ||| bitsAt 0 16 fun b => decide (b < s.nbeam n) && s.apcGood n b

/-- LSn (R288 to R299). -/
def State.lsRead (s : State) (n o : Nat) : Word :=
  let t := s.st n
  if o = 0x04 then s.lsCtrl n
  else if o = 0x08 then s.lsStatus n
  else if o = 0x30 then place t.tblStatus.code 28 3 ||| place t.tblWhen 0 2
  else if o = 0x50 then nw t.cntLines
  else if o = 0x54 then nw t.cntLineFlt
  else if o = 0x58 then nw t.cntApcShort
  else if o = 0x5C then nw t.cntClamp
  else match grp 0x100 16 4 o, grp 0x1C0 16 4 o with
    | some (b, _), _ => place (nth {} t.beams b).mod 0 12
    | none, some (b, _) =>
      let x : Beam := nth {} t.beams b
      placeB (s.apcGood n b) 31 ||| placeB x.sat 30 ||| place x.last 0 12
    | none, none => s.lsReg n o

/-- PGF (R345 to R350); words 1 to 7 of the token record whose word 0 was read last are as that read latched them
(R351). -/
def State.pgfRead (s : State) (o : Nat) : Word :=
  let g := s.pgf
  if o = 0x00 then placeB g.gate.isSome 31 ||| placeB s.sys.drain 30 ||| placeB (!s.flying.isEmpty) 29 |||
    place s.freeSlots 0 11
  else if o = 0x08 then place g.gateSlot 22 10 ||| place g.gateOutcome 20 2 ||| place g.gateFailed.toNat 0 9
  else if o = 0x0C then half false g.horizon
  else if o = 0x10 then half true g.horizon
  else if o = 0x20 then placeB g.snapValid 30 ||| place g.snapSeq 0 16
  else if o = 0x6C then half false g.snapTime.toNat
  else if o = 0x70 then half true g.snapTime.toNat
  else match grp 0x30 7 4 o, grp 0x50 7 4 o, grp 0x10000 1024 0x20 o with
    | some (i, _), _, _ => nth 0 g.counts i
    | none, some (i, _), _ => nth 0 g.snap i
    | none, none, some (k, r) => if r = 0 || decide (g.latSlot ≠ some k) then nth 0 (s.tok k).record (r / 4)
      else sget 0 (0x310000 + r) s.latched
    | none, none, none => s.reg (0x300000 + o)

/-- The place of the coder in the plane in progress: a plane is coded in one step, so its band and column are free
within the plane (R394). DESIGN CHOICE, log entry 36. -/
def State.codePos (s : State) : Word :=
  match s.husk.coding with
  | [] => 0
  | (k, p) :: _ =>
    let h := (s.tok k).hdr
    if s.husk.busy then
      placeB true 31 ||| place p 28 2 ||| place (s.fresh % h.nb) 16 11 ||| place (s.fresh / h.nb % h.k) 0 9
    else 0

/-- The raw planes that wait to be coded, but for the one in progress: those whose data has landed (R392).
DEDUCED, log entry 85. -/
def State.coderQueue (s : State) : Nat :=
  ((s.husk.coding.drop (if s.husk.busy then 1 else 0)).filter fun x => !(s.tok x.1).reading).length

/-- HUSK (R392 to R395). A decoder shows busy while it can decode a band, which BAND_DECODE ends: DEDUCED, log entry
85. -/
def State.huskRead (s : State) (o : Nat) : Word :=
  let h := s.husk
  if o = 0x00 then
    placeB h.busy 31 ||| bitsAt 24 4 (fun n => (s.decodeNext n).isSome) ||| place s.coderQueue 0 11
  else if o = 0x08 then match h.coding with
    | [] => 0
    | (k, _) :: _ => if h.busy then nw (s.tok k).num else 0
  else if o = 0x0C then s.codePos
  else if o = 0x10 then nw h.cntBlocks
  else if o = 0x14 then nw h.cntFlat
  else if o = 0x18 then nw h.cntTwo
  else if o = 0x1C then nw h.cntPred
  else if o = 0x20 then nw h.cntQuant
  else if o = 0x24 then nw h.cntTagred
  else match grp 0x40 4 0x10 o with
    | some (n, r) =>
      let d : Decoder := nth {} h.decs n
      if r = 0 then nw d.malf else if r = 4 then nw d.malfToken else if r = 8 then d.malfPos else nw d.blocks
    | none => s.reg (0x380000 + o)

/-! ## SHF and MOV (7) -/

/-- One of the six counters of a pool, in the order of R463 from ISSUED on: ISSUED, HELD, OUT, DIF, TIN, PINNED. -/
def Pool.word (p : Pool) (i : Nat) : Word := nw (nth 0 [p.issued, p.held, p.out, p.dif, p.tin, p.pinned] i)

/-- A plan run executes (R458). -/
def State.landing (s : State) : Bool :=
  match s.rch.cur with
  | some x => (match x.kind with | .plan _ _ => true | _ => false)
  | none => false

/-- SHF (R458 to R463). -/
def State.shfRead (s : State) (o : Nat) : Word :=
  let h := s.shf
  if o = 0x00 then
    placeB s.pagesOut 31 ||| placeB s.landing 30 ||| placeB h.overcommit 29 ||| place s.difAll 0 5
  else if o = 0x04 then nw h.total
  else if o = 0x08 then nw h.free
  else if o = 0x0C then nw h.transit
  else if o = 0x20 then place h.cmdStatus 28 3 ||| place h.cmdPool 16 3 ||| place h.cmdOp 0 3
  else if o = 0x28 then nw h.cmdResult
  else if o = 0x30 then placeB h.snapValid 30 ||| place h.snapSeq 0 16
  else if o = 0x34 then half false h.snapTime.toNat
  else if o = 0x38 then half true h.snapTime.toNat
  else if o = 0x40 then nw (s.pool 7).held
  else if o = 0x800 then nw h.snapFree
  else if o = 0x804 then nw h.snapTransit
  else match grp 0x100 8 0x20 o, grp 0x900 8 0x20 o, grp 0xA00 9 4 o with
    | some (p, r), _, _ => if r = 0 then nw (s.budget p) else (s.pool p).word (r / 4 - 1)
    | none, some (p, r), _ => if r = 0 then 0 else (nth {} h.snapPools p : Pool).word (r / 4 - 1)
    | none, none, some (i, _) => half (decide (i % 2 = 1)) (nth 0 h.snapMov (i / 2))
    | none, none, none => s.reg (0x400000 + o)

/-- The code of a channel status (R465). -/
def MovStatus.code : MovStatus → Nat
  | .idle => 0 | .queued => 1 | .running => 2 | .done => 3 | .length => 4 | .range => 5 | .aborted => 6

/-- MOV (R464 to R466). -/
def State.movRead (s : State) (o : Nat) : Word :=
  let m := s.mov
  if o = 0x00 then placeB m.running 31 ||| place m.cur 16 4 |||
    bitsAt 0 16 fun k => decide ((nth {} m.chans k : MovCh).status = .queued)
  else if o = 0x30 then nw m.buffered
  else match grp 0x10 8 4 o, grp 0x100 16 0x20 o with
    | some (i, _), _ => half (decide (i % 2 = 1)) (nth 0 [m.requested, m.moved, m.abandoned, m.pend] (i / 2))
    | none, some (k, r) =>
      let c : MovCh := nth {} m.chans k
      if r = 0x14 then s.movCtrl k ||| place c.status.code 8 3 ||| placeB c.missed 7
      else if r = 0x18 then nw c.left
      else s.reg (0x480000 + o)
    | none, none => s.reg (0x480000 + o)

/-! ## RCH, SRV and SPN (8, 9) -/

/-- RCH (R535 to R545). -/
def State.rchRead (s : State) (o : Nat) : Word :=
  let r := s.rch
  if o = 0x00 then
    placeB s.diskReady 31 ||| placeB r.cur.isSome 30 ||| placeB r.writing 29 ||| placeB r.fhRuns 28 |||
      placeB (match r.recov with | .ladder _ _ => true | _ => false) 27 ||| placeB r.defect 26 ||| placeB r.paFault 25 |||
      place r.head 20 2
  else if o = 0x0C then nw s.nRev
  else if o = 0x10 then nw s.tSec
  else if o = 0x18 then half false s.sectPerHead
  else if o = 0x1C then place (s.sectPerHead / 2 ^ 32) 0 4
  else if o = 0x44 then place r.paStatus 28 3 ||| r.paWord
  else if o = 0x48 then place r.paFaultData 0 8
  else if o = 0x50 then place r.fhStatus 28 3 ||| r.fhWord
  else match grp 0x80 11 4 o with
    | some (i, _) => nw (nth 0 [r.cntRead, r.cntWritten, r.cntSmmiss, r.cntSmdis, r.cntShiftok, r.cntLadder, r.cntRfail,
        r.cntWfail, r.cntWabort, r.cntTagmis, r.cntDefect] i)
    | none => s.rchReg o

/-- SRV (R605 to R609). -/
def State.srvRead (s : State) (o : Nat) : Word :=
  let v := s.srv
  if o = 0x00 then
    place v.st.code 28 4 ||| placeB v.valid 27 ||| placeB (decide (v.winh = 0 ∧ v.st ≠ .off)) 26 ||| place s.rch.head 24 2 |||
      place v.turn 0 24
  else if o = 0x04 then place v.cmdStatus 28 3 ||| v.cmdWord
  else if o = 0x08 then place v.latch.toNat 8 6 ||| place v.winh.toNat 0 6
  else if o = 0x14 then place (code 16 v.pes) 0 16
  else if o = 0x18 then w32 v.err
  else if o = 0x1C then w32 v.ofs
  else match grp 0x80 4 4 o, grp 0x180 25 4 o with
    | some (i, _), _ => nw (nth 0 [v.cntInvalid, v.cntIdmis, v.cntSeeks, v.cntWunsafe] i)
    | none, some (k, _) => nw (nth 0 v.skobs k)
    | none, none => s.srvReg o

/-- SPN (R611 to R614). -/
def State.spnRead (s : State) (o : Nat) : Word :=
  let p := s.spn
  if o = 0x00 then
    place p.st.code 28 4 ||| placeB p.retracted 27 ||| placeB p.plausible 26 ||| place p.catches 24 2 |||
      place p.attempts 16 8 ||| place p.rpm 0 16
  else if o = 0x04 then place p.rpmSet 0 16
  else if o = 0x80 then nw p.cntStarts
  else if o = 0x84 then nw p.cntLoss
  else s.spnReg o

/-! ## MOT, DRV and TEFF (10 to 12) -/

/-- The position of a sheet record: state 1 MOVING, 2 STOPPED (DESIGN CHOICE, log entry 52: R685 gives the field no
coding). -/
def State.sheetWord (s : State) (r i : Nat) : Word :=
  match s.mot.sheets[r]? with
  | none => 0
  | some x => match i with
    | 0 => place x.route 2 2 ||| place (if x.stopped then 2 else 1) 0 2
    | 1 => nw x.num
    | 2 => nw x.frontNum
    | 3 => nw x.backNum
    | 4 => w32 (floorDiv x.le 65536)
    | 5 => w32 (asr x.len 16)
    | _ => 0

/-- The velocity of an axis in 1/16 u/s (R634, R685). -/
def State.mVel (s : State) (k : Nat) : Int :=
  let p := (s.mx k).prof
  satS 32 (p.dir * (p.v * 12800000000).tdiv (2 ^ 40 : Nat))

/-- `MOT_AXk_STATUS` (R684); DIR is 1 in the positive direction (DESIGN CHOICE, log entry 52). -/
def State.axisStatus (s : State) (k : Nat) : Word :=
  let m := s.mx k
  place m.st.code 29 3 ||| placeB m.homed 28 ||| placeB m.prof.held 27 ||| placeB m.queue.isSome 26 |||
    placeB (decide (0 < m.prof.dir) && decide (m.st = .moving ∨ m.st = .homing ∨ m.st = .stopping)) 24 ||| place m.fcode 16 8

/-- MOT (R677 to R685). -/
def State.motRead (s : State) (o : Nat) : Word :=
  let m := s.mot
  if o = 0x00 then
    placeB s.pathClear 31 ||| placeB m.jam.isSome 30 ||| placeB m.runout 29 ||| (bitsAt 12 12 fun k => (s.mx k).homed) |||
      bitsAt 0 12 fun k => decide ((s.mx k).st = .fault)
  else if o = 0x04 then s.reg 0x600004 ||| place m.pathStatus 28 3
  else if o = 0x0C then match m.jam with
    | none => 0
    | some j => placeB true 31 ||| place j.kind 24 3 ||| place j.point 16 5 ||| place j.sheet 0 16
  else if o = 0x10 then place m.lastSource 8 8 ||| place m.lastIndex 0 5
  else if o = 0x40 then placeB m.snapValid 30 ||| place m.snapSeq 0 16
  else if o = 0x58 then half false m.snapTime.toNat
  else if o = 0x5C then half true m.snapTime.toNat
  else match grp 0x20 5 4 o, grp 0x44 5 4 o, grp 0x1000 12 0x80 o with
    | some (i, _), _, _ => nth 0 [m.fed, m.delivered, m.purged, m.inPath, m.cleared] i
    | none, some (i, _), _ => nth 0 m.snap i
    | none, none, some (k, r) =>
      if r = 0x08 then place (s.mx k).cmdStatus 28 3 ||| (s.mx k).cmdWord
      else if r = 0x28 then s.axisStatus k
      else if r = 0x2C then w32 (s.mPos k)
      else if r = 0x30 then w32 (s.mVel k)
      else if r = 0x34 then w32 (s.mAcc k)
      else if r = 0x38 then w32 (s.mx k).ferr
      else s.reg (0x600000 + o)
    | none, none, none => match grp 0x3000 32 8 o, grp 0x6000 16 0x20 o with
      | some (i, 4), _ =>
        let d : Din := nth {} m.dins i
        placeB d.level 31 ||| placeB d.raw 30 ||| placeB d.chatter 29
      | _, some (r, w) => s.sheetWord r (w / 4)
      | _, none => s.reg (0x600000 + o)

/-- `DRV_Uu_STATUS` (R747). -/
def State.unitStatus (s : State) (u : Nat) : Word :=
  let d := s.du u
  place d.st.code 28 4 ||| placeB d.plausible 27 ||| place d.catches 25 2 ||| placeB d.decel 24 ||| place d.attempts 20 4 |||
    place d.fcode 16 4 ||| place d.stale 0 16

/-- DRV (R743 to R748). -/
def State.drvRead (s : State) (o : Nat) : Word :=
  let d := s.drv
  if o = 0x00 then
    placeB d.hardCut 31 ||| placeB d.regenInh 30 ||| placeB d.chopFault 29 ||| placeB d.chopOn 28 ||| placeB d.busWarn 27 |||
      placeB d.busUv 26 ||| placeB d.gateUv 25 ||| bitsAt 0 24 fun u => decide ((s.du u).st = .run)
  else if o = 0x04 then place d.busStatus 28 3 ||| place d.busOp 0 2
  else if o = 0x08 then place d.vbus 0 16
  else if o = 0x0C then w32 d.ibrk
  else if o = 0x10 then place d.lastSource 8 8 ||| place d.lastIndex 0 6
  else if o = 0x40 then nw d.cntCut
  else if o = 0x44 then nw d.cntInh
  else if o = 0x48 then nw d.cntChop
  else match grp 0x1000 24 0x80 o, grp 0x2000 48 4 o with
    | some (u, r), _ =>
      if r = 0x0C then place (s.du u).cmdStatus 28 3 ||| place (s.du u).cmdOp 0 3
      else if r = 0x10 then s.unitStatus u
      else if r = 0x18 then w32 (s.duRpm u)
      else if r = 0x1C then place ((s.du u).theta / 65536) 0 16
      else s.reg (0x680000 + o)
    | none, some (k, _) =>
      let b : Bridge := nth {} d.bridges k
      placeB b.valid 31 ||| place b.code 0 12
    | none, none => s.reg (0x680000 + o)

/-- TEFF (R788 to R792). -/
def State.teffRead (s : State) (o : Nat) : Word :=
  let t := s.teff
  if o = 0x00 then s.teffStatus
  else if o = 0x08 then place t.cmdStatus 28 3 ||| t.cmdWord
  else if o = 0x0C then place t.applyStatus 28 3 ||| place t.applyWhen 0 2
  else if o = 0x50 then nw t.cntLate
  else if o = 0x54 then nw t.cntOverrun
  else if o = 0x58 then nw t.cntReloc
  else match grp 0x40 4 4 o, grp 0x80 8 4 o, grp 0x1000 256 0x40 o, grp 0x5000 256 0x10 o with
    | some (l, _), _, _, _ => place (s.laneLoad l) 0 7
    | none, some (g, _), _, _ => nw (t.plaus.toNat / 2 ^ (32 * g) % 2 ^ 32)
    | none, none, some (n, r), _ =>
      if r = 0x00 then s.slotCfg n
      else if r = 0x04 then s.slotSrc n
      else if r = 0x38 then s.slotStatus n
      else if r = 0x3C then w32 (s.ts n).u
      else s.reg (0x700000 + o)
    | none, none, none, some (n, r) =>
      let x := s.ts n
      w32 (satS 32 (nth 0 [x.i, x.d, x.e1, x.yh] (r / 4)))
    | none, none, none, none => s.reg (0x700000 + o)

/-! ## HV and FUS (13) -/

/-- `HV_CHk_STATUS` (R841). RAMPING is 1 while r differs from SET (R804). -/
def State.hvStatus (s : State) (k : Nat) : Word :=
  let c := s.hvCh k
  placeB c.inWindow 31 ||| placeB (decide (c.r ≠ s32 (s.hvReg k 4))) 30 ||| placeB (s.hvGate k) 29 |||
    placeB c.trip 28 ||| placeB c.fbFault 27 ||| placeB c.acFault 26

/-- HV (R840 to R845). -/
def State.hvRead (s : State) (o : Nat) : Word :=
  if o = 0x08 then place s.hv.cmdStatus 28 3 ||| s.hv.cmdWord
  else match grp 0x100 16 0x40 o with
    | some (k, r) =>
      if r = 0x28 then w32 (s.hvCh k).y
      else if r = 0x2C then w32 (s.hvCh k).r
      else if r = 0x30 then nw (s.hvCh k).pp
      else if r = 0x34 then s.hvStatus k
      else s.reg (0x780000 + o)
    | none => s.reg (0x780000 + o)

/-- `FUS_STATUS` (R842): the fields of the cut are live in AON; the others read 0 while ENG is off. -/
def State.fusStatus (s : State) : Word :=
  let aon := placeB s.cut.set 30 ||| place s.cut.cause 26 3 ||| place s.cut.active.toNat 8 8
  if s.on .eng then
    aon ||| placeB s.fus.inWindow 31 ||| placeB s.fus.mainsOk 29 ||| (bitsAt 16 8 fun j => (s.th j).valid) |||
      bitsAt 0 4 fun k => s.fusLive k
  else aon

/-- FUS (R842 to R845). -/
def State.fusRead (s : State) (o : Nat) : Word :=
  if o = 0x00 then s.fusStatus
  else if o = 0x08 then place s.fus.cmdStatus 28 3 ||| s.fus.cmdWord
  else match grp 0x100 4 0x20 o, grp 0x200 8 0x10 o with
    | some (k, r), _ =>
      let c : FusCh := nth {} s.fus.chans k
      if r = 0x10 then nw c.p else if r = 0x14 then nw c.fire else s.reg (0x7C0000 + o)
    | none, some (j, r) => if r = 0x0C then w32 (s.th j).t else s.reg (0x7C0000 + o)
    | none, none => s.reg (0x7C0000 + o)

/-! ## PWR and THM (16) -/

/-- The settings of a rail slot as its registers hold them: CFG, TIME, FALL and PMB (R1033, R1036). -/
def State.railRegs (s : State) (k : Nat) : List Word := (List.range 4).map fun i => s.reg (0x800100 + 0x20 * k + 4 * i)

/-- A setting of a rail slot in force: a change to a slot that is enabled or qualified waits for the next sequence that
enables it (R1038). -/
def State.railWord (s : State) (k i : Nat) : Word :=
  match (nth {} s.pwr.slots k : Slot).held with
  | some l => nth 0 l i
  | none => s.reg (0x800100 + 0x20 * k + 4 * i)

/-- The level of a rail slot, 0 for an unused one (R984). -/
def State.slotLevel (s : State) (k : Nat) : Nat := fld (s.railWord k 0) 30 2

/-- A level is qualified (R1011). -/
def State.levelOk (s : State) (l : Nat) : Bool :=
  (List.range 16).all fun k =>
    !(decide (1 ≤ s.slotLevel k) && decide (s.slotLevel k ≤ l)) || (nth {} s.pwr.slots k : Slot).qualified

/-- The highest qualified level (R1029). -/
def State.topLevel (s : State) : Nat := if s.levelOk 3 then 3 else if s.levelOk 2 then 2 else if s.levelOk 1 then 1 else 0

/-- PWR (R1029 to R1036). -/
def State.pwrRead (s : State) (o : Nat) : Word :=
  let p := s.pwr
  if o = 0x00 then
    placeB p.pfail 31 ||| placeB (!p.seq.isEmpty) 30 ||| placeB p.offPend 29 ||| placeB p.onPend 28 |||
      place s.topLevel 26 2 ||| place p.retries 23 3 ||| bitsAt 0 16 fun k => (nth {} p.slots k : Slot).qualified
  else if o = 0x04 then
    place p.domFault.toNat 16 8 |||
      (List.range 8).foldl (fun w d => w ||| place (s.dom (Dom.ofCode d)).code (2 * d) 2) 0
  else if o = 0x08 then s.reg 0x800008 ||| place p.reqStatus 28 3
  else if o = 0x0C then placeB p.wakePend 31 ||| place p.wakeSrc 0 3
  else if o = 0x14 then p.lastFail
  else if o = 0x40 then nw p.cntRetry
  else if o = 0x44 then nw p.cntPfail
  else match grp 0x300 4 4 o with
    | some (k, _) => s.reg (0x800000 + o) ||| placeB (nth false p.rsto k) 28
    | none => s.reg (0x800000 + o)

/-- THM (R1035, R1036). -/
def State.thmRead (s : State) (o : Nat) : Word :=
  let t := s.thm
  if o = 0x00 then
    placeB t.tsd 31 ||| placeB t.printOk 30 ||| placeB t.jhigh 29 |||
      (bitsAt 12 12 fun i => (nth {} t.chans i : HkCh).valid) ||| place t.tsdCause.toNat 0 12
  else if o = 0x08 then t.round
  else match grp 0x100 48 8 o with
    | some (c, r) =>
      let x : HkCh := nth {} t.chans c
      if r = 0 then w32 x.val
      else placeB x.valid 31 ||| placeB x.loHit 30 ||| placeB x.hiHit 29 ||| place x.code 0 12
    | none => s.reg (0x820000 + o)

/-! ## CAL, EVT, GLM and BOOT (17 to 19) -/

/-- `CAL_CALc_STATUS` (R1071). -/
def State.calStatus (s : State) (c : Nat) : Word :=
  let x := s.calCh c
  let d := s.calRec c
  place (if x.run.isSome then 2 else if x.pending.isSome then 1 else 0) 30 2 ||| place d.method 29 1 |||
    placeB x.trimFault 28 ||| place d.outcome 24 3 ||| place d.inst 16 5 ||| place d.trig 12 3 ||| place d.tstat 8 3

/-- CAL (R1068 to R1072). -/
def State.calRead (s : State) (o : Nat) : Word :=
  if o = 0x00 then (bitsAt 16 10 fun c => (s.calCh c).pending.isSome) ||| bitsAt 0 10 fun c => s.calStale c
  else if o = 0x04 then place s.cal.cmdStatus 28 3 ||| s.cal.cmdWord
  else match grp 0x100 10 0x20 o with
    | some (c, r) =>
      if r = 0x08 then s.calStatus c
      else if r = 0x0C then nw (s.calRec c).count
      else if r = 0x10 then nw (s.calRec c).rejects
      else if r = 0x14 then half false (s.calRec c).time.toNat
      else if r = 0x18 then half true (s.calRec c).time.toNat
      else s.reg (0x840000 + o)
    | none => s.reg (0x840000 + o)

/-- EVT (R1105, R1106). -/
def State.evtRead (s : State) (o : Nat) : Word :=
  if o = 0 then
    placeB s.evt.errLow 31 ||| placeB s.evt.graveHold 30 ||| placeB s.bothLocked 29 ||| place s.evt.errLast 8 8 |||
      s.reg 0x880000
  else s.reg (0x880000 + o)

/-- Bytes 0 to 59 of an entry as phase 1 writes them, without its CRC's four (R1094). -/
def GEntry.body (g : GEntry) : List Byte :=
  let i := g.item
  u32le g.seq.toNat ++
    [BitVec.ofNat 8 i.kind,
     BitVec.ofNat 8 ((if i.prot || i.spilled then 1 else 0) + (if i.forced then 2 else 0) + 4 * i.part + 16 * (i.parts - 1)),
     BitVec.ofNat 8 i.source, BitVec.ofNat 8 (i.mode % 8 + 8 * (i.tstat % 8))] ++
    u64le i.time.toNat ++ padTo 40 i.payload

/-- An entry is valid (R1095). -/
def GEntry.valid (g : GEntry) : Bool := decide (g.state = 0)

/-- The 64 bytes of an entry: COMMIT is NOT SEQ once phase 2 is done and SEQ before it (R1095). What a write that was
cut off in phase 1, or that failed its read-back, leaves is free. DESIGN CHOICE, log entry 43. -/
def GEntry.bytes (g : GEntry) : List Byte :=
  let b := g.body
  let whole := b ++ u32le (crc32 b).toNat
  if g.state = 0 then whole ++ u32le (~~~g.seq).toNat
  else if g.state = 2 then whole ++ u32le g.seq.toNat
  else (List.range 64).map fun i => Config.tornByte (g.seq.toNat * 64 + i)

/-- The slots of the general region (R1093). -/
def genSlots : Nat := 96256

/-- An entry that a loss of power tore stands last in its region, in the slot that the next entry takes (R1100). -/
def GEntry.torn (g : GEntry) : Bool := decide (g.state = 1 ∨ g.state = 2)

/-- A region without the torn entry that may stand last. -/
def whole (l : List GEntry) : List GEntry :=
  match l.getLast? with
  | some g => if g.torn then l.dropLast else l
  | none => []

/-- The entry in a slot of the general region, whose entries stand oldest first before the slot that comes next. -/
def Rec.genAt (r : Rec) (slot : Nat) : Option GEntry :=
  let l := whole r.gen
  if slot = r.genNext ∧ l.length < r.gen.length then r.gen.getLast?
  else
    let back := (r.genNext + genSlots - 1 - slot) % genSlots
    if back < l.length then l[l.length - 1 - back]? else none

/-- A byte of the record die as the window shows it (R1093, R1108): 0xFF where a slot is erased, 0 in the system
area and in the configuration banks. -/
def Rec.byteAt (r : Rec) (a : Nat) : Byte :=
  if a < 0x100000 then ((r.prot[a / 64]?).map fun g => g.bytes.getD (a % 64) 0).getD 0xFF
  else if a < 0x6E0000 then ((r.genAt ((a - 0x100000) / 64)).map fun g => g.bytes.getD (a % 64) 0).getD 0xFF
  else 0

/-- GLM (R1107, R1108). An entry is being written whenever one is queued and the record link works (DEDUCED, log
entry 59). -/
def State.glmRead (s : State) (o : Nat) : Word :=
  let e := s.evt
  if o = 0x00 then
    placeB (!e.queue.isEmpty && !e.linkFault) 31 ||| placeB e.linkFault 30 ||| placeB (decide (16384 ≤ (whole s.die.prot).length)) 29 |||
      place e.queue.length 16 9 ||| place (whole s.die.prot).length 0 15
  else if o = 0x04 then nw s.die.nextSeq.toNat
  else if o = 0x08 then match s.die.gen.find? GEntry.valid with
    | some g => nw g.seq.toNat
    | none => nw s.die.nextSeq.toNat
  else if o = 0x0C then nw e.dropped
  else if 0x40000 ≤ o then
    let a := fld (s.reg 0x900010) 0 5 * 0x40000 + (o - 0x40000)
    nw (leNat ((List.range 4).map fun i => s.die.byteAt (a + i)))
  else s.reg (0x900000 + o)

/-- BOOT (R1145 to R1148). -/
def State.bootRead (s : State) (o : Nat) : Word :=
  let b := s.boot
  let d := s.die
  if o = 0x00 then
    placeB b.starting 31 ||| placeB b.halted 30 ||| placeB b.noDisk 29 ||| placeB b.trial 28 ||| place d.imgActive 27 1 |||
      place (((List.range 16).find? fun i => b.running.getLsbD i).getD 0) 19 4 ||| place b.updState 16 3 |||
      bitsAt 1 15 fun i => b.alt.getLsbD (i + 1)
  else if o = 0x04 then nw d.marks.toNat
  else if o = 0x08 then s.reg 0x980008 ||| place b.cmdStatus 28 3
  else if o = 0x0C then
    place d.img0.state 0 2 ||| place d.img1.state 2 2 ||| placeB d.img0.rejected 4 ||| placeB d.img1.rejected 5
  else if o = 0x10 then nw d.svnMin
  else if o = 0x14 then nw d.startCount
  else s.reg (0x980000 + o)

/-! ## HQ (14, 15) -/

/-- `HQ_Qq_STATUS` (R965). -/
def QPair.statusWord (x : QPair) : Word :=
  placeB x.active 31 ||| placeB x.error 30 ||| place x.errcode 26 4 ||| place x.inflight.length 16 8 ||| place x.sqHead 0 12

/-- The mailbox (R892, R893), at `r` from its first register. -/
def Zop.read (z : Zop) (r : Nat) : Option Word :=
  if r = 0x0 then some (place z.mbxStatus 28 3 ||| placeB z.mbxIen 0)
  else if r = 0x4 then some (nw z.mbxReqLen)
  else if r = 0x8 then some (nw z.mbxRspLen)
  else if r = 0xC then some z.mbxCount
  else if 0x800 ≤ r ∧ r < 0xD68 then some (nw (leNat ((List.range 4).map fun i => sget 0 (r - 0x800 + i) z.mbxReq)))
  else if 0x1000 ≤ r ∧ r < 0x1568 then some (nw (leNat ((List.range 4).map fun i => z.mbxRsp.getD (r - 0x1000 + i) 0)))
  else none

/-- The MSI-X table and its pending bits (R957), at `r` from the table. -/
def Hq.msixRead (h : Hq) (r : Nat) : Option Word :=
  match grp 0 64 16 r, grp 0x1000 2 4 r with
  | some (i, k), _ =>
    let v : Vector := nth {} h.vecs i
    some (if k = 0 then v.addrLo else if k = 4 then v.addrHi else if k = 8 then v.data else placeB v.mask 0)
  | none, some (w, _) => some (bitsAt 0 32 fun i => (nth {} h.vecs (32 * w + i) : Vector).pending)
  | none, none => none

/-- HQ (R961 to R968). -/
def State.hqRead (s : State) (o : Nat) : Word :=
  let h := s.hq
  if o = 0x00 then
    placeB h.linkUp 31 ||| place h.speed 28 3 ||| place h.width 24 4 ||| placeB h.d3 23 |||
      bitsAt 0 16 fun q => (s.qp q).error
  else if o = 0x08 then placeB h.b2Pending 31 ||| place h.b2Base 0 19
  else if o = 0x10 then nw h.cntCorr
  else if o = 0x14 then nw h.cntUncorr
  else if o = 0x18 then nw h.cntCto
  else if o = 0x1C then nw h.cntB2bad
  else if 0x10000 ≤ o ∧ o < 0x12000 then (s.zop.read (o - 0x10000)).getD 0
  else if 0x20000 ≤ o ∧ o < 0x22000 then (h.msixRead (o - 0x20000)).getD 0
  else match grp 0x400 16 8 o, grp 0x500 4 4 o, grp 0x1000 16 0x40 o, grp 0x1800 4 0x20 o with
    | some (q, r), _, _, _ => nw (if r = 0 then (s.qp q).sqWord else (s.qp q).cqWord)
    | none, some (e, _), _, _ => nw (nth {} h.evqs e : EvQueue).headWord
    | none, none, some (q, r), _ => if r = 0x14 then (s.qp q).statusWord else s.reg (0xA00000 + o)
    | none, none, none, some (e, r) =>
      let x : EvQueue := nth {} h.evqs e
      if r = 0x0C then placeB x.active 31 ||| place x.dropped 16 12 ||| place x.tail 0 12 else s.reg (0xA00000 + o)
    | none, none, none, none => s.reg (0xA00000 + o)

/-! ## Every register -/

/-- The value of a register of the BAR0 window now. -/
def State.readReg (s : State) (off : Nat) : Word :=
  match evBanks.find? fun b => decide (off = b.stat ∨ off = b.stat + 8) with
  | some b => if off = b.stat then bankWord b s.evt.status else 0
  | none => match Block.ofOff off with
    | none => 0
    | some b =>
      let o := off - b.base
      match b with
      | .sys => s.sysRead o
      | .culm => s.culmRead o
      | .ls n => s.lsRead n o
      | .pgf => s.pgfRead o
      | .husk => s.huskRead o
      | .shf => s.shfRead o
      | .mov => s.movRead o
      | .rch => s.rchRead o
      | .srv => s.srvRead o
      | .spn => s.spnRead o
      | .mot => s.motRead o
      | .drv => s.drvRead o
      | .teff => s.teffRead o
      | .hv => s.hvRead o
      | .fus => s.fusRead o
      | .pwr => s.pwrRead o
      | .thm => s.thmRead o
      | .cal => s.calRead o
      | .evt => s.evtRead o
      | .glm => s.glmRead o
      | .boot => s.bootRead o
      | .hq => s.hqRead o

end Sys2Proof.Machine
end

