-- ==== Sys2Proof/Machine/Tap.lean ====
section
/-! DEFINITION. Machine/Tap.lean: the test access port of R1166, with the cells of the pins of R1163. The table of
commands gives the port no row, so no command works it; log entry 86. -/
namespace Sys2Proof.Machine

/-- The domain of a pin group (R1163, R1164). -/
def Group.dom : Group → Dom
  | .beam | .laserEn | .bridgeGate | .brake => .ana
  | .spindle | .vcm | .preampFault | .shock => .dsk
  | .beamDetect | .hvPwm | .fuserTrigger | .engineIn => .eng
  | .preampClock | .preampData | .perst | .phyManage | .phyReset => .mgt
  | .fuserCut | .railEn | .railPg | .management | .wakeIn | .resetOut | .errOut | .dramKeeper => .aon

/-- The controller drives the pins of a group (R1163). -/
def Group.isOut : Group → Bool
  | .beamDetect | .laserEn | .preampFault | .shock | .engineIn | .railPg | .wakeIn | .perst => false
  | _ => true

/-- The cells of a group observe only (R1166). -/
def Group.observes : Group → Bool
  | .beam | .bridgeGate | .brake | .hvPwm | .fuserTrigger | .fuserCut | .vcm | .spindle => true
  | g => !g.isOut

/-- IDCODE (R1166). -/
def idcode : Word := place (stepping 0) 28 4 ||| place 0x7740 12 16 ||| place Config.jedec.toNat 1 11 ||| 1

/-- A boundary cell samples its pin; one of a domain that is not on reads 0 (R1166). -/
def State.cellReads (s : State) (g : Group) (level : Bool) : Bool := s.on g.dom && level

/-- What the port makes of a pin (R1166): none leaves it to the controller, `some none` floats it, and a level
drives it. -/
def State.tapDrives (s : State) (g : Group) (i : Nat) : Option (Option Bool) :=
  if !s.on g.dom || g.observes then none
  else match s.tap.instr with
    | .extest | .clamp => some ((s.tap.cells.find? fun c => decide (c.1 = (g, i))).map (·.2))
    | .highz => some none
    | .bypass | .idcode | .sample => none

/-- The data register of an instruction as it is captured, the bit nearest to TDO first (R1166); `pins` are the pins
of the boundary register in their order with their levels. -/
def State.tapCapture (s : State) (pins : List ((Group × Nat) × Bool)) : List Bool :=
  match s.tap.instr with
  | .idcode => (List.range 32).map fun i => bitOf idcode i
  | .sample | .extest => pins.map fun p => s.cellReads p.1.1 p.2
  | .bypass | .clamp | .highz => [false]

/-- Shift bits from TDI through a register: the register after it, and what TDO showed. -/
def tapShift (reg tdi : List Bool) : List Bool × List Bool :=
  ((reg ++ tdi).drop tdi.length, (reg ++ tdi).take tdi.length)

/-- Change the test access port. -/
def State.onTap (f : Tap → Tap) (s : State) : State := { s with tap := f s.tap }

/-- An instruction comes into force. -/
def State.tapSelect (i : TapInstr) (s : State) : State := s.onTap fun t => { t with instr := i }

/-- The boundary register is updated with the bits shifted into it, in the order of its pins (R1166). -/
def State.tapUpdate (pins : List (Group × Nat)) (bits : List Bool) (s : State) : State :=
  match s.tap.instr with
  | .sample | .extest => s.onTap fun t => { t with cells := pins.zip bits }
  | .bypass | .idcode | .clamp | .highz => s

/-- TRST_N low, or Test-Logic-Reset. -/
def State.tapReset (s : State) : State := s.onTap fun _ => {}

end Sys2Proof.Machine
end

