-- ==== Sys2Proof/Machine/OdTab.lean ====
section
/-! DEFINITION. Machine/OdTab.lean: the object dictionary as a table (R118, R210, R301, R352, R396, R467, R547, R615,
R687, R749, R794, R847, R862, R898, R970, R1037, R1073, R1109, R1149): index, subindex, type, access, class and home. -/
namespace Sys2Proof.Machine

/-- Objects that are no mirror of registers: live values, commands, and values kept by a block. -/
inductive OSpec where
  | mode | modeRequest | modeTarget | startTarget | modeEntry | safeCause | safeAck
  | directory | serial | fwEngine | fwService | vendor | store | storeStatus | storeTime | storeNeed | oemDecl
  | counts | sessions | link | macAddr | smbCounts | key | keyRoles
  | pciIds | subsysIds | printSectors | hostSectors | jrnBase | jrnSectors | jrnNext | jrnAcked | jrnOldest | jrnSeal
  | jrnFormat | jrnAck
  | axesLocked | activeBank | swapAxis | swapCmd | bank | snapshot | deviceTime | timeStatus | offset
  | axCfg | axGain | axVcfg | axVpar | axVofs | axAngle | axVel
  | lsCtrl | tblCmd | lsMod | tokenCounts | freeSlots | tokens | screenCmd | screen | codePos
  | books | retiredList | budget | spoolMap
  | sectPerHead | ldpcBase | paCmd | fhCmd | glist | glistCount | glistClear
  | srvCmd | position | rpmSet | retClear
  | pathCmd | sheetCounts | sheets | axisCmd | tableApply | busCmd | unitCmd
  | laneCmd | teffApply | slotCfg | sineApply | tripClear | cutClear | cutForce | fusApply | hvStatus
  | domReq | thmValues | linApply | calCmd | calCounts | calTrims | trimFaultClear
  | force | clearProtected | note | general | protectedRegion
  | marks | clearMarks | lastStart | runStep | stage | updateCmd | banks | handback
  deriving DecidableEq, Repr, Inhabited

/-- Where the value of an object stands. -/
inductive Home where
  /-- Registers at `base + i * s1 + m * s2 + d`, for each `d`, `w` bytes of the value in each. -/
  | regs (base s1 s2 : Nat) (deltas : List Nat) (w : Nat)
  /-- A number of the service pair, with its default and its range. -/
  | own (dflt least greatest : Nat)
  /-- Bytes of the service pair, with their default. -/
  | bytes (dflt : List Byte)
  | spec (k : OSpec)
  deriving DecidableEq, Repr, Inhabited

/-- Access (R855). -/
inductive OAcc where
  | ro | rw | wo
  deriving DecidableEq, Repr, Inhabited

/-- The code of an access (R855). -/
def OAcc.code : OAcc → Nat
  | .ro => 0 | .rw => 1 | .wo => 2

/-- A group of objects: indices `index + istep * i`, `i < n`, and subindices `sub + m`, `m < subs`. -/
structure ORow where
  index : Nat
  n : Nat := 1
  istep : Nat := 1
  sub : Nat := 0
  subs : Nat := 1
  /-- Type code (R850). -/
  ty : Nat
  /-- The largest value in bytes. -/
  size : Nat
  acc : OAcc := .ro
  cls : Cls := .ro
  home : Home
  deriving DecidableEq, Repr, Inhabited

/-- Word offsets of `n` registers that follow one another. -/
def ws (n : Nat) : List Nat := (List.range n).map (4 * ·)

/-- A register mirrored as a U32. -/
def o32 (index sub off : Nat) (c : Cls := .ro) (n : Nat := 1) (s1 : Nat := 0) (istep : Nat := 1) : ORow :=
  { index := index, n := n, istep := istep, sub := sub, ty := 3, size := 4, acc := if c = .ro then .ro else .rw, cls := c,
    home := .regs off s1 0 [0] 4 }

/-- A register mirrored as another fixed-size type of `w` bytes. -/
def oW (index sub off ty w : Nat) (c : Cls := .ro) (n : Nat := 1) (s1 : Nat := 0) (istep : Nat := 1) : ORow :=
  { index := index, n := n, istep := istep, sub := sub, ty := ty, size := w, acc := if c = .ro then .ro else .rw, cls := c,
    home := .regs off s1 0 [0] w }

/-- Registers mirrored as a DOMAIN, `w` bytes from each. -/
def oD (index sub off : Nat) (deltas : List Nat) (c : Cls := .ro) (w : Nat := 4) (n : Nat := 1) (s1 : Nat := 0)
    (istep : Nat := 1) : ORow :=
  { index := index, n := n, istep := istep, sub := sub, ty := 10, size := w * deltas.length,
    acc := if c = .ro then .ro else .rw, cls := c, home := .regs off s1 0 deltas w }

/-- An object of the service pair. -/
def oOwn (index sub ty size : Nat) (c : Cls) (dflt least greatest : Nat) (n : Nat := 1) : ORow :=
  { index := index, n := n, sub := sub, ty := ty, size := size, acc := .rw, cls := c, home := .own dflt least greatest }

/-- A special object. -/
def oS (index sub ty size : Nat) (acc : OAcc) (c : Cls) (k : OSpec) (n : Nat := 1) (istep : Nat := 1) (subs : Nat := 1) :
    ORow :=
  { index := index, n := n, istep := istep, sub := sub, subs := subs, ty := ty, size := size, acc := acc, cls := c,
    home := .spec k }

/-- 0x1000 to 0x11FF: identity, modes, directory, stored configuration, communication and host interface. -/
def odCore : List ORow := [
  o32 0x1000 0 0x000000, o32 0x1000 1 0x000004, o32 0x1000 2 0x000008, oS 0x1000 3 9 16 .ro .ro .serial,
  oS 0x1000 4 9 255 .ro .ro .fwEngine, oS 0x1000 5 9 255 .ro .ro .fwService, oS 0x1000 6 9 23 .ro .ro .vendor,
  oS 0x1001 1 1 1 .ro .ro .mode, oS 0x1001 2 1 1 .rw .mgmt .modeRequest, oS 0x1001 3 1 1 .ro .ro .modeTarget,
  oS 0x1001 4 1 1 .rw .fixed .startTarget, oOwn 0x1001 5 1 1 .fixed 1 0 1, oOwn 0x1001 6 1 1 .mgmt 3 2 3,
  oOwn 0x1001 8 3 4 .setp 500 0 60000, oOwn 0x1001 9 3 4 .setp 10000 0 60000, oS 0x1001 0xA 4 8 .ro .ro .modeEntry,
  oOwn 0x1001 0xB 3 4 .setp 180 10 1800, oS 0x1001 0xC 2 2 .ro .ro .safeCause, oS 0x1001 0xD 1 1 .wo .mgmt .safeAck,
  oS 0x1002 0 10 57024 .ro .ro .directory, oS 0x1010 1 1 1 .wo .mgmt .store, oS 0x1010 2 1 1 .ro .ro .storeStatus,
  oS 0x1010 3 4 8 .ro .ro .storeTime, oS 0x1010 4 3 4 .ro .ro .storeNeed, oS 0x1012 0 10 1052672 .rw .fixed .oemDecl,
  oOwn 0x1100 1 2 2 .mgmt 50774 1024 65535, oOwn 0x1100 2 1 1 .mgmt 1 0 1, oOwn 0x1100 3 3 4 .mgmt 300 10 86400,
  oOwn 0x1100 4 3 4 .mgmt 2000 100 60000, oOwn 0x1100 5 2 2 .mgmt 2000 100 20000, oS 0x1100 6 10 48 .ro .ro .counts,
  oS 0x1100 7 10 128 .ro .ro .sessions, oS 0x1101 1 1 1 .ro .ro .link 2, oS 0x1101 2 4 8 .ro .ro .macAddr 2,
  oOwn 0x1101 3 1 1 .mgmt 2 0 2 2, oOwn 0x1101 4 3 4 .mgmt 0 0 0xFFFFFFFF 2, oOwn 0x1101 5 3 4 .mgmt 0 0 0xFFFFFFFF 2,
  oOwn 0x1101 6 3 4 .mgmt 0 0 0xFFFFFFFF 2, oOwn 0x1101 7 1 1 .mgmt 2 0 2 2,
  { index := 0x1101, n := 2, sub := 8, ty := 10, size := 16, acc := .rw, cls := .mgmt, home := .bytes (List.replicate 16 0) },
  oOwn 0x1101 9 1 1 .mgmt 64 1 128 2,
  { index := 0x1101, n := 2, sub := 0xA, ty := 10, size := 16, acc := .rw, cls := .mgmt, home := .bytes (List.replicate 16 0) },
  oOwn 0x1110 1 1 1 .mgmt 0x4C 0x08 0x77, oOwn 0x1110 2 1 1 .mgmt 1 0 1, oS 0x1110 3 10 12 .ro .ro .smbCounts,
  oS 0x1120 1 10 33 .wo .mgmt .key 1 1 4, oS 0x1120 5 3 4 .ro .ro .keyRoles,
  o32 0x1130 1 0xA00000, oS 0x1130 2 3 4 .ro .ro .pciIds, oS 0x1130 3 3 4 .rw .fixed .subsysIds,
  oD 0x1130 4 0xA00010 (ws 4), oS 0x1131 1 4 8 .rw .fixed .printSectors, oS 0x1131 2 4 8 .ro .ro .hostSectors,
  oS 0x1132 1 4 8 .rw .fixed .jrnBase, oS 0x1132 2 3 4 .rw .fixed .jrnSectors, oS 0x1132 3 4 8 .ro .ro .jrnNext,
  oS 0x1132 4 4 8 .ro .ro .jrnAcked, oS 0x1132 5 4 8 .ro .ro .jrnOldest, oS 0x1132 6 10 32 .ro .ro .jrnSeal,
  oS 0x1132 7 1 1 .wo .test .jrnFormat, oS 0x1132 8 4 8 .wo .mgmt .jrnAck, oOwn 0x1132 9 3 4 .setp 1024 1 1048576]

/-- 0x2000 to 0x23FF: the timebase. -/
def odTime : List ORow := [
  oS 0x2000 1 3 4 .ro .ro .axesLocked, oS 0x2000 2 1 1 .ro .ro .activeBank, oS 0x2000 3 1 1 .rw .shadow .swapAxis,
  o32 0x2000 4 0x100008 .shadow, o32 0x2000 5 0x10000C .shadow, oS 0x2000 6 1 1 .rw .shadow .swapCmd,
  o32 0x2000 7 0x100010, o32 0x2000 8 0x100014, oS 0x2000 0x10 10 65536 .rw .shadow .bank 1 1 2,
  oS 0x2000 0x20 10 400 .ro .ro .snapshot, oS 0x2001 1 4 8 .ro .ro .deviceTime, oS 0x2001 2 1 1 .ro .ro .timeStatus,
  oOwn 0x2001 3 1 1 .mgmt 1 0 1, oOwn 0x2001 4 1 1 .mgmt 0 0 127, oOwn 0x2001 5 1 1 .mgmt 0 0 2,
  oOwn 0x2001 6 1 1 .mgmt 0 0 1, oOwn 0x2001 7 3 4 .mgmt 3000 100 60000, oOwn 0x2001 8 3 4 .mgmt 86400 1 2592000,
  oOwn 0x2001 9 3 4 .mgmt 1000000 0 0xFFFFFFFF, oS 0x2001 0xA 6 8 .ro .ro .offset,
  oOwn 0x2001 0xB 5 4 .mgmt 0 0 0xFFFFFFFF, oOwn 0x2001 0xC 5 4 .mgmt 0 0 0xFFFFFFFF, oOwn 0x2001 0xD 1 1 .mgmt 0 0 1,
  oOwn 0x2001 0xE 1 1 .mgmt 255 0 255, oOwn 0x2001 0xF 1 1 .mgmt 255 0 255,
  oS 0x2010 1 3 4 .rw .fixed .axCfg 24, o32 0x2010 2 0x101004 .fixed 24 0x40, oS 0x2010 3 3 4 .rw .shadow .axGain 24,
  o32 0x2010 4 0x10100C .shadow 24 0x40, o32 0x2010 5 0x101010 .shadow 24 0x40, o32 0x2010 6 0x101014 .shadow 24 0x40,
  oS 0x2010 7 3 4 .rw .fixed .axVcfg 24, oS 0x2010 8 4 8 .rw .fixed .axVpar 24, oS 0x2010 9 3 4 .rw .fixed .axVofs 24,
  o32 0x2010 0xA 0x101028 .ro 24 0x40, oS 0x2010 0xB 4 8 .ro .ro .axAngle 24, oS 0x2010 0xC 5 4 .ro .ro .axVel 24,
  oW 0x2010 0xD 0x101038 5 4 .ro 24 0x40, o32 0x2010 0xE 0x10103C .ro 24 0x40,
  oD 0x2010 0xF 0x102000 (ws 16) .shadow 4 24 0x40]

/-- 0x2400 to 0x27FF: the stations. -/
def odStation : List ORow := [
  o32 0x2400 1 0x200000 .fixed 4 0x10000 0x10, oS 0x2400 2 3 4 .rw .mgmt .lsCtrl 4 0x10,
  o32 0x2400 3 0x200008 .ro 4 0x10000 0x10, o32 0x2400 4 0x20000C .shadow 4 0x10000 0x10,
  o32 0x2400 5 0x200010 .shadow 4 0x10000 0x10, oW 0x2400 6 0x200014 2 2 .shadow 4 0x10000 0x10,
  o32 0x2400 7 0x200018 .shadow 4 0x10000 0x10, o32 0x2400 8 0x20001C .shadow 4 0x10000 0x10,
  oS 0x2400 9 1 1 .rw .shadow .tblCmd 4 0x10, o32 0x2400 0xA 0x200020 .setp 4 0x10000 0x10,
  o32 0x2400 0xB 0x200024 .setp 4 0x10000 0x10, o32 0x2400 0xC 0x200028 .setp 4 0x10000 0x10,
  o32 0x2400 0xD 0x20002C .setp 4 0x10000 0x10, oD 0x2400 0xE 0x200050 (ws 4) .ro 4 4 0x10000 0x10,
  oD 0x2401 0 0x201000 (ws 256) .shadow 4 4 0x10000 0x10, oD 0x2402 0 0x201400 (ws 96) .shadow 4 4 0x10000 0x10,
  oD 0x2403 0 0x201600 (ws 64) .shadow 4 4 0x10000 0x10, oS 0x2404 1 2 2 .rw .setp .lsMod 4 0x10 16,
  { index := 0x2405, n := 4, istep := 0x10, sub := 1, subs := 16, ty := 2, size := 2, acc := .rw, cls := .setp,
    home := .regs 0x200140 0x10000 4 [0] 2 },
  { index := 0x2406, n := 4, istep := 0x10, sub := 1, subs := 16, ty := 2, size := 2, acc := .rw, cls := .setp,
    home := .regs 0x200180 0x10000 4 [0] 2 },
  { index := 0x2407, n := 4, istep := 0x10, sub := 1, subs := 16, ty := 3, size := 4,
    home := .regs 0x2001C0 0x10000 4 [0] 4 }]

/-- 0x2800 to 0x2FFF: page flow, Husk, Sheaf and the Mover. -/
def odPage : List ORow := [
  o32 0x2800 1 0x300004 .setp, o32 0x2800 2 0x300008,
  { index := 0x2800, sub := 3, ty := 4, size := 8, home := .regs 0x30000C 0 0 [0, 4] 4 },
  oOwn 0x2800 4 1 1 .fixed 0 0 1, oS 0x2800 5 10 37 .ro .ro .tokenCounts, oS 0x2800 6 2 2 .ro .ro .freeSlots,
  oS 0x2801 0 10 32768 .ro .ro .tokens, oS 0x2810 1 1 1 .rw .shadow .screenCmd 4, oS 0x2820 0 10 196624 .rw .shadow .screen 32,
  oW 0x2840 1 0x380004 1 1 .setp, o32 0x2840 2 0x380000, oD 0x2840 3 0x380010 (ws 6), oD 0x2840 4 0x380040 (ws 16),
  oS 0x2840 5 4 8 .ro .ro .codePos,
  o32 0x2C00 1 0x400004, o32 0x2C00 2 0x400008, o32 0x2C00 3 0x400010 .fixed,
  { index := 0x2C00, sub := 4, ty := 4, size := 8, acc := .rw, cls := .fixed, home := .regs 0x400014 0 0 [0, 4] 4 },
  o32 0x2C00 5 0x40001C .fixed, o32 0x2C00 6 0x400040, oS 0x2C00 7 10 256 .ro .ro .books,
  oS 0x2C00 8 10 2097152 .ro .ro .retiredList, oS 0x2C10 1 3 4 .rw .fixed .budget 8,
  { index := 0x2C10, n := 8, sub := 2, subs := 6, ty := 3, size := 4, home := .regs 0x400104 0x20 4 [0] 4 },
  oS 0x2C20 0 10 32768 .ro .ro .spoolMap, o32 0x2C30 1 0x480000]

/-- 0x3000 to 0x37FF: read channel, servo and spindle. -/
def odDisk : List ORow := [
  o32 0x3000 1 0x500000, o32 0x3000 2 0x500004 .fixed, oW 0x3000 3 0x500008 2 2 .fixed, o32 0x3000 4 0x50000C,
  o32 0x3000 5 0x500010, o32 0x3000 6 0x500014 .fixed,
  { index := 0x3000, sub := 7, ty := 4, size := 8, home := .regs 0x500018 0 0 [0, 4] 4 },
  oS 0x3000 8 4 8 .ro .ro .sectPerHead, o32 0x3000 9 0x500020 .setp, o32 0x3000 0xA 0x500024 .setp,
  o32 0x3000 0xB 0x500028 .setp, o32 0x3000 0xC 0x50002C .setp, o32 0x3000 0xD 0x500030 .setp,
  o32 0x3000 0xE 0x500034 .setp, oD 0x3000 0xF 0x500080 (ws 11), oS 0x3000 0x10 10 22743 .ro .ro .ldpcBase,
  o32 0x3000 0x11 0x500038 .setp, o32 0x3001 1 0x500040 .fixed, oD 0x3001 2 0x500300 (ws 7) .fixed,
  o32 0x3001 3 0x500320 .fixed, oS 0x3001 4 3 4 .rw .test .paCmd, oW 0x3001 5 0x500048 1 1,
  { index := 0x3002, sub := 1, subs := 4, ty := 10, size := 40, acc := .rw, cls := .shadow,
    home := .regs 0x500400 0 0x40 ([0, 4] ++ (ws 8).map (0x10 + ·)) 4 },
  o32 0x3003 1 0x500054 .setp, o32 0x3003 2 0x500058 .setp, oW 0x3003 3 0x50005C 2 2 .setp,
  oS 0x3003 4 3 4 .rw .setp .fhCmd, oS 0x3004 1 10 32768 .ro .ro .glist, oS 0x3004 2 2 2 .ro .ro .glistCount,
  oS 0x3004 3 1 1 .wo .test .glistClear,
  o32 0x3400 1 0x580000, o32 0x3400 2 0x58000C .fixed, oS 0x3400 3 3 4 .rw .setp .srvCmd, o32 0x3400 4 0x580010 .setp,
  oS 0x3400 5 6 8 .ro .ro .position, o32 0x3400 6 0x580020 .setp, o32 0x3400 7 0x580024 .setp, o32 0x3400 8 0x580028 .setp,
  o32 0x3400 9 0x58002C .setp, oD 0x3400 0xA 0x580040 (ws 9) .setp, o32 0x3400 0xB 0x580008, o32 0x3400 0xC 0x580030 .setp,
  oW 0x3400 0xD 0x580034 2 2 .setp, o32 0x3400 0xE 0x580038 .setp, oD 0x3400 0xF 0x580080 (ws 4),
  oD 0x3401 0 0x580100 (ws 25) .setp, oD 0x3402 0 0x580180 (ws 25),
  { index := 0x3403, sub := 1, subs := 4, ty := 10, size := 16, acc := .rw, cls := .shadow,
    home := .regs 0x580200 0 0x20 (ws 8) 2 },
  o32 0x3410 1 0x5C0000, o32 0x3410 2 0x5C000C .fixed, oS 0x3410 3 2 2 .rw .setp .rpmSet, o32 0x3410 4 0x5C0008 .setp,
  o32 0x3410 5 0x5C0010 .setp, o32 0x3410 6 0x5C0014 .setp, o32 0x3410 7 0x5C0018 .setp, oW 0x3410 8 0x5C001C 2 2 .setp,
  oW 0x3410 9 0x5C0020 1 1 .setp, o32 0x3410 0xA 0x5C0024 .fixed, oS 0x3410 0xB 1 1 .wo .test .retClear,
  oD 0x3410 0xC 0x5C0080 (ws 2), oD 0x3411 0 0x5C0100 (ws 17) .shadow 1]

/-- 0x3800 to 0x3FFF: motion and drives. -/
def odMotion : List ORow := [
  o32 0x3800 1 0x600000, o32 0x3800 2 0x600008 .fixed, oS 0x3800 3 1 1 .rw .setp .pathCmd, o32 0x3800 4 0x60000C,
  oS 0x3800 5 10 29 .ro .ro .sheetCounts, oD 0x3800 6 0x600060 (ws 3) .setp, oD 0x3800 7 0x60006C (ws 6) .fixed,
  oS 0x3800 8 10 512 .ro .ro .sheets, o32 0x3810 1 0x601000 .fixed 12 0x80, o32 0x3810 2 0x601004 .fixed 12 0x80,
  oS 0x3810 3 3 4 .rw .setp .axisCmd 12, oW 0x3810 4 0x60100C 5 4 .setp 12 0x80,
  oD 0x3810 5 0x601010 (ws 6) .setp 4 12 0x80, o32 0x3810 6 0x601028 .ro 12 0x80,
  oD 0x3810 7 0x60102C (ws 4) .ro 4 12 0x80, oD 0x3810 8 0x601044 (ws 5) .setp 4 12 0x80,
  oD 0x3810 9 0x60103C [0, 4, 0x1C] .setp 4 12 0x80,
  { index := 0x3830, sub := 1, subs := 32, ty := 3, size := 4, acc := .rw, cls := .fixed,
    home := .regs 0x603000 0 8 [0] 4 },
  { index := 0x3840, sub := 1, subs := 2, ty := 10, size := 512, acc := .rw, cls := .shadow,
    home := .regs 0x604000 0 0x400 (ws 256) 2 },
  oS 0x3840 3 1 1 .rw .shadow .tableApply,
  oD 0x3850 0 0x605000 ((List.range 12).flatMap fun s => [16 * s, 16 * s + 4, 16 * s + 8]) .fixed,
  oD 0x3851 0 0x605100 ((List.range 16).flatMap fun p => [16 * p, 16 * p + 4]) .fixed,
  o32 0x3C00 1 0x680000, oS 0x3C00 2 1 1 .rw .test .busCmd, oW 0x3C00 3 0x680008 2 2, oD 0x3C00 4 0x680018 (ws 4) .setp,
  oW 0x3C00 5 0x680014 2 2 .fixed, o32 0x3C00 6 0x680028 .setp, o32 0x3C00 7 0x68002C .fixed, oD 0x3C00 8 0x680040 (ws 3),
  oD 0x3C00 9 0x682000 (ws 48), o32 0x3C10 1 0x681000 .fixed 24 0x80, o32 0x3C10 2 0x681004 .fixed 24 0x80,
  o32 0x3C10 3 0x681008 .fixed 24 0x80, o32 0x3C10 4 0x681054 .fixed 24 0x80, oS 0x3C10 5 1 1 .rw .setp .unitCmd 24,
  o32 0x3C10 6 0x681010 .ro 24 0x80, oW 0x3C10 7 0x681014 2 2 .setp 24 0x80, oD 0x3C10 8 0x681018 (ws 2) .ro 4 24 0x80,
  oD 0x3C10 9 0x681020 (ws 4) .setp 4 24 0x80, oD 0x3C10 0xA 0x681030 (ws 4) .setp 4 24 0x80,
  oD 0x3C10 0xB 0x681040 (ws 2) .setp 4 24 0x80, o32 0x3C10 0xC 0x681048 .setp 24 0x80,
  oW 0x3C10 0xD 0x68104C 5 4 .setp 24 0x80, oW 0x3C10 0xE 0x681058 2 2 .setp 24 0x80,
  oW 0x3C10 0xF 0x681050 2 2 .shadow 24 0x80, oD 0x3C40 0 0x683000 (ws 17) .shadow 1 24 0x80]

/-- 0x4000 to 0x47FF: Teff, high voltage and fuser. -/
def odLoop : List ORow := [
  o32 0x4000 1 0x700000, o32 0x4000 2 0x700004 .fixed, oS 0x4000 3 3 4 .rw .mgmt .laneCmd, oS 0x4000 4 1 1 .rw .shadow .teffApply,
  oD 0x4000 5 0x700010 (ws 8) .shadow, oD 0x4000 6 0x700040 [0x10, 0x14, 0x18, 0, 4, 8, 0xC], oD 0x4000 7 0x700080 (ws 8),
  oS 0x4100 1 3 4 .rw .shadow .slotCfg 256, o32 0x4100 2 0x701004 .shadow 256 0x40, o32 0x4100 3 0x701008 .shadow 256 0x40,
  oW 0x4100 4 0x70100C 5 4 .setp 256 0x40, oD 0x4100 5 0x701010 (ws 10) .shadow 4 256 0x40, o32 0x4100 6 0x701038 .ro 256 0x40,
  oW 0x4100 7 0x70103C 5 4 .ro 256 0x40, oD 0x4100 8 0x705000 (ws 4) .ro 4 256 0x10,
  oS 0x4400 1 3 4 .ro .ro .hvStatus, oD 0x4400 2 0x781000 (ws 256) .shadow 2, oS 0x4400 3 1 1 .rw .shadow .sineApply,
  oS 0x4400 4 2 2 .wo .setp .tripClear, o32 0x4410 1 0x780100 .fixed 16 0x40, oW 0x4410 2 0x780104 5 4 .setp 16 0x40,
  o32 0x4410 3 0x780108 .setp 16 0x40, o32 0x4410 4 0x78010C .setp 16 0x40, o32 0x4410 5 0x780110 .setp 16 0x40,
  oD 0x4410 6 0x780114 (ws 2) .fixed 4 16 0x40, oD 0x4410 7 0x78011C (ws 3) .setp 4 16 0x40,
  oD 0x4410 8 0x780128 (ws 4) .ro 4 16 0x40,
  o32 0x4420 1 0x7C0000, o32 0x4420 2 0x7C0004 .fixed, oD 0x4420 3 0x7C000C (ws 2) .setp, oS 0x4420 4 1 1 .wo .test .cutClear,
  oS 0x4420 5 1 1 .wo .test .cutForce, oD 0x4420 6 0x7C0C00 (ws 65) .shadow 2, oS 0x4420 7 1 1 .rw .shadow .fusApply,
  o32 0x4430 1 0x7C0100 .fixed 4 0x20, oW 0x4430 2 0x7C0104 5 4 .setp 4 0x20, oD 0x4430 3 0x7C0108 (ws 2) .setp 4 4 0x20,
  oD 0x4430 4 0x7C0110 (ws 2) .ro 4 4 0x20, o32 0x4440 1 0x7C0200 .fixed 8 0x10, oD 0x4440 2 0x7C0204 (ws 2) .setp 4 8 0x10,
  oW 0x4440 3 0x7C020C 5 4 .ro 8 0x10, oD 0x4440 4 0x7C0400 (ws 33) .shadow 4 8 0x100]

/-- 0x4800 to 0x5FFF: power, thermal, calibration, events, record, start-up and update. -/
def odSystem : List ORow := [
  o32 0x4800 1 0x800000, o32 0x4800 2 0x800004, oS 0x4800 3 2 2 .rw .fixed .domReq, o32 0x4800 4 0x800010 .fixed,
  o32 0x4800 5 0x800014, o32 0x4800 6 0x80000C, o32 0x4800 7 0x800018 .fixed, o32 0x4800 8 0x80001C .fixed,
  oD 0x4800 9 0x800040 (ws 2), o32 0x4810 1 0x800100 .fixed 16 0x20, o32 0x4810 2 0x800104 .fixed 16 0x20,
  o32 0x4810 3 0x800108 .fixed 16 0x20, o32 0x4810 4 0x80010C .fixed 16 0x20,
  { index := 0x4830, sub := 1, subs := 4, ty := 3, size := 4, acc := .rw, cls := .fixed, home := .regs 0x800300 0 4 [0] 4 },
  o32 0x4840 1 0x820000, oW 0x4840 2 0x820004 2 2 .setp, oS 0x4840 3 10 196 .ro .ro .thmValues,
  o32 0x4850 1 0x820400 .fixed 32 8, o32 0x4850 2 0x820404 .setp 32 8,
  { index := 0x4870, sub := 1, subs := 4, ty := 10, size := 132, acc := .rw, cls := .shadow,
    home := .regs 0x821000 0 0x100 (ws 33) 4 },
  oS 0x4870 5 1 1 .rw .shadow .linApply,
  o32 0x4C00 1 0x840000, oS 0x4C00 2 3 4 .rw .shadow .calCmd, oW 0x4C00 3 0x840008 2 2 .test,
  o32 0x4C10 1 0x840100 .setp 10 0x20, o32 0x4C10 2 0x840104 .setp 10 0x20, o32 0x4C10 3 0x840108 .ro 10 0x20,
  oS 0x4C10 4 10 20 .ro .ro .calCounts 10, oS 0x4C11 5 10 96 .ro .ro .calTrims, oS 0x4C12 5 10 256 .ro .ro .calTrims,
  oS 0x4C13 5 10 16 .ro .ro .calTrims, oS 0x4C16 5 10 4 .ro .ro .calTrims 2,
  oS 0x4C10 6 1 1 .wo .test .trimFaultClear 10,
  o32 0x5000 1 0x880000, oW 0x5000 2 0x880000 1 1 .test, oD 0x5000 3 0x881000 (ws 256) .test,
  o32 0x5100 1 0x881000 .test 256 4, oS 0x5100 2 1 1 .wo .test .force 256,
  o32 0x5400 1 0x900000, o32 0x5400 2 0x900004, o32 0x5400 3 0x900008, o32 0x5400 4 0x90000C,
  oS 0x5400 5 1 1 .wo .test .clearProtected, oS 0x5400 7 10 40 .wo .mgmt .note, oS 0x5401 0 10 6160384 .ro .ro .general,
  oS 0x5402 0 10 1048576 .ro .ro .protectedRegion,
  o32 0x5800 1 0x980000, oS 0x5800 2 2 2 .ro .ro .marks, oS 0x5800 3 2 2 .wo .test .clearMarks, o32 0x5800 4 0x980014,
  oS 0x5800 5 10 120 .ro .ro .lastStart, oS 0x5800 6 1 1 .rw .setp .runStep, o32 0x5800 7 0x980018 .fixed,
  oS 0x5810 1 10 4194304 .wo .mgmt .stage, oS 0x5810 2 1 1 .rw .mgmt .updateCmd, oS 0x5810 3 10 32 .ro .ro .banks,
  o32 0x5810 4 0x980010, oS 0x5820 1 1 1 .rw .mgmt .handback]

/-- Every object of the controller as shipped. -/
def odRows : List ORow := odCore ++ odTime ++ odStation ++ odPage ++ odDisk ++ odMotion ++ odLoop ++ odSystem

/-- The place of an index and a subindex in a group. -/
def ORow.at (r : ORow) (index sub : Nat) : Option (Nat × Nat) :=
  let d := index - r.index
  if r.index ≤ index ∧ d % r.istep = 0 ∧ d / r.istep < r.n ∧ r.sub ≤ sub ∧ sub < r.sub + r.subs
  then some (d / r.istep, sub - r.sub) else none

/-- An object: its group and its place in it. -/
structure Obj where
  row : ORow
  i : Nat
  m : Nat
  deriving DecidableEq, Repr

/-- The object of an index and a subindex, of a list of groups. -/
def findObj (index sub : Nat) : List ORow → Option Obj
  | [] => none
  | r :: rs => match r.at index sub with
    | some p => some { row := r, i := p.1, m := p.2 }
    | none => findObj index sub rs

/-- The object of a key, index × 256 + subindex. -/
def objOf (key : Nat) : Option Obj := findObj (key / 256) (key % 256) odRows

/-- The key of an object. -/
def Obj.key (o : Obj) : Nat := (o.row.index + o.row.istep * o.i) * 256 + o.row.sub + o.m

/-- Every object, in the order of the table. -/
def allObjs : List Obj :=
  odRows.flatMap fun r => (List.range r.n).flatMap fun i => (List.range r.subs).map fun m => { row := r, i := i, m := m }

/-- The registers behind an object. -/
def Obj.offs (o : Obj) : List Nat :=
  match o.row.home with
  | .regs b s1 s2 ds _ => ds.map fun d => b + o.i * s1 + o.m * s2 + d
  | _ => []

/-- The domain behind an object: of the block of its registers, or of its kind. -/
def Obj.dom (o : Obj) : Dom :=
  match o.row.home with
  | .regs b s1 s2 _ _ => (offDom (b + o.i * s1 + o.m * s2)).getD .aon
  | .own _ _ _ | .bytes _ => .aon
  | .spec k => match k with
    | .swapAxis | .swapCmd | .bank | .axCfg | .axGain | .axVcfg | .axVpar | .axVofs | .pathCmd | .axisCmd | .tableApply
    | .busCmd | .unitCmd | .laneCmd | .teffApply | .slotCfg | .sineApply | .tripClear | .fusApply | .calCmd
    | .trimFaultClear => .eng
    | .lsCtrl | .tblCmd | .lsMod | .screenCmd | .screen => .img
    | .budget => .mem
    | .paCmd | .fhCmd | .glistClear | .srvCmd | .rpmSet | .retClear => .dsk
    | _ => .aon

/-- An object takes part in the stored configuration (R856): RW, of a class other than Fault and test, and no command
object; of Fault and test, the reactions and MINW. -/
def Obj.stored (o : Obj) : Bool :=
  decide (o.row.acc = .rw) &&
    (match o.row.home with
     | .spec k => decide (k ∈ [.startTarget, .oemDecl, .subsysIds, .printSectors, .jrnBase, .jrnSectors, .swapAxis, .bank,
         .axCfg, .axGain, .axVcfg, .axVpar, .axVofs, .lsCtrl, .lsMod, .screen, .budget, .rpmSet, .slotCfg])
     | _ => decide (o.row.cls ≠ .test) || decide (o.row.index = 0x5000))

end Sys2Proof.Machine
end

