-- ==== Sys2Proof/Machine/OdRead.lean ====
section
/-! DEFINITION. Machine/OdRead.lean: what an object of the dictionary reads as (R118, R210, R301, R352, R862, R898 and
the object tables of the other chapters), the OEM objects (R1180), and the directory (R855). -/
namespace Sys2Proof.Machine

/-! ## OEM objects -/

/-- One OEM declaration (R1180). -/
structure OemDecl where
  index : Nat
  sub : Nat
  ty : Nat
  acc : Nat
  mask : Nat
  res : Nat
  size : Nat
  dflt : List Byte
  deriving DecidableEq, Repr

/-- The declaration at the head of a list of bytes, and its whole length. -/
def oemAt (bs : List Byte) : Option (OemDecl × Nat) :=
  let d := leAt bs 12 4
  let n := 16 + (d + 3) / 4 * 4
  if bs.length < 16 ∨ bs.length < n then none
  else some ({ index := leAt bs 0 2, sub := leAt bs 2 1, ty := leAt bs 3 1, acc := leAt bs 4 1, mask := leAt bs 5 1,
               res := leAt bs 6 2, size := leAt bs 8 4, dflt := slice bs 16 d }, n)

/-- The declarations of a list of bytes; none when it does not end at a declaration boundary. -/
def oemDecls : Nat → List Byte → Option (List OemDecl)
  | 0, bs => if bs = [] then some [] else none
  | k + 1, bs =>
    if bs = [] then some []
    else match oemAt bs with
      | none => none
      | some (d, n) => (oemDecls k (bs.drop n)).map (d :: ·)

/-- The declarations in force. -/
def State.oemNow (s : State) : List OemDecl := (oemDecls 256 s.zop.oem).getD []

/-- The OEM object of a key. -/
def State.oemObj (s : State) (key : Nat) : Option OemDecl := s.oemNow.find? fun d => decide (d.index * 256 + d.sub = key)

/-- The size of a fixed-size type, none for STRING and DOMAIN (R850). -/
def typeSize : Nat → Option Nat
  | 1 => some 1 | 2 => some 2 | 3 => some 4 | 4 => some 8 | 5 => some 4 | 6 => some 8 | 7 => some 4 | 8 => some 8
  | _ => none

/-! ## Values -/

/-- A bank of the event table as its 65,536 bytes (R168). -/
def bankBytes (l : List (Nat × TEntry)) : List Byte := (List.range 4096).flatMap fun i => (sget {} i l).bytes

/-- The retired frames, ascending (OD 2C00:08). -/
def State.retiredFrames (s : State) : List Nat :=
  (s.shf.frames.filter fun f => decide (f.2.st = .held) && decide (f.2.pool = 7)).map (·.1)

/-- One entry of the spool map: first extent, resident and DIF spool frames of a plane (R424, OD 2C20:00). -/
def State.spoolEntry (s : State) (k p : Nat) : List Byte :=
  let l := (s.framesOf k 3).filter fun f => match f.2.owner with
    | some (_, q, _) => decide (q = p)
    | none => false
  let ext := ((nth {} (s.tok k).planes p : PlaneData).extent).getD 0xFFFFFFFF
  u32le ext ++ leBytes 2 (l.filter fun f => decide (f.2.st = .held)).length ++
    leBytes 2 (l.filter fun f => decide (f.2.st = .dif)).length

/-- The ZOP sessions as OD 1100:07 shows them. -/
def State.sessionBytes (s : State) : List Byte :=
  (List.range 8).flatMap fun i => match s.zop.sessions[i]? with
    | none => List.replicate 16 0
    | some x => u32le x.id ++ [BitVec.ofNat 8 x.slot, 0, 0, 0] ++ u32le x.lastSeq ++
        u32le ((s.time.now.toNat - x.seen.toNat) / 1000000000)

/-- The trims of a calibration, element by element of every instance (OD 4C1c:05). -/
def State.trimBytes (s : State) (id : Nat) : List Byte :=
  (List.range (s.calCount id)).flatMap fun inst => (List.range (s.calElems id inst)).flatMap fun e =>
    let t : Trim := sget {} (trimKey id inst e) s.cal.trims
    leBytes 2 t.trim ++ [BitVec.ofNat 8 t.tap, BitVec.ofNat 8 t.method]

/-- One image bank as OD 5810:03 shows it. -/
def ImgBank.bytes (b : ImgBank) : List Byte :=
  [BitVec.ofNat 8 b.state, 0, 0, 0] ++ u32le b.version ++ u32le b.svn ++ u32le b.ckpt

/-- The bytes of "Ewetchavex Microsystems". -/
def vendorBytes : List Byte :=
  [69, 119, 101, 116, 99, 104, 97, 118, 101, 120, 32, 77, 105, 99, 114, 111, 115, 121, 115, 116, 101, 109, 115]

/-- The 12 bytes of a directory entry (R855). -/
def dirEntry (index sub ty acc mask size : Nat) : List Byte :=
  leBytes 2 index ++ [BitVec.ofNat 8 sub, BitVec.ofNat 8 ty, BitVec.ofNat 8 acc, BitVec.ofNat 8 mask, 0, 0] ++ u32le size

/-- The directory entry of an object as shipped. -/
def Obj.dirEntry (o : Obj) : List Byte :=
  Sys2Proof.Machine.dirEntry (o.key / 256) (o.key % 256) o.row.ty o.row.acc.code o.row.cls.mask.toNat o.row.size

/-- The directory: every object, in ascending order (R855). -/
def State.directory (s : State) : List Byte :=
  let l := allObjs.foldl (fun l o => kput o.key o.dirEntry l) []
  let l2 := s.oemNow.foldl (fun l d => kput (d.index * 256 + d.sub)
    (dirEntry d.index d.sub d.ty d.acc d.mask d.size) l) l
  l2.flatMap (·.2)

/-- The identity, communication and host objects. -/
def State.coreValue (s : State) (o : Obj) : OSpec → List Byte
  | .mode => [BitVec.ofNat 8 s.sys.mode.code]
  | .modeRequest => [BitVec.ofNat 8 s.sys.req]
  | .modeTarget => [BitVec.ofNat 8 s.sys.target.code]
  | .startTarget => s.odGet 0x100104 [3]
  | .modeEntry => u64le s.sys.entryTime.toNat
  | .safeCause => leBytes 2 (s.sys.origin * 256 + s.sys.causeSource)
  | .directory => s.directory
  | .serial => (List.range 16).map Config.serial
  | .fwEngine => (Config.fwVersion 0 s.die.imgActive).take 255
  | .fwService => (Config.fwVersion 1 s.die.imgActive).take 255
  | .vendor => vendorBytes
  | .storeStatus => [BitVec.ofNat 8 s.zop.storeStatus]
  | .storeTime => u64le s.zop.storeTime.toNat
  | .storeNeed => u32le s.zop.storeNeed
  | .oemDecl => s.odGet 0x101200 []
  | .counts => s.zop.ports.flatMap fun p =>
      u32le p.received ++ u32le p.answered ++ u32le p.discarded ++ u32le p.rateDiscarded ++ u32le p.authFailed ++
        u32le p.seqDiscarded
  | .sessions => s.sessionBytes
  | .link => [if nth false s.hq.eth o.i then 1 else 0]
  | .macAddr => u64le (Config.macAddr o.i).toNat
  | .smbCounts => u32le s.zop.smbCount ++ u32le s.zop.smbPec ++ u32le s.zop.smbBusy
  | .keyRoles => (List.range 4).map fun i => BitVec.ofNat 8 (((nth none s.die.keys i).map (·.role)).getD 0)
  | .pciIds => leBytes 2 Config.vendorId.toNat ++ leBytes 2 0x7740
  | .subsysIds => s.odGet 0x113003 (leBytes 2 Config.vendorId.toNat ++ leBytes 2 0x7740)
  | .printSectors => u64le s.jrn.printSectors
  | .hostSectors => u64le (s.capacity - s.jrn.printSectors)
  | .jrnBase => u64le s.jrn.jrnBase
  | .jrnSectors => u32le s.jrn.jrnSectors
  | .jrnNext => u64le s.jrn.next
  | .jrnAcked => u64le s.jrn.acked
  | .jrnOldest => u64le s.jrn.oldest
  | .jrnSeal => s.jrn.headSeal
  | _ => []

/-- The objects of the timebase, the stations, page flow and Sheaf. -/
def State.pageValue (s : State) (o : Obj) : OSpec → List Byte
  | .axesLocked => u32le ((List.range 24).foldl (fun w k => if (s.culm.ax k).st = .locked then w + 2 ^ k else w) 0)
  | .activeBank => [BitVec.ofNat 8 s.culm.active]
  | .swapAxis => [BitVec.ofNat 8 s.culm.swapAxis]
  | .swapCmd => [BitVec.ofNat 8 s.culm.swapStatus]
  | .bank => bankBytes (s.culm.bank o.m)
  | .snapshot => snapBytes s.culm.snapTime s.culm.snapTstat s.culm.snap
  | .deviceTime => u64le s.time.now.toNat
  | .timeStatus => [BitVec.ofNat 8 s.time.stat.code]
  | .offset => u64le (code 64 s.time.offset)
  | .axCfg => u32le (s.culm.ax o.i).cfg.toNat
  | .axGain => u32le (s.reg (0x101008 + 0x40 * o.i)).toNat
  | .axVcfg => u32le (s.culm.ax o.i).vcfg.toNat
  | .axVpar => u32le (s.culm.ax o.i).vparLo.toNat ++ u32le (s.culm.ax o.i).vparHi.toNat
  | .axVofs => u32le (s.culm.ax o.i).vofs.toNat
  | .axAngle => u64le ((s.culm.ax o.i).theta / 2 ^ 32)
  | .axVel => u32le (code 32 (velOf (s.culm.ax o.i).omega))
  | .lsCtrl => u32le (s.lsCtrl o.i).toNat
  | .tblCmd => [BitVec.ofNat 8 (s.st o.i).tblStatus.code]
  | .lsMod => leBytes 2 (nth {} (s.st o.i).beams o.m : Beam).mod
  | .tokenCounts => (s.pgf.snap.flatMap fun w => u32le w.toNat) ++ u64le s.pgf.snapTime.toNat ++
      [BitVec.ofNat 8 s.time.stat.code]
  | .freeSlots => leBytes 2 s.freeSlots
  | .tokens => (List.range 1024).flatMap fun k => (s.tok k).record.flatMap fun w => u32le w.toNat
  | .screenCmd => [BitVec.ofNat 8 (s.st o.i).screenApply]
  | .screen => (nth {} (s.st (o.i / 8)).shadowScreens (o.i % 8) : Screen).bytes
  | .codePos => u32le (s.readReg 0x38000C).toNat ++ u32le (s.readReg 0x380008).toNat
  | .books => s.shf.booksBytes
  | .retiredList => s.retiredFrames.flatMap u32le
  | .budget => u32le (s.budget o.i)
  | .spoolMap => (List.range 1024).flatMap fun k => (List.range 4).flatMap fun p => s.spoolEntry k p
  | _ => []

/-- The objects of the disk, the paper path, the drives, the loops, high voltage and fuser. -/
def State.engineValue (s : State) (o : Obj) : OSpec → List Byte
  | .sectPerHead => u64le s.capacity
  | .ldpcBase => (List.range 22743).map ldpcByte
  | .paCmd => u32le (s.readReg 0x500044).toNat
  | .fhCmd => u32le (s.readReg 0x500050).toNat
  | .glist => s.die.glist.flatMap fun g => u64le (g.1 % 2 ^ 40 + g.2 * 2 ^ 40)
  | .glistCount => leBytes 2 s.die.glist.length
  | .srvCmd => u32le (s.readReg 0x580004).toNat
  | .position => u64le (code 64 s.srv.p)
  | .rpmSet => leBytes 2 s.spn.rpmSet
  | .pathCmd => [BitVec.ofNat 8 s.mot.pathStatus]
  | .sheetCounts => s.mot.countBytes
  | .sheets => (List.range 16).flatMap fun r => (List.range 8).flatMap fun i => u32le (s.sheetWord r i).toNat
  | .axisCmd => u32le (s.readReg (0x601008 + 0x80 * o.i)).toNat
  | .tableApply => [0]
  | .busCmd => [BitVec.ofNat 8 s.drv.busStatus]
  | .unitCmd => [BitVec.ofNat 8 (s.du o.i).cmdStatus]
  | .laneCmd => u32le (s.readReg 0x700008).toNat
  | .teffApply => [BitVec.ofNat 8 s.teff.applyStatus]
  | .slotCfg => u32le (s.slotCfg o.i).toNat
  | .sineApply => [BitVec.ofNat 8 s.hv.apply]
  | .fusApply => [BitVec.ofNat 8 s.fus.apply]
  | .hvStatus => u32le ((List.range 16).foldl (fun w k =>
      w + (if (s.hvCh k).inWindow then 2 ^ (16 + k) else 0) + (if (s.hvCh k).trip || (s.hvCh k).fbFault then 2 ^ k else 0)) 0)
  | _ => []

/-- The objects of power, thermal, calibration, the record and start-up. -/
def State.systemValue (s : State) (o : Obj) : OSpec → List Byte
  | .domReq => leBytes 2 s.pwr.reqStatus
  | .thmValues => (s.thm.chans.flatMap fun c => u32le (code 32 c.val)) ++ u32le s.thm.round.toNat
  | .linApply => [BitVec.ofNat 8 s.thm.linApply]
  | .calCmd => u32le (s.readReg 0x840004).toNat
  | .calCounts =>
    let r := s.calRec o.i
    u32le r.count ++ u32le r.rejects ++ u64le r.time.toNat ++ [BitVec.ofNat 8 r.tstat, 0, 0, 0]
  | .calTrims => s.trimBytes (o.key / 256 - 0x4C10)
  | .general => (s.die.gen.filter GEntry.valid).flatMap GEntry.bytes
  | .protectedRegion => (s.die.prot.filter GEntry.valid).flatMap GEntry.bytes
  | .marks => leBytes 2 s.die.marks.toNat
  | .lastStart => s.boot.lastStart.flatMap fun e =>
      [BitVec.ofNat 8 e.method, BitVec.ofNat 8 e.outcome, 0, 0] ++ u32le e.duration
  | .runStep => [BitVec.ofNat 8 s.boot.cmdStatus]
  | .updateCmd => [BitVec.ofNat 8 s.boot.updState]
  | .banks => s.die.img0.bytes ++ s.die.img1.bytes
  | .handback => [BitVec.ofNat 8 s.boot.handbackStatus]
  | _ => []

/-- The value of a special object. -/
def State.specValue (s : State) (o : Obj) (k : OSpec) : List Byte :=
  s.coreValue o k ++ s.pageValue o k ++ s.engineValue o k ++ s.systemValue o k

/-- The live value of an object as shipped. -/
def State.liveValue (s : State) (o : Obj) : List Byte :=
  match o.row.home with
  | .regs _ _ _ _ w => o.offs.flatMap fun a => leBytes w (s.readReg a).toNat
  | .own d _ _ => s.odGet o.key (leBytes o.row.size d)
  | .bytes d => s.odGet o.key d
  | .spec k => s.specValue o k

/-- The default of an object: what it reads as in the state after reset (R851 ff.). -/
def Obj.dflt (o : Obj) : List Byte := State.reset.liveValue o

/-- The value that an object holds (R856, R1142): live while its domain is powered; else the write that waits for the
domain, the value that the service pair keeps for it, or its default. -/
def State.objValue (s : State) (o : Obj) : List Byte :=
  if s.dom o.dom = .off ∧ (o.row.acc = .rw) then
    match find? o.key s.zop.offWrites with
    | some v => v ++ (s.liveValue o).drop v.length
    | none => match find? o.key s.zop.stored with
      | some v => v ++ o.dflt.drop v.length
      | none => o.dflt
  else s.liveValue o

/-- The value of an OEM object (R1180). -/
def State.oemValue (s : State) (d : OemDecl) : List Byte := s.odGet (d.index * 256 + d.sub) d.dflt

end Sys2Proof.Machine
end

