-- ==== Sys2Proof/Machine/OdLoad.lean ====
section
/-! DEFINITION. Machine/OdLoad.lean: loading the stored configuration into the registers and values behind the objects
(R856, R1142, R1175), with the immediate apply of every shadowed item, and the loss of a domain's state (R972, R1079).
-/
namespace Sys2Proof.Machine

/-! ## Loading -/

/-- The bits that a write of a plain register stores. -/
def regMask (off : Nat) : Word := ((regRow? off).map (·.wr)).getD 0xFFFFFFFF

/-- Load the registers of a mirror: the bytes given, then what the registers hold. -/
def State.loadRegs (offs : List Nat) (w : Nat) (bs : List Byte) (s : State) : State :=
  let cur := offs.flatMap fun a => leBytes w (s.reg a).toNat
  let v := bs ++ cur.drop bs.length
  offs.zipIdx.foldl (fun t p => t.setReg p.1 (BitVec.ofNat 32 (leAt v (w * p.2) w) &&& regMask p.1)) s

/-- Load the value of a special object. -/
def State.loadSpec (o : Obj) (k : OSpec) (bs : List Byte) (s : State) : State :=
  let w : Word := BitVec.ofNat 32 (leAt bs 0 4)
  match k with
  | .startTarget => s.odPut 0x100104 [3] bs
  | .oemDecl => s.odPut 0x101200 [] bs
  | .subsysIds => s.odPut 0x113003 (leBytes 2 Config.vendorId.toNat ++ leBytes 2 0x7740) bs
  | .printSectors => { s with jrn := { s.jrn with printSectors := leNat bs } }
  | .jrnBase => { s with jrn := { s.jrn with jrnBase := leNat bs } }
  | .jrnSectors => { s with jrn := { s.jrn with jrnSectors := leNat bs } }
  | .swapAxis => s.onCulm fun c => { c with swapAxis := leNat bs }
  | .bank => s.onCulm fun c => c.setBank o.m (storeEntries bs (bs.length / 16) 0 (c.bank o.m))
  | .axCfg => s.onCulm (Culm.modAx o.i fun a => a.writeCfg 0 w)
  | .axVcfg => s.onCulm (Culm.modAx o.i fun a => a.writeCfg 1 w)
  | .axVpar => s.onCulm (Culm.modAx o.i fun a => (a.writeCfg 2 w).writeCfg 3 (BitVec.ofNat 32 (leAt bs 4 4)))
  | .axVofs => s.onCulm (Culm.modAx o.i fun a => a.writeCfg 4 w)
  | .axGain => s.setReg (0x101008 + 0x40 * o.i) (w &&& 0x1F1F1F00)
  | .lsCtrl => s.onLs o.i fun t => { t with biasHold := bitOf w 1, disable := bitOf w 0 }
  | .lsMod => s.onLs o.i fun t => { t with beams := modAt t.beams o.m fun b => { b with mod := leNat bs % 4096 } }
  | .screen => match (screenOf bs).2 with
    | some c => s.onLs (o.i / 8) fun t => { t with shadowScreens := modAt t.shadowScreens (o.i % 8) fun _ => c }
    | none => s
  | .budget => s.onShf fun h => { h with budgets := modAt h.budgets o.i fun _ => leNat bs }
  | .rpmSet => s.onSpn fun p => { p with rpmSet := leNat bs }
  | .slotCfg => s.onTs o.i fun t => { t with cfg := w &&& 0xCFEFFFFF }
  | _ => s

/-- Load the value of an object. -/
def State.loadObj (o : Obj) (bs : List Byte) (s : State) : State :=
  match o.row.home with
  | .regs _ _ _ _ w => s.loadRegs o.offs w bs
  | .own d _ _ => s.odPut o.key (leBytes o.row.size d) bs
  | .bytes d => s.odPut o.key d bs
  | .spec k => s.loadSpec o k bs

/-- Load the entries of a list whose objects stand in a domain. -/
def State.loadItems (d : Dom) (l : List (Nat × List Byte)) (s : State) : State :=
  l.foldl (fun t e => match objOf e.1 with
    | some o => if o.dom = d then t.loadObj o e.2 else t
    | none => t) s

/-- Set the interrupt enables of a domain's banks from the stored ones (R1142, R1175). -/
def State.loadIen (d : Dom) (s : State) : State :=
  let bits := leNat ((find? 0x5000F0 s.zop.stored).getD [])
  evBanks.foldl (fun t b =>
    if b.dom = d then t.setReg (b.stat + 4) (BitVec.ofNat 32 (bits / 2 ^ b.first % 2 ^ b.count)) else t) s

/-- Apply every shadowed item of a domain at once: no block is in a state that has a switch-over point (R1142). -/
def State.applyShadow (d : Dom) (s : State) : State :=
  match d with
  | .eng =>
    let s1 := (List.range 24).foldl (fun t k => t.onCulm (Culm.modAx k fun a => a.applyGains (t.shadowGains k))) s
    let s2 := (List.range 256).foldl (fun t n => t.onTs n fun x => { x with coef := t.shadowCoef n }) s1
    let s3 := s2.onMot fun m =>
      { m with axes := m.axes.map fun a => { a with tbls := [s2.shadowSteps 0, s2.shadowSteps 1], tblNew := none } }
    let s4 := (List.range 24).foldl (fun t u => t.onDu u fun x =>
      { x with adv := (List.range 17).map fun i => fld (t.reg (0x683000 + 0x80 * u + 4 * i)) 0 8, advArmed := false }) s3
    let s5 := s4.onHvB fun h => { h with chans := h.chans.map fun c => { c with sine := s4.shadowSine, sineWait := false } }
    let lin (j : Nat) : List Int := (List.range 33).map fun i =>
      s32 (s5.reg (0x7C0400 + 0x100 * j + 4 * i))
    let s6 := s5.onFusB fun f =>
      { f with inv := (List.range 65).map fun i => fld (s5.reg (0x7C0C00 + 4 * i)) 0 16,
               ths := f.ths.zipIdx.map fun p => { p.1 with lin := lin p.2 } }
    s6.mirrorBus
  | .img => (List.range 4).foldl (fun t n => t.onLs n fun x =>
      { x with tbl := t.shadowTables n, tblArmed := false, screens := x.shadowScreens }) s
  | .dsk =>
    let s1 := s.onRch fun r => { r with heads := (List.range 4).map s.shadowHead }
    let s2 := { s1 with spn := { s1.spn with adv := (List.range 17).map fun i => fld (s1.reg (0x5C0100 + 4 * i)) 0 8 } }
    s2.onSrv fun v =>
      { v with rdofs := (List.range 8).map fun z => sx 16 (fld (s1.srvReg (0x200 + 0x20 * s1.rch.head + 4 * z)) 0 16) }
  | .aon => { s with thm := { s.thm with
      lin := (List.range 4).map fun t => (List.range 33).map fun i => s32 (s.reg (0x821000 + 0x100 * t + 4 * i)) } }
  | _ => s

/-- The areas of R941: the spool area and the journal area lie within the print region and do not overlap. -/
def areasMeet (print spool extents base sectors : Nat) : Bool :=
  (decide (extents = 0) || decide (spool + 16 * extents ≤ print)) &&
    (decide (sectors = 0) || decide (base + sectors ≤ print)) &&
    (decide (extents = 0) || decide (sectors = 0) || decide (spool + 16 * extents ≤ base) ||
      decide (base + sectors ≤ spool))

/-- The areas of R941, with PRINT_SECTORS within the capacity (R942). -/
def State.areasFit (s : State) (print spool extents base sectors : Nat) : Bool :=
  decide (print ≤ s.capacity) && areasMeet print spool extents base sectors

/-- The first LBA of the spool area (R423). -/
def State.spoolBase (s : State) : Nat := s.extentLba 0

/-- The extents of the spool area (R423). -/
def State.spoolExtents (s : State) : Nat := (s.reg 0x40001C).toNat

/-- The partition and the journal ring written while DSK was off come into force, if they fit (R971). -/
def State.takeAreas (s : State) : State :=
  let l := s.zop.offWrites
  let v (k cur : Nat) : Nat := ((find? k l).map leNat).getD cur
  if !(l.any fun e => decide (e.1 ∈ [0x113101, 0x113201, 0x113202])) then s
  else
    let s1 := { s with zop := { s.zop with offWrites := l.filter fun e => decide (e.1 ∉ [0x113101, 0x113201, 0x113202]) } }
    let p := v 0x113101 s.jrn.printSectors
    let b := v 0x113201 s.jrn.jrnBase
    let n := v 0x113202 s.jrn.jrnSectors
    if s1.areasFit p s1.spoolBase s1.spoolExtents b n then
      { s1 with jrn := { s1.jrn with printSectors := p, jrnBase := b, jrnSectors := n } }
    else s1.raise 125

/-- Bring the writes that waited for a domain into force; one of `LSn_CTRL` has all its effects (R275, R304, R550, R617,
R689, R751, R796, R848, R971). -/
def State.takeWaiting (d : Dom) (s : State) : State :=
  let l := s.zop.offWrites.filter fun e => match objOf e.1 with
    | some o => decide (o.dom = d)
    | none => false
  let ctrl (e : Nat × List Byte) : Option Nat := match objOf e.1 with
    | some o => if o.row.home = .spec .lsCtrl then some o.i else none
    | none => none
  if l = [] then s
  else
    let s1 := ({ s with zop := { s.zop with offWrites := s.zop.offWrites.filter fun e => !l.contains e } } : State).loadItems d
      (l.filter fun e => (ctrl e).isNone)
    l.foldl (fun t e => match ctrl e with
      | some n => (lsCtrlStore n (t.ctrlHeard n (BitVec.ofNat 32 (leAt e.2 0 4))) t).2
      | none => t) s1

/-- Load the stored values of a domain, with the immediate apply (R1142), then the writes that waited for it. -/
def State.loadDomain (d : Dom) (s : State) : State :=
  (((s.loadItems d s.zop.stored).loadIen d).takeWaiting d).applyShadow d

/-! ## Losing a domain's state -/

/-- The sources of the banks of a domain. -/
def domainSources (d : Dom) : BitVec 256 :=
  evBanks.foldl (fun m b => if b.dom = d then m ||| bankMask b else m) 0

/-- A domain leaves the on state: the status bits of its blocks are lost, and its sources stop being busy (R1079). -/
def State.sourcesLost (d : Dom) (s : State) : State :=
  let m := domainSources d
  ({ s with evt := { s.evt with
      status := s.evt.status &&& ~~~m, busy := s.evt.busy &&& ~~~m, errn := s.evt.errn &&& ~~~m,
      blockResets := s.evt.blockResets.filter fun x => !m.getLsbD x } }).errUpdate

/-- The interrupt enables: the service pair keeps those of a domain that leaves the on state (R856). -/
def isIen (off : Nat) : Bool := evBanks.any fun b => decide (b.stat + 4 = off)

/-- The plain registers and latched words of a domain's blocks are lost (R972). -/
def State.regsLost (d : Dom) (s : State) : State :=
  { s with regs := s.regs.filter fun e => decide (offDom e.1 ≠ some d) || isIen e.1,
           latched := s.latched.filter fun e => decide (offDom e.1 ≠ some d) }

/-- The dictionary values that AON holds: modes and wake, the SMBus address, and PTP. -/
def aonHeld (key : Nat) : Bool := decide (key / 256 = 0x1001 ∨ key / 256 = 0x1110 ∨ key / 256 = 0x2001)

/-- A station without its state in IMG, but with the levels of its pins and its latch on the BCD die (R270, R274). -/
def Station.lost (t : Station) : Station := { ilkLocal := t.ilkLocal, ilkLatch := t.ilkLatch }

/-- The state of a domain is lost at OFF (R972). -/
def State.domainLost (d : Dom) (s0 : State) : State :=
  let s := s0.regsLost d
  match d with
  | .mgt => { s with
      zop := {}, hq := { eth := s.hq.eth },
      od := s.od.filter fun e => aonHeld e.1,
      sys := { s.sys with pairA := .inReset, pairB := .inReset, rejoinA := none, rejoinB := none,
                           missA := false, missB := false } }
  | .mem => { s with
      shf := { total := s.shf.total }, mov := {}, dram := [], pgf := {}, husk := {},
      jrn := { s.jrn with pool := [], fill := none } }
  | .eng => { s with
      culm := {}, mot := {}, drv := {}, teff := {}, hv := {}, fus := {},
      cal := { ofs := s.cal.ofs.map fun _ => 0, startBad := s.cal.startBad } }
  | .dsk => s.diskOff
  | .pix =>
    let g : Pgf := { s.pgf with gate := none, gateSlot := 0, gateOutcome := 0, gateFailed := 0,
                                snap := List.replicate 7 0, snapTime := 0, snapValid := false, snapSeq := 0,
                                latSlot := none }
    { s with husk := { coding := s.husk.coding }, pgf := g }
  | .img => { s with ls := s.ls.map Station.lost }
  | .ana => { s with ls := s.ls.map fun t => { t with ilkLatch := false } }
  | _ => s

end Sys2Proof.Machine
end

