-- ==== Sys2Proof/Machine/DomOps.lean ====
section
/-! DEFINITION. Machine/DomOps.lean: power domains as they leave and enter the on state (R440, R441, R973 to R981,
R1063, R1142), the plan of a power sequence (R70, R980, R984, R987, R992), and the sequencer's progress. -/
namespace Sys2Proof.Machine

/-- Change the PWR block. -/
def State.onPwr (f : Pwr → Pwr) (s : State) : State := { s with pwr := f s.pwr }

/-- Change a rail slot. -/
def State.onSlot (k : Nat) (f : Slot → Slot) (s : State) : State :=
  s.onPwr fun p => { p with slots := modAt p.slots k f }

/-- A rail slot. -/
def State.slot (s : State) (k : Nat) : Slot := nth {} s.pwr.slots k

/-- `PWR_RAILk_CFG` in force (R1033, R1038). -/
def State.railCfg (s : State) (k : Nat) : Word := s.railWord k 0

/-- KIND of a slot: a monitor (R985). -/
def State.monitor (s : State) (k : Nat) : Bool := bitOf (s.railCfg k) 29

/-- Put a domain in a state. -/
def State.setDom (d : Dom) (v : DState) (s : State) : State :=
  if d = .aon then s else s.onPwr fun p => { p with doms := modAt p.doms (d.code - 1) fun _ => v }

/-! ## Leaving the on state -/

/-- Every page-out in progress is abandoned, with its write (R428, R440). -/
def State.abandonPageOuts (s : State) : State :=
  let out (k : DKind) : Bool := match k with
    | .pageOut _ => true
    | _ => false
  let s1 := s.onRch fun r => { r with waiting := r.waiting.filter fun x => !out x.kind }
  let s2 := match s1.rch.cur with
    | some x => if out x.kind then (s1.gateCut 121).endXfer 5 else s1
    | none => s1
  (s2.shf.frames.filter fun f => decide (f.2.st = .dif)).foldl (fun t f => t.pageOutFailed f.1) s2

/-- The Mover aborts its queued and running channels; how far a running one has come is a free value (R440, R453).
DESIGN CHOICE, log entry 40. -/
def State.abortMover (s : State) : State :=
  (s.mov.queue.foldl (fun t k => t.movAbort1 k s.fresh) s).used

/-- Write the journal records that may be written to the disk on the medium, while no cause of R582 inhibits it (R441,
R946, R947).
DEDUCED, log entry 80. -/
def State.flushJournal (s : State) : State :=
  if s.on .dsk && s.diskReady && decide (s.srv.winh = 0) && !s.rch.paFault then
    let ok (r : JRec) : Bool := decide (r.seq < s.jrn.acked + s.jrn.cap)
    s.onJrn fun j => { j with pool := j.pool.filter fun r => !ok r, medium := j.medium ++ j.pool.filter ok }
  else s

/-- Write every record that is still in the journal pool into Glume (R441). -/
def State.spillJournal (s : State) : State :=
  (s.jrn.pool.foldl (fun t r => t.glume 14 true 0 (r.bytes.take 128)) s).onJrn fun j => { j with pool := [], fill := none }

/-- A change of domain d turns towards OFF: what the journal pool has kept in retention goes into Glume first (R440,
R441). -/
def State.memSpill (d : Dom) (s : State) : State := if d = .mem then s.spillJournal else s

/-- ENG leaves the on state: its axes go OFF, which cancels an armed swap, and Teff's pending updates are discarded
(R148, R173, R784). -/
def State.engLeaves (s : State) : State :=
  let s1 := (s.onCulm fun c => { c with axes := c.axes.map Axis.toOff, due := [] }).swapLost
  s1.onTeff fun t => { t with slots := t.slots.map fun x => { x with pend := none } }

/-- The transfers that `p` names are abandoned, and their staged frames are freed (R875, R883, R884). -/
def State.dropXfers (p : Xfer → Bool) (s : State) : State :=
  let gone := s.zop.xfers.filter p
  let s1 := (s.freeFrames (gone.flatMap (·.frames))).dropAllocs fun a => gone.any fun x => decide (a.who = .stage x.id)
  { s1 with zop := { s1.zop with xfers := s1.zop.xfers.filter fun x => !p x,
                                 abandoned := s1.zop.abandoned ++ gone.map (·.id) } }

/-- The actions of a domain's own chapter before it leaves the on state, `off` telling whether it goes to OFF (R981). -/
def State.domainLeaves (d : Dom) (off : Bool) (s : State) : State :=
  let s1 := s.calAbort fun id _ => calInDomain d id
  let s2 := match d with
    | .mem =>
      let t := (s1.abandonPageOuts.abortMover).dropXfers fun x => decide (65536 < x.total)
      if off then t.spillJournal else t
    | .eng => s1.engLeaves
    | .dsk => s1.diskLeaves
    | .pix =>
      let drops (w : CreditWait) : Bool := decide (w.consumer = 1) && !s1.moves w
      ({ s1 with husk := { s1.husk with busy := false, coderWaits := false } } : State).onShf fun h =>
        { h with waits := h.waits.filter fun w => !drops w }
    | _ => s1
  s2.sourcesLost d

/-! ## Entering the on state -/

/-- ENG is on: enabled motion axes and drive units are idle, and the counters restart (R151, R620, R748, R793). A
feed-forward keeps its value until its source next updates (R139). DESIGN CHOICE, log entry 101. -/
def State.engEnters (s : State) : State :=
  let ax (p : MAxis × Nat) : MAxis :=
    if !s.mEn p.2 then { p.1 with st := .disabled } else if p.1.st = .disabled then { p.1 with st := .idle } else p.1
  let un (p : DUnit × Nat) : DUnit :=
    if !s.duEn p.2 then { p.1 with st := .disabled } else if p.1.st = .disabled then { p.1 with st := .idle } else p.1
  let s1 := s.onMot fun m => { m with axes := m.axes.zipIdx.map ax }
  let s2 := s1.onDrv fun d => { d with cntCut := 0, cntInh := 0, cntChop := 0, units := d.units.zipIdx.map un }
  let s3 := s2.onTeff fun t =>
    { t with cntLate := 0, cntOverrun := 0, cntReloc := 0,
             slots := t.slots.map fun x => { cfg := x.cfg, coef := x.coef, lane := x.lane, restart := true } }
  ((List.range 16).foldl (fun t k => if t.hvGate k then t.hvOpens k else t) s3).mirrorBus

/-- The valid Glume entries of a kind, in the order written. -/
def Rec.ofKind (r : Rec) (kind : Nat) : List GItem :=
  ((r.prot ++ r.gen).filter fun g => g.valid && decide (g.item.kind = kind)).map (·.item)

/-- The frames that Glume lists as retired (R438). -/
def Rec.retired (r : Rec) : List Nat := ((r.ofKind 5).map fun i => leAt i.payload 0 4).dedup

/-- The memory has `n` frames, all FREE but the retired ones, with the budgets as stored or by default (R399, R404,
R438, R442). -/
def State.memFill (n : Nat) (s : State) : State :=
  let s1 := s.onShf fun _ => { total := n, free := n, budgets := defaultBudgets n }
  let s2 := s1.loadItems .mem (s1.zop.stored.filter fun e => match objOf e.1 with
    | some o => decide (o.row.home = .spec .budget)
    | none => false)
  (s2.die.retired.filter fun f => decide (f < n)).foldl (fun t f =>
    (t.onShf fun h => { h with free := h.free - 1 }).toReserve f) s2

/-- IMG is on: a station whose interlock latch is set says so, and present stations that are not disabled become enabled
(R219, R270, R276). -/
def State.imgEnters (s : State) : State :=
  (List.range 4).foldl (fun t n =>
    let t1 := if (t.st n).ilkLatch then t.latchStations [n] else t
    let t2 := t1.onLs n fun x => { x with pllLocked := false }
    if bitOf (t2.lsReg n 0) 31 && !(t2.st n).disable then t2.enterEnabled n else t2) s

/-- DSK is on; out of retention, the settings of its heads are kept (R512, R546, R584, R610, R971). -/
def State.dskEnters (cold : Bool) (s : State) : State :=
  let t := s.takeAreas.diskOn.onSpn fun p => { p with rpmSet := s.spn.rpmSet }
  if cold then t.applyShadow .dsk
  else (t.onRch fun r => { r with heads := s.rch.heads }).onSpn fun p => { p with adv := s.spn.adv }

/-- The counters of HUSK clear as PIX enters the on state; its other registers stay (R395, R972). -/
def Husk.countersClear (h : Husk) : Husk :=
  { h with busy := false, coderWaits := false, cntBlocks := 0, cntFlat := 0, cntTwo := 0, cntPred := 0, cntQuant := 0,
           cntTagred := 0, decs := h.decs.map fun d => { d with malf := 0, blocks := 0 } }

/-- A domain has entered the on state; `cold` tells that it comes from OFF (R1142). -/
def State.domainEnters (d : Dom) (cold : Bool) (s0 : State) : State :=
  let s := if cold then s0.loadDomain d else s0.takeWaiting d
  match d with
  | .mgt => s.onHq fun h => { h with cntCorr := 0, cntUncorr := 0, cntCto := 0, cntB2bad := 0 }
  | .ana => s.mirrorBus.latchesUp
  | .eng => s.engEnters
  | .dsk => s.dskEnters cold
  | .mem => if cold then s.memFill s.shf.total else s
  | .pix => ({ s with husk := s.husk.countersClear } : State).coderGo
  | .img => s.imgEnters
  | _ => s

/-! ## Plans -/

/-- The highest rail level that a mode needs (R984). -/
def Mode.level : Mode → Nat
  | .off => 0 | .standby => 1 | .service | .safe => 2 | .ready | .print => 3

/-- The state that a mode asks of a domain; none where the host may choose (R70, R73). What the spec leaves open on
the way from READY to SERVICE, whether the Any domains stay on, is settled here: they stay. DESIGN CHOICE, log entry
92. -/
def State.goalOf (s : State) (m : Mode) (d : Dom) : Option DState :=
  match m, d with
  | _, .aon => none
  | .off, _ => some .off
  | .standby, .mgt | .standby, .mem => some .ret
  | .standby, _ => some .off
  | .service, .mgt | .service, .mem => some .on
  | .service, _ => none
  | .safe, .mgt => some .on
  | .safe, .mem => some .ret
  | .safe, _ => some .off
  | .ready, .dsk | .print, .dsk => if s.boot.noDisk then some .off else some .on
  | .ready, _ | .print, _ => some .on

/-- The order in which domains turn on (R980). -/
def domOrder : List Dom := [.mgt, .mem, .ana, .eng, .dsk, .pix, .img]

/-- The level after which a domain turns on (R987). -/
def Dom.level : Dom → Nat
  | .mgt | .mem => 2
  | _ => 3

/-- The slots of a level, in ascending order. -/
def State.slotsOfLevel (s : State) (l : Nat) : List Nat := (List.range 16).filter fun k => decide (s.slotLevel k = l)

/-- The domain states as they will be once the current task has ended. -/
def State.domSoon (s : State) (d : Dom) : DState :=
  match s.pwr.seq with
  | .dom x g :: _ => if x = d ∧ s.dom d = .transit then g else s.dom d
  | _ => s.dom d

/-- The tasks that turn off what a mode does not need (R980, R992). -/
def State.planDown (s : State) (m : Mode) : List SeqTask :=
  let doms := domOrder.reverse.filterMap fun d =>
    match s.goalOf m d with
    | none => none
    | some g => if g ≠ .on ∧ s.domSoon d ≠ g ∧ ¬(s.domSoon d = .off) then some (SeqTask.dom d g) else none
  let slots := [3, 2, 1].flatMap fun l =>
    if m.level < l then ((s.slotsOfLevel l).filter fun k => (s.slot k).enabled).reverse.map SeqTask.down else []
  doms ++ slots

/-- The tasks that raise what a mode needs (R980, R987). -/
def State.planUp (s : State) (m : Mode) : List SeqTask :=
  [1, 2, 3].flatMap fun l =>
    if l ≤ m.level then
      ((s.slotsOfLevel l).filter fun k => !(s.slot k).qualified).map SeqTask.up ++
        domOrder.filterMap fun d =>
          if d.level = l ∧ s.goalOf m d = some .on ∧ s.domSoon d ≠ .on then some (SeqTask.dom d .on) else none
    else []

/-- Run a list of tasks. A domain step that is in progress is finished first; nothing else of the old sequence is.
DEDUCED, log entry 29. -/
def State.runSeq (why : SeqFor) (tasks : List SeqTask) (s : State) : State :=
  let head := match s.pwr.seq with
    | .dom d g :: _ => if s.dom d = .transit then [SeqTask.dom d g] else []
    | _ => []
  s.onPwr fun p =>
    { p with seq := head ++ tasks, seqDone := [], seqFor := why, seqOver := decide (head ++ tasks = []),
             seqStep := if head = [] then 0 else p.seqStep, slotActive := false,
             slots := p.slots.map fun x => { x with restarts := 0 } }

/-- Plan the sequence to a mode (R987, R992). -/
def State.planTo (m : Mode) (s : State) : State :=
  (s.runSeq .mode (s.planDown m ++ s.planUp m)).onPwr fun p => { p with retries := 0 }

/-! ## Progress -/

/-- The heads are parked and the spindle is stopped, or DSK is not on (R94, R981). -/
def State.diskStill (s : State) : Bool :=
  !s.on .dsk || (!s.srv.st.loaded && decide (s.spn.st = .stopped ∨ s.spn.st = .fault))

/-- No motion axis runs and no drive unit is stopping, or ENG is not on (R94, R739). -/
def State.motorsStill (s : State) : Bool :=
  !s.on .eng || ((s.mot.axes.all fun a => !a.runs) && s.drv.units.all fun u => decide (u.st ≠ .stopping))

/-- The sequence may take a domain out of the on state now: in a mode transition the mechanisms have stopped first
(R94, R100, R981). -/
def State.mayLeave (s : State) (d : Dom) : Bool :=
  match s.pwr.seqFor with
  | .mode => s.diskStill && s.motorsStill && !s.mot.runout
  | .request => true
  | .undo | .toOff => true

/-- A change of `PWR_RSTOk` takes effect at a sequence step or a housekeeping round (R1038). -/
def State.rstoTake (s : State) : State :=
  s.onPwr fun p => { p with rstoCfg := (List.range 4).map fun k => s.reg (0x800300 + 4 * k) }

/-- The current task has ended. -/
def State.seqPop (s : State) : State :=
  s.rstoTake.onPwr fun p => match p.seq with
    | [] => p
    | t :: rest => { p with seq := rest, seqDone := t :: p.seqDone, seqStep := 0, slotActive := false,
                            seqOver := decide (rest = []) }

/-- The first step of a domain change (R976, R977); records that retention has kept are spilled before MEM goes off
(R441). -/
def State.domainBegin (d : Dom) (goal : DState) (s : State) : State :=
  let was := s.dom d
  let s1 := if was = .on then s.domainLeaves d (decide (goal = .off))
    else if d = .mem ∧ was = .ret ∧ goal = .off then s.spillJournal else s
  (s1.setDom d .transit).onPwr fun p => { p with seqStep := 0, seqFrom := was }

/-- ENMODE of a slot names its pin, or PMBus (R1033). -/
def State.byPin (s : State) (k : Nat) : Bool := decide (fld (s.railCfg k) 27 2 = 0 ∨ fld (s.railCfg k) 27 2 = 2)
def State.byPmbus (s : State) (k : Nat) : Bool := decide (fld (s.railCfg k) 27 2 = 1 ∨ fld (s.railCfg k) 27 2 = 2)

/-- The PMBus master issues commands to slot k, as command code and data, with PAGE before each when PAGE_EN is 1
(R1012). -/
def State.pmbIssue (k : Nat) (l : List (Nat × Nat)) (s : State) : State :=
  let w := s.railWord k 3
  let one (c : Nat × Nat) : List (Nat × Nat × Nat) := (if bitOf w 24 then [(k, 0x00, fld w 16 8)] else []) ++ [(k, c.1, c.2)]
  if l = [] then s else s.onPwr fun p => { p with pmbSent := l.flatMap one }

/-- A slot is enabled by the means of its ENMODE, with VSET written first when it is not 0 (R987); the alternate
method of step 3 writes no VSET and enables an ENMODE 2 slot by its pin only (R1111). -/
def State.railOn (k : Nat) (alt : Bool) (s : State) : State :=
  let s1 := s.onSlot k fun x => { x with held := some (s.railRegs k) }
  let vset := fld (s1.railWord k 3) 0 16
  let wr := decide (vset ≠ 0) && !alt
  let op := s1.byPmbus k && !(alt && s1.byPin k)
  let s2 := s1.pmbIssue k ((if wr then [(0x20, 0), (0x21, vset)] else []) ++ if op then [(0x01, 0x80)] else [])
  s2.onSlot k fun x => { x with enabled := true, pg := false, restarts := 0, pin := x.pin || s2.byPin k,
                                operation := if op then 0x80 else x.operation, vout := if wr then vset else x.vout }

/-- A slot is disabled by the means of its ENMODE, with OPERATION = 0x40 for PMBus (R992). -/
def State.slotOff (k : Nat) (s : State) : State :=
  let s1 := s.pmbIssue k (if s.byPmbus k then [(0x01, 0x40)] else [])
  s1.onSlot k fun x => { x with enabled := false, qualified := false, pin := false, held := none,
                                operation := if s.byPmbus k then 0x40 else x.operation }

/-- Start what can start at the head of the sequence, passing over tasks whose goal is met. -/
def State.seqKick : Nat → State → State
  | 0, s => s
  | n + 1, s =>
    match s.pwr.seq with
    | [] => s
    | .dom d g :: _ =>
      if s.dom d = .transit then s
      else if s.dom d = g then State.seqKick n s.seqPop
      else if s.on d && !s.mayLeave d then s
      else if s.on d && decide (d = .dsk) && !s.diskLeaves.diskGone then s.diskLeaves
      else s.domainBegin d g
    | .up k :: _ =>
      if (s.slot k).qualified then State.seqKick n s.seqPop
      else if s.monitor k && !s.pwr.slotActive then s.onPwr fun p => { p with slotActive := true }
      else s
    | .down k :: _ =>
      if s.pwr.slotActive then s
      else if !(s.slot k).enabled then State.seqKick n s.seqPop
      else (s.slotOff k).onPwr fun p => { p with slotActive := true }

/-- Let the sequencer go on. -/
def State.seqGo (s : State) : State := State.seqKick (s.pwr.seq.length + 1) s

/-- A domain has ended its change (R976, R977, R983). One that comes out of OFF, be it by way of retention, takes its
stored values (R1142). -/
def State.domainDone (d : Dom) (goal : DState) (s : State) : State :=
  let was := s.pwr.seqFrom
  let bare := decide (was ≠ DState.ret) || s.pwr.bare.contains d
  let s1 := (s.setDom d goal).onPwr fun p =>
    { p with bare := (p.bare.filter fun x => decide (x ≠ d)) ++ if goal = .ret ∧ bare ∧ was ≠ .on then [d] else [] }
  let s2 := match goal with
    | .on => s1.domainEnters d bare
    | .off => s1.domainLost d
    | _ => s1
  let s3 := if was = goal then s2 else s2.raise 209
  s3.seqPop

end Sys2Proof.Machine
end

