-- ==== Sys2Proof/Machine/BootOps.lean ====
section
/-! DEFINITION. Machine/BootOps.lean: the steps of a start, their methods and marks (R1111 to R1124). -/
namespace Sys2Proof.Machine

/-- Change the BOOT block. -/
def State.onBoot (f : Boot → Boot) (s : State) : State := { s with boot := f s.boot }

/-- Change the SYS block. -/
def State.onSys (f : Sys → Sys) (s : State) : State := { s with sys := f s.sys }

/-- Change what outlives AON power. -/
def State.onDie (f : Rec → Rec) (s : State) : State := { s with die := f s.die }

/-- A stored-configuration bank. -/
def Rec.bank (r : Rec) (k : Nat) : CfgBank := if k = 0 then r.cfg0 else r.cfg1

/-- The bank in use: the complete one, or of two the one with the later GEN (R856, R1175). -/
def Rec.inUse (r : Rec) : Option Nat :=
  match r.cfg0.complete, r.cfg1.complete with
  | true, true => if (r.cfg1.gen - r.cfg0.gen).toNat < 2 ^ 31 then some 1 else some 0
  | true, false => some 0
  | false, true => some 1
  | false, false => none

/-- Set bit `n` of a step mask. -/
def stepBit (n : Nat) : BitVec 16 := BitVec.ofNat 16 (2 ^ n)

/-- A step is mandatory (R1111). -/
def mandatory (n : Nat) : Bool := decide (n ≤ 7)

/-- A step is marked (R1116). -/
def State.marked (s : State) (n : Nat) : Bool := s.die.marks.getLsbD n

/-- A step whose preconditions are absent is neither run nor failed (R1115, R1123). -/
def State.stepAbsent (s : State) (n : Nat) : Bool :=
  if n ≤ 7 then false
  else if n = 8 then decide (s.boot.startTarget = .safe)
  else !s.boot.optional || (decide (n = 9) && decide (s.turns = 0)) || (decide (n = 14) && s.boot.noDisk) ||
    (decide (10 ≤ n ∧ n ≤ 13) && !bitOf (s.lsReg (n - 10) 0) 31)

/-- Log a step in OD 5800:05 (R1149). -/
def State.logStep (n method outcome us : Nat) (s : State) : State :=
  s.onBoot fun b => { b with lastStart := modAt b.lastStart (n - 1) fun _ =>
    { method := method, outcome := outcome, duration := us } }

/-- A step has ended, or is absent or skipped. -/
def State.endStep (n : Nat) (s : State) : State :=
  s.onBoot fun b => { b with running := b.running &&& ~~~(stepBit n), ended := b.ended ||| stepBit n }

/-- Start without the disk: NO_DISK, and DSK is turned off (R1119). -/
def State.withoutDisk (s : State) : State :=
  let t := s.onBoot fun b => { b with noDisk := true }
  if t.dom .dsk = .off then t
  else ((t.spnStop).runSeq .mode (t.pwr.seq ++ [.dom .dsk .off]))

/-! ## The journal at a start (R441, R1004) -/

/-- The parts of a POWER_LOSS record that name tokens: number and state (R1096). -/
def lossTokens (p : List Byte) : List Nat :=
  ((List.range 8).map fun i => leAt p (5 * i) 4).filter fun n => decide (n ≠ 0xFFFFFFFF)

/-- The journal holds the end record of a token (R943). -/
def Journal.hasEnd (j : Journal) (num : Nat) : Bool :=
  (j.medium ++ j.pool).any fun r => decide (leAt r.bytes 17 1 = 1) && decide (leAt r.bytes 20 4 = num)

/-- The end record of a token that a power loss spoiled: what the power-loss record does not hold is free (R1004).
DESIGN CHOICE, log entry 44. -/
def lossBody (i : GItem) (num free : Nat) : List Byte :=
  u64le i.time.toNat ++ [BitVec.ofNat 8 i.tstat, 1#8, 7#8, 22#8] ++ u32le num ++ leBytes 64 free

/-- Journal the tokens of the latest power-loss record (R1004). -/
def State.lossRecords (s : State) : State :=
  if !s.die.lossDue then s
  else
    let all := s.die.ofKind 3
    let last := (all.map fun i => i.time.toNat).foldl max 0
    let named : List GItem := all.filter fun i => decide (i.time.toNat = last ∧ i.part ≠ 0)
    let toks := named.flatMap fun i => (lossTokens i.payload).map fun n => (i, n)
    let s1 := toks.foldl (fun t p =>
      if t.jrn.hasEnd p.2 then t
      else match t.jrnPlace 1025 with
        | (u, some (f, n)) => (u.jrnAppend f n (lossBody p.1 p.2 t.fresh)).used
        | (_, none) => t) s
    s1.onDie fun d => { d with lossDue := false }

/-- The records whose four parts follow one another (R1096). -/
def spillsOf : List GItem → List JRec
  | [] => []
  | a :: t =>
    (match t with
      | b :: c :: d :: _ =>
        if a.part = 0 ∧ b.part = 1 ∧ c.part = 2 ∧ d.part = 3 then
          [{ seq := leAt a.payload 0 8, bytes := (a.payload ++ b.payload ++ c.payload ++ d.payload).take 128 }]
        else []
      | _ => []) ++ spillsOf t

/-- Put a record in its place by SEQ. -/
def insertRec (l : List JRec) (r : JRec) : List JRec :=
  (l.takeWhile fun x => decide (x.seq < r.seq)) ++ r :: l.dropWhile fun x => decide (x.seq < r.seq)

/-- The spilled records that the ring does not hold and has room for (R441, R946). -/
def State.spills (s : State) : List JRec :=
  let j := s.jrn
  ((spillsOf (s.die.ofKind 14)).filter fun r => decide (r.seq < j.next ∧ j.next ≤ r.seq + j.cap ∧ r.seq < j.acked + j.cap) &&
    !(j.medium.any fun x => decide (x.seq = r.seq))).foldl insertRec []

/-- The journal's last SEAL agrees with the latest Glume anchor (R1111, R1114). -/
def State.sealsAgree (s : State) : Bool :=
  match s.die.anchor with
  | none => true
  | some a => match (s.spills.foldl insertRec s.jrn.medium).getLast? with
    | some r => decide (slice r.bytes 96 32 = a.2)
    | none => false

/-- What step 14 does once the seals agree: the tokens of a power-loss record, and the spilled records (R441, R1004). -/
def State.journalStep (s : State) : State :=
  let s1 := if s.on .dsk && s.diskReady then s.onJrn fun j => { j with medium := s.spills.foldl insertRec j.medium } else s
  s1.lossRecords

/-- What a skipped optional step leaves undone (R1111, R1118, R1119, R277). -/
def State.skipStep (n : Nat) (s : State) : State :=
  if n = 9 then s.withoutDisk
  else if 10 ≤ n ∧ n ≤ 13 then (s.disableStation (n - 10)).onLs (n - 10) fun t => { t with bootDisabled := true }
  else if n = 14 then s.lossRecords
  else s

/-- What a step names in its entry (R1124): the bank that step 4 loads, the domain of step 8, the station of steps 10 to
13. -/
def State.bootInst (s : State) (n method inst : Nat) : Nat :=
  match n with
  | 4 => if method = 1 then 1 - s.die.imgActive else s.die.imgActive
  | 8 => inst
  | 10 | 11 | 12 | 13 => n - 10
  | _ => 0

/-- The payload of a BOOT_STEP entry (R1096, R1124). A set that step 4 does not load is behind source 9 (R1128). -/
def State.bootPayload (s : State) (n method inst0 cause0 arg : Nat) : List Byte :=
  let inst := s.bootInst n method inst0
  let cause := if n = 4 then 9 else cause0
  let b := if inst = 0 then s.die.img0 else s.die.img1
  let detail := match n with
    | 4 => u32le inst ++ u32le b.version
    | 7 => leBytes 8 arg
    | 9 => u32le (s.readReg 0x5C0000).toNat
    | 10 | 11 | 12 | 13 => u32le (s.readReg (lsBase (n - 10) + 8)).toNat
    | _ => []
  padTo 40 ([BitVec.ofNat 8 n, BitVec.ofNat 8 method, BitVec.ofNat 8 inst, 0#8] ++ u32le cause ++
    u32le s.die.startCount ++ detail)

/-- A failed step: its mark, its entry and source 8 (R1116). -/
def State.markStep (n method inst cause arg : Nat) (s : State) : State :=
  ((s.onDie fun d => { d with marks := d.marks ||| stepBit n }).glume 7 true 0
    (s.bootPayload n method inst cause arg)).raise 8

/-- An optional step has failed: its mark, its entry, and the skip that follows from the moment of failure (R1113,
R1116, R1118). -/
def State.optionalFailed (n inst cause us arg : Nat) (s : State) : State :=
  let s1 := (s.markStep n 0 inst cause arg).logStep n 0 1 us
  let s2 := if n = 8 then s1.raise 252 else s1
  ((s2.onBoot fun b => { b with alt := b.alt ||| stepBit n }).endStep n).skipStep n

/-- A running step fails by itself: SPN enters FAULT or the load fails, and the polygon unit of a station faults
(R1114); the source behind it. -/
def State.stepBroken (s : State) (n : Nat) : Option Nat :=
  if !s.boot.running.getLsbD n then none
  else if n = 9 then
    (if !s.on .dsk then none else if s.spn.st = .fault then some 138 else if s.srv.st = .fault then some 135
      else if s.srv.st = .parking then some 128 else none)
  else if 10 ≤ n ∧ n ≤ 13 ∧ s.on .eng ∧ (s.unitsOfStation (n - 10)).any fun u => decide ((s.du u).st = .fault) then some 160
  else none

/-- What a step does as it begins. -/
def State.beginStep (n : Nat) (s : State) : State :=
  match n with
  | 3 => s.planTo .service
  | 9 => s.spnStart
  | 10 | 11 | 12 | 13 => s.enableStation (n - 10)
  | 15 => s.calStartUp
  | _ => s

/-- Begin a step by the method that its mark asks for (R1112, R1115, R1117, R1121). -/
def State.takeStep (n : Nat) (s : State) : State :=
  let b := stepBit n
  if s.stepAbsent n then
    let t := (s.logStep n 3 0 0).endStep n
    if n = 9 ∧ t.boot.optional then t.withoutDisk else if n = 14 ∧ t.boot.optional then t.lossRecords else t
  else if s.marked n && !s.boot.primaryFirst then
    let t := (s.onBoot fun x => { x with alt := x.alt ||| b }).raise 11
    if mandatory n then
      (t.onBoot fun x => { x with running := x.running ||| b, byAlt := x.byAlt ||| b }).beginStep n
    else ((t.logStep n 2 0 0).endStep n).skipStep n
  else (s.onBoot fun x => { x with running := x.running ||| b, byAlt := x.byAlt &&& ~~~b }).beginStep n

/-- Begin the steps of a list that have neither ended nor begun. -/
def State.takeSteps (l : List Nat) (s : State) : State :=
  l.foldl (fun t n => if (t.boot.ended ||| t.boot.running).getLsbD n then t else t.takeStep n) s

/-- The first step of a list that has not ended. -/
def State.nextStep (s : State) (l : List Nat) : Option Nat := l.find? fun n => !s.boot.ended.getLsbD n

/-- Steps 1 to 8 run one after another (R1111). -/
def State.runSteps : Nat → State → State
  | 0, s => s
  | k + 1, s =>
    if s.boot.running ≠ 0 then s
    else match s.nextStep [1, 2, 3, 4, 5, 6, 7, 8] with
      | none => s
      | some n => State.runSteps k (s.takeStep n)

/-- Steps 9 to 13 run at the same time; 14 and 15 follow them (R1111). -/
def State.runOptional (s : State) : State :=
  if s.boot.optional then
    let s1 := s.takeSteps [9, 10, 11, 12, 13]
    let s2 := if s1.boot.running = 0 then s1.takeSteps [14] else s1
    if s2.boot.running = 0 then s2.takeSteps [15] else s2
  else s

/-- Every step of the start has ended. -/
def State.stepsOver (s : State) : Bool :=
  decide (s.boot.running = 0) && (!s.boot.optional || (s.nextStep [9, 10, 11, 12, 13, 14, 15]).isNone)

/-- The start or the run of its steps is given up. -/
def State.dropStart (s : State) : State :=
  s.onBoot fun b => { b with starting := false, running := 0, optional := false, serviceStep := 0 }

/-- The image bank that a start loads is the active one: a trial that it cuts short leaves no fallback (R1136). -/
def ImgBank.inForce (b : ImgBank) : ImgBank := { b with state := if b.state = 3 then 2 else b.state }

/-- A start begins (R1111, R1123, R1148): the count, the mode that it is to reach, and step 1. During a trial the former
active bank is used (R1136). DEDUCED, log entry 61. -/
def State.bootStart (t : Mode) (primaryFirst : Bool) (s : State) : State :=
  let goal := if s.sys.safeLocked then .safe else t
  let s1 := s.onBoot fun b =>
    { b with starting := true, halted := false, noDisk := false, running := 0, ended := 0, byAlt := 0, alt := 0,
             startTarget := goal, safeCause := false, optional := decide (goal = .ready), primaryFirst := primaryFirst,
             lastStart := (List.range 15).map fun i =>
               if (goal ≠ .ready ∧ 8 ≤ i) ∨ (goal = .safe ∧ i = 7) then { method := 3 } else {},
             serviceStep := 0, cmdStatus := 0, trial := false,
             updStep := 0, reverting := false, handback := none,
             updState := if b.trial ∨ b.updState = 2 then 1 else b.updState }
  let s2 := s1.onDie fun d =>
    { d with startCount := (d.startCount + 1) % 2 ^ 32
             img0 := if d.imgActive = 0 then d.img0.inForce else d.img0
             img1 := if d.imgActive = 0 then d.img1 else d.img1.inForce }
  let s3 := s2.onSys fun y =>
    { y with transit := true, target := if goal = .safe then .safe else .service, safeCount := 0, startDue := false, failovers := 0,
             pairA := .inReset, pairB := .inReset, rejoinA := none, rejoinB := none,
             missA := false, missB := false }
  let s4 := s3.onCal fun c => { c with startBad := false }
  State.runSteps 8 s4

end Sys2Proof.Machine
end

