-- ==== Sys2Proof/Machine/ModeOps.lean ====
section
/-! DEFINITION. Machine/ModeOps.lean: mode transitions, their ends and their failures (R78 to R106, R1123, R1176), and
what the controller does by itself after each command: the sequencer goes on, SAFE is entered, PRINT begins and ends. -/
namespace Sys2Proof.Machine

/-! ## Requests -/

/-- OD 1001:06 WAKE_TARGET (R118). OD 1001:06 takes 2 and 3 alone (R112). -/
def State.wakeTarget (s : State) : Mode := (Mode.ofCode (leNat (s.odGet 0x100106 [3]))).getD .ready

/-- OD 1001:04 START_TARGET (R118). -/
def State.startMode (s : State) : Mode := (Mode.ofCode (leNat (s.odGet 0x100104 [3]))).getD .ready

/-- A request takes its final outcome (R120). -/
def State.reqEnd (r : ReqStatus) (s : State) : State :=
  s.onSys fun y => { y with reqStatus := r, reqSeq := (y.reqSeq + 1) % 256 }

/-- The request that drives the transition takes its outcome; STATUS keeps 1 while a later one is latched (R120). -/
def State.drivenEnd (r : ReqStatus) (s : State) : State :=
  if s.sys.reqDrives then
    (s.reqEnd (if s.sys.latched.isSome then .pending else r)).onSys fun y => { y with reqDrives := false }
  else s

/-- The transition in progress is one whose target needs a domain or a rail level that the mode being left does not hold
(R89). -/
def State.upward (s : State) : Bool :=
  match s.sys.mode, s.sys.target with
  | _, .safe | _, .off => false
  | .off, _ => true
  | .standby, .standby => false
  | .standby, _ => true
  | .service, .ready | .safe, .service => true
  | _, _ => false

/-! ## Leaving and reaching modes -/

/-- A transition leaves READY, or turns round on its way there (R93, R94, R441): the journal writes, then the heads
park; `leaveStep` does the rest. -/
def State.leaveBegin (off : Bool) (s : State) : State :=
  let s1 := if off then s.flushJournal else s
  let s2 := if s1.on .dsk then s1.park else s1
  (s2.runSeq .mode []).onSys fun y => { y with leave := 1 }

/-- The next thing that R94 orders, once the one before it is over: the spindle stops when the heads are parked; the
heaters, the high voltage and the axes stop when the spindle stands; the domains change when the axes stand. -/
def State.leaveStep (s : State) : State :=
  match s.sys.leave with
  | 1 =>
    if s.on .dsk && s.srv.st.loaded then s
    else (if s.on .dsk then s.spnStop else s).onSys fun y => { y with leave := 2 }
  | 2 =>
    if s.diskStill then
      let s1 := (s.onSys fun y => { y with leave := 3 }).stopHeat
      ((List.range 12).foldl (fun t k => t.halt k false) s1).stopUnits false
    else s
  | 3 => if s.motorsStill then (s.onSys fun y => { y with leave := 4 }).planTo s.sys.target else s
  | _ => s

/-- Begin a transition (R90). -/
def State.goMode (m : Mode) (s0 : State) : State :=
  let s00 := s0.onSys fun y => { y with transit := true, target := m, leave := 0, failing := none }
  let s : State := { s00 with fus := { s00.fus with inhibit := s00.fus.inhibit && decide (m ≠ Mode.ready) } }
  let s1 := if m = .ready then s.powerOnCut else if m = .off ∧ s.on .mgt then s.anchor else s
  if s.sys.mode = .ready ∧ m ≠ .ready then s1.leaveBegin (decide (m = .off))
  else (if m = .off then s1.flushJournal else s1).planTo m

/-- A mode is reached (R90, R91). -/
def State.modeIs (m : Mode) (s : State) : State :=
  let s1 := s.onSys fun y => { y with mode := m, target := m, transit := false, phase := if m = .safe then 3 else 0,
                                      entryTime := s.time.now, drain := false, leave := 0, failing := none }
  let s2 := if m = .service ∧ s1.on .eng then s1.openUnits else s1
  s2.raise 2

/-- The engine starts on a transition to READY: the spindle, the units and the steps of the start (R588, R693, R1111).
With `RCH_TURNS` at 0 no disk is fitted (R1115). -/
def State.engineStart (s : State) : State :=
  let s1 := s.startUnits
  if s1.boot.optional then s1.runOptional
  else if s1.boot.noDisk then s1 else if s1.turns = 0 then s1.withoutDisk else s1.spnStart

/-! ## SAFE -/

/-- The containment of R100, steps 1 to 5, as far as the outputs are powered: beams, tokens, high voltage, heaters,
heads and spindle (R103, R739, R1063). -/
def State.contain (s : State) : State :=
  let s1 := (List.range 4).foldl (fun t n => t.gateHoldOn n) s
  let s2 := (s1.onPgf fun g => { g with gate := none }).spoilAll 22
  let armed := s2.waitingSlots.filter fun k => decide ((s2.tok k).state = .armed)
  let s3 := armed.foldl (fun t k => t.rejectOne k 6) s2
  let s4 := (s3.cancelPlans).calAbort fun _ _ => true
  let s5 := if s4.on .dsk then (s4.spnStop).park else s4
  if s5.on .eng then ({ s5 with fus := { s5.fus with inhibit := true } } : State).stopHeat.stopUnits false else s5

/-- Step 6 of R100: the pick axis stops, and the other path axes go on at their velocities and carry the sheets out,
which the diverter still routes (R659, R668); without it the axes stop at once and the units with them, and the sheets
are STOPPED (R101, R667, R739). -/
def State.runOut (skip live : Bool) (s : State) : State :=
  if !s.on .eng then s
  else if skip || !live then
    ((List.range 12).foldl (fun t k => t.halt k true) s).stopSheets.stopUnits true
  else
    let hold (m : MAxis) : MAxis :=
      if m.st = .moving ∨ m.st = .homing then
        { m with st := .moving, homeStep := 0, homeBack := none,
                 prof := { m.prof with position := false, stopping := false, vc := m.prof.v, a := 0, held := false } }
      else m
    let s1 := (List.range 12).foldl (fun t k =>
      if k = t.pickAxis then t.halt k false
      else if t.pathAxis k then t.onMx k hold
      else if t.divEn && decide (k = t.divAxis) then t else t.halt k false) s
    (s1.onMot fun m => { m with runout := true }).runoutEnd

/-- The record of SAFE: `SYS_SAFE_CAUSE` and `SYS_MODE` (R1096). DEDUCED, log entry 25. -/
def State.safeRecord (s : State) : State :=
  s.glume 10 true s.sys.causeSource (u32le s.safeCause.toNat ++ u32le s.sysMode.toNat)

/-- The way down to the SAFE row; after a thermal shutdown the LEVEL 3 slots go first (R70, R100, R1025). -/
def State.planSafe (s : State) : State :=
  let s1 := s.planTo .safe
  if s1.thm.tsd then
    s1.onPwr fun p => { p with seq := (p.seq.filter fun t => match t with | .down _ => true | _ => false) ++
                                      p.seq.filter fun t => match t with | .down _ => false | _ => true }
  else s1

/-- An entry into SAFE (R86, R100, R104, R105). A transition out of SAFE that it pre-empts has not left SAFE, so the
cause stands (R105). A retry that waited for OFFMIN is not made (R991, R1026). A latched request for OFF is judged in
the mode reached (R89). DEDUCED, log entry 24. A request whose transition it pre-empts shows STATUS 6. DESIGN CHOICE,
log entry 95. -/
def State.enterSafe (origin src : Nat) (skip : Bool) (s : State) : State :=
  let live := s.engineLive
  let out := decide (s.sys.mode ≠ .safe)
  let s1 := (s.drivenEnd .failed).dropStart
  let s2 := s1.onSys fun y =>
    { y with mode := .safe, target := .safe, transit := true, phase := 2, safeCount := satInc 255 y.safeCount,
             unack := y.unack || decide (origin ≠ 1), origin := if out then origin else y.origin,
             causeSource := if out then (if origin = 1 then 0 else src) else y.causeSource,
             safeTime := if out then s.time.now else y.safeTime, drain := false, leave := 0,
             failing := none }
  let s3 := (s2.contain.runOut skip live).raise 4
  let s4 := if s3.on .mgt then s3.anchor else s3
  (s4.safeRecord.onPwr fun p => { p with offPend := false, wakePend := false, afterOff := none }).planSafe

/-- A cause raised where SAFE cannot be entered is latched (R1176). -/
def State.latchCause (origin src : Nat) (s : State) : State :=
  let s1 := s.onSys fun y =>
    { y with unack := true, origin := origin, causeSource := src, safeTime := s.time.now }
  s1.safeRecord

/-- SAFE is asked for, or decided, during a start out of OFF (R86, R1176): the pairs are not in service yet, so the
outputs are contained and the cause is latched at once, and the start ends in settled SAFE after its steps 1 to 7,
as one of R1123 does. DEDUCED, log entry 82. -/
def State.safeStart (origin src : Nat) (s : State) : State :=
  let s1 := ((s.drivenEnd .failed).contain).runOut true false
  let s2 := if origin = 1 then s1 else s1.latchCause origin src
  (s2.onBoot fun b => { b with startTarget := .safe, optional := false, running := b.running &&& ~~~(stepBit 8),
                               safeCause := decide (origin ≠ 1) }).onSys fun y => { y with target := .safe }

/-- Enter SAFE, at once or by the start in progress (R86). -/
def State.safeNow (origin src : Nat) (skip : Bool) (s : State) : State :=
  if s.startsUp then s.safeStart origin src else s.enterSafe origin src skip

/-- Carry out the SAFE entry that this command's raises have decided (R86, R88, R104 to R106, R1084, R1176); a thermal
shutdown in SAFE takes the LEVEL 3 slots down first (R1025). DEDUCED, log entry 21. -/
def State.takeSafe (s : State) : State :=
  match s.evt.safeReq with
  | none => { s with evt := { s.evt with safeSkip := false } }
  | some (origin, src) =>
    let skip := s.evt.safeSkip
    let s1 := { s with evt := { s.evt with safeReq := none, safeSkip := false } }
    if s1.cannotSafe then
      let s2 := if s1.sys.transit && decide (s1.sys.target = .off) then s1.contain.runOut true false else s1
      s2.latchCause origin src
    else if (s1.sys.mode = .safe ∨ s1.startsUp) ∧ ¬(s1.sys.transit ∧ s1.sys.target ≠ .safe) then
      (if s1.thm.tsd && s1.sys.transit && !s1.startsUp then s1.planSafe else s1)
    else s1.safeNow origin src skip

/-- A cause raised in OFF or STANDBY by the command that now begins a start or a wake is latched before it begins
(R1176). -/
def State.latchFirst (s : State) : State := if s.cannotSafe then s.takeSafe else s

/-- A start, or a wake, that ends in settled SAFE: SAFE_LOCKED, a cause latched during the start, or a request for SAFE
(R86, R88, R1123). -/
def State.safeFromStart (s : State) : State :=
  let keep := s.sys.safeLocked || s.boot.safeCause
  let s1 := s.dropStart.onSys fun y =>
    { y with mode := .safe, target := .safe, transit := true, phase := 2, safeCount := satInc 255 y.safeCount,
             origin := if keep then y.origin else 1, causeSource := if keep then y.causeSource else 0,
             safeTime := if keep then y.safeTime else s.time.now }
  ((s1.raise 4).safeRecord).planSafe

/-! ## OFF -/

/-- OFF is reached: what follows starts OFFMIN later (R88, R118, R997, R1006, R1009, R1121). -/
def State.offIs (s : State) : State :=
  let s1 := s.dropStart.onSys fun y =>
    { y with mode := .off, target := .off, transit := false, phase := 0, drain := false, leave := 0, failing := none,
             entryTime := if y.mode = .off then y.entryTime else s.time.now }
  s1.onPwr fun p => { p with seq := [], seqDone := [], seqOver := false, slotActive := false, offPend := false, retries := 0 }

/-- The restart after a halt (R1121). -/
def State.restartDue (s : State) : State :=
  if s.boot.halted ∧ s.boot.restarts < fld (s.reg 0x980018) 0 3 then
    (s.onBoot fun b => { b with restarts := b.restarts + 1 }).onPwr fun p =>
      { p with afterOff := some (.start s.boot.startTarget) }
  else s

/-- A request latched on the way to OFF powers the controller up, OFFMIN after OFF (R88, R997). -/
def State.offLatched (s : State) : State :=
  match s.sys.latched with
  | some m =>
    ((s.onSys fun y => { y with latched := none, reqDrives := decide (y.reqStatus = .pending) }).onBoot fun b =>
      { b with halted := false }).onPwr fun p => { p with afterOff := some (.start m) }
  | none => s

/-- A failed start or transition goes down to OFF, where it waits (R991, R1121). A latched request for OFF is met
there. -/
def State.failOff (s : State) : State :=
  let s1 := ((s.drivenEnd .failed).dropStart).onSys fun y =>
    { y with transit := true, target := .off, latched := none, reqDrives := y.latched.isSome, leave := 0, failing := none }
  (s1.runSeq .toOff (s1.planDown .off))

/-- A mandatory step has failed: its mark and its record, then its alternate method at once, or the halt (R1116, R1118,
R1121). A sequence of step 3 that has used its retries up, or a domain fault in it, is such a failure. DEDUCED, log
entry 130. -/
def State.mandatoryFailed (n inst cause us arg : Nat) (s : State) : State :=
  let m := if s.boot.byAlt.getLsbD n then 1 else 0
  let t := (s.markStep n m inst cause arg).logStep n m 1 us
  if m = 1 then (t.onBoot fun b => { b with halted := true }).failOff
  else (t.onBoot fun b => { b with byAlt := b.byAlt ||| stepBit n, alt := b.alt ||| stepBit n }).beginStep n

/-! ## Failures of a transition -/

/-- The conditions of R92 that do not hold: bit 0 fuser, bit 1 disk, bits 4 to 7 the stations. -/
def State.readyLacks (s : State) : Nat :=
  (if s.fus.inWindow then 0 else 1) + (if s.boot.noDisk || s.diskUp then 0 else 2) +
    ((List.range 4).map fun n => if s.stEnabled n && !s.stReady n then 2 ^ (4 + n) else 0).sum

/-- A transition to READY is abandoned, with a retry of its sequence that waited: the engine returns to the state of R72
on the way to SERVICE (R93). -/
def State.readyFailed (s : State) : State :=
  let s1 := s.dropStart.onSys fun y => { y with target := .service, drain := false, failing := some s.readyLacks }
  (s1.onPwr fun p => { p with afterOff := none }).leaveBegin false

/-- The abandoned transition ends in SERVICE: no source 2, source 3, and the record (R91, R93). -/
def State.readyFailEnd (lacks : Nat) (s : State) : State :=
  let s1 := s.onSys fun y => { y with mode := .service, target := .service, transit := false, leave := 0, failing := none }
  let s2 := if s1.on .eng then s1.openUnits else s1
  ((s2.drivenEnd .failed).raise 3).faultRecord 3 [lacks]

/-- The retries of a sequence are used up (R991); in a start, step 3 has failed (R1118). -/
def State.seqFailed (s : State) : State :=
  let lf := s.pwr.lastFail
  let s1 := (s.raise 213).faultRecord 213 [fld lf 24 4, fld lf 20 3, s.pwr.retries, s.sys.target.code]
  if s1.sys.target = .ready then s1.readyFailed
  else if s1.sys.target = .safe ∧ ¬s1.startsUp then s1.planSafe
  else if s1.boot.running.getLsbD 3 then s1.mandatoryFailed 3 0 210 0 0
  else s1.failOff

/-! ## What follows a sequence -/

/-- The take-down of a failed sequence has ended (R990, R996). -/
def State.undoEnd (s : State) : State :=
  if s.pwr.retries < fld (s.reg 0x800010) 0 3 then s.onPwr fun p => { p with afterOff := some .retry }
  else s.seqFailed

/-- A sequence has ended. -/
def State.seqEnd (s : State) : State :=
  let raised := s.pwr.seqDone.any fun t => match t with | .up _ => true | _ => false
  let s1 := s.onPwr fun p => { p with seqOver := false, seqDone := [], pfail := p.pfail && !(raised && decide (p.seqFor = .mode)) }
  match s1.pwr.seqFor with
  | .mode => if s1.sys.transit && decide (s1.sys.target = .ready) && decide (s1.sys.mode ≠ .print) then s1.engineStart else s1
  | .request =>
    if s1.boot.serviceStep = 9 then s1.spnStart
    else s1.onPwr fun p => { p with reqStatus := if p.reqStatus = 1 then 2 else p.reqStatus }
  | .undo => s1.undoEnd
  | .toOff =>
    let s2 := if s1.sys.mode = .off then s1 else s1.modeIs .off
    ((s2.offIs.restartDue).drivenEnd .done).offLatched

/-- The current step of the sequencer is over: no domain steps, no slot is being raised or lowered. -/
def State.stepOver (s : State) : Bool :=
  match s.pwr.seq with
  | .dom d _ :: _ => decide (s.dom d ≠ .transit)
  | _ => !s.pwr.slotActive

/-- An OFF request latched during an upward transition takes effect when the current step has ended, or in the
OFFMIN of a retry (R87, R996); from a transition to READY by the order of R94. -/
def State.takeOff (s : State) : State :=
  if s.sys.transit && s.upward && decide (s.sys.latched = some .off) && s.stepOver &&
      decide (s.pwr.afterOff = none ∨ s.pwr.afterOff = some .retry) then
    let s1 := (s.drivenEnd .failed).dropStart
    let s2 := s1.onSys fun y =>
      { y with target := .off, latched := none, reqDrives := decide (y.reqStatus = .pending), failing := none }
    let s3 := s2.onPwr fun p => { p with offPend := false, afterOff := none }
    if s.sys.target = .ready then s3.leaveBegin true else s3.planTo .off
  else s

/-- RSTO_Nk as its level, FORCE and force-off require (R1011). -/
def State.rstoUpdate (s : State) : State :=
  (List.range 4).foldl (fun t k =>
    let w := nth 0 t.pwr.rstoCfg k
    let hold := !t.levelOk (fld w 30 2) || bitOf w 29 || (t.pwr.losing && !t.pwr.pfail)
    if hold then t.onPwr fun p => { p with rsto := modAt p.rsto k fun _ => true, rstoStretch := modAt p.rstoStretch k fun _ => false }
    else if nth false t.pwr.rsto k then t.onPwr fun p => { p with rstoStretch := modAt p.rstoStretch k fun _ => true }
    else t) s

/-- READY becomes PRINT when a token is first COMMITTED, and a drain ends with the last committed token (R96, R98). -/
def State.printFollows (s : State) : State :=
  if s.sys.mode = .ready ∧ ¬ s.sys.transit ∧ s.flying ≠ [] then s.modeIs .print
  else if s.sys.mode = .print ∧ s.sys.drain ∧ s.flying = [] ∧ s.pgf.gate = none then (s.modeIs .ready).drivenEnd .done
  else s

/-- Marks 10 to 13 clear when a station enabled by a write to DISABLE reaches READY (R1120). -/
def State.stationMarks (s : State) : State :=
  if s.on .img && !s.boot.starting then
    (List.range 4).foldl (fun t n =>
      if t.marked (10 + n) && t.stEnabled n && t.stReady n then
        t.onDie fun d => { d with marks := d.marks &&& ~~~(stepBit (10 + n)) }
      else t) s
  else s

/-- The steps that fail by themselves have failed (R1114). How long one ran is open where nothing reports it. -/
def State.stepsFail (s : State) : State :=
  [9, 10, 11, 12, 13].foldl (fun t n => match t.stepBroken n with
    | some src => (t.optionalFailed n (if n = 9 then 0 else n - 10) src (t.fresh % 2 ^ 32) 0).used
    | none => t) s

/-- The steps of a start go on by themselves (R1111, R1123). -/
def State.stepsGo (s0 : State) : State :=
  let s := s0.stepsFail
  if s.boot.starting && decide (s.sys.mode = .off) && s.sys.transit && decide (s.sys.target ≠ .off) then
    if s.boot.running = 0 ∧ (s.sys.safeLocked ∨ s.boot.startTarget = .safe) ∧ (s.nextStep [1, 2, 3, 4, 5, 6, 7]).isNone then
      s.safeFromStart
    else State.runSteps 8 s
  else if s.boot.optional && s.sys.transit && decide (s.sys.target = .ready) && decide (s.pwr.seq = []) &&
      !s.pwr.seqOver && (s.boot.ended ||| s.boot.running).getLsbD 9 then s.runOptional
  else s

/-! ## Requests of a mode -/

/-- A request that is carried out at once by a transition. -/
def State.go (m : Mode) (s : State) : State :=
  if m = .safe then (s.safeNow 1 0 false).onSys fun y => { y with reqStatus := .pending, reqDrives := true }
  else (s.onSys fun y => { y with reqStatus := .pending, reqDrives := true }).goMode m

/-- A request outside every transition (R78 to R84, R98). A latched OFF that is judged once STANDBY is reached has no
row in R78 and answers STATE_CONFLICT. DESIGN CHOICE, log entry 93. -/
def State.judge (m : Mode) (s : State) : Abort × State :=
  let conflict : Abort × State := (.stateConflict, s.reqEnd .stateConflict)
  let done : Abort × State := (.none, s.reqEnd .done)
  let go : Abort × State := (.none, s.go m)
  let waits (l : List TState) : Bool := s.waitingSlots.any fun k => decide ((s.tok k).state ∈ l)
  match s.sys.mode, m with
  | _, .print => (.range, s.reqEnd .range)
  | .print, .ready =>
    (.none, s.onSys fun y => { y with reqStatus := .pending, reqDrives := true, drain := true, transit := true,
                                      target := .ready })
  | _, .safe => if s.sys.mode = .safe then done else if s.sys.mode = .off ∨ s.sys.mode = .standby then conflict else go
  | .print, _ => conflict
  | .service, .service | .ready, .ready => done
  | .service, _ => go
  | .ready, .off => if waits [.submitted, .accepted, .armed] then conflict else go
  | .ready, _ => if waits [.armed] then conflict else go
  | .safe, .ready => conflict
  | .safe, m =>
    if s.sys.safeLocked || s.sys.unack || (decide (m = .off) && waits [.submitted, .accepted, .armed]) then conflict else go
  | .off, _ | .standby, _ => conflict

/-- A request latched under R89 is judged in the mode that the transition reached. -/
def State.judgeLatched (s : State) : State :=
  match s.sys.latched with
  | some m =>
    if s.sys.transit ∨ s.sys.mode = .off then s
    else ((s.onSys fun y => { y with latched := none }).judge m).2
  | none => s

/-- One round of what the controller does by itself. -/
def State.settle1 (s : State) : State :=
  let s1 := s.takeSafe.takeOff.seqGo
  let s2 := if s1.pwr.seqOver then s1.seqEnd else s1
  s2.leaveStep.stepsGo.printFollows.judgeLatched

/-- What the controller does by itself after a command, to its end. -/
def State.settle (s : State) : State :=
  let s1 := (((s.settle1).settle1).settle1).settle1
  let s2 := if s1.on .eng then s1.calSettle else s1
  s2.stationMarks.rstoUpdate.takeSafe

end Sys2Proof.Machine
end

