-- ==== Sys2Proof/Machine/SeqCmd.lean ====
section
/-! DEFINITION. Machine/SeqCmd.lean: the commands of the power sequencer, the rails, power loss, reset and PMBus (R972
to R1014, R1026). -/
namespace Sys2Proof.Machine

/-- Record a failure in `PWR_LAST_FAIL` (R1032). -/
def State.noteFail (slot cause dom step : Nat) (s : State) : State :=
  s.onPwr fun p =>
    { p with lastFail := placeB true 31 ||| place slot 24 4 ||| place cause 20 3 ||| place dom 16 3 ||| place step 12 2 |||
        place p.retries 8 3 ||| place s.sys.target.code 0 3 }

/-! ## Domains -/

/-- A domain as dependency of another (R41). A request against this order is refused (R42). -/
def Dom.needs : Dom → List Dom
  | .aon => []
  | .mgt | .mem | .ana => [.aon]
  | .eng => [.aon, .ana]
  | .dsk => [.aon, .ana, .eng, .mem]
  | .pix => [.aon, .eng, .mem]
  | .img => [.aon, .ana, .eng, .pix]

/-- The rules of R982 on a request of a domain state. DEDUCED, log entry 23. The refusals of R42 are STATE_CONFLICT.
-/
def domReqStore (d st : Nat) (s : State) : Abort × State :=
  let dm := Dom.ofCode d
  let goal : DState := match st with | 0 => .off | 1 => .ret | _ => .on
  let put (n : Nat) (t : State) : State := t.onPwr fun p => { p with reqStatus := n }
  if st = 3 then (.range, put 6 s)
  else if s.sys.transit || (List.range 8).any fun k => decide (s.dom (Dom.ofCode k) = .transit) then (.busy, put 4 s)
  else if s.sys.mode ≠ .service || decide (d ≤ 2) then (.stateConflict, put 3 s)
  else if goal = .on && (dm.needs.any fun x => !s.on x) then (.stateConflict, put 3 s)
  else if goal ≠ .on && (domOrder.any fun x => s.on x && x.needs.contains dm) then (.stateConflict, put 3 s)
  else if s.dom dm = goal then (.none, put 2 s)
  else (.none, (put 1 s).runSeq .request [.dom dm goal])

/-- DOMAIN_REQUEST: a write of `PWR_DOM_REQ` with GO = 1 (R982, R1026, R1031). GO is judged in every mode; the other
fields are stored in SERVICE alone. -/
def domainRequest (d st : Nat) (s : State) : State :=
  let s1 := if s.mayWrite .fixed then s.setReg 0x800008 (place d 24 3 ||| place st 0 2) else s
  (domReqStore (d % 8) (st % 4) s1).2

/-- DOMAIN_STEP_READY: the ready signal of the present step arrives (R976, R977); the last step brings the domain to its
state. An OFF request latched meanwhile turns the domain round where it stands (R996). -/
def domainStepReady (s : State) : State :=
  match s.pwr.seq with
  | .dom d goal :: _ =>
    if s.dom d ≠ .transit then s
    else if 3 ≤ s.pwr.seqStep then s.domainDone d goal
    else if goal = .on ∧ s.sys.transit ∧ s.upward ∧ s.sys.latched = some .off then
      (s.memSpill d).onPwr fun p => { p with seq := [.dom d .off], seqStep := 3 - p.seqStep }
    else s.onPwr fun p => { p with seqStep := p.seqStep + 1 }
  | _ => s

/-- DOMAIN_STEP_TIMEOUT: the step has taken twice its maximum: a domain fault, on which the domain goes back to OFF
from the step where it stands; a request ends as failed, and a transition to STANDBY, which needs MGT and MEM in
retention, ends in OFF (R977, R979, R991, R1026). -/
def domainStepTimeout (s : State) : State :=
  match s.pwr.seq with
  | .dom d goal :: rest =>
    if s.dom d ≠ .transit then s
    else
      let n := s.pwr.seqStep
      let step := if goal = .on then n else 3 - n
      let s1 := s.onPwr fun p => { p with domFault := p.domFault ||| BitVec.ofNat 8 (2 ^ d.code) }
      let s2 := (((s1.noteFail 0 5 d.code step).raise 208).faultRecord 208 [d.code, step]).memSpill d
      if goal ≠ .on then
        let s3 := if 3 ≤ n then s2.domainDone d .off
          else s2.onPwr fun p => { p with seq := .dom d .off :: rest, seqStep := n + 1 }
        match s3.pwr.seqFor with
        | .request => s3.onPwr fun p => { p with reqStatus := 5 }
        | .mode => if goal = .ret ∧ s3.sys.transit ∧ s3.sys.target = .standby then s3.failOff else s3
        | .undo | .toOff => s3
      else
        let s3 := s2.onPwr fun p =>
          { p with seq := [.dom d .off], seqStep := 3 - n, seqDone := [], slotActive := false, seqOver := false }
        match s3.pwr.seqFor with
        | .request => s3.onPwr fun p => { p with reqStatus := 5 }
        | .mode =>
          if s3.sys.latched = some .off ∧ s3.upward then s3
          else if s3.sys.target = .ready then s3.readyFailed
          else if s3.boot.running.getLsbD 3 then s3.mandatoryFailed 3 0 208 0 0
          else s3.failOff
        | .undo | .toOff => s3
  | _ => s

/-! ## Rails -/

/-- The slot that the sequencer is raising, or waits to raise. -/
def State.upSlot (s : State) : Option Nat :=
  match s.pwr.seq with
  | .up k :: _ => some k
  | _ => none

/-- RAIL_ENABLE: UP_DELAY has passed; VSET is written, and the slot is enabled (R987). -/
def railEnable (s : State) : State :=
  match s.upSlot with
  | none => s
  | some k =>
    if s.pwr.slotActive || s.monitor k || s.pwr.afterOff.isSome then s
    else (s.railOn k (s.boot.running.getLsbD 3 && s.boot.byAlt.getLsbD 3)).onPwr fun p => { p with slotActive := true }

/-- RAIL_QUALIFIED: the power-good of slot k has been good for QUAL (R985, R988). -/
def railQualified (k : Nat) (s : State) : State :=
  let mine := decide (s.upSlot = some k) && s.pwr.slotActive
  if s.slotLevel k = 0 || !(mine || s.monitor k) then s
  else
    let s1 := s.onSlot k fun x => { x with qualified := true, pg := true, held := some (x.held.getD (s.railRegs k)) }
    if mine then s1.seqPop else s1

/-- A slot of the running sequence fails (R989 to R991, R996, R1026). -/
def State.slotFail (k cause : Nat) (s : State) : State :=
  let s1 := (s.noteFail k cause 0 0).raise 210
  if s1.sys.target = .safe && s1.sys.transit && !s1.startsUp then
    ((s1.slotOff k).faultRecord 210 [k, cause]).planSafe
  else if s1.sys.latched = some .off ∧ s1.upward then
    s1.onPwr fun p => { p with seq := [], seqDone := [], slotActive := false }
  else
    let undo := s1.pwr.seqDone.filterMap fun t => match t with
      | .up j => if s1.monitor j then none else some (SeqTask.down j)
      | .dom d _ => if s1.on d then some (SeqTask.dom d .off) else none
      | .down _ => none
    let first := if (s1.slot k).enabled then [SeqTask.down k] else []
    let n := s1.pwr.retries
    (s1.runSeq .undo (first ++ undo)).onPwr fun p => { p with retries := n }

/-- RESTART_MAX of a slot; the alternate method of step 3 takes 15 (R989, R1111). -/
def State.restartMax (s : State) (k : Nat) : Nat :=
  if s.boot.running.getLsbD 3 && s.boot.byAlt.getLsbD 3 then 15 else fld (s.railCfg k) 4 4

/-- RAIL_PG_DROP: a sample that is not good during qualification (R988, R989). -/
def railPgDrop (k : Nat) (s : State) : State :=
  if decide (s.upSlot = some k) && s.pwr.slotActive then
    let n := (s.slot k).restarts + 1
    let s1 := s.onSlot k fun x => { x with restarts := n, pg := false }
    let s2 := if n = 1 then s1.raise 211 else s1
    if s2.restartMax k < n then s2.slotFail k 2 else s2
  else s

/-- RAIL_PG_TIMEOUT: a slot has not qualified in PG_TIMEOUT (R989). -/
def railPgTimeout (k : Nat) (s : State) : State :=
  if decide (s.upSlot = some k) && s.pwr.slotActive then s.slotFail k 1 else s

/-- The slot whose fall the sequencer waits for. -/
def State.downSlot (s : State) : Option Nat :=
  match s.pwr.seq with
  | .down k :: _ => if s.pwr.slotActive then some k else none
  | _ => none

/-- RAIL_FALLEN: a disabled slot meets its fall condition (R993). -/
def railFallen (k : Nat) (s : State) : State :=
  if s.downSlot = some k then (s.onSlot k fun x => { x with pg := false }).seqPop else s

/-- RAIL_FALL_TIMEOUT: a slot has not fallen in FALL_MAX (R994). -/
def railFallTimeout (k : Nat) (s : State) : State :=
  if s.downSlot = some k then (((s.noteFail k 4 0 0).raise 215).faultRecord 215 [k, 4]).seqPop else s

/-- RAIL_LOST: the power-good of a qualified slot drops outside a sequence (R995). -/
def railLost (k : Nat) (s : State) : State :=
  if (s.slot k).qualified && decide (s.pwr.seq = []) && !s.monitor k then
    ((s.onSlot k fun x => { x with pg := false }).raise 214).faultRecord 214 [k]
  else s

/-! ## OFFMIN -/

/-- The mode of OD 1001:04 at a start that follows a reset of AON: the stored value (R107, R856), or the default. -/
def State.storedStart (s : State) : Mode :=
  match s.die.inUse with
  | some k => (Mode.ofCode (leNat ((find? 0x100104 (s.die.bank k).items).getD [3]))).getD .ready
  | none => .ready

/-- A start begins for the cause that `PWR_WAKE.SRC` names (R107 to R109, R1036, R1176). -/
def State.startFor (src : Nat) (m : Mode) (s : State) : State :=
  let s1 := (s.latchFirst.onPwr fun p => { p with wakeSrc := src }).onBoot fun b => { b with restarts := 0 }
  if m = .off then s1 else s1.bootStart m false

/-- OFFMIN_EXPIRY: OFFMIN has passed; `supply` tells that the monitor's power-good is good (R990, R997, R998, R1006,
R1009, R1121). -/
def offminExpiry (supply : Bool) (s : State) : State :=
  match s.pwr.afterOff with
  | none => s
  | some .retry =>
    let s1 := (s.onPwr fun p => { p with afterOff := none }).raise 212
    let s2 := s1.onPwr fun p => { p with retries := p.retries + 1, cntRetry := satInc 0xFFFFFFFF p.cntRetry }
    let n := s2.pwr.retries
    (s2.planTo (if s2.boot.running.getLsbD 3 then .service else if s2.sys.transit then s2.sys.target else s2.sys.mode)).onPwr fun p =>
      { p with retries := n }
  | some a =>
    if s.sys.mode ≠ .off ∨ s.sys.transit ∨ s.pwr.losing then s
    else
      let s1 := s.onPwr fun p => { p with afterOff := none, onPend := false }
      match a with
      | .start m =>
        let again := s1.boot.halted
        (if again then s1 else s1.onBoot fun b => { b with restarts := 0 }).bootStart m again
      | .restored => if supply && bitOf (s1.reg 0x800010) 7 then s1.startFor 5 s1.startMode else s1
      | .resetIn => (s1.raise 221).startFor 6 s1.storedStart
      | .chipReset => s1.startFor 6 s1.storedStart
      | .retry => s1

/-! ## Power loss, force-off and reset -/

/-- The POWER_LOSS records: NEXT_SEQ and the SEAL, then the tokens in flight, 24 in each record (R1003, R1096). -/
def State.powerLossRecord (toks : List (Nat × Nat)) (s : State) : State :=
  let head := padTo 40 (u64le s.jrn.next ++ s.jrn.headSeal)
  let tokBytes (l : List (Nat × Nat)) : List Byte := (List.range 8).flatMap fun i => match l[i]? with
    | some t => u32le t.1 ++ [BitVec.ofNat 8 t.2]
    | none => u32le 0xFFFFFFFF ++ [0#8]
  let parts (l : List (Nat × Nat)) : List Byte :=
    tokBytes (l.take 8) ++ (if l.length ≤ 8 then [] else tokBytes ((l.drop 8).take 8)) ++
      (if l.length ≤ 16 then [] else tokBytes ((l.drop 16).take 8))
  let put (l : List (Nat × Nat)) (t : State) : State := (t.glmTry (t.record 3 true false false 216 (head ++ parts l)) true).1
  let s1 := if 24 < toks.length then put (toks.drop 24) s else s
  put (toks.take 24) s1

/-- A latched request is discarded: it has failed (R120, R1026). -/
def State.dropRequest (s : State) : State := if s.sys.reqStatus = .pending then s.reqEnd .failed else s

/-- Steps 1 to 3 of R1002: the retract, the source that is raised, SAFE or its containment, and the record. -/
def State.loseBegin (src : Option Nat) (s : State) : State :=
  let toks := s.flying.map fun k => ((s.tok k).num, (s.tok k).state.code)
  let s1 := if s.on .dsk then (s.gateCut 121).fireRetract else s
  let s2 := s1.onPwr fun p => { p with losing := true, afterOff := none, offPend := false, onPend := false, wakePend := false }
  let s3 := s2.onPwr fun p => { p with seq := [], seqDone := [], seqOver := false, slotActive := false }
  let s4 := ((s3.onSys fun y => { y with latched := none }).drivenEnd .failed).dropRequest
  let s5 := match src with
    | some n => s4.raise n
    | none => s4
  let s6 := if s5.cannotSafe || s5.startsUp then s5.contain.runOut true false
    else if s5.sys.mode = .safe then s5 else s5.enterSafe 2 (src.getD 0) true
  (s6.powerLossRecord toks).onPwr fun p => { p with seq := [], seqOver := false }

/-- POWER_LOSS: the power-good of monitor slot k has not been good for PF_FILTER (R1002, R1026). -/
def powerLoss (k : Nat) (s : State) : State :=
  if !s.monitor k || decide (s.slotLevel k = 0) then s
  else
    let s0 := s.onSlot k fun x => { x with qualified := false, pg := false, held := none }
    if s0.pwr.losing then s0
    else
      let s1 := s0.onPwr fun p => { p with pfail := true, cntPfail := satInc 0xFFFFFFFF p.cntPfail, resetIn := false, chipReset := false }
      s1.loseBegin (some 216)

/-- The next slot that power loss disables: the highest level first, in descending number (R992, R1002). -/
def State.lossSlot (s : State) : Option Nat :=
  ([3, 2, 1].flatMap fun l => ((s.slotsOfLevel l).filter fun k => (s.slot k).enabled).reverse).head?

/-- Every domain but AON is off, at once; the axes that ENG takes to OFF cancel an armed swap (R173, R194, R1002).
DEDUCED, log entry 28. -/
def State.allOff (s : State) : State :=
  domOrder.reverse.foldl (fun t d =>
    if t.dom d = .off then t
    else (((if d = .eng ∧ t.on .eng then t.engLeaves else t).sourcesLost d).setDom d .off).domainLost d) s

/-- The AON registers and values that RST_IN_N resets, keeping what R1009 names, and the counters that clear only at AON
power (R1036; DEDUCED, log entry 22). -/
def State.aonReset (s : State) : State :=
  let keepReg (off : Nat) : Bool :=
    decide (0x881000 ≤ off ∧ off < 0x881400) || decide (off = 0x880000) || decide (0x7C0200 ≤ off ∧ off < 0x7C0280)
  { s with
    regs := s.regs.filter fun e => decide (offDom e.1 ≠ some .aon) || keepReg e.1
    latched := []
    od := s.od.filter fun e => !aonHeld e.1
    sys := { safeLocked := s.sys.safeLocked, laserOff := s.sys.laserOff, startDue := false, entryTime := s.sys.entryTime,
             unack := s.sys.safeLocked && s.sys.unack, origin := if s.sys.safeLocked then s.sys.origin else 0,
             causeSource := if s.sys.safeLocked then s.sys.causeSource else 0,
             safeTime := if s.sys.safeLocked then s.sys.safeTime else 0 }
    evt := { graveHold := s.evt.graveHold, errLow := s.evt.graveHold, queue := s.evt.queue, waiting := s.evt.waiting,
             linkFault := s.evt.linkFault }
    pwr := { slots := s.pwr.slots.map fun x => { qualified := x.qualified, pg := x.pg }, cntRetry := s.pwr.cntRetry,
             cntPfail := s.pwr.cntPfail }
    thm := { tsd := s.thm.tsd, tsdCause := s.thm.tsdCause }
    boot := {} }

/-- The end of power loss, force-off or reset: OFF (R1002, R1006, R1008, R1009). -/
def State.loseEnd (s : State) : State :=
  let after : Option AfterOff :=
    if s.pwr.chipReset then some .chipReset else if s.pwr.resetIn then some .resetIn else if s.pwr.forced then none else some .restored
  let pf := s.pwr.pfail
  let s1 := s.offIs.onPwr fun p => { p with losing := false, resetIn := false, chipReset := false, forced := false }
  if s.pwr.resetIn || s.pwr.chipReset then
    (s1.aonReset).onPwr fun p => { p with afterOff := after }
  else s1.onPwr fun p => { p with afterOff := after, pfail := pf }

/-- POWER_LOSS_RAIL_STEP: PF_STEP has passed; the domains are off, and one more rail is disabled (R1002). -/
def powerLossRailStep (s : State) : State :=
  if !s.pwr.losing then s
  else
    let s1 := s.allOff
    match s1.lossSlot with
    | some k => s1.slotOff k
    | none => s1.loseEnd

/-- A force-off that is no power loss (R1008). -/
def State.forceOff (s : State) (src : Option Nat) : State :=
  if s.pwr.losing then s else (s.onPwr fun p => { p with forced := true }).loseBegin src

/-- RST_IN: RST_IN_N is asserted for 1 µs or longer (R1009). -/
def rstIn (s : State) : State := (s.onPwr fun p => { p with resetIn := true, chipReset := false }).forceOff none

/-- PB_LONG_PRESS (R1008, R1026). -/
def pbLongPress (s : State) : State :=
  if !bitOf (s.reg 0x800018) 0 || s.pwr.losing then s else s.forceOff (some 220)

/-- RSTO_STRETCH_EXPIRY: STRETCH has passed since the conditions of RSTO_Nk ended (R1011). -/
def rstoStretchExpiry (k : Nat) (s : State) : State :=
  let t := s.rstoUpdate
  if nth false t.pwr.rstoStretch k then
    t.onPwr fun p => { p with rsto := modAt p.rsto k fun _ => false, rstoStretch := modAt p.rstoStretch k fun _ => false }
  else t

/-! ## PMBus -/

/-- PMBUS_TRANSACTION_DONE: a transaction with slot k completes or fails (R989, R1013). -/
def pmbusTransactionDone (k : Nat) (ok : Bool) (s : State) : State :=
  if ok then s.onPwr fun p => { p with pmbTries := 0 }
  else
    let n := s.pwr.pmbTries + 1
    let s1 := (s.onPwr fun p => { p with pmbTries := if n = 3 then 0 else n }).raise 218
    if n < 3 then s1
    else if s1.upSlot = some k then s1.slotFail k 3
    else s1.faultRecord 218 [k]

/-- PMBUS_ALERT: PMB_ALERT_N is asserted; the address that answers and the STATUS_WORD of its slot are recorded, and the
slot's faults are cleared (R1014). -/
def pmbusAlert (addr word : Nat) (s : State) : State :=
  let s1 := s.faultRecord 217 [addr, word]
  (match (List.range 16).find? fun k => decide (s.slotLevel k ≠ 0 ∧ addr ≠ 0 ∧ fld (s.railCfg k) 8 7 = addr) with
    | some k => s1.pmbIssue k [(0x03, 0)]
    | none => s1).raise 217

end Sys2Proof.Machine
end

