-- ==== Sys2Proof/Machine/ThmCmd.lean ====
section
/-! DEFINITION. Machine/ThmCmd.lean: the housekeeping round, thermal shutdown and the LIN apply (R1015 to R1025). -/
namespace Sys2Proof.Machine

/-- Change the THM block. -/
def State.onThm (f : Thm → Thm) (s : State) : State := { s with thm := f s.thm }

/-- A housekeeping channel. -/
def State.hk (s : State) (c : Nat) : HkCh := nth {} s.thm.chans c

/-- `THM_HKk_CFG` and `THM_HKk_LIM` (R1036). -/
def State.hkCfg (s : State) (k : Nat) : Word := s.reg (0x820400 + 8 * k)
def State.hkLim (s : State) (k : Nat) : Word := s.reg (0x820404 + 8 * k)

/-- The value of an HK pin's code (R1016), in mV or in 0.01 °C. -/
def State.hkValue (s : State) (k x : Nat) : Int :=
  let g := s.hkCfg k
  if fld g 30 2 = 1 then asr ((x * fld g 0 16 : Nat) : Int) 12 else thTemp (nth [] s.thm.lin (fld g 28 2)) x

/-- Judge the limits of an HK channel whose value was `was` (R1018), LO and HI in 10 mV or 0.1 °C. A side is entered
from within the limits, or from beyond the other one. -/
def State.hkLimits (k : Nat) (was : Int) (s : State) : State :=
  let l := s.hkLim k
  let x := s.hk (12 + k)
  let lo := decide (x.val < 10 * sx 16 (fld l 0 16))
  let hi := decide (10 * sx 16 (fld l 16 16) < x.val)
  let s1 := s.onThm fun t => { t with chans := modAt t.chans (12 + k) fun x =>
    { x with out := lo || hi, loHit := x.loHit || (lo && !(x.out && decide (was < 10 * sx 16 (fld l 0 16)))),
             hiHit := x.hiHit || (hi && !(x.out && decide (10 * sx 16 (fld l 16 16) < was))) } }
  if (lo || hi) && !x.out then s1.raise 229 else s1

/-- Take the reading of channel c: its code, its value and whether the conversion failed (R1015 to R1018). -/
def State.hkTake (c x : Nat) (v : Int) (failed : Bool) (s : State) : State :=
  let was := s.hk c
  let good := !(failed || decide (x = 0) || decide (x = 4095))
  let s1 := s.onThm fun t => { t with chans := modAt t.chans c fun h => { h with code := x, val := v, valid := good } }
  let s2 := if was.valid && !good then s1.raise 228 else s1
  if good && decide (12 ≤ c ∧ c < 44) then s2.hkLimits (c - 12) was.val else s2

/-- Convert channel c of a round: a die sensor, an HK pin by its MODE, or a supply. -/
def State.hkConvert (codes : List Nat) (dies supplies : List Int) (failed : BitVec 12) (c : Nat) (s : State) : State :=
  let x := nth 0 codes c % 4096
  if c < 12 then s.hkTake c x (nth 0 dies c) (failed.getLsbD c)
  else if 44 ≤ c then s.hkTake c x (nth 0 supplies (c - 44)) false
  else
    let m := fld (s.hkCfg (c - 12)) 30 2
    if m = 1 ∨ m = 2 then s.hkTake c x (s.hkValue (c - 12) x) false
    else s.onThm fun t => { t with chans := modAt t.chans c fun h => { h with valid := false, out := false } }

/-- Every die sensor is valid and at least `m` hundredths of a degree inside the print window (R1020). -/
def State.diesWithin (s : State) (m : Int) : Bool :=
  let w := s.reg 0x820004
  (s.thm.chans.take 12).all fun h => h.valid && decide (100 * sx 8 (fld w 0 8) + m ≤ h.val) &&
    decide (h.val ≤ 100 * sx 8 (fld w 8 8) - m)

/-- The print window and the +115 °C limit (R1020, R1023). -/
def State.hkWindow (s : State) : State :=
  let high := (s.thm.chans.take 12).any fun h => h.valid && decide (11500 < h.val)
  let s1 := if s.thm.printOk then
      (if s.diesWithin 0 then s else (s.onThm fun t => { t with printOk := false }).raise 225)
    else if s.diesWithin 200 then (s.onThm fun t => { t with printOk := true }).raise 226 else s
  let s2 := s1.onThm fun t => { t with jhigh := high }
  if high then s2.raise 227 else s2

/-- The LIN tables as written (R1019). -/
def State.shadowLin (s : State) : List (List Int) :=
  (List.range 4).map fun i => (List.range 33).map fun j => s32 (s.reg (0x821000 + 0x100 * i + 4 * j))

/-- An armed LIN apply comes into force (R1019). -/
def State.linTake (s : State) : State :=
  if s.thm.linApply = 1 then s.onThm fun t => { t with linApply := 2, lin := s.shadowLin } else s

/-- HK_ROUND: one housekeeping round (R525, R582, R1015 to R1023, R1058): the 12-bit codes of the 48 channels, the
values of the die sensors in 0.01 °C and of the supplies in mV, and the die sensors whose conversion failed.
DEDUCED, log entry 60. -/
def hkRound (codes : List Nat) (dies supplies : List Int) (failed : BitVec 12) (s : State) : State :=
  let s1 := if s.on .eng then s.linTake.calPoint 6 0 else s.linTake
  let s2 := (List.range 48).foldl (fun t c => t.hkConvert codes dies supplies failed c) s1
  let s3 := s2.rstoTake.hkWindow.onThm fun t => { t with round := t.round + 1 }
  s3.hdaRound.calTempRound

/-- THERMAL_SHUTDOWN: the comparator of die sensor i crosses t_TSD (R1024, R1025). -/
def thermalShutdown (i : Nat) (s : State) : State :=
  if 12 ≤ i then s
  else (s.onThm fun t => { t with tsd := true, tsdCause := t.tsdCause ||| BitVec.ofNat 12 (2 ^ i) }).raise 224

/-- A write of OD 4870:05 (R1019, R1037): 1 arms the apply, 2 cancels an armed one. -/
def linStore (v : Nat) (s : State) : Abort × State :=
  if v = 1 then (.none, s.onThm fun t => { t with linApply := 1 })
  else if v = 2 then (.none, if s.thm.linApply = 1 then s.onThm fun t => { t with linApply := 3 } else s)
  else (.range, s)

/-- HK_LIN_APPLY: a write of 1 to OD 4870:05. -/
def hkLinApply (s : State) : State :=
  s.dict fun s => if s.mayWrite .shadow then linStore 1 s else (.stateConflict, s)

end Sys2Proof.Machine
end

