-- ==== Sys2Proof/Machine/GlmCmd.lean ====
section
/-! DEFINITION. Machine/GlmCmd.lean: the record die as entries are written to it, torn, scanned and cleared, and what a
loss of AON power leaves (R1094 to R1102, R182, R1152). -/
namespace Sys2Proof.Machine

/-- Change the EVT and GLM blocks. -/
def State.onEvt (f : Evt → Evt) (s : State) : State := { s with evt := f s.evt }

/-! ## Regions -/

/-- Free entries of the protected region (R1093). -/
def Rec.protFree (r : Rec) : Nat := 16384 - (whole r.prot).length

/-- Write an entry at the next place of its region (R1097): it overwrites a torn entry, and in the general region the
oldest entry of a full ring. -/
def Rec.put (r : Rec) (g : GEntry) : Rec :=
  if g.item.prot && !g.item.spilled then { r with prot := whole r.prot ++ [g] }
  else
    let l := whole r.gen ++ [g]
    let n := if g.torn then r.genNext else (r.genNext + 1) % genSlots
    { r with gen := l.drop (l.length - genSlots), genNext := n }

/-- Write an entry with the next SEQ; every 256th moves the scan pointer (R1094, R1111). -/
def Rec.write (r : Rec) (i : GItem) (state : Nat) : Rec :=
  let r1 := r.put { seq := r.nextSeq, item := i, state := state }
  { r1 with nextSeq := r.nextSeq + 1, scanPtr := if r.nextSeq.toNat % 256 = 0 then r.nextSeq else r.scanPtr,
            lossDue := r.lossDue || decide (i.kind = 3 ∧ state = 0) }

/-- The entries that follow a part in its record. -/
def GItem.rest (i : GItem) : Nat := i.parts - 1 - i.part

/-- A protected record that finds too few free entries goes to the general region, and so does what is left of one whose
second attempts have used the room up (R1097, R1099). The flag tells so. -/
def State.placeRecord (s : State) : State × Bool :=
  match s.evt.queue with
  | [] => (s, false)
  | i :: l =>
    if i.prot && !i.spilled && decide (s.die.protFree < i.rest + 1) then
      let mark (j : GItem) : GItem := { j with spilled := true }
      (s.onEvt fun e => { e with queue := mark i :: ((l.take i.rest).map mark ++ l.drop i.rest) }, true)
    else (s, false)

/-- Protected records that wait take the room that the queue has (R1098). -/
def State.refill : Nat → State → State
  | 0, s => s
  | n + 1, s =>
    match s.evt.waiting with
    | [] => s
    | i :: _ =>
      if s.evt.queue.length + i.parts ≤ 248 then
        State.refill n (s.onEvt fun e =>
          { e with queue := e.queue ++ e.waiting.take i.parts, waiting := e.waiting.drop i.parts })
      else s

/-- The head of the queue has been written, or its record given up: `n` items leave, and the reaction ends. -/
def State.dequeue (i : GItem) (n : Nat) (s : State) : State :=
  let s1 := s.onEvt fun e => { e with queue := e.queue.drop n }
  let s2 := State.refill s1.evt.waiting.length s1
  if i.react then s2.endBusy i.source else s2

/-- GLUME_ENTRY_COMMIT: the two phases of an entry are complete, and its read-back is good or bad (R1095, R1097,
R1099). -/
def glumeEntryCommit (good : Bool) (s : State) : State :=
  if s.evt.linkFault then s
  else
    let p := s.placeRecord
    let s0 := if p.2 then p.1.raise 249 else p.1
    match s0.evt.queue with
    | [] => s0
    | i :: l =>
      if good then ({ s0 with die := s0.die.write i 0 }).dequeue i 1
      else
        let s1 : State := { s0 with die := s0.die.write i 3 }
        if i.retried then ((s1.raise 248).dequeue i (1 + i.rest))
        else s1.onEvt fun e => { e with queue := { i with retried := true } :: (l ++ e.queue.drop (l.length + 1)) }

/-- GLUME_LINK_RETRY: 1 ms after a record-link fault the queued entries are tried again (R1103); `works` tells that the
record link answers. -/
def glumeLinkRetry (works : Bool) (s : State) : State :=
  if s.evt.linkFault && works && !s.evt.queue.isEmpty then
    glumeEntryCommit true (s.onEvt fun e => { e with linkFault := false })
  else s

/-- RECORD_DIE_FAULT: the record die reports a fault, or the record link fails (R1103). -/
def recordDieFault (s : State) : State := (s.onEvt fun e => { e with linkFault := true }).raise 254

/-- A write of OD 5400:05 (R1102): the region is emptied in SERVICE, from an administrator's session or the mailbox.
DEDUCED, log entry 58. -/
def clearProtStore (admin : Bool) (v : Nat) (s : State) : Abort × State :=
  if v ≠ 1 then (.range, s)
  else if !admin then (.access, s)
  else if s.sys.mode ≠ .service ∨ s.sys.transit then (.stateConflict, s)
  else
    let n := (whole s.die.prot).length
    let s1 := s.glume 1 false 0 (u32le n)
    (.none, { s1 with die := { s1.die with prot := [] } })

/-- CLEAR_PROTECTED: a write of 1 to OD 5400:05. -/
def clearProtected (admin : Bool) (s : State) : State := s.dict (clearProtStore admin 1)

/-- A write of OD 5400:07 (R1096, R1109). -/
def noteStore (b : List Byte) (s : State) : Abort × State :=
  if !s.mayWrite .mgmt then (.stateConflict, s)
  else if b.length ≠ 40 then (.length, s)
  else (.none, s.glume 15 false 0 b)

/-- NOTE: a write of OD 5400:07. -/
def note (b : List Byte) (s : State) : State := s.dict (noteStore b)

/-! ## AON power -/

/-- A loss of AON power while an entry is written: phase 1 leaves a torn entry, and between the phases COMMIT equals SEQ
(R1095). -/
def State.tear (phase : Nat) (s : State) : Rec :=
  match s.placeRecord.1.evt.queue with
  | [] => s.die
  | i :: _ => if phase = 1 ∨ phase = 2 then s.die.put { seq := s.die.nextSeq, item := i, state := phase } else s.die

/-- AON_POWER_REMOVED: VIO_AON or VDD_AON falls below its minimum: all volatile state is lost (R1010, R1152). What
the record die, the fuses, the disk and the retract circuit hold stays, and so do the levels of the pins; the
circuit, supplied by the spindle's back-EMF, retracts loaded heads (R40, R599, R1170). `phase` is the phase of the
Glume entry that the loss cuts off, 0 for none. -/
def aonPowerRemoved (phase : Nat) (s : State) : State :=
  if !s.aonOn then s
  else
    { State.reset with
      pending := s.pending, aonOn := false, free := s.free
      die := s.tear phase
      sys := { laserOff := s.sys.laserOff }
      jrn := { s.jrn with pool := [], fill := none, fullSeen := false, sinceAnchor := 0 }
      ls := s.ls.map fun t => { ilkLocal := t.ilkLocal }
      ret := s.fireRetract.ret }

/-- A region as the scan finds it (R1100): up to the newest valid entry, and the torn entry that follows it. -/
def scanRegion (l : List GEntry) : List GEntry × Option GEntry :=
  let tail := l.reverse.takeWhile fun g => !g.valid
  (l.take (l.length - tail.length), tail.getLast?)

/-- The newest valid entry by SEQ, compared as serial numbers. -/
def newest (a b : Option GEntry) : Option GEntry :=
  match a, b with
  | some x, some y => if decide ((x.seq - y.seq).toNat < 2 ^ 31) then some x else some y
  | some x, none => some x
  | none, y => y

/-- A torn entry as it stands until the next entry overwrites it. -/
def GEntry.asTorn (g : GEntry) : GEntry := { g with state := if g.state = 2 then 2 else 1 }

/-- The scan of both regions at an application of AON power (R1100), and device time from it (R182). -/
def State.scan (s : State) : State :=
  let p := scanRegion s.die.prot
  let g := scanRegion s.die.gen
  let spent := (s.die.gen.drop g.1.length).filter fun x => !x.torn
  let slot := (s.die.genNext + genSlots - spent.length) % genSlots
  let top := newest p.1.getLast? g.1.getLast?
  let last := ((p.1 ++ g.1).map fun x => x.item.time.toNat).foldl max 0
  let horizon := s.die.horizon.getD 0
  let s1 : State := { s with
    die := { s.die with
      prot := p.1 ++ (p.2.map GEntry.asTorn).toList, gen := g.1 ++ (g.2.map GEntry.asTorn).toList, genNext := slot,
      nextSeq := (top.map fun x => x.seq + 1).getD s.die.nextSeq }
    time := { s.time with now := BitVec.ofNat 64 (max horizon last + 1), frac := 0, stat := .unsync } }
  let named := (if p.2.isSome then [0, p.1.length] else []) ++ (if g.2.isSome then [1, slot] else [])
  if named = [] then s1 else (s1.raise 250).faultRecord 250 named

/-- AON_POWER_APPLIED: AON power is first applied: device time resumes before anything is recorded (R107, R182, R820,
R1100). DEDUCED, log entry 4. -/
def aonPowerApplied (s : State) : State :=
  if s.aonOn && !s.sys.startDue then s
  else
    let s1 := ({ s with aonOn := true } : State).onSys fun y => { y with startDue := false }
    (s1.scan.setCut 1).startFor 4 s1.storedStart

end Sys2Proof.Machine
end

