-- ==== Sys2Proof/Machine/ModeCmd.lean ====
section
/-! DEFINITION. Machine/ModeCmd.lean: mode requests, the ends of transitions, and the pins and the SMBus address that
start or wake the controller (R78 to R111, R999 to R1001, R1007). -/
namespace Sys2Proof.Machine

/-! ## Requests -/

/-- A request during a transition to OFF (R88): another mode is latched, in place of an earlier one, which has
failed; OFF itself is met already. DEDUCED, log entry 20. -/
def State.latchOn (m : Mode) (s : State) : State :=
  if m = .off then s.reqEnd .done
  else
    (s.onSys fun y => { y with latched := some m, reqStatus := .pending,
                               reqSeq := if y.latched.isSome then (y.reqSeq + 1) % 256 else y.reqSeq }).onPwr fun p =>
      { p with onPend := true }

/-- A request for OFF during a transition that is not to OFF (R87, R89). DEDUCED, log entry 20. -/
def State.latchOff (s : State) : State :=
  (s.onSys fun y => { y with latched := some .off, reqStatus := .pending,
                             reqSeq := if y.latched.isSome then (y.reqSeq + 1) % 256 else y.reqSeq }).onPwr fun p =>
    { p with offPend := s.upward }

/-- A request during a transition (R85 to R89). -/
def State.requestIn (m : Mode) (s : State) : Abort × State :=
  if s.sys.target = .off then (.none, s.latchOn m)
  else if m = .off then (.none, s.latchOff)
  else if m = .safe then
    if s.sys.target = .safe then
      (.none, if s.startsUp then s.onSys fun y => { y with reqStatus := .pending, reqDrives := true } else s.reqEnd .done)
    else (.none, s.go .safe)
  else (.busy, s.reqEnd .busy)

/-- A write of `SYS_MODE_REQ` or OD 1001:02 (R78 to R89, R120, R121). DEDUCED, log entry 19. -/
def modeReqStore (v : Nat) (s : State) : Abort × State :=
  let s1 := s.onSys fun y => { y with req := v }
  if !s.anyPair then (.busy, s1.onSys fun y => { y with reqStatus := .busy })
  else match Mode.ofCode v with
    | none => (.range, s1.reqEnd .range)
    | some .print => (.range, s1.reqEnd .range)
    | some m => if s1.sys.transit then s1.requestIn m else s1.judge m

/-- MODE_REQUEST: a request through OD 1001:02 (`od`) or through `SYS_MODE_REQ`. -/
def modeRequest (od : Bool) (v : BitVec 8) (s : State) : State :=
  if od then s.dict fun s => if s.mayWrite .mgmt then modeReqStore v.toNat s else (.stateConflict, s)
  else (modeReqStore (v.toNat % 8) s).2

/-! ## Transitions -/

/-- Every domain is in the state that a mode asks of it (R70). -/
def State.rowMet (s : State) (m : Mode) : Bool :=
  domOrder.all fun d => match s.goalOf m d with
    | none => true
    | some g => decide (s.dom d = g)

/-- SERVICE is reached; a start goes on to its target (R107, R1111). -/
def State.serviceDone (s : State) : State :=
  let s1 := s.modeIs .service
  if s.sys.failing.isSome then s.readyFailEnd (s.sys.failing.getD 0)
  else if !s1.boot.starting then s1.drivenEnd .done
  else match s1.boot.startTarget with
    | .ready => s1.goMode .ready
    | .standby => (s1.dropStart).goMode .standby
    | _ => (s1.dropStart).drivenEnd .done

/-- READY is reached (R91, R92, R1057). -/
def State.readyDone (s : State) : State :=
  let s1 := s.modeIs .ready
  ((if s1.boot.starting then s1.calStartEnd else s1).dropStart).drivenEnd .done

/-- A wake from STANDBY, or the settled SAFE that stands in its place (R109, R1123, R1176). -/
def State.wake (src : Nat) (s : State) : State :=
  let s1 := s.latchFirst.onPwr fun p => { p with wakeSrc := src, wakePend := false }
  if s1.sys.safeLocked then s1.safeFromStart else s1.goMode s1.wakeTarget

/-- STANDBY is reached, and a wake that waited follows (R1000). -/
def State.standbyDone (s : State) : State :=
  let s1 := (s.modeIs .standby).drivenEnd .done
  if s1.pwr.wakePend then (s1.raise 219).wake s1.pwr.wakeSrc else s1

/-- OFF is reached, and a request that waited starts OFFMIN later (R88, R997). -/
def State.offDone (s : State) : State := (((s.modeIs .off).offIs).drivenEnd .done).offLatched

/-- Nothing that R94 orders is still to be done, and the disk and the axes stand (R72, R94). -/
def State.leftReady (s : State) : Bool := decide (s.sys.leave = 0 ∨ s.sys.leave = 4) && s.diskStill && s.motorsStill

/-- The sequencer has nothing to do and waits for nothing. -/
def State.seqIdle (s : State) : Bool :=
  decide (s.pwr.seq = []) && !s.pwr.seqOver && s.pwr.afterOff.isNone && !s.pwr.losing

/-- MODE_TRANSITION_COMPLETE: the transition completes once what its target asks holds (R90 to R92). -/
def modeTransitionComplete (s : State) : State :=
  if !s.sys.transit || !decide (s.pwr.seq = []) || s.pwr.seqOver || s.pwr.losing then s
  else match s.sys.target with
    | .ready =>
      if s.sys.mode ≠ .print ∧ s.seqIdle ∧ s.rowMet .ready ∧ s.readyLacks = 0 ∧ s.stepsOver then s.readyDone else s
    | .service =>
      if s.seqIdle ∧ s.rowMet .service ∧ s.leftReady ∧
          (!s.boot.starting || (decide (s.boot.running = 0) && (s.nextStep [1, 2, 3, 4, 5, 6, 7, 8]).isNone)) then
        s.serviceDone
      else s
    | .standby => if s.seqIdle ∧ s.rowMet .standby ∧ s.leftReady then s.standbyDone else s
    | .off => if s.rowMet .off ∧ s.leftReady ∧ s.pwr.afterOff ≠ some .retry then s.offDone else s
    | .safe | .print => s

/-- A step that READY's time-out ends as failed (R93, R1114). -/
def State.stepTimeout (n : Nat) (s : State) : State :=
  if s.boot.running.getLsbD n then s.optionalFailed n (if 10 ≤ n ∧ n ≤ 13 then n - 10 else 0) 0xFFFFFFFF 0 0 else s

/-- READY_TIMEOUT: the time of OD 1001:0B has passed (R93). The drain from PRINT has no time-out. DESIGN CHOICE, log
entry 94. -/
def readyTimeout (s : State) : State :=
  if !s.sys.transit || decide (s.sys.target ≠ .ready) || decide (s.sys.mode = .print) then s
  else
    let s1 := [9, 10, 11, 12, 13, 14, 15].foldl (fun t n => t.stepTimeout n) s
    if s1.readyLacks = 0 then s1.readyDone else s1.readyFailed

/-- PRINT_LINGER_EXPIRY: no token has been COMMITTED or IMAGED for OD 1001:08 (R97). -/
def printLingerExpiry (s : State) : State :=
  if s.sys.mode = .print ∧ s.flying = [] ∧ s.pgf.gate = none then
    (if s.sys.drain then (s.modeIs .ready).drivenEnd .done else s.modeIs .ready)
  else s

/-- SAFE_RUNOUT_LIMIT: the time of OD 1001:09 has passed since SAFE was entered: the remaining axes stop at once, a
unit that has not stopped opens its bridges, and the overrun is recorded (R102, R739). DEDUCED, log entry 25. -/
def safeRunoutLimit (s : State) : State :=
  if !(decide (s.sys.mode = .safe ∧ s.sys.phase = 2) && s.on .eng) then s
  else
    let axes := (List.range 12).filter fun k => (s.mx k).runs
    let units := (List.range 24).filter fun u => (s.du u).turns
    if axes = [] ∧ units = [] ∧ !s.mot.runout then s
    else
      let s1 := axes.foldl (fun t k => t.halt k true) s
      let s2 := units.foldl (fun t u => t.coastUnit u) s1
      let s3 := (if s2.mot.runout then s2.stopSheets else s2).onMot fun m => { m with runout := false }
      s3.faultRecord 0 [(axes.map fun k => 2 ^ k).sum, (units.map fun u => 2 ^ u).sum]

/-- SAFE_SETTLED: every domain has reached the SAFE row after run-out (R90, R91, R100). -/
def safeSettled (s : State) : State :=
  if s.sys.mode = .safe ∧ s.sys.target = .safe ∧ s.sys.transit ∧ s.seqIdle ∧ s.rowMet .safe ∧ ¬s.mot.runout then
    (s.modeIs .safe).drivenEnd .done
  else s

/-- SAFE_ACK: a write of 1 to OD 1001:0D (`od`), or to `SYS_SAFE_CAUSE.UNACK` (R84). -/
def safeAck (od : Bool) (s : State) : State :=
  let t (s : State) : State := s.onSys fun y => { y with unack := false }
  if !od then t s else s.dict fun s => if s.mayWrite .mgmt then (.none, t s) else (.stateConflict, s)

/-! ## Pins and the SMBus address -/

/-- The controller is to power up from OFF (R108): at once, or when OFFMIN has passed (R998). -/
def State.onRequest (src : Nat) (s : State) : State :=
  if s.pwr.afterOff.isSome then
    (s.onBoot fun b => { b with halted := false }).onPwr fun p =>
      { p with afterOff := some (.start s.wakeTarget), wakeSrc := src, onPend := true }
  else s.startFor src s.wakeTarget

/-- A wake that comes during a transition to STANDBY (R1000); SMBus is named before WAKE_N (R1026). -/
def State.wakeLatch (src : Nat) (s : State) : State :=
  s.onPwr fun p => { p with wakePend := true, wakeSrc := if p.wakePend && decide (p.wakeSrc < src) then p.wakeSrc else src }

/-- A wake during a transition to OFF is an on request (R1000). -/
def State.wakeInOff (src : Nat) (s : State) : State :=
  s.onPwr fun p => { p with afterOff := some (.start s.wakeTarget), onPend := true, wakeSrc := src }

/-- PB_SHORT_PRESS (R89, R108, R109, R1000, R1007). -/
def pbShortPress (s : State) : State :=
  if s.pwr.losing then s
  else if !s.sys.transit then
    match s.sys.mode with
    | .off => s.onRequest 3
    | .standby => s.wake 3
    | _ => (s.judge .off).2
  else match s.sys.target with
    | .standby => s.wakeLatch 3
    | .off => s
    | _ => s.latchOff

/-- WAKE_N: a qualified falling edge of WAKE_N (R109, R999, R1000). -/
def wakeN (s : State) : State :=
  if s.pwr.losing then s
  else if s.sys.transit then
    (if s.sys.target = .standby then s.wakeLatch 2 else if s.sys.target = .off then s.wakeInOff 2 else s)
  else if s.sys.mode = .standby then s.wake 2 else s

/-- SMBUS_ADDRESS_MATCH: the address of the SMBus target matches (R108 to R111, R999, R1001). -/
def smbusAddressMatch (s : State) : State :=
  if s.pwr.losing then s
  else if s.sys.transit then
    (if s.sys.target = .standby then s.wakeLatch 1 else if s.sys.target = .off then s.wakeInOff 1 else s)
  else match s.sys.mode with
    | .standby => s.wake 1
    | .off => if leNat (s.odGet 0x100105 [1]) % 2 = 1 then s.onRequest 1 else s
    | _ => s

end Sys2Proof.Machine
end

