-- ==== Sys2Proof/Machine/PairCmd.lean ====
section
/-! DEFINITION. Machine/PairCmd.lean: the management pairs and their loads (R57 to R63, R1083), and the in-service
update (R1129 to R1141). -/
namespace Sys2Proof.Machine

/-! ## Loads -/

/-- A pair carries a load now. -/
def State.carries (s : State) (p : Pair) : Bool := decide (s.sys.engineOn = p) || decide (s.sys.serviceOn = p)

/-- A pair is in reset or locked out. -/
def State.pairOut (s : State) (p : Pair) : Bool := decide (s.pair p = .inReset) || decide (s.pair p = .lockedOut)

/-- Deliver the traps held for a load whose pair is in service again (R1083). -/
def State.deliverTraps (s : State) : State :=
  let due := s.evt.nmiHeld.filter fun src => s.served (sourceLoad src)
  let s1 := s.onEvt fun e => { e with nmiHeld := e.nmiHeld.filter fun src => !due.contains src }
  due.foldl (fun t src =>
    let u := match t.carrier (sourceLoad src) with
      | .a => t.onEvt fun e => { e with nmiA := e.nmiA + 1 }
      | .b => t.onEvt fun e => { e with nmiB := e.nmiB + 1 }
    u.endBusy src) s1

/-- Move both loads to a pair, which becomes active. -/
def State.bothTo (p : Pair) (s : State) : State :=
  ((s.onSys fun y => { y with engineOn := p, serviceOn := p }).setPair p .active).deliverTraps

/-- Move one load to a pair; a pair left without a load is on standby (R61, R1140). -/
def State.moveLoad (l : Load) (p : Pair) (s : State) : State :=
  let s1 := (match l with
    | .engine => s.onSys fun y => { y with engineOn := p }
    | .service => s.onSys fun y => { y with serviceOn := p }).setPair p .active
  let q := p.other
  (if !s1.carries q && decide (s1.pair q = .active) then s1.setPair q .standby else s1).deliverTraps

/-! ## Update -/

/-- An image bank of the store. -/
def Rec.img (r : Rec) (b : Nat) : ImgBank := if b = 0 then r.img0 else r.img1

/-- Change an image bank. -/
def State.onImg (b : Nat) (f : ImgBank → ImgBank) (s : State) : State :=
  s.onDie fun d => if b = 0 then { d with img0 := f d.img0 } else { d with img1 := f d.img1 }

/-- The bank that is not active. -/
def State.spare (s : State) : Nat := 1 - s.die.imgActive

/-- The trial begins, or a reversion has put the fallback back (R1133 step 5, R1135, R1136, R1138). -/
def State.switchDone (s : State) : State :=
  if s.boot.reverting then
    (((s.onImg s.die.imgActive fun b => { b with state := 2 }).onImg s.spare fun b => { b with state := 1, rejected := true }).onBoot
      fun b => { b with updStep := 0, updState := 5, trial := false, reverting := false }).raise 10
  else
    ((s.onImg s.die.imgActive fun b => { b with state := 3 }).onBoot
      fun b => { b with updStep := 0, updState := 3, trial := true }).raise 10

/-- A cold switch: both pairs are reset, and the dictionary state is lost (R1135). -/
def State.coldSwitch (s : State) : State :=
  let s1 := s.onBoot fun b => { b with cold := true, updStep := 2, updState := 2 }
  let reset (v : PairState) : PairState := if v = .lockedOut then v else .inReset
  let s2 := s1.onSys fun y => { y with pairA := reset y.pairA, pairB := reset y.pairB }
  { s2 with zop := { s2.zop with sessions := [], xfers := [], abandoned := [] } }

/-- A hot switch begins (R1133). -/
def State.hotSwitch (s : State) : State :=
  s.onBoot fun b => { b with cold := false, updStep := 1, updState := 2, updP1 := s.sys.serviceOn }

/-- The FAULT entry of a reversion (R1138): the bank that is rejected and its VERSION. -/
def State.revertRecord (s : State) : State := s.faultRecord 10 [s.spare, (s.die.img s.spare).version]

/-- A reversion begins (R1138): hot where CKPT is the same, cold otherwise. `lost` is a pair that is already in
reset, and whose load the other pair carries. -/
def State.revertStart (lost : Option Pair) (s : State) : State :=
  let s1 := (s.onBoot fun b => { b with reverting := true, trial := false, updState := 2 }).revertRecord
  let same := decide ((s.die.img 0).ckpt = (s.die.img 1).ckpt)
  match lost with
  | some p =>
    if same && decide (s.pair p = .inReset) then s1.onBoot fun b => { b with cold := false, updStep := 2, updP1 := p }
    else s1.coldSwitch
  | none => if same then s1.hotSwitch else s1.coldSwitch

/-- The write of 1 to OD 5810:02 (R1132). While an update is switching or in trial it is refused. DESIGN CHOICE, log
entry 129. -/
def State.activateStore (s : State) : Abort × State :=
  let n := s.die.img s.spare
  if n.state ≠ 1 || n.rejected || s.pairOut .a || s.pairOut .b || s.sys.transit || decide (s.boot.updState = 2 ∨ s.boot.trial) then
    (.stateConflict, s)
  else if n.ckpt = (s.die.img s.die.imgActive).ckpt then (.none, s.hotSwitch)
  else if s.sys.mode = .service then (.none, s.coldSwitch)
  else (.stateConflict, s)

/-- The confirmation of a trial (R1131, R1137). -/
def State.confirm (s : State) : State :=
  let b := s.spare
  let v := (s.die.img b).svn
  let s1 := ((s.onImg s.die.imgActive fun x => { x with state := 3 }).onImg b fun x => { x with state := 2 }).onDie fun d =>
    { d with imgActive := b, svnMin := if d.svnMin < v ∧ d.svnSteps < 64 then v else d.svnMin,
             svnSteps := if d.svnMin < v ∧ d.svnSteps < 64 then d.svnSteps + 1 else d.svnSteps }
  s1.onBoot fun x => { x with trial := false, updState := 4 }

/-- A write of OD 5810:02 (R1132, R1137, R1138). -/
def updateStore (v : Nat) (s : State) : Abort × State :=
  if !s.mayWrite .mgmt then (.stateConflict, s)
  else match v with
    | 1 => s.activateStore
    | 2 => if s.boot.trial then (.none, s.confirm) else (.stateConflict, s)
    | 3 => if s.boot.trial then (.none, s.revertStart none) else (.stateConflict, s)
    | _ => (.range, s)

/-- ACTIVATE, CONFIRM and REVERT: writes of 1, 2 and 3 to OD 5810:02. -/
def activate (s : State) : State := s.dict (updateStore 1)
def confirm (s : State) : State := s.dict (updateStore 2)
def revert (s : State) : State := s.dict (updateStore 3)

/-- TRIAL_TIMEOUT: TRIAL_TIME has passed since the trial began (R1137). -/
def trialTimeout (s : State) : State := if s.boot.trial then s.confirm else s

/-- A write of OD 5820:01 (R1140). DEDUCED, log entry 18. -/
def handbackStore (v : Nat) (s : State) : Abort × State :=
  let l : Load := if v < 2 then .engine else .service
  let p : Pair := if v % 2 = 0 then .a else .b
  let refuse (t : State) : State := t.onBoot fun b => { b with handbackStatus := 2 }
  if !s.mayWrite .mgmt then (.stateConflict, s)
  else if 3 < v then (.range, s)
  else if s.boot.updState = 2 then (.busy, refuse s)
  else if s.pairOut p then (.stateConflict, refuse s)
  else if s.carrier l = p then (.none, s.onBoot fun b => { b with handbackStatus := 1 })
  else (.none, s.onBoot fun b => { b with handback := some (l, p), handbackStatus := 0 })

/-- HANDBACK: a write of OD 5820:01. -/
def handback (v : BitVec 8) (s : State) : State := s.dict (handbackStore v.toNat)

/-- HANDOVER_DONE: the checkpoint of a handover has come (R58, R1133, R1141). -/
def handoverDone (s : State) : State :=
  if !s.on .mgt then s
  else
    let p1 := s.boot.updP1
    if s.boot.updState = 2 ∧ ¬s.boot.cold ∧ s.boot.updStep = 1 then
      ((s.bothTo p1.other).setPair p1 .inReset).onBoot fun b => { b with updStep := 2 }
    else if s.boot.updState = 2 ∧ ¬s.boot.cold ∧ s.boot.updStep = 3 then
      ((s.bothTo p1).setPair p1.other .inReset).onBoot fun b => { b with updStep := 4 }
    else if s.boot.updState = 2 ∧ ¬s.boot.cold ∧ s.boot.updStep = 5 then (s.moveLoad .engine p1.other).switchDone
    else match s.boot.handback with
      | some (l, p) =>
        if s.pairOut p then s.onBoot fun b => { b with handback := none, handbackStatus := 2 }
        else ((s.moveLoad l p).onBoot fun b => { b with handback := none, handbackStatus := 1 }).raise 7
      | none => s

/-- A pair rejoins: after a mismatch, the time from which R62 counts is noted. -/
def State.rejoined (p : Pair) (s : State) : State :=
  s.onSys fun y => match p with
    | .a => if y.missA then { y with rejoinA := some s.time.now, missA := false } else y
    | .b => if y.missB then { y with rejoinB := some s.time.now, missB := false } else y

/-- PAIR_RELOAD_DONE: a pair has loaded the set, passed its self-check and rejoins (R62, R1133, R1135). -/
def pairReloadDone (p : Pair) (s : State) : State :=
  if !s.on .mgt || decide (s.boot.updState ≠ 2) || decide (s.pair p ≠ .inReset) then s
  else if s.boot.cold then
    let s1 := if (s.rejoined p).anyPair then (s.rejoined p).setPair p .standby else (s.rejoined p).bothTo p
    if s1.pair p.other = .inReset then s1 else s1.switchDone
  else if s.boot.updStep = 2 ∧ p = s.boot.updP1 then
    ((s.rejoined p).setPair p .standby).onBoot fun b => { b with updStep := 3 }
  else if s.boot.updStep = 4 ∧ p = s.boot.updP1.other then
    ((s.rejoined p).setPair p .standby).onBoot fun b => { b with updStep := 5 }
  else s

/-! ## Mismatches -/

/-- The time of a pair's last rejoining lies less than 60 s back (R62). -/
def State.rejoinedLately (s : State) (p : Pair) : Bool :=
  match (match p with | .a => s.sys.rejoinA | .b => s.sys.rejoinB) with
  | some t => decide (s.time.now.toNat < t.toNat + 60 * 10 ^ 9)
  | none => false

/-- A pair has left service: a lockout is recorded (R62, R77, R1096). -/
def State.lockOut (p : Pair) (s : State) : State :=
  let s1 := (s.setPair p .lockedOut).raise 5
  (s1.glume 13 true 5 (u32le (s1.readReg 0x18).toNat)).errUpdate

/-- The operation that the request in the mailbox names (R867, R893). -/
def State.mbxOp (s : State) : Nat := (sget 0#8 4 s.zop.mbxReq).toNat

/-- A dictionary write that waits unacknowledged in the mailbox at a mismatch has no effect: it ends with STATUS 4 (R59,
R892). READ, READ_INIT, READ_SEG and PING write nothing. DEDUCED, log entry 81. -/
def State.dropUnacked (s : State) : State :=
  if s.zop.mbxStatus = 1 ∧ s.mbxOp ∉ [1, 3, 4, 0x12] then { s with zop := { s.zop with mbxStatus := 4 } } else s

/-- LOCKSTEP_MISMATCH: a pair mismatches (R60 to R63, R1138, R1139, R1141). -/
def lockstepMismatch (p : Pair) (s : State) : State :=
  if !s.on .mgt || s.pairOut p then s
  else
    let q := p.other
    let late := s.rejoinedLately p
    let took := s.carries p
    let s0 := if s.sys.serviceOn = p then s.dropUnacked else s
    let s1 := ((s0.setPair p .inReset).onSys fun y => match p with
      | .a => { y with missA := true }
      | .b => { y with missB := true }).raise (match p with | .a => 0 | .b => 1)
    let s2 := if late then s1.lockOut p else s1
    let s3 := if took && !s2.pairOut q then
        (s2.bothTo q |>.onSys fun y => { y with failovers := satInc 255 y.failovers }).raise 7
      else s2
    let s4 := match s3.boot.handback with
      | some (_, x) => if x = p then s3.onBoot fun b => { b with handback := none, handbackStatus := 2 } else s3
      | none => s3
    if s4.boot.updState = 2 then
      ((s4.onBoot fun b => { b with reverting := true }).revertRecord).switchDone
    else if s4.boot.trial then s4.revertStart (some p)
    else s4

/-- PAIR_REJOIN: the reset of a pair completes (R61, R63). DEDUCED, log entry 17. -/
def pairRejoin (p : Pair) (s : State) : State :=
  if !s.on .mgt || decide (s.pair p ≠ .inReset) || decide (s.boot.updState = 2) || (s.boot.starting && decide (s.sys.mode = .off)) then s
  else
    let s1 := s.rejoined p
    if s1.anyPair then s1.setPair p .standby
    else ((s1.bothTo p).onSys fun y => { y with failovers := satInc 255 y.failovers }).raise 7

/-- ENGINE_FIRMWARE_CYCLE: each pair writes a checkpoint of its load (R58). -/
def engineFirmwareCycle (s : State) : State := s.checkpoints

end Sys2Proof.Machine
end

