-- ==== Sys2Proof/Machine/BootCmd.lean ====
section
/-! DEFINITION. Machine/BootCmd.lean: the ends of the start-up steps, and the runs and marks of steps in service (R1111
to R1126, R1142, R1146, R1147, R1181). -/
namespace Sys2Proof.Machine

/-! ## Step 6: the stored configuration -/

/-- The bank that step 6 loads: the one in use, or by the alternate method the other if it is complete (R1111). -/
def State.configBank (s : State) (alt : Bool) : Option Nat :=
  match s.die.inUse with
  | none => none
  | some k => if !alt then some k else if (s.die.bank (1 - k)).complete then some (1 - k) else none

/-- A class whose objects the stored configuration holds whole (R856). -/
def Cls.kept (c : Cls) : Bool := decide (c = .fixed ∨ c = .shadow ∨ c = .setp ∨ c = .mgmt)

/-- Without a bank, every stored object that AON holds takes its default (R857); the reaction fields stand (R1009). -/
def State.aonDefaults (s : State) : State :=
  let keep (off : Nat) : Bool := decide (offDom off ≠ some .aon) || !(((regRow? off).map fun r => r.cls.kept).getD false)
  { s with regs := s.regs.filter fun e => keep e.1, od := s.od.filter fun e => !aonHeld e.1 }

/-- Load the stored configuration (R856, R1142, R1181). -/
def State.loadConfig (alt : Bool) (s : State) : State :=
  let items := match s.configBank alt with
    | some k => (s.die.bank k).items
    | none => []
  let status := if s.die.storeMark then 3 else if s.die.inUse.isNone then 4 else 0
  let time : Time := match s.die.inUse with
    | some k => (s.die.bank k).time
    | none => 0
  let s1 : State := { s with
    die := { s.die with storeMark := false, cfgWriting := none }
    zop := { s.zop with stored := items, storeStatus := status, storeTime := time } }
  let s0 := if (s.configBank alt).isNone then s1.aonDefaults else s1
  let s2 := (Dom.aon :: domOrder).foldl (fun t d => if d = .aon ∨ t.on d then t.loadDomain d else t.loadIen d) s0
  let s3 : State := { s2 with zop := { s2.zop with oem := s2.odGet 0x101200 [] }
                              od := s2.od.filter fun e => decide (e.1 < 0x600000) }
  items.foldl (fun t e => match t.oemObj e.1 with
    | some d => if d.acc = 1 then t.odPut e.1 d.dflt (padTo d.size e.2) else t
    | none => t) s3

/-! ## Step 7: the memory -/

/-- The DRAM has been trained, with `total` frames of 64 KiB (R399, R404, R438, R442). -/
def State.trainMemory (total : Nat) (s : State) : State := s.memFill (min total 524288)

/-! ## The ends of steps -/

/-- Step 2 by its alternate method: the general region goes on after the entry that the scan pointer names, if it
stands there; the entries after it are overwritten (R1111). DEDUCED, log entry 87. -/
def Rec.resumeAt (r : Rec) : Rec :=
  let later (g : GEntry) : Bool := decide (g.seq ≠ r.scanPtr) && decide ((g.seq - r.scanPtr).toNat < 2 ^ 31)
  if r.gen.any fun g => decide (g.seq = r.scanPtr) then
    let n := (r.gen.filter later).length
    { r with gen := r.gen.filter fun g => !later g, genNext := (r.genNext + genSlots - n) % genSlots,
             nextSeq := (r.prot.filter later).foldl (fun m g => if decide ((g.seq - m).toNat < 2 ^ 31) then g.seq + 1 else m)
               (r.scanPtr + 1) }
  else r

/-- What the success of a step brings into being. `inst` names the pair that step 5 starts by its alternate method, and
`arg` the frames of DRAM that step 7 finds. -/
def State.stepDone (n : Nat) (alt : Bool) (inst arg : Nat) (s : State) : State :=
  match n with
  | 2 => if alt then s.onDie Rec.resumeAt else s
  | 5 =>
    if alt then
      let p : Pair := if inst = 0 then .a else .b
      ((s.bothTo p).setPair p.other .lockedOut).errUpdate
    else ((s.onSys fun y => { y with engineOn := .a, serviceOn := .b, pairA := .active, pairB := .active }).deliverTraps)
  | 6 => s.loadConfig alt
  | 7 => s.trainMemory arg
  | 14 => s.journalStep
  | _ => s

/-- The bank that step 4 loads, the active one or by the alternate method the other, holds a set that may run (R1111,
R1128, R1130, R1138). -/
def State.imageLoads (s : State) : Bool :=
  let k := if s.boot.byAlt.getLsbD 4 then 1 - s.die.imgActive else s.die.imgActive
  let b := if k = 0 then s.die.img0 else s.die.img1
  decide (b.state ≠ 0) && !b.rejected && decide (s.die.svnMin ≤ b.svn)

/-- What a step itself shows of its end: none while it still runs. -/
def State.stepEnds (s : State) (n : Nat) (ok : Bool) : Option Bool :=
  match n with
  | 4 => some (ok && s.imageLoads)
  | 3 => if s.seqIdle then some true else none
  | 9 => if ok then (if s.diskUp then some true else none) else some false
  | 10 | 11 | 12 | 13 => if ok then (if s.stReady (n - 10) then some true else none) else some false
  | 14 => some s.sealsAgree
  | 15 =>
    if (List.range 10).any fun id => ((s.calCh id).run.map fun r => decide (r.trig = 1)).getD false then none
    else some (!s.cal.startBad)
  | _ => some ok

/-- BOOT_STEP_DONE: a step of the start has succeeded or failed (R1111 to R1124). `inst` is what the step names, `cause`
the source behind a failure, `us` its duration; `arg` is the channel and, from bit 32 on, the byte lane that failed in
step 7, or the frames of DRAM found. -/
def State.bootStep (n : Nat) (ok : Bool) (inst cause us arg : Nat) (s : State) : State :=
  if !s.boot.running.getLsbD n then s
  else
    let alt := s.boot.byAlt.getLsbD n
    let m := if alt then 1 else 0
    match s.stepEnds n ok with
    | none => s
    | some true => ((s.stepDone n alt inst arg).logStep n m 0 us).endStep n
    | some false =>
      if mandatory n then
        let s1 := if n = 4 then s.raise 9 else s
        s1.mandatoryFailed n inst cause us arg
      else s.optionalFailed n inst cause us arg

/-! ## Steps in service -/

/-- A run of R1125 ends: its mark clears on success, and source 8 is raised on failure. -/
def State.serviceEnd (n : Nat) (ok : Bool) (s : State) : State :=
  let s1 := s.onBoot fun b => { b with serviceStep := 0, cmdStatus := if ok then 2 else 6 }
  if ok then
    let s2 := s1.onDie fun d => { d with marks := d.marks &&& ~~~(stepBit n) }
    if n = 9 then s2.onBoot fun b => { b with noDisk := false } else s2
  else
    let s2 := s1.raise 8
    if n = 9 ∧ s2.boot.noDisk then (s2.spnStop).runSeq .request [.dom .dsk .off] else s2

/-- BOOT_STEP_DONE, of a start or of a run in service. -/
def bootStepDone (n : Nat) (ok : Bool) (inst cause us arg : Nat) (s : State) : State :=
  if n ≠ 0 ∧ s.boot.serviceStep = n then
    match s.stepEnds n ok with
    | some b => s.serviceEnd n b
    | none => s
  else s.bootStep n ok inst cause us arg

/-- The judgement of a run in service (R1125, R1126, R1147). One step runs at a time. DESIGN CHOICE, log entry 129. -/
def State.runJudge (s : State) (n : Nat) : Abort :=
  if !(decide (9 ≤ n ∧ n ≤ 13) || decide (n = 15)) then .range
  else if !s.mayWrite .setp || decide (s.sys.mode ≠ .ready) || s.sys.transit || decide (s.flying ≠ []) ||
      (decide (n = 9) && s.waitingSlots.any fun k => decide ((s.tok k).state = .armed) && decide ((s.tok k).plan ≠ [])) ||
      (decide (10 ≤ n ∧ n ≤ 13) && !bitOf (s.lsReg (n - 10) 0) 31) then .stateConflict
  else if s.boot.serviceStep ≠ 0 || s.boot.running.getLsbD n then .busy
  else .none

/-- Begin a run in service, by the primary method (R1125). -/
def State.runBegin (n : Nat) (s : State) : State :=
  let s1 := s.onBoot fun b => { b with serviceStep := n, cmdStatus := 1 }
  if n = 9 then
    if s1.on .dsk then s1.spnStart else s1.runSeq .request [.dom .dsk .on]
  else s1.beginStep n

/-- The code of `BOOT_CMD.STATUS` for a refusal (R1146). -/
def bootStatusOf : Abort → Nat
  | .stateConflict => 3 | .busy => 4 | .range => 5 | _ => 2

/-- Run a step, by OD 5800:06 or `BOOT_CMD`. -/
def runStepStore (n : Nat) (s : State) : Abort × State :=
  match s.runJudge n with
  | .none => (.none, s.runBegin n)
  | .busy => (.busy, s)
  | a => (a, if s.boot.serviceStep = 0 then s.onBoot fun b => { b with cmdStatus := bootStatusOf a } else s)

/-- Clear marks, by OD 5800:03 or `BOOT_CMD` (R1120, R1147). -/
def clearMarksStore (mask : Nat) (s : State) : Abort × State :=
  let put (a : Abort) (t : State) : State :=
    if t.boot.serviceStep = 0 then t.onBoot fun b => { b with cmdStatus := bootStatusOf a } else t
  if !s.mayWrite .test then (.stateConflict, put .stateConflict s)
  else if mask % 2 = 1 then (.range, put .range s)
  else (.none, put .none (s.onDie fun d => { d with marks := d.marks &&& ~~~(BitVec.ofNat 16 mask) }))

/-- A write of `BOOT_CMD` (R1146, R1147). -/
def bootCmdStore (v : Word) (s : State) : Abort × State :=
  let op := fld v 0 4
  let s1 := s.setReg 0x980008 (v &&& 0x00FFFF0F)
  if !bitOf v 31 then (.none, s1)
  else match op with
    | 0 => clearMarksStore (fld v 8 16) s1
    | 1 => runStepStore (fld v 8 4) s1
    | _ => (.range, s1.onBoot fun b => { b with cmdStatus := 5 })

/-- RUN_STEP: OD 5800:06 (`od`), or `BOOT_CMD` OP 1. -/
def runStep (od : Bool) (n : BitVec 8) (s : State) : State :=
  if od then s.dict (runStepStore n.toNat)
  else (bootCmdStore (placeB true 31 ||| place n.toNat 8 4 ||| 1) s).2

/-- CLEAR_MARKS: OD 5800:03 (`od`), or `BOOT_CMD` OP 0. -/
def clearMarks (od : Bool) (mask : BitVec 16) (s : State) : State :=
  if od then s.dict (clearMarksStore mask.toNat)
  else (bootCmdStore (placeB true 31 ||| place mask.toNat 8 16) s).2

end Sys2Proof.Machine
end

