-- ==== Sys2Proof/Machine/HqCmd.lean ====
section
/-! DEFINITION. Machine/HqCmd.lean: the PCIe endpoint, the host queues and their commands, and the journal (R904 to
R951). -/
namespace Sys2Proof.Machine

/-! ## Legality and completion -/

/-- A command is legal in the present mode, and in the target of a transition (R939). A command legal at its start
runs to its end (R117, R940): only the start asks. -/
def State.legalIn (s : State) (l : List Mode) : Bool := s.modes.all fun m => l.contains m

/-- The modes of page submission and block I/O, and of the other commands (R939). -/
def pageModes : List Mode := [.ready, .print]
def anyModes : List Mode := [.service, .ready, .print, .safe]

/-- An uncorrectable error of the link (R960, R968). -/
def State.linkError (s : State) : State :=
  (s.onHq fun h => { h with cntUncorr := satInc 0xFFFFFFFF h.cntUncorr }).raise 233

/-- The opcode of a descriptor (R926). -/
def Desc.op (d : Desc) : Nat := leAt d.bytes 0 1

/-- Complete the descriptor at place i of a queue (R935). -/
def State.finish (q i status reason result : Nat) (s : State) : State :=
  match (s.qp q).inflight[i]? with
  | none => s
  | some d => s.complete q i
      { cid := d.cid, status := status, reason := reason, result := result,
        result2 := if d.op = 1 ∧ s.qKind q = 0 then s.freeSlots else 0 }

/-- The first descriptor of a queue that has been fetched and not begun (R920). -/
def State.headDesc (s : State) (q : Nat) : Option (Nat × Desc) :=
  match (s.qp q).inflight.findIdx? fun d => decide (d.phase = 0) with
  | some i => ((s.qp q).inflight[i]?).map fun d => (i, d)
  | none => none

/-- Complete the first descriptor of a queue that has not begun, wherever the completion of others has left it
(R935). -/
def State.finishHead (q status reason result : Nat) (s : State) : State :=
  match s.headDesc q with
  | some (i, _) => s.finish q i status reason result
  | none => s

/-- A command of an opcode stands first on a queue of the kind that accepts it. -/
def State.headOp (s : State) (q op : Nat) : Option (Nat × Desc) :=
  match s.headDesc q with
  | some (i, d) => if s.on .mgt ∧ d.op = op then some (i, d) else none
  | none => none

/-- The descriptor of a running command. -/
def State.onDesc (q i : Nat) (f : Desc → Desc) (s : State) : State :=
  s.onQp q fun x => { x with inflight := modAt x.inflight i f }

/-! ## Descriptors -/

/-- The bytes from `a` to `b` are 0. -/
def zeroBytes (l : List Byte) (a b : Nat) : Bool := (slice l a (b - a)).all fun x => decide (x = 0)

/-- The FORMAT rules of R926: the opcode of the queue's kind, the FLAGS bits, and the reserved fields.
DEDUCED, log entry 62. -/
def descFits (kind : Nat) (b : List Byte) : Bool :=
  let op := leAt b 0 1
  let flags := leAt b 1 1
  match kind, op with
  | 0, 0x01 => decide (flags < 2) && decide (leAt b 11 1 < 16)
  | 0, 0x02 | 2, 0x20 | 2, 0x21 => decide (flags = 0)
  | 1, 0x10 | 1, 0x11 => decide (flags = 0) && zeroBytes b 32 64
  | _, _ => false

/-- Buffers of a command: NSEG and LEN of its triple, and the lengths of the segment list, agree (R924, R925).
DEDUCED, log entry 67. -/
def bufferOk (nseg len : Nat) (segs : List Nat) (need : Nat) : Bool :=
  decide (nseg ≤ 4096) && (decide (nseg < 2) || (decide (segs.length = nseg) && decide (segs.sum = len))) &&
    decide (need ≤ if nseg = 0 then 0 else len)

/-- The descriptors in flight on the BLOCK queues. -/
def State.blockInflight (s : State) : Nat :=
  ((List.range 16).map fun q => if s.qKind q = 1 then (s.qp q).inflight.length else 0).sum

/-- A queue may have a descriptor fetched (R915 to R919). -/
def State.fetchable (s : State) (q : Nat) : Bool :=
  let x := s.qp q
  x.active && !x.error && !x.stopping && decide (x.sqHead ≠ x.sqTail) && s.cqRoom q && decide (x.due = []) &&
    (if s.qKind q = 1 then decide (x.inflight.length < 32) && decide (s.blockInflight < 64) else decide (x.inflight = []))

/-- The queue from which the next descriptor comes, in round-robin order (R920). -/
def State.nextQueue (s : State) : Option Nat :=
  if s.on .mgt && s.hq.linkUp && !s.hq.d3 then
    ((List.range 16).map fun i => (s.hq.lastQ + 1 + i) % 16).find? s.fetchable
  else none

/-- A fetch from queue q fails on the link (R916). -/
def State.fetchFails (q : Nat) (s : State) : State := ((s.qError q 3).linkError).raise 234

/-- DESCRIPTOR_FETCH: HQ fetches a descriptor; none tells that the fetch fails on the link (R916, R920, R926). -/
def descriptorFetch (bytes : Option (List Byte)) (s : State) : State :=
  match s.nextQueue with
  | none => s
  | some q =>
    let s1 := s.onHq fun h => { h with lastQ := q }
    match bytes with
    | none => s1.fetchFails q
    | some b =>
      let head := ((s1.qp q).sqHead + 1) % s1.qSize q
      let d : Desc := { bytes := padTo 64 (b.take 64), sqHead := head }
      let i := (s1.qp q).inflight.length
      let s2 := s1.onQp q fun x => { x with sqHead := head, inflight := x.inflight ++ [d] }
      if descFits (s2.qKind q) d.bytes then s2
      else s2.finish q i 11 0 (if d.op = 1 ∧ s2.qKind q = 0 then 0xFFFFFFFF else 0)

/-! ## Pages -/

/-- The page header of a SUBMIT_PAGE entry (R927). -/
def headerOf (b : List Byte) : Header :=
  let c := leAt b 8 1
  { width := leAt b 4 2, height := leAt b 6 2, planes := c % 16, pair := c / 16 % 4, precoded := decide (c / 64 % 2 = 1),
    tags := decide (c / 128 = 1), ratio := leAt b 9 1, tagmap := leAt b 10 2, tagBytes := leAt b 12 4,
    blocks := (List.range 4).map fun p => leAt b (16 + 4 * p) 4,
    bytes := (List.range 4).map fun p => leAt b (32 + 4 * p) 4 }

/-- The front token that a back token on a queue directly follows: the last one submitted there (R310). -/
def State.frontOf (s : State) (q : Nat) : Option Nat :=
  match (s.qp q).lastTok with
  | some (k, n) =>
    let t := s.tok k
    if t.num = n ∧ t.hdr.pair = 1 ∧ t.waits ∧ t.partner.isNone then some k else none
  | none => none

/-- Host-submit credits for a page: granted, or waited for (R417, R929). -/
def State.submitCredits (k : Nat) (h : Header) (s : State) : State :=
  match s.credit 1 h.submitFrames with
  | some t => t
  | none =>
    (s.onTok k fun t => { t with creditWait := h.submitFrames }).onShf fun x =>
      { x with waits := x.waits ++ [{ consumer := 0, pool := 1, n := h.submitFrames, ref := k, plane := 0 }] }

/-- Present a page header to PGF (R310, R311, R314, R344, R937); its raw planes join the coder's order (R385). -/
def State.present (q i : Nat) (d : Desc) (lens : List Nat) (s : State) : State :=
  match s.freeSlot with
  | none => (s.raise 86).finish q i 9 0 0xFFFFFFFF
  | some k =>
    let h := headerOf d.bytes
    let front := if h.pair = 2 then s.frontOf q else none
    let reason := s.headerReason h lens front.isSome
    let num := s.pgf.nextNum
    let s1 := (s.onPgf fun g => { g with nextNum := (g.nextNum + 1) % 2 ^ 32 }).putTok k
      { num := num, hdr := h, submitTime := s.time.now, hostref := leAt d.bytes 56 8, queue := q,
        platter := decide (leAt d.bytes 1 1 = 1), partner := front }
    let s2 := match front with
      | some j => s1.onTok j fun t => { t with partner := some k }
      | none => s1
    let s3 := (s2.onQp q fun x => { x with lastTok := some (k, num) }).move k .submitted 0
    if reason = 0 then
      let s4 : State := if h.precoded then s3
        else { s3 with husk := { s3.husk with coding := s3.husk.coding ++ h.list.map fun p => (k, p) } }
      ((s4.onTok k fun t => { t with reading := true }).onDesc q i fun d => { d with phase := 1, token := k }).submitCredits k h
    else (s3.reject k reason).finishHead q (if reason = 2 then 6 else 12) reason num

/-- SUBMIT_PAGE: the page at the head of a PAGE queue: its plane table as five pairs of LEN and NSEG with their segment
lengths, or none where host memory fails (R925, R927 to R929, R939). -/
def submitPage (q : Nat) (table : Option (List (Nat × Nat × List Nat))) (s : State) : State :=
  match s.headOp q 1 with
  | none => s
  | some (i, d) =>
    if !s.legalIn pageModes || !s.on .pix || !s.on .mem then s.finish q i 8 0 0xFFFFFFFF
    else match table with
      | none => s.linkError.finish q i 10 0 0xFFFFFFFF
      | some l =>
        let h := headerOf d.bytes
        let used (p : Nat) : Bool := if p = 4 then h.tags && !h.precoded else h.has p
        let ent (p : Nat) : Nat × Nat × List Nat := nth (0, 0, []) l p
        if (List.range 5).any fun p => !used p && decide ((ent p).2.1 ≠ 0) then s.finish q i 11 0 0xFFFFFFFF
        else if (List.range 5).any fun p => used p && !bufferOk (ent p).2.1 (ent p).1 (ent p).2.2 0 then
          s.finish q i 6 0 0xFFFFFFFF
        else s.present q i d ((List.range 5).map fun p => if (ent p).2.1 = 0 then 0 else (ent p).1)

/-- The bytes of a page land in the host submit pool; the coder may begin it, or pre-coded planes are moved to the
spool pool (R314, R385, R929). -/
def State.landPage (k : Nat) (data : List (List Byte)) (s : State) : State :=
  let h := (s.tok k).hdr
  let s1 := h.list.foldl (fun t p => State.allocPlane 1 k p (h.inFrames p) 0 t) s
  let s2 := State.allocPlane 1 k 4 (ceilDiv h.tagBytes 65536) 0 s1
  let s3 := s2.onTok k fun t => { t with
    reading := false, tagInput := padTo h.tagBytes ((nth [] data 4).take h.tagBytes)
    planes := t.planes.zipIdx.map fun p =>
      if h.has p.2 then { p.1 with input := padTo (nth 0 h.bytes p.2) ((nth [] data p.2).take (nth 0 h.bytes p.2)) } else p.1 }
  if h.precoded then s3.movePlanes k else s3.coderGo

/-- The page that a queue is reading: its place in flight and its slot. -/
def State.readingOn (s : State) (q : Nat) : Option (Nat × Nat) :=
  match (s.qp q).inflight[0]? with
  | some d => if d.op = 1 ∧ d.phase = 1 ∧ (s.tok d.token).reading then some (0, d.token) else none
  | none => none

/-- PAGE_DATA_READ_DONE: the last byte of a page has been read, planes 0 to 3 and then the tag plane; none tells
that host memory failed (R929, R938). -/
def pageDataReadDone (q : Nat) (data : Option (List (List Byte))) (s : State) : State :=
  match s.readingOn q with
  | none => s
  | some (i, k) =>
    let num := (s.tok k).num
    match data with
    | none => ((s.linkError.stopReading k 10 0).reject k 8)
    | some l =>
      if (s.tok k).creditWait ≠ 0 ∨ !s.on .mem then s
      else (s.landPage k l).finish q i 0 0 num

/-- CANCEL_PAGE: the cancel at the head of a PAGE queue (R930, R939). DEDUCED, log entry 68. The coder leaves a plane
of the token at once and frees its spool frames (R387). -/
def cancelPage (q : Nat) (s : State) : State :=
  match s.headOp q 2 with
  | none => s
  | some (i, d) =>
    let n := leAt d.bytes 4 4
    if !s.legalIn anyModes then s.finish q i 8 0 0
    else match s.pgf.tokens.find? fun t => !t.2.isFree && decide (t.2.num = n) with
      | none => s.finish q i 7 0 0
      | some (k, t) =>
        if t.waits && !s.underGate k then (s.reject k 5).finishHead q 0 0 0 else s.finish q i 8 0 0

/-! ## Block I/O -/

/-- HOST_SECTORS (R941). -/
def State.hostSectors (s : State) : Nat := s.capacity - s.jrn.printSectors

/-- The LBAs of two block commands overlap (R921). -/
def Desc.overlaps (a b : Desc) : Bool :=
  decide (0 < leAt a.bytes 4 4 ∧ 0 < leAt b.bytes 4 4) &&
    decide (leAt a.bytes 8 8 < leAt b.bytes 8 8 + leAt b.bytes 4 4 ∧ leAt b.bytes 8 8 < leAt a.bytes 8 8 + leAt a.bytes 4 4)

/-- Judge and start the block command at the head of a BLOCK queue (R921, R925, R931 to R933, R939). -/
def State.blockStart (q : Nat) (write : Bool) (segs : Option (List Nat)) (s : State) : State :=
  match s.headOp q (if write then 0x11 else 0x10) with
  | none => s
  | some (i, d) =>
    let n := leAt d.bytes 4 4
    let lba := leAt d.bytes 8 8
    if ((s.qp q).inflight.take i).any fun e => e.overlaps d then s
    else if !s.legalIn pageModes then s.finish q i 8 0 0
    else if n = 0 then s.finish q i 0 0 0
    else if s.hostSectors < lba + n then s.finish q i 6 0 0
    else match segs with
      | none => s.linkError.finish q i 10 0 0
      | some l =>
        if !bufferOk (leAt d.bytes 28 2) (leAt d.bytes 24 4) l (n * 4096) then s.finish q i 6 0 0
        else if !s.on .dsk then s.finish q i 4 0 0
        else
          let kind : DKind := if write then .hostWrite q d.cid else .hostRead q d.cid
          let s1 := (s.onDesc q i fun d => { d with phase := 1 }).blockFrame (q * 65536 + d.cid)
          s1.onRch fun r => { r with waiting := r.waiting ++ [{ kind := kind, lba := s1.jrn.printSectors + lba, count := n }] }

/-- READ and WRITE: the block command at the head of a queue, with the lengths of its segment list, or none where host
memory fails. -/
def blockRead (q : Nat) (segs : Option (List Nat)) (s : State) : State := s.blockStart q false segs
def blockWrite (q : Nat) (segs : Option (List Nat)) (s : State) : State := s.blockStart q true segs

/-- A transfer of the disk serves a block command. -/
def DKind.block (k : DKind) (q cid : Nat) : Bool :=
  match k with
  | .hostRead a b | .hostWrite a b => decide (a = q ∧ b = cid)
  | _ => false

/-- Take the disk transfer of a block command away: a read at once, a write at the next sector boundary (R907, R938). -/
def State.dropBlock (q cid : Nat) (s : State) : State :=
  let s1 := s.onRch fun r => { r with waiting := r.waiting.filter fun x => !x.kind.block q cid }
  match s1.rch.cur with
  | some x =>
    if !x.kind.block q cid then s1
    else if s1.rch.writing then s1.onRch fun r => { r with cur := some { x with cut := true } }
    else s1.endXfer 5
  | none => s1

/-- BLOCK_COMMAND_DONE: the first block command of a queue whose transfer has ended completes (R933, R936); a number
tells that host memory failed after that many sectors of the first one running (R938). -/
def blockCommandDone (q : Nat) (failed : Option Nat) (s : State) : State :=
  if !s.on .mgt then s
  else match failed with
    | none => match (s.qp q).inflight.findIdx? fun d => decide (d.phase = 2) with
      | some i => match (s.qp q).inflight[i]? with
        | some d => (s.blockFree (q * 65536 + d.cid)).finish q i d.status 0 d.done
        | none => s
      | none => s
    | some n => match (s.qp q).inflight.findIdx? fun d => decide (1 ≤ d.phase ∧ (d.op = 0x10 ∨ d.op = 0x11)) with
      | some i => match (s.qp q).inflight[i]? with
        | some d => (((s.linkError.dropBlock q d.cid).blockFree (q * 65536 + d.cid))).finish q i 10 0 n
        | none => s
      | none => s

/-! ## The journal -/

/-- ACKED advances (R950). The first wait of R946 is over. -/
def ackStore (v : Nat) (s : State) : Abort × State :=
  if s.jrn.next < v then (.range, s)
  else if v ≤ s.jrn.acked then (.none, s)
  else (.none, s.onJrn fun j => { j with acked := v, fullSeen := false })

/-- The bytes of record `seq`: in the journal pool, or on the medium (R945, R949). -/
def Journal.record (j : Journal) (seq : Nat) : List Byte :=
  (((j.pool ++ j.medium).find? fun r => decide (r.seq = seq)).map (·.bytes)).getD []

/-- READ_JOURNAL writes `k` records from FIRST on to the host, and its command completes (R922, R938, R949). -/
def State.deliver (q i first k status : Nat) (s : State) : State :=
  (s.onHq fun h => { h with delivered := (List.range k).flatMap fun n => s.jrn.record (first + n) }).finish q i status 0 k

/-- READ_JOURNAL: the command at the head of a JOURNAL queue, with the lengths of its segment list, or none where host
memory fails; `moved` counts the records delivered before a failure (R934, R938, R949). -/
def readJournal (q : Nat) (segs : Option (List Nat)) (moved : Option Nat) (s : State) : State :=
  match s.headOp q 0x20 with
  | none => s
  | some (i, d) =>
    let n := leAt d.bytes 4 4
    let first := leAt d.bytes 8 8
    let pooled (k : Nat) : Bool := s.jrn.pool.any fun r => decide (r.seq = k)
    if !s.legalIn anyModes then s.finish q i 8 0 0
    else if n = 0 then s.finish q i 0 0 0
    else if s.jrn.next < first + n then s.finish q i 6 0 0
    else match segs with
      | none => s.linkError.finish q i 10 0 0
      | some l =>
        if !bufferOk (leAt d.bytes 28 2) (leAt d.bytes 24 4) l (n * 128) then s.finish q i 6 0 0
        else if first < s.jrn.oldest then s.finish q i 7 0 0
        else if (decide (s.jrn.pool.length < n) || !(List.range n).all fun k => pooled (first + k)) &&
            !(s.on .dsk && s.diskReady) then s.finish q i 4 0 0
        else match moved with
          | none => s.deliver q i first n 0
          | some m => s.linkError.deliver q i first (min m n) 10

/-- ACK_JOURNAL: the command at the head of a JOURNAL queue, or a write of OD 1132:08 (R934, R950). -/
def ackJournal (q : Option Nat) (v : BitVec 64) (s : State) : State :=
  match q with
  | none => s.dict fun s => if s.mayWrite .mgmt then ackStore v.toNat s else (.stateConflict, s)
  | some q => match s.headOp q 0x21 with
    | none => s
    | some (i, d) =>
      if !s.legalIn anyModes then s.finish q i 8 0 0
      else
        let r := ackStore (leAt d.bytes 8 8) s
        r.2.finish q i (if r.1 = .none then 0 else 7) 0 0

/-- The frames of the journal pool that hold no record any more (R947). -/
def State.jrnFree (s : State) : State :=
  let held := s.jrn.pool.map (·.frame)
  let spent := (s.shf.frames.filter fun f =>
    decide (f.2.pool = 4) && decide (f.2.st = .held ∨ f.2.st = .toPool) && !f.2.freeLater && !held.contains f.1).map (·.1)
  (s.freeFrames spent).onJrn fun j => { j with fill := match j.fill with
    | some (f, n) => if spent.contains f then none else some (f, n)
    | none => none }

/-- The journal may write the medium now: as a sector may be written, with no transfer running (R477, R520, R522, R524,
R527, R581, R582). -/
def State.jrnCanWrite (s : State) : Bool :=
  s.on .dsk && s.on .mem && s.diskReady && s.rch.cur.isNone && decide (s.srv.winh = 0) && !s.rch.paFault &&
    !s.rch.paHolds && !s.rch.fhRuns && s.rch.heatWrite && s.leadOver

/-- The records that one journal write takes: those that ACKED lets go, with print work pending of at most NP_MAX
sectors (R577, R946). -/
def State.jrnPiece (s : State) : List JRec :=
  let j := s.jrn
  let go := j.pool.filter fun r => decide (r.seq < j.acked + j.cap)
  if s.rch.printing then
    let first := (go.head?.map fun r => r.seq / 32).getD 0
    go.filter fun r => decide (r.seq / 32 < first + fld (s.srvReg 0x38) 16 13)
  else go

/-- JOURNAL_SECTOR_WRITE: the sectors with unwritten records are written, as far as ACKED lets them (R577, R579, R581,
R582, R946, R947). With print work pending the piece costs what its estimate says. DESIGN CHOICE, log entry 124. -/
def journalSectorWrite (s : State) : State :=
  let j := s.jrn
  if !s.jrnCanWrite || decide (j.pool = []) then s
  else
    let go := s.jrnPiece
    let cost := s.estimate { kind := .pageOut 0, lba := j.jrnBase, count := 1 } (ceilDiv go.length 32)
    let top := (go.getLast?.map fun r => r.seq).getD 0
    let ok (r : JRec) : Bool := decide (r.seq < j.acked + j.cap)
    let s1 := if go = [] || (s.rch.printing && decide (s.rch.credit < cost)) then s
      else ((s.onJrn fun j => { j with
        pool := j.pool.filter fun r => !go.contains r
        medium := (j.medium ++ go).filter fun r => decide (top < r.seq + j.cap) }).jrnFree.onRch fun r =>
          { r with credit := if r.printing then r.credit - cost else r.credit, heatWrite := false, heatWin := 0 }).heatNow
    if (j.pool.any fun r => !ok r) && !j.fullSeen then (s1.onJrn fun j => { j with fullSeen := true }).raise 237 else s1

/-- A write of OD 1132:07 (R951). -/
def formatStore (v : Nat) (s : State) : Abort × State :=
  if v ≠ 1 then (.range, s)
  else if s.sys.mode ≠ .service || s.sys.transit || !s.on .dsk || decide (s.jrn.acked ≠ s.jrn.next) then (.stateConflict, s)
  else
    let s1 := (s.onJrn fun j => { j with next := 0, acked := 0, headSeal := List.replicate 32 0, pool := [], medium := [],
                                         sinceAnchor := 0, fullSeen := false }).jrnFree
    (.none, s1.placeEnd 1024)

/-- JOURNAL_FORMAT: a write of 1 to OD 1132:07. -/
def journalFormat (s : State) : State := s.dict (formatStore 1)

/-! ## Enabling and doorbells -/

/-- The base and size checks of R912. -/
def State.ringOk (s : State) (lo : List Nat) (cfg : Word) : Bool :=
  (lo.all fun a => decide ((s.reg a).toNat % 4096 = 0)) && decide (1 ≤ fld cfg 16 12)

/-- A write of `HQ_Qq_CFG` (R911, R912, R918): the reserved KIND 3 discards it whole (R1174). A queue that is enabled
again has no front that a back could directly follow (R310). DESIGN CHOICE, log entry 114. -/
def qCfgStore (q : Nat) (v : Word) (s : State) : State :=
  let off := 0xA01010 + 0x40 * q
  let x := s.qp q
  if x.active then
    if bitOf v 31 then s.raise 234
    else ((s.setReg off (s.reg off &&& 0x7FFFFFFF)).onQp q fun x => { x with stopping := true }).settleQ q
  else if fld v 29 2 = 3 then s
  else
    let s1 := s.setReg off (v &&& 0xEFFF3F00)
    if !bitOf v 31 then s1
    else if s1.ringOk [off - 0x10, off - 0x08] v then s1.onQp q fun _ => { active := true }
    else s1.onQp q fun x => { x with error := true, errcode := 1 }

/-- A write of `HQ_EVQe_CFG` (R966). -/
def evqCfgStore (e : Nat) (v : Word) (s : State) : State :=
  let off := 0xA01808 + 0x20 * e
  let put (f : EvQueue → EvQueue) (t : State) : State := t.onHq fun h => { h with evqs := modAt h.evqs e f }
  if (nth {} s.hq.evqs e : EvQueue).active then
    if bitOf v 31 then s.raise 234 else put (fun x => { x with active := false }) (s.setReg off (s.reg off &&& 0x7FFFFFFF))
  else
    let s1 := s.setReg off (v &&& 0x8FFF3F00)
    if !bitOf v 31 then s1
    else if s1.ringOk [off - 8] v then put (fun x => { active := true, dropped := x.dropped, lost := x.lost }) s1
    else put (fun x => { x with error := true }) s1

/-- QUEUE_ENABLE: a write of a queue's CFG with EN = 1, `ev` for an event queue. -/
def queueEnable (ev : Bool) (i : Nat) (cfg : Word) (s : State) : State :=
  let v := cfg ||| placeB true 31
  if ev then s.bar0 (0xA01808 + 0x20 * (i % 4)) .any (evqCfgStore (i % 4) v)
  else s.bar0 (0xA01010 + 0x40 * (i % 16)) .any (qCfgStore (i % 16) v)

/-- QUEUE_DISABLE: a write of a queue's CFG with EN = 0. -/
def queueDisable (ev : Bool) (i : Nat) (cfg : Word) (s : State) : State :=
  let v := cfg &&& 0x7FFFFFFF
  if ev then s.bar0 (0xA01808 + 0x20 * (i % 4)) .any (evqCfgStore (i % 4) v)
  else s.bar0 (0xA01010 + 0x40 * (i % 16)) .any (qCfgStore (i % 16) v)

/-- A head doorbell re-arms the vector that the queue names (R956). -/
def State.rearmVector (i : Nat) (s : State) : State := s.onHq fun h => { h with vecs := modAt h.vecs i fun v => { v with sent := false } }

/-- A write of `HQ_SQq_TAIL` (R913, R916, R958, R969). -/
def sqTailStore (q v : Nat) (s : State) : State :=
  let x := s.qp q
  let s1 := s.onQp q fun x => { x with sqWord := v }
  if x.active && decide (s.qSize q ≤ v) then (s1.qError q 2).raise 234
  else if x.stopping then s1
  else s1.onQp q fun x => { x with sqTail := v }

/-- A write of `HQ_CQq_HEAD` (R914 to R916, R956, R969). -/
def cqHeadStore (q v : Nat) (s : State) : State :=
  let x := s.qp q
  let n := s.qSize q
  let s0 := s.onQp q fun x => { x with cqWord := v }
  if x.active && decide (n ≤ v) then (s0.qError q 2).raise 234
  else
    let freed := (v + n - x.cqHead % n) % n
    let s1 := s0.onQp q fun x => { x with cqHead := v, posted := if x.active then x.posted.drop freed else x.posted }
    if x.active then (s1.rearmVector (fld (s1.qCfg q) 8 6)).flush q else s1

/-- A write of `HQ_EVQe_HEAD` (R955, R956, R969). -/
def evqHeadStore (e v : Nat) (s : State) : State :=
  let x : EvQueue := nth {} s.hq.evqs e
  let n := fld (s.evqCfg e) 16 12 + 1
  let put (f : EvQueue → EvQueue) (t : State) : State := t.onHq fun h => { h with evqs := modAt h.evqs e f }
  if x.active && decide (n ≤ v) then (put (fun y => { y with headWord := v, error := true }) s).raise 234
  else
    let freed := (v + n - x.head % n) % n
    let s1 := put (fun y => { y with headWord := v, head := v, posted := if y.active then y.posted.drop freed else y.posted }) s
    if x.active then (s1.rearmVector (fld (s1.evqCfg e) 8 6)).overflow e else s1

/-- SQ_DOORBELL, CQ_DOORBELL and EVQ_DOORBELL. DEDUCED, log entry 63. -/
def sqDoorbell (q : Nat) (v : BitVec 12) (s : State) : State :=
  s.bar0 (0xA00400 + 8 * (q % 16)) .any (sqTailStore (q % 16) v.toNat)
def cqDoorbell (q : Nat) (v : BitVec 12) (s : State) : State :=
  s.bar0 (0xA00404 + 8 * (q % 16)) .any (cqHeadStore (q % 16) v.toNat)
def evqDoorbell (e : Nat) (v : BitVec 12) (s : State) : State :=
  s.bar0 (0xA00500 + 4 * (e % 4)) .any (evqHeadStore (e % 4) v.toNat)

/-! ## The endpoint -/

/-- PCIE_LINK: the link trains up, goes down, or changes speed or width (R905, R960). -/
def pcieLink (up : Bool) (speed width : Nat) (s : State) : State :=
  if !s.on .mgt then s
  else
    let sp := if up then speed % 8 else 0
    let w := if up then width % 16 else 0
    if s.hq.linkUp = up ∧ s.hq.speed = sp ∧ s.hq.width = w then s
    else (s.onHq fun h => { h with linkUp := up, speed := sp, width := w }).raise 232

/-- The queues stop, the mailbox clears, and the pages and block commands that HQ serves are given up, with no
completion posted (R906, R907). -/
def State.hqStop (s : State) : State :=
  let cmds := (List.range 16).flatMap fun q => ((s.qp q).inflight.filter fun d => decide (1 ≤ d.phase)).map fun d => (q, d.op, d.cid)
  let en (t : State) (off : Nat) : State := t.setReg off (t.reg off &&& 0x7FFFFFFF)
  let s1 := (List.range 16).foldl (fun t q => en t (0xA01010 + 0x40 * q)) s
  let s2 := (List.range 4).foldl (fun t e => en t (0xA01808 + 0x20 * e)) s1
  let s3 := s2.onHq fun h => { h with qs := List.replicate 16 {}, evqs := List.replicate 4 {}, held := [], lastQ := 15 }
  let s4 : State := { s3 with zop := { s3.zop with
    mbxStatus := 0, mbxIen := false, mbxReqLen := 0, mbxRspLen := 0, mbxReq := [], mbxRsp := [] } }
  let pages := (s4.pgf.tokens.filter fun t => t.2.reading).map (·.1)
  let s5 := pages.foldl (fun t k => t.reject k 5) s4
  cmds.foldl (fun t c => if c.2.1 = 0x10 ∨ c.2.1 = 0x11 then (t.dropBlock c.1 c.2.2).blockFree (c.1 * 65536 + c.2.2) else t) s5

/-- PCIE_RESET: PERST_N, hot reset or FLR resets the endpoint and HQ only (R906, R907); `flr` leaves the link up. The
registers of HQ return to their reset values, but not its counters (R969). DEDUCED, log entry 66. -/
def pcieReset (flr : Bool) (s : State) : State :=
  if !s.on .mgt then s
  else
    let s1 := s.hqStop
    let s2 : State := { s1 with regs := s1.regs.filter fun e => decide (Block.ofOff e.1 ≠ some .hq) }
    (s2.onHq fun h => { h with
      linkUp := flr && h.linkUp, speed := if flr then h.speed else 0, width := if flr then h.width else 0, d3 := false
      b2Base := 0, b2Pending := false, vecs := List.replicate 64 {} }).raise 232

/-- D3HOT_CHANGE: the endpoint enters or leaves D3hot (R908). -/
def d3hotChange (d3 : Bool) (s : State) : State :=
  if !s.on .mgt then s
  else
    let s1 := s.onHq fun h => { h with d3 := d3 }
    if d3 then s1
    else
      let s2 := (List.range 16).foldl (fun t q => if (t.qp q).active then t.flush q else t) s1
      let held := s2.hq.held
      let s3 := (List.range 4).foldl (fun t e => t.overflow e) (s2.onHq fun h => { h with held := [] })
      held.foldl (fun t e => let r := t.post e.1 e.2; if r.2 then r.1.raise 236 else r.1) s3

/-- BAR2_ACCESS: an access of `n` bytes at an offset of BAR2: a read, or a write with its bytes, none where the byte
enable is 0 (R909, R910). One access takes at most 4,096 bytes, the largest request of R904. -/
def bar2Access (off : BitVec 32) (n : Nat) (wr : Option (List (Option Byte))) (s : State) : State :=
  if !s.on .mgt then s
  else
    let a := 65536 * s.hq.b2Base + off.toNat
    let cnt := min n 4096
    let good := s.on .mem && (List.range cnt).all fun i =>
      decide ((a + i) / 65536 < s.shf.total) && s.heldBy ((a + i) / 65536) 6
    if good then
      match wr with
      | none => { s with zop := { s.zop with replyData := (List.range cnt).map fun i => s.dramByte (a + i) } }
      | some l => (List.range cnt).foldl (fun t i => match nth none l i with
          | some b => t.putDram (a + i) b
          | none => t) s
    else
      let s1 := match wr with
        | none => { s with zop := { s.zop with replyData := List.replicate cnt 0 } }
        | some _ => s
      (s1.onHq fun h => { h with cntB2bad := satInc 0xFFFFFFFF h.cntB2bad }).raise 238

/-- B2_BASE_WRITE: a write of `HQ_B2_BASE` (R909, R963). Every request before it has completed when it is taken. -/
def b2BaseWrite (v : Word) (s : State) : State :=
  s.bar0 0xA00008 .any fun s => s.onHq fun h => { h with b2Base := fld v 0 19, b2Pending := false }

/-- COMPLETION_TIMEOUT: a non-posted request to host memory gets no completion: the fetch that is due, or the data
transfer of a queue (R904, R916, R938, R968). -/
def completionTimeout (fetch : Bool) (q : Nat) (s : State) : State :=
  if !s.on .mgt then s
  else
    let s1 := s.onHq fun h => { h with cntCto := satInc 0xFFFFFFFF h.cntCto }
    if fetch then match s1.nextQueue with
      | some k => (s1.onHq fun h => { h with lastQ := k }).fetchFails k
      | none => s1.linkError
    else match s1.qKind q with
      | 0 => match s1.headOp q 1, s1.readingOn q with
        | some (i, _), _ => s1.linkError.finish q i 10 0 0xFFFFFFFF
        | none, some _ => pageDataReadDone q none s1
        | none, none => s1.linkError
      | 1 => match (s1.qp q).inflight.findIdx? fun d => decide (1 ≤ d.phase) with
        | some i => blockCommandDone q (some ((((s1.qp q).inflight[i]?).map fun d => d.done).getD 0)) s1
        | none => match s1.headDesc q with
          | some (i, _) => s1.linkError.finish q i 10 0 0
          | none => s1.linkError
      | _ => match s1.headDesc q with
        | some (i, _) => s1.linkError.finish q i 10 0 0
        | none => s1.linkError

end Sys2Proof.Machine
end

