-- ==== Sys2Proof/Machine/EvtCmd.lean ====
section
/-! DEFINITION. Machine/EvtCmd.lean: clearing and forcing event sources, the end of the minimum low time of ERR_N, block
resets, and the chip reset (R1076 to R1091, R1103). -/
namespace Sys2Proof.Machine

/-! ## Status and force bits -/

/-- Bits that a word names in a bank, as a set of sources. -/
def bankSet (b : EvBank) (v : Word) : BitVec 256 := BitVec.ofNat 256 (v.toNat % 2 ^ b.count * 2 ^ b.first)

/-- Writing 1 to status bits of a bank clears them, and each source whose reactions are complete stops being busy
(R1076, R1077, R1103). -/
def statusStore (b : EvBank) (v : Word) (s : State) : State :=
  let s1 := s.onEvt fun e => { e with status := e.status &&& ~~~(bankSet b v) }
  (List.range b.count).foldl (fun t i => if bitOf v i then t.endBusy (b.first + i) else t) s1

/-- EVENT_STATUS_CLEAR: a write of the `_EVT_STAT` of bank k. -/
def eventStatusClear (k : Nat) (v : Word) (s : State) : State :=
  match evBanks[k]? with
  | some b => s.bar0 b.stat .any (statusStore b v)
  | none => s

/-- A write of a bank's `_EVT_FORCE`: every source whose bit is 1 is raised, in ascending order (R1081, R1103). -/
def forceBits (b : EvBank) (v : Word) (s : State) : State :=
  (List.range b.count).foldl (fun t i => if bitOf v i then t.raiseForced (b.first + i) else t) s

/-- A write of OD 51ss:02 (R1081, R1109); the bit lies in a block, so the block's domain is on (DEDUCED, log entry
27). -/
def forceStore (src v : Nat) (s : State) : Abort × State :=
  if v ≠ 1 then (.range, s)
  else if !s.mayWrite .test || !s.on (evBank src).dom then (.stateConflict, s)
  else (.none, s.raiseForced src)

/-- EVENT_FORCE: a write of the `_EVT_FORCE` of bank n, or, with `od`, of 1 to OD 51ss:02 for source n. -/
def eventForce (od : Bool) (n : Nat) (v : Word) (s : State) : State :=
  if od then s.dict (forceStore n v.toNat)
  else match evBanks[n]? with
    | some b => s.bar0 (b.stat + 8) .test (forceBits b v)
    | none => s

/-- ERR_N_MINW_EXPIRY: ERR_N has been low for `EVT_ERR.MINW` (R1091). -/
def errNMinwExpiry (s : State) : State := (s.onEvt fun e => { e with errMin := false }).errUpdate

/-! ## Block reset -/

/-- The reset of station n (R1085, R1103): its line, search and acquisition restart; its configuration, tables, counters
and pages stay. DEDUCED, log entry 57. -/
def State.resetStation (n : Nat) (s : State) : State :=
  let s1 := s.spoilStation n 16
  let s2 := s1.onLs n fun t =>
    { t with gateHold := true, lineOn := false, lineDiv := 0, bdWindow := false, facet := 0, polyGood := 0, polyWas := false,
             lineTick := 0, lineStep := 0, zoneDue := [], quiet := none, dark := [], apcLeft := [], apcNext := 0, apcGap := false,
             apcShort := false, tblArmed := false, tblStatus := .idle, tblPoint := 0, tblTick := 0, tblSwapSeen := false,
             beams := t.beams.map fun b => { mod := b.mod } }
  s2.calAbort fun id i => (s2.heldSet id i).stations.contains n

/-- The reset of RCH (R1085): a plan read is handled as under R431; the preamplifier goes to IDLE and is selected again.
DEDUCED, log entry 57. -/
def State.resetRch (s : State) : State :=
  let s1 := match s.rch.cur with
    | none => s
    | some x =>
      let t := s.endXfer 5
      match x.kind with
      | .plan k _ => (t.cancelRuns k).creditRest.raise 99
      | _ => t
  let s2 := (s1.calAbort fun id _ => decide (id = 7 ∨ id = 8)).onRch fun r =>
    { r with writing := false, abandoned := false, rewrites := 0, stopNext := false, recov := .fresh, heatWrite := false, heatWin := 0,
             loops := {}, goodLoops := {}, paCur := none, paDue := [], paActive := false, paStatus := 0, fhCal := none }
  (s2.paWrite 0 (fld (s2.rchReg 0x320) 8 8)).selectHead s2.rch.head

/-- The reset of the Mover (R1085, R453): the 64-byte blocks that a running channel has written are open. -/
def State.resetMov (s : State) : State := s.abortMover

/-- The reset of a source's block (R1085), that of HQ with the source of R906; no other block has one. -/
def State.resetBlock (src : Nat) (s : State) : State :=
  let b := evBank src
  let s1 := statusStore b 0xFFFFFFFF s
  if 48 ≤ src ∧ src < 80 then s1.resetStation ((src - 48) / 8)
  else if b.stat = 0x5000C0 then s1.resetRch
  else if b.stat = 0x4800C0 then s1.resetMov
  else if b.stat = 0xA000C0 then s1.hqStop.raise 232
  else s1

/-- BLOCK_RESET_DONE: the block reset that a source started completes, and its busy period may end (R1077, R1085). -/
def blockResetDone (src : Nat) (s : State) : State :=
  if s.evt.blockResets.contains src then
    let s1 := if s.on (evBank src).dom then s.resetBlock src else s
    (s1.onEvt fun e => { e with blockResets := e.blockResets.filter fun x => decide (x ≠ src) }).endBusy src
  else s

/-- The sources whose `EVT_SRCs.BRST` may be set (R1085): those of the stations, RCH, the Mover and HQ. -/
def blockResets (src : Nat) : Bool :=
  decide (48 ≤ src ∧ src < 80) || decide ((evBank src).stat ∈ [0x5000C0, 0x4800C0, 0xA000C0])

/-! ## Chip reset -/

/-- The CHIP_RESET entry of a source is still to be written (R1086). -/
def State.resetEntryDue (s : State) (src : Nat) : Bool :=
  (s.evt.queue ++ s.evt.waiting).any fun g => decide (g.kind = 11) && g.react && decide (g.source = src)

/-- CHIP_RESET: the entry is written and containment has ended, so the controller is reset as by RST_IN_N (R1084,
R1086). -/
def chipReset (s : State) : State :=
  match s.evt.chipReset with
  | none => s
  | some src =>
    if s.resetEntryDue src || s.pwr.losing then s
    else ((s.onEvt fun e => { e with chipReset := none }).onPwr fun p =>
      { p with chipReset := true, resetIn := false }).forceOff none

end Sys2Proof.Machine
end

