-- ==== Sys2Proof/Machine/RegRule.lean ====
section
/-! DEFINITION. Machine/RegRule.lean: a write of plain registers: the write class, the locks of an armed apply, the
ranges of fields and the rules on content (R1174 and the rules it names), and what follows from a change. -/
namespace Sys2Proof.Machine

/-- Why a write of plain registers changes nothing. -/
inductive RegBad where
  | conflict | range | plane | bridge | bind
  deriving DecidableEq, Repr

/-! ## Locks -/

/-- The Mover channel of a descriptor register, none for another register (R466). -/
def movDescriptor (off : Nat) : Option Nat :=
  if 0x480100 ≤ off ∧ off < 0x480300 ∧ (off - 0x480100) % 0x20 ≤ 0x14 then some ((off - 0x480100) / 0x20) else none

/-- A register that an armed apply, or a queued Mover channel, locks (R281, R466, R778, R835, R1019). -/
def State.regLocked (s : State) (off : Nat) : Bool :=
  match Block.ofOff off with
  | some (.ls n) =>
    let o := off - lsBase n
    (s.st n).tblArmed && (decide (0xC ≤ o ∧ o < 0x20) || decide (0x1000 ≤ o ∧ o < 0x1800))
  | some .teff =>
    let r := (off - 0x701000) % 0x40
    s.teff.applyArmed && (decide (0x700010 ≤ off ∧ off < 0x700030) ||
      decide (0x701000 ≤ off ∧ off < 0x705000 ∧ 0x10 ≤ r ∧ r < 0x38))
  | some .hv => decide (s.hv.apply = 1 ∧ 0x781000 ≤ off)
  | some .fus => decide (s.fus.apply = 1 ∧ 0x7C0400 ≤ off)
  | some .thm => decide (s.thm.linApply = 1 ∧ 0x821000 ≤ off)
  | some .mov => match movDescriptor off with
    | some k => s.mov.queue.contains k
    | none => false
  | _ => false

/-! ## Rules on content -/

/-- Some key stands twice in a list. -/
def twice {β : Type} : List (Nat × β) → Bool
  | [] => false
  | (k, _) :: t => t.any (fun e => decide (e.1 = k)) || twice t

/-- A slot is bound twice, or two enabled slots have one destination (R765). -/
def State.bindBad (t : State) : Bool :=
  twice t.binds ||
    (List.range 256).any fun n => t.slotOn n && (t.bindOf n).isNone && t.destTaken n (t.destOf n)

/-- A binding register names a slot (R763). -/
def bindsSlot (off : Nat) : Bool :=
  match Block.ofOff off with
  | some (.ls n) => decide (off = lsBase n + 0x2C)
  | some .srv => decide (off = 0x58000C)
  | some .spn => decide (off = 0x5C000C)
  | some .drv => decide (0x681000 ≤ off ∧ off < 0x681C00 ∧ (off - 0x681000) % 0x80 = 0x54)
  | some .mot => decide (0x601000 ≤ off ∧ off < 0x601600 ∧ (off - 0x601000) % 0x80 = 0)
  | _ => false

/-- Two stations that are present have one PLANE (R215). -/
def State.planeClash (t : State) (n : Nat) : Bool :=
  bitOf (t.lsReg n 0) 31 && (List.range 4).any fun m =>
    decide (m ≠ n) && bitOf (t.lsReg m 0) 31 && decide (fld (t.lsReg m 0) 26 2 = fld (t.lsReg n 0) 26 2)

/-- An enabled unit reaches past bridge 47, or shares a bridge with another one (R691). -/
def State.bridgeClash (t : State) (u : Nat) : Bool :=
  let lo (v : Nat) : Nat := t.duBase v
  let hi (v : Nat) : Nat := t.duBase v + t.duCount v
  t.duEn u && decide (t.duCount u ≠ 0) && (decide (48 < hi u) ||
    (List.range 24).any fun v =>
      decide (v ≠ u) && t.duEn v && decide (t.duCount v ≠ 0) && decide (lo u < hi v ∧ lo v < hi u))

/-- A register is the CFG of a drive unit whose bridges clash (R691). -/
def State.bridgesBad (t : State) (off : Nat) : Bool :=
  match Block.ofOff off, grp 0x681000 24 0x80 off with
  | some .drv, some (u, 0) => t.bridgeClash u
  | _, _ => false

/-- The segments in use begin at 0 and ascend strictly (R651). -/
def State.segsBad (t : State) : Bool :=
  decide (0 < t.segCount) && (decide (t.segStart 0 ≠ 0) ||
    (List.range (t.segCount - 1)).any fun i => decide (t.segStart (i + 1) ≤ t.segStart i))

/-- A rail slot breaks R985 or R1034: a monitor above level 1, or PMBus named without an address. -/
def State.railBad (t : State) (k : Nat) : Bool :=
  let w := t.reg (0x800100 + 0x20 * k)
  (bitOf w 29 && decide (fld w 30 2 ≠ 1)) ||
    (decide (fld w 8 7 = 0) && (decide (fld w 27 2 ≠ 0) || bitOf w 26 || decide (fld w 24 2 = 2)))

/-- The reactions of a source break R1085, R1088 or R1110. -/
def reactBad (src : Nat) (w : Word) : Bool :=
  (bitOf w 2 && !blockResets src) || (decide (src = 224) && !(bitOf w 7 && bitOf w 6 && bitOf w 4)) ||
    (reservedSource src && decide (w &&& 0xFE ≠ 0))

/-- The bus thresholds break R727. -/
def State.busBad (t : State) : Bool :=
  let warn := (t.reg 0x680018).toNat
  let hyst := (t.reg 0x68001C).toNat
  let hard := (t.reg 0x680020).toNat
  let uv := (t.reg 0x680024).toNat
  !(decide (uv + hyst < warn) && decide (warn + 1000 ≤ hard) && decide (hard ≤ 40000))

/-- The print window breaks R1022. -/
def windowBad (w : Word) : Bool :=
  let lo := sx 8 (fld w 0 8)
  let hi := sx 8 (fld w 8 8)
  !(decide (-40 ≤ lo) && decide (hi ≤ 115) && decide (lo + 5 ≤ hi))

/-- The rules on content of the engine blocks, in the state as it would stand after the write. -/
def State.engineBad (t : State) (off : Nat) : Block → Option RegBad
  | .mot => match grp 0x601000 12 0x80 off with
    | some (k, r) =>
      if r = 0 then (if t.mServo k && !bitOf (t.motReg k 0) 28 then some .range else none)
      else if r = 0x10 ∨ r = 0x20 then
        (if (t.motReg k 0x10).toNat < (t.motReg k 0x20).toNat then some .range else none)
      else none
    | none => if 0x605000 ≤ off ∧ off < 0x605100 ∧ t.segsBad then some .range else none
  | .drv => match grp 0x681000 24 0x80 off with
    | some (u, 0) =>
      if t.duSrc u = 2 ∧ 4 ≤ t.duIndex u then some .range else none
    | some _ => none
    | none => if 0x680018 ≤ off ∧ off ≤ 0x680024 ∧ t.busBad then some .range else none
  | .fus =>
    if off = 0x7C0004 then (if fld (t.reg off) 0 8 ≤ fld (t.reg off) 8 8 then some .range else none)
    else if off = 0x7C000C then (if fld (t.reg off) 0 16 < fld (t.reg off) 16 16 then some .range else none)
    else match grp 0x7C0100 4 0x20 off with
      | some (_, 0xC) => if fld (t.reg off) 16 16 < fld (t.reg off) 0 16 then some .range else none
      | _ => none
  | _ => none

/-- The rules on content of one register, in the state as it would stand after the write. -/
def State.contentBad (t : State) (off : Nat) (b : Block) : Option RegBad :=
  match b with
  | .culm => match grp 0x101014 24 0x40 off with
    | some (_, 0) => if bitOf (t.reg off) 30 && decide (11 < fld (t.reg off) 16 8) then some .range else none
    | _ => none
  | .ls n =>
    if off = lsBase n then (if t.planeClash n then some .plane else none)
    else if off = lsBase n + 0x24 then
      let r := fld (t.reg off) 16 16
      if r = 0 ∨ (3000 ≤ r ∧ r ≤ 60000) then none else some .range
    else none
  | .shf =>
    if off = 0x400010 then (if fld (t.reg off) 24 8 ≤ fld (t.reg off) 16 8 then some .range else none)
    else if 0x400014 ≤ off ∧ off ≤ 0x40001C then
      (if areasMeet t.jrn.printSectors t.spoolBase t.spoolExtents t.jrn.jrnBase t.jrn.jrnSectors then none else some .range)
    else none
  | .rch =>
    if off = 0x500004 ∨ off = 0x500008 ∨ off = 0x500014 then (if 2 ^ 36 < t.capacity then some .range else none)
    else if off = 0x500020 then (if fld (t.reg off) 16 6 < fld (t.reg off) 8 6 then some .range else none)
    else none
  | .srv => if off = 0x580030 ∧ fld (t.reg off) 8 8 ≤ fld (t.reg off) 0 8 then some .range else none
  | .thm =>
    if off = 0x820004 then (if windowBad (t.reg off) then some .range else none)
    else match grp 0x820400 32 8 off with
      | some (_, 4) => if sx 16 (fld (t.reg off) 16 16) < sx 16 (fld (t.reg off) 0 16) then some .range else none
      | _ => none
  | .pwr => match grp 0x800100 16 0x20 off with
    | some (k, 0) => if t.railBad k then some .range else none
    | _ => none
  | .evt => match grp 0x881000 256 4 off with
    | some (src, _) => if reactBad src (t.reg off) then some .range else none
    | none => none
  | b => t.engineBad off b

/-! ## What follows from a write -/

/-- The registers of a write as they are stored (R27, R28). -/
def storeRegs (l : List (Nat × Word)) (s : State) : State := l.foldl (fun t e => t.setReg e.1 (e.2 &&& regMask e.1)) s

/-- A unit's EN has changed (R692, R1063). -/
def State.unitEnable (u : Nat) (en : Bool) (s : State) : State :=
  if en then s.onDu u fun d => if d.st = .disabled then { d with st := .idle } else d
  else (s.onDu u fun d =>
    { d with st := .disabled, fcode := 0, lowSides := false, commAt := none, attemptWait := false, catchWait := false,
             regenCoast := false }).calAbort fun id i => decide (id = 4 ∧ i = u)

/-- The units of a motion axis start when it is enabled, and stop when it is not (R693). -/
def State.axisUnits (k : Nat) (en : Bool) (s : State) : State :=
  (s.unitsOfAxis k).foldl (fun t u => if en then t.startUnit u else t.stopUnit u) s

/-- A station's `LSn_CFG` has changed: PRESENT and the PLL's multiplier (R219, R266, R300, R1063). -/
def State.stationCfg (n : Nat) (old : Word) (s : State) : State :=
  let new := s.lsReg n 0
  let s1 := if !bitOf old 31 && bitOf new 31 && !(s.st n).disable then s.enterEnabled n
    else if bitOf old 31 && !bitOf new 31 then s.calAbort fun id i => decide ((id = 2 ∨ id = 3) ∧ i = n) else s
  if fld old 0 8 ≠ fld new 0 8 then readinessLoss n 1 s1 else s1

/-- A high-voltage channel's CFG has changed: its output gate follows EN with GATE_MODE at 0 (R805, R806), and without
AC an armed sine table does not wait (R834). -/
def State.hvCfgChanged (k : Nat) (was : Bool) (s : State) : State :=
  let t := if !was && s.hvGate k then s.hvOpens k else if was && !s.hvGate k then s.hvCloses k else s
  if (t.hvCh k).sineWait && !(t.hvEn k && t.hvAc k) then t.takeSine k else t

/-- What follows from a change of one register, `s0` being the state before the write. -/
def State.afterReg (s0 : State) (off : Nat) (s : State) : State :=
  match Block.ofOff off with
  | some (.ls n) =>
    if off = lsBase n then s.stationCfg n (s0.reg off)
    else if off = lsBase n + 0x24 then (s.unitsOfStation n).foldl (fun t u => t.setpointChanged u) s
    else s
  | some .mot => match grp 0x601000 12 0x80 off with
    | some (k, 0) => if bitOf (s0.reg off) 31 = bitOf (s.reg off) 31 then s else
        (s.axisEnable k (bitOf (s.reg off) 31)).axisUnits k (bitOf (s.reg off) 31)
    | _ => s
  | some .drv => match grp 0x681000 24 0x80 off with
    | some (u, 0) => if bitOf (s0.reg off) 31 = bitOf (s.reg off) 31 then s else s.unitEnable u (bitOf (s.reg off) 31)
    | some (u, 0x14) => s.setpointChanged u
    | some _ => s
    | none => if 0x680014 ≤ off ∧ off ≤ 0x680024 then s.mirrorBus else s
  | some .hv => match grp 0x780100 16 0x40 off with
    | some (k, 0) => s.hvCfgChanged k (s0.hvGate k)
    | _ => s
  | some .fus => if off = 0x7C0010 then s.fusCheck else match grp 0x7C0100 4 0x20 off with
    | some (k, 0) =>
      (if !bitOf (s0.reg off) 31 && bitOf (s.reg off) 31 then s.onFus k fun c => { c with acc := 0, due := [] } else s).fusCheck
    | _ => s
  | _ => s

/-! ## The write -/

/-- The judgement of a write of plain registers that its mode and domain permit: none when it is stored. Bridges past 47
are judged as such, before the range of BASE (R691). -/
def State.regsBad (s : State) (l : List (Nat × Word)) : Option RegBad :=
  let t := storeRegs l s
  if l.any fun e => s.regLocked e.1 then some .conflict
  else if l.any fun e => t.bridgesBad e.1 then some .bridge
  else if l.any fun e => !((regRow? e.1).all fun r => r.inRange e.2) then some .range
  else match l.findSome? fun e => (Block.ofOff e.1).bind (t.contentBad e.1) with
    | some b => some b
    | none => if (l.any fun e => bindsSlot e.1) && t.bindBad then some .bind else none

/-- A write of plain registers, whole or not at all (R1174). -/
def regsWrite (l : List (Nat × Word)) (s : State) : Option RegBad × State :=
  match s.regsBad l with
  | some b => (some b, s)
  | none => (none, l.foldl (fun t e => s.afterReg e.1 t) (storeRegs l s))

/-- The abort code of a refused write. -/
def RegBad.abort : RegBad → Abort
  | .conflict => .stateConflict
  | _ => .range

/-- The status bit or the source that a discarded BAR0 write leaves (R215, R534, R691, R765, R838, R1174). -/
def State.discarded (off : Nat) (b : RegBad) (s : State) : State :=
  match b, Block.ofOff off with
  | .conflict, _ => s
  | .bind, _ => s.raise 185
  | .bridge, _ => s.raise 173
  | .plane, some (.ls n) => (s.onLs n fun t => { t with cfgErr := true }).raise (stSource n 7)
  | _, some .rch => if off < 0x500040 then s.raise 125 else s
  | _, some .hv => s.raise 197
  | _, some .fus => s.raise 205
  | _, _ => s

/-- A BAR0 write of a plain register (R27, R1174). -/
def plainWrite (off : Nat) (v : Word) (s : State) : State :=
  match regRow? off with
  | none => s
  | some r =>
    if !s.mayWrite r.cls then s
    else match regsWrite [(off, v)] s with
      | (some b, t) => t.discarded off b
      | (none, t) => t

end Sys2Proof.Machine
end

