-- ==== Sys2Proof/Machine/CmdWord.lean ====
section
/-! DEFINITION. Machine/CmdWord.lean: the words of the command registers of BAR0, and of the registers whose values the
blocks keep: a word with its command bit set is the command's own row; without it, its fields are stored (R27, R1174).
-/
namespace Sys2Proof.Machine

/-! ## SYS and CULM -/

/-- `SYS_BADINFO`: writing 1 to VALID clears the record (R52). -/
def badInfoWord (v : Word) (s : State) : State :=
  if bitOf v 31 then s.onSys fun y =>
    { y with badValid := false, badAddr := 0, badWrite := false, badCount := 0, badReason := 0 }
  else s

/-- `CULM_SWAP` (R196). A write with ARM and CANCEL cancels first: DESIGN CHOICE, log entry 15. -/
def swapWord (v : Word) (s : State) : State :=
  s.bar0 0x100004 .shadow fun s =>
    let axis := fld v 16 5
    if 23 < axis then s
    else
      let s1 := if bitOf v 30 then swapCancelStore s else s
      if bitOf v 31 then swapArmStore axis (bitOf v 0) s1
      else s1.onCulm fun c => { c with swapAxis := axis, swapAtTurn := bitOf v 0 }

/-- A write of `CULM_ENT_W0` to `CULM_ENT_W3` (R197). -/
def entryWord (i : Nat) (v : Word) (s : State) : State :=
  s.bar0 (0x100020 + 4 * i) .shadow fun s => s.onCulm fun c =>
    { c with ent := match i with
      | 0 => { c.ent with w0 := v }
      | 1 => { c.ent with w1 := v }
      | 2 => { c.ent with w2 := v }
      | _ => { c.ent with w3 := v } }

/-- `CULM_ENT_CMD` (R198). -/
def entryCmdWord (v : Word) (s : State) : State :=
  if !bitOf v 31 then s.bar0 0x100030 .shadow fun s => s.onCulm fun c => { c with entCmd := v &&& 0x00011FFF }
  else if bitOf v 16 then entryRead (fld v 12 1) (fld v 0 12) s
  else entryWrite (fld v 12 1) (fld v 0 12) s.culm.ent s

/-- `CULM_SNAP_CTRL` (R200). -/
def snapWord (v : Word) (s : State) : State :=
  if bitOf v 31 then snapReq (bitOf v 30) s else s.bar0 0x100060 .any fun s => s.onCulm fun c => { c with snapHold := bitOf v 30 }

/-- A configuration write of an axis, with the calibrations of an axis that it disables (R129, R1063). -/
def axisWord (k which : Nat) (v : Word) (s : State) : State :=
  let t := axisCfgWrite k which v s
  if (s.culm.ax k).en && !(t.culm.ax k).en then t.calAbort fun id i => decide ((id = 0 ∨ id = 1 ∨ id = 9) ∧ i = k) else t

/-- `CULM_AXk_GAIN` (R203, R204). -/
def gainWord (k : Nat) (v : Word) (s : State) : State :=
  if bitOf v 31 then gainCommit k v s else plainWrite (0x101008 + 0x40 * k) v s

/-- `CULM_AXk_STATE`: its W1C bit (R207). -/
def axisStateWord (k : Nat) (v : Word) (s : State) : State :=
  if bitOf v 28 then s.onCulm (Culm.modAx k fun a => { a with cfgErr := false }) else s

/-- `CULM_TIME_RATE` (R186, R187, R212). -/
def timeRateWord (v : Word) (s : State) : State :=
  s.bar0 0x1F000C .mgmt fun s => if s.ptpOn then s else s.onTime fun t => { t with rate := v }

/-- `CULM_TIME_STEP_LO` (R186, R212). -/
def timeStepLoWord (v : Word) (s : State) : State := s.bar0 0x1F0010 .mgmt fun s => s.onTime fun t => { t with stepLo := v }

/-- A command word of CULM, at `o` from its base. -/
def culmWord (o : Nat) (v : Word) (s : State) : Option State :=
  if o = 0x04 then some (swapWord v s)
  else if 0x20 ≤ o ∧ o < 0x30 then some (entryWord ((o - 0x20) / 4) v s)
  else if o = 0x30 then some (entryCmdWord v s)
  else if o = 0x60 then some (snapWord v s)
  else if o = 0xF000C then some (timeRateWord v s)
  else if o = 0xF0010 then some (timeStepLoWord v s)
  else if o = 0xF0014 then some (timeStep v s)
  else match grp 0x1000 24 0x40 o with
    | some (k, r) =>
      if r = 0x00 then some (axisWord k 0 v s)
      else if r = 0x20 then some (axisWord k 1 v s)
      else if r = 0x18 then some (axisWord k 2 v s)
      else if r = 0x1C then some (axisWord k 3 v s)
      else if r = 0x24 then some (axisWord k 4 v s)
      else if r = 0x08 then some (gainWord k v s)
      else if r = 0x28 then some (axisStateWord k v s)
      else none
    | none => none

/-! ## Stations, PGF, SHF and MOV -/

/-- `LSn_STATUS`: its W1C bit (R290). -/
def lsStatusWord (n : Nat) (v : Word) (s : State) : State :=
  if bitOf v 20 then s.onLs n fun t => { t with cfgErr := false } else s

/-- `LSn_TBL` (R297). -/
def tblWord (n : Nat) (v : Word) (s : State) : State :=
  s.bar0 (lsBase n + 0x30) .shadow fun s => (tblStore n v s).2

/-- The rules of R256 on a write of `LSn_MODb`. -/
def modStore (n b v : Nat) (s : State) : Abort × State :=
  if s.apcEn n then (.stateConflict, s)
  else (.none, s.onLs n fun t => { t with beams := modAt t.beams b fun x => { x with mod := v % 4096 } })

/-- A command word of a station, at `o` from its base. -/
def lsWord (n o : Nat) (v : Word) (s : State) : Option State :=
  if o = 0x04 then some (lsCtrlWrite n v s)
  else if o = 0x08 then some (lsStatusWord n v s)
  else if o = 0x30 then some (tblWord n v s)
  else match grp 0x100 16 4 o with
    | some (b, _) => some (s.bar0 (lsBase n + o) .setp fun s => (modStore n b v.toNat s).2)
    | none => none

/-- `SHF_CMD` (R460, R461). -/
def shfWord (v : Word) (s : State) : State :=
  let p := fld v 16 3
  if !bitOf v 31 then s.onShf fun h => { h with cmdPool := p, cmdOp := fld v 0 3 }
  else match fld v 0 3 with
    | 0 => shfCredit p s
    | 1 => shfReturn p s
    | 2 => shfAllocate p s
    | 3 => shfFree p s
    | 4 => shfRetire p s
    | op => shfCommand op p (fun t => (3, t)) s

/-- A command word of SHF, at `o` from its base. -/
def shfWords (o : Nat) (v : Word) (s : State) : Option State :=
  if o = 0x20 then some (shfWord v s)
  else if o = 0x30 then some (if bitOf v 31 then shfSnapshot s else s)
  else match grp 0x100 8 0x20 o with
    | some (p, 0) => some (poolBudgetWrite p v s)
    | _ => none

/-- `MOV_CHk_CTRL` (R465). -/
def movWord (k : Nat) (v : Word) (s : State) : State :=
  if bitOf v 31 then movStart k v s
  else
    let s1 := s.onMovCh k fun c => { c with missed := c.missed && !bitOf v 7 }
    if s1.mov.queue.contains k then s1 else s1.setReg (0x480114 + 0x20 * k) (v &&& 0x67700000)

/-- A command word of MOV, at `o` from its base. The blocks that a channel had written at its abort are free (R453). -/
def movWords (o : Nat) (v : Word) (s : State) : Option State :=
  if o = 0x04 then some (movAbort v s.fresh s.used)
  else match grp 0x100 16 0x20 o with
    | some (k, 0x14) => some (movWord k v s)
    | _ => none

/-! ## The disk -/

/-- A command word of RCH, at `o` from its base. -/
def rchWord (o : Nat) (v : Word) (s : State) : Option State :=
  if o = 0x44 then some (s.bar0 0x500044 .any fun s => (paCmdStore v s).2)
  else if o = 0x50 then some (s.bar0 0x500050 .any fun s => (fhCmdStore v s).2)
  else none

/-- `SRV_WINH`: its W1C bits (R607). -/
def winhWord (v : Word) (s : State) : State :=
  s.onSrv fun x => { x with latch := x.latch &&& ~~~(BitVec.ofNat 6 (fld v 8 6)) }

/-- A command word of SRV, at `o` from its base. -/
def srvWord (o : Nat) (v : Word) (s : State) : Option State :=
  if o = 0x04 then some (s.bar0 0x580004 .any fun s => (srvCmdStore v s).2)
  else if o = 0x08 then some (winhWord v s)
  else none

/-- `SPN_CTRL` (R612): RET_CLR belongs to the Fault and test class, RPM_SET to the Setpoints class. -/
def spnWord (v : Word) (s : State) : State :=
  let s1 := if bitOf v 31 then retractFlagClear s else s
  rpmSetWrite (fld v 0 16) s1

/-! ## The engine -/

/-- `MOT_PATH_CMD` (R678): OPs other than 0 are reserved and do nothing. DEDUCED, log entry 56. -/
def pathWord (v : Word) (s : State) : State :=
  let s1 := s.bar0 0x600004 .setp fun s => s.setReg 0x600004 (v &&& 7)
  if bitOf v 31 ∧ fld v 0 3 = 0 then clearJam s1 else s1

/-- `MOT_AXk_CMD` (R683). A write with CLR and GO clears first: DESIGN CHOICE, log entry 15. -/
def axisCmdWord (k : Nat) (v : Word) (s : State) : State :=
  let q := bitOf v 27
  let i := bitOf v 26
  let s1 := if bitOf v 25 then axisFaultClear k s else s
  if !bitOf v 31 then s1.bar0 (0x601008 + 0x80 * k) .setp fun s => s.onMx k fun m => { m with cmdWord := v &&& 0x0C00000F }
  else match fld v 0 4 with
    | 0 => moveAbsolute k q i s1
    | 1 => moveRelative k q i s1
    | 2 => velocityPositive k q i s1
    | 3 => velocityNegative k q i s1
    | 4 => axisCommand k 4 q i (State.cmdHalt k false) s1
    | 5 => axisCommand k 5 q i (State.cmdHalt k true) s1
    | 6 => axisCommand k 6 q i (State.cmdHome k) s1
    | 7 => axisCommand k 7 q i (State.cmdSetPos k) s1
    | op => axisCommand k op q i (fun t => (5, t)) s1

/-- A command word of MOT, at `o` from its base. -/
def motWord (o : Nat) (v : Word) (s : State) : Option State :=
  if o = 0x04 then some (pathWord v s)
  else if o = 0x40 then some (if bitOf v 31 then motSnapshot false s else s)
  else match grp 0x1000 12 0x80 o, grp 0x3000 32 8 o with
    | some (k, 0x08), _ => some (axisCmdWord k v s)
    | _, some (i, 4) => some (if bitOf v 29 then s.onMot fun m =>
        { m with dins := modAt m.dins i fun d => { d with chatter := false } } else s)
    | _, _ => none

/-- `DRV_BUS_CMD` (R744): OPs 2 and 3 are reserved and do nothing. DEDUCED, log entry 56. -/
def busWord (v : Word) (s : State) : State :=
  if !bitOf v 31 then s.bar0 0x680004 .test fun s => s.onDrv fun d => { d with busOp := fld v 0 2 }
  else match fld v 0 2 with
    | 0 => chopFaultClear s
    | 1 => hardCutClear s
    | _ => s

/-- `DRV_Uu_CMD` (R746). -/
def unitWord (u : Nat) (v : Word) (s : State) : State :=
  if !bitOf v 31 then s.bar0 (0x68100C + 0x80 * u) .setp fun s => s.onDu u fun d => { d with cmdOp := fld v 0 3 }
  else match fld v 0 3 with
    | 0 => unitStart u s
    | 1 => unitStop u s
    | 2 => unitCoast u s
    | 3 => unitFaultClear u s
    | 4 => advanceTableApply u s
    | op => duCommand u op (fun t => (5, t)) s

/-- A command word of DRV, at `o` from its base. -/
def drvWord (o : Nat) (v : Word) (s : State) : Option State :=
  if o = 0x04 then some (busWord v s)
  else match grp 0x1000 24 0x80 o with
    | some (u, 0x0C) => some (unitWord u v s)
    | _ => none

/-- `TEFF_LANE_CMD` (R791). -/
def laneWord (v : Word) (s : State) : State :=
  let l := fld v 24 2
  let n := fld v 0 8
  if !bitOf v 31 then s.bar0 0x700008 .mgmt fun s => s.onTeff fun x => { x with cmdWord := v &&& 0x030300FF }
  else match fld v 16 2 with
    | 0 => laneCommand 0 l n (State.evacuate l) s
    | 1 => laneCommand 1 l n (State.laneBack l) s
    | 2 => laneCommand 2 l n (State.laneTest l) s
    | _ => slotMove n l s

/-- `TEFF_APPLY` (R776, R792). -/
def applyWord (v : Word) (s : State) : State :=
  if bitOf v 31 then coefApplyArm (fld v 0 2) s
  else s.bar0 0x70000C .shadow fun s =>
    if s.teff.applyArmed then s else s.onTeff fun x => { x with applyWhen := fld v 0 2 }

/-- `TEFF_SLs_CFG` (R765, R788). -/
def slotCfgWord (n : Nat) (v : Word) (s : State) : State :=
  s.bar0 (0x701000 + 0x40 * n) .shadow fun s => match s.cfgJudge n v with
    | .none => s.cfgStore n v
    | .range => if !cfgReserved v && s.destTaken n (s.destOf n) then s.raise 185 else s
    | _ => s

/-- `TEFF_SLs_SRC` (R765, R789). -/
def slotSrcWord (n : Nat) (v : Word) (s : State) : State :=
  s.bar0 (0x701004 + 0x40 * n) .shadow fun s => if s.srcJudge n v = .none then s.srcStore n v else s

/-- A command word of TEFF, at `o` from its base. -/
def teffWord (o : Nat) (v : Word) (s : State) : Option State :=
  if o = 0x08 then some (laneWord v s)
  else if o = 0x0C then some (applyWord v s)
  else match grp 0x80 8 4 o, grp 0x1000 256 0x40 o with
    | some (g, _), _ => some (s.onTeff fun t =>
        { t with plaus := t.plaus &&& ~~~(BitVec.ofNat 256 (v.toNat * 2 ^ (32 * g))) })
    | none, some (n, 0x00) => some (slotCfgWord n v s)
    | none, some (n, 0x04) => some (slotSrcWord n v s)
    | none, some (n, 0x38) => some (s.slotStatusClear n v)
    | _, _ => none

/-- `HV_CMD` (R845): OP 3 is reserved and does nothing. -/
def hvWord (v : Word) (s : State) : State :=
  let k := fld v 16 4
  if !bitOf v 31 then s.hvFields (fld v 0 2) k
  else match fld v 0 2 with
    | 0 => hvTripClear k s
    | 1 => hvCommand 1 k State.hvArm s
    | 2 => hvCommand 2 k State.hvCancel s
    | _ => s

/-- `FUS_CMD` (R845). -/
def fusWord (v : Word) (s : State) : State :=
  if !bitOf v 31 then s.fusFields (fld v 0 2)
  else match fld v 0 2 with
    | 0 => cutClear s
    | 1 => fusTableArm s
    | 2 => fusTableCancel s
    | _ => cutForce s

/-! ## PWR, THM, CAL and HQ -/

/-- `PWR_DOM_REQ` (R1031). -/
def domReqWord (v : Word) (s : State) : State :=
  if bitOf v 31 then domainRequest (fld v 24 3) (fld v 0 2) s
  else s.bar0 0x800008 .fixed fun s => s.setReg 0x800008 (v &&& 0x07000003)

/-- A command word of PWR, at `o` from its base. -/
def pwrWord (o : Nat) (v : Word) (s : State) : Option State :=
  if o = 0x04 then some (s.onPwr fun p => { p with domFault := p.domFault &&& ~~~(BitVec.ofNat 8 (fld v 16 8)) })
  else if o = 0x08 then some (domReqWord v s)
  else if o = 0x14 then some (if bitOf v 31 then s.onPwr fun p => { p with lastFail := p.lastFail &&& 0x7FFFFFFF } else s)
  else none

/-- A command word of THM, at `o` from its base. -/
def thmWord (o : Nat) (v : Word) (s : State) : Option State :=
  match grp 0x100 48 8 o with
  | some (c, 4) => some (s.onThm fun t => { t with chans := modAt t.chans c fun x =>
      { x with loHit := x.loHit && !bitOf v 30, hiHit := x.hiHit && !bitOf v 29 } })
  | _ => none

/-- A command word of CAL, at `o` from its base. -/
def calWord (o : Nat) (v : Word) (s : State) : Option State :=
  if o = 0x04 then some (s.bar0 0x840004 .shadow fun s => (calCmdStore v s).2)
  else match grp 0x100 10 0x20 o with
    | some (c, 0x08) => some (if bitOf v 28 then s.onCalCh c fun x => { x with trimFault := false } else s)
    | _ => none

/-- A vector is unmasked with its pending bit set: its message goes out (R956). -/
def Vector.masked (m : Bool) (v : Vector) : Vector :=
  if !m && v.pending then { v with mask := m, pending := false, sent := true, count := v.count + 1 } else { v with mask := m }

/-- A write of the MSI-X table, at `r` from it (R957). -/
def vectorWord (r : Nat) (v : Word) (s : State) : State :=
  match grp 0 64 16 r with
  | some (i, k) =>
    let f (x : Vector) : Vector :=
      if k = 0 then { x with addrLo := v } else if k = 4 then { x with addrHi := v } else if k = 8 then { x with data := v }
      else Vector.masked (bitOf v 0) x
    s.onHq fun h => { h with vecs := modAt h.vecs i f }
  | none => s

/-- A queue base: discarded with source 234 while the queue is active (R911). -/
def baseWord (active : Bool) (off : Nat) (v : Word) (s : State) : State :=
  if active then s.raise 234 else plainWrite off v s

/-- A command word of HQ but for the mailbox, at `o` from its base. -/
def hqWord (o : Nat) (v : Word) (s : State) : Option State :=
  if o = 0x08 then some (b2BaseWrite v s)
  else if 0x20000 ≤ o ∧ o < 0x22000 then some (vectorWord (o - 0x20000) v s)
  else match grp 0x400 16 8 o, grp 0x500 4 4 o, grp 0x1000 16 0x40 o, grp 0x1800 4 0x20 o with
    | some (q, r), _, _, _ => some (if r = 0 then sqTailStore q (fld v 0 12) s else if r = 4 then cqHeadStore q (fld v 0 12) s else s)
    | none, some (e, _), _, _ => some (evqHeadStore e (fld v 0 12) s)
    | none, none, some (q, r), _ =>
      if r = 0x10 then some (qCfgStore q v s)
      else if r < 0x10 then some (baseWord (s.qp q).active (0xA00000 + o) v s)
      else none
    | none, none, none, some (e, r) =>
      if r = 0x08 then some (evqCfgStore e v s)
      else if r < 8 then some (baseWord (nth {} s.hq.evqs e : EvQueue).active (0xA00000 + o) v s)
      else none
    | none, none, none, none => none

end Sys2Proof.Machine
end

