-- ==== Sys2Proof/Machine/OdCmd.lean ====
section
/-! DEFINITION. Machine/OdCmd.lean: reads and writes of dictionary objects, judged in the order of R853 with the rules
of the owning chapters, and the stored configuration (R849 to R861, R871, R1127 to R1129, R1175, R1180, R1181). -/
namespace Sys2Proof.Machine

/-! ## Who asks -/

/-- How a request reaches the dictionary (R853, step 3). -/
inductive Via where
  /-- ZOP without a session (R870). -/
  | anonymous
  /-- A ZOP session with the role of its key slot (R871). -/
  | session (role : Nat)
  /-- The mailbox, with administrator rights (R889). -/
  | mailbox
  /-- SMBus (R896). -/
  | smbus
  deriving DecidableEq, Repr

/-- The rights of an administrator (R871). -/
def Via.admin : Via → Bool
  | .session r => decide (r = 2)
  | .mailbox => true
  | _ => false

/-- The objects that SMBus may read (R896). -/
def smbReads : List Nat :=
  [0x100000, 0x100001, 0x100002, 0x100003, 0x100004, 0x100005, 0x100006, 0x100101, 0x100102, 0x100103, 0x100106, 0x10010A,
   0x10010C, 0x200101, 0x200102, 0x110101, 0x110201]

/-- The objects that SMBus may write (R896). -/
def smbWrites : List Nat := [0x100102, 0x100106]

/-- The objects that only an administrator may write (R871, R1102). -/
def adminOnly (key : Nat) : Bool := decide (0x112001 ≤ key ∧ key ≤ 0x112004) || decide (key = 0x110002 ∨ key = 0x540005)

/-- Whether a read may be made (R853 step 3, R870, R896). -/
def State.mayRead (s : State) (via : Via) (key : Nat) : Abort :=
  match via with
  | .anonymous => if key / 256 = 0x1000 ∨ s.odGet 0x110002 [1] = [1] then .none else .auth
  | .smbus => if key ∈ smbReads then .none else .access
  | _ => .none

/-- Whether a write may be made (R853 step 3, R870, R871, R896). -/
def State.mayPut (s : State) (via : Via) (key : Nat) : Abort :=
  match via with
  | .anonymous => .auth
  | .smbus => if key ∈ smbWrites ∧ s.odGet 0x111002 [1] = [1] then .none else .access
  | v => if adminOnly key && !v.admin then .access else .none

/-! ## Reading -/

/-- Take the fresh snapshot of an object that takes one at each read (R193, R351, R435, R673). -/
def State.takeFresh (key : Nat) (s : State) : Option State :=
  if key = 0x200020 then some (snapshotTake s)
  else if key = 0x280005 then some (tokensTake s)
  else if key = 0x2C0007 then some (booksTake s)
  else if key = 0x380005 then some (sheetsTake s)
  else none

/-- A read of an object: the outcome, its type and its value (R853). -/
def odRead (via : Via) (key : Nat) (s : State) : Abort × Nat × List Byte × State :=
  match objOf key, s.oemObj key with
  | some o, _ =>
    if o.row.acc = .wo then (.access, 0, [], s)
    else match s.mayRead via key with
      | .none => match s.takeFresh key with
        | some t => if t.zop.reply = .none then (.none, o.row.ty, t.zop.replyData, t) else (t.zop.reply, 0, [], s)
        | none => (.none, o.row.ty, s.objValue o, s)
      | a => (a, 0, [], s)
  | none, some d =>
    if d.acc = 2 then (.access, 0, [], s)
    else match s.mayRead via key with
      | .none => (.none, d.ty, s.oemValue d, s)
      | a => (a, 0, [], s)
  | none, none => (.unknownObject, 0, [], s)

/-! ## Transfers that end -/

/-- The sessions that `p` names end, with their transfers (R875, R901). -/
def State.endSessions (p : Session → Bool) (s : State) : State :=
  let gone := (s.zop.sessions.filter p).map (·.id)
  let s1 := s.dropXfers fun x => gone.contains x.session
  { s1 with zop := { s1.zop with sessions := s1.zop.sessions.filter fun x => !p x } }

/-! ## Helpers of the rules -/

/-- A refusal leaves the state as it was (R854). -/
def kept (s : State) (r : Abort × State) : Abort × State := if r.1 = .none then r else (r.1, s)

/-- Run a command and read its outcome from a status (R854). -/
def byStatus (run : State → State) (st : State → Nat) (code : Nat → Abort) (s : State) : Abort × State :=
  let t := run s
  kept s (code (st t), t)

/-- The outcomes of the STATUS fields whose codes 3, 4 and 5 are STATE_CONFLICT, BUSY and RANGE (R683, R746, R791). -/
def status345 : Nat → Abort
  | 3 => .stateConflict | 4 => .busy | 5 => .range | _ => .none

/-- The only value of a command object (R863). -/
def oneOnly (v : Nat) (r : Abort × State) (s : State) : Abort × State := if v = 1 then kept s r else (.range, s)

/-- The entry size of a DOMAIN whose writes follow R302 (R210, R302, R548, R616, R688, R750, R795, R836, R1019,
R1109). -/
def Obj.entry? (o : Obj) : Option Nat :=
  let x := o.row.index
  let k := o.row.sub
  if o.row.ty ≠ 10 then none
  else if (x = 0x2010 ∧ k = 0xF) ∨ x = 0x2401 ∨ x = 0x2403 ∨ (x = 0x3001 ∧ k = 2) ∨ x = 0x3002 ∨ x = 0x3401 ∨
    (x = 0x4100 ∧ k = 5) ∨ (x = 0x4440 ∧ k = 4) ∨ x = 0x4870 ∨ (x = 0x5000 ∧ k = 3) then some 4
  else if x = 0x2402 ∨ x = 0x3403 ∨ x = 0x3840 ∨ (x = 0x4400 ∧ k = 2) ∨ (x = 0x4420 ∧ k = 6) then some 2
  else if x = 0x3411 ∨ x = 0x3C40 then some 1
  else if x = 0x3850 then some 12
  else if x = 0x3851 then some 8
  else none

/-- The length of a DOMAIN value: LENGTH, nothing to change, or to be written (R302, R863). -/
def Obj.lengthOf (o : Obj) (n : Nat) : Abort × Bool :=
  match o.entry? with
  | some e => if n = 0 then (.none, false) else if n % e ≠ 0 ∨ o.row.size < n then (.length, false) else (.none, true)
  | none => if n = o.row.size then (.none, true) else (.length, false)

/-! ## Register mirrors -/

/-- The registers that a value writes, with their words: an element that the value ends in keeps its other bytes. -/
def State.mirrorWords (s : State) (o : Obj) (w : Nat) (bs : List Byte) : List (Nat × Word) :=
  let offs := o.offs.take (ceilDiv bs.length w)
  let cur := offs.flatMap fun a => leBytes w (s.reg a).toNat
  let v := bs ++ cur.drop bs.length
  offs.zipIdx.map fun p => (p.1, BitVec.ofNat 32 (leAt v (w * p.2) w))

/-- An element sets a bit that its register does not store: out of range for an element narrower than a word, and
for the reactions (R863, R1109); other reserved bits are not stored (R28). -/
def Obj.reservedBits (o : Obj) (w : Nat) (l : List (Nat × Word)) : Bool :=
  (decide (w < 4) || decide (o.row.index = 0x5000 ∨ o.row.index = 0x5100)) &&
    l.any fun e => decide (e.2 &&& ~~~(regMask e.1) ≠ 0)

/-- A Fixed configuration object that is accepted while its domain is off (R550, R617, R689, R751, R796, R848). -/
def Obj.waits (o : Obj) : Bool :=
  decide (o.row.cls = .fixed) &&
    (decide (o.dom = .dsk) ||
      (decide (o.dom = .eng) && (decide (0x3800 ≤ o.row.index ∧ o.row.index < 0x4000) ||
        decide (0x4400 ≤ o.row.index ∧ o.row.index < 0x4800) || decide (o.row.index = 0x4000 ∧ o.row.sub = 2))))

/-- Keep a write until the domain behind the object is next on. -/
def State.keepWrite (o : Obj) (bs : List Byte) (s : State) : State :=
  let old := (find? o.key s.zop.offWrites).getD []
  { s with zop := { s.zop with offWrites := kput o.key (bs ++ old.drop bs.length) s.zop.offWrites } }

/-- The state as it would stand with a domain on: its stored values, then the writes that wait. -/
def State.asOn (s : State) (d : Dom) : State := (s.loadItems d s.zop.stored).loadItems d s.zop.offWrites

/-- A write of a register mirror: domain, length, then content (R853 step 6). -/
def mirrorWrite (o : Obj) (w : Nat) (bs : List Byte) (s : State) : Abort × State :=
  let off := !s.on o.dom
  if off && !o.waits then (.stateConflict, s)
  else
    let len := if o.row.ty = 10 then o.lengthOf bs.length else (.none, true)
    if len.1 ≠ .none ∨ len.2 = false then (len.1, s)
    else
      let base := if off then s.asOn o.dom else s
      let l := base.mirrorWords o w bs
      if o.reservedBits w l then (.range, s)
      else if off then match base.regsBad l with
        | some b => (b.abort, s)
        | none => (.none, s.keepWrite o bs)
      else match regsWrite l s with
        | (some b, _) => (b.abort, s)
        | (none, t) => (.none, t)

/-! ## Identity, store and host objects -/

/-- Every attribute of a declaration is as R1180 asks. -/
def OemDecl.ok (d : OemDecl) (dlen : Nat) : Bool :=
  decide (0x6000 ≤ d.index ∧ d.index ≤ 0x6FFF) && decide (1 ≤ d.ty ∧ d.ty ≤ 10) && decide (d.acc ≤ 2) && decide (d.mask < 64) &&
    (decide (d.mask = 0) == decide (d.acc = 0)) && decide (1 ≤ d.size ∧ d.size ≤ 4096) && decide (d.res = 0) && decide (dlen ≤ d.size) &&
    (match typeSize d.ty with
     | some n => decide (d.size = n ∧ dlen = n)
     | none => true)

/-- A write of OD 1012:00 (R1180). -/
def oemStore (bs : List Byte) (s : State) : Abort × State :=
  match oemDecls 256 bs with
  | none => (.length, s)
  | some l =>
    let keys := l.map fun d => (d.index * 256 + d.sub, ())
    if twice keys || l.any fun d => !d.ok d.dflt.length then (.range, s)
    else (.none, s.odPut 0x101200 [] bs)

/-- The entry of the interrupt enables: bit s is the enable of source s (R1175). -/
def State.ienBytes (s : State) : List Byte :=
  leBytes 32 (evBanks.foldl (fun n b => n + fld (s.reg (b.stat + 4)) 0 b.count * 2 ^ b.first) 0)

/-- The length that a store writes of an object: the length last written to a DOMAIN (R859). -/
def State.storedLen (s : State) (o : Obj) : Nat :=
  if o.row.ty = 10 then sget o.dflt.length o.key s.zop.lens else o.row.size

/-- The entries of a store, in ascending order (R856, R1175). -/
def State.storeItems (s : State) : List (Nat × List Byte) :=
  let l := (allObjs.filter Obj.stored).foldl (fun l o => kput o.key ((s.objValue o).take (s.storedLen o)) l) []
  let l2 := (s.oemNow.filter fun d => decide (d.acc = 1)).foldl (fun l d => kput (d.index * 256 + d.sub) (s.oemValue d) l) l
  kput 0x5000F0 s.ienBytes l2

/-- The bytes that a list of entries needs (R1175). -/
def bankBytesOf (l : List (Nat × List Byte)) : Nat := 32 + (l.map fun e => 8 + (e.2.length + 3) / 4 * 4).sum

/-- A write of OD 1010:01 (R856 to R859, R1181). A store refused for its length still shows in STORE_STATUS. -/
def storeCmd (v : Nat) (s : State) : Abort × State :=
  if s.die.cfgWriting.isSome then (.busy, s)
  else if v = 1 then
    let items := s.storeItems
    let need := bankBytesOf items
    if 524288 < need then (.length, { s with zop := { s.zop with storeStatus := 3, storeNeed := need } })
    else
      let gen : BitVec 32 := match s.die.inUse with
        | some k => (s.die.bank k).gen + 1
        | none => 1
      (.none, { s with
        die := { s.die with storeMark := true, cfgWriting := some { complete := true, gen := gen, time := s.time.now, items := items } }
        zop := { s.zop with storeStatus := 1, storeNeed := need } })
  else if v = 2 then
    (.none, { s with
      die := { s.die with cfg0 := { s.die.cfg0 with complete := false }, cfg1 := { s.die.cfg1 with complete := false } }
      zop := { s.zop with storeStatus := 4 } })
  else (.range, s)

/-- A write of a key slot (R871, R899). -/
def keyStore (slot : Nat) (bs : List Byte) (s : State) : Abort × State :=
  let role := leAt bs 32 1
  if bs.length ≠ 33 then (.length, s)
  else if 2 < role then (.range, s)
  else
    let s1 := { s with die := { s.die with keys := modAt s.die.keys slot fun _ => some { key := bs.take 32, role := role } } }
    (.none, (s1.endSessions fun x => decide (x.slot = slot)).raise 247)

/-- The capacity that the disk will have when DSK is next on (R971). -/
def State.capacitySoon (s : State) : Nat := if s.on .dsk then s.capacity else (s.asOn .dsk).capacity

/-- A write of PRINT_SECTORS, JRN_BASE or JRN_SECTORS: in force at once, or when DSK is next on (R941, R942, R971). -/
def areaStore (o : Obj) (k : OSpec) (bs : List Byte) (s : State) : Abort × State :=
  let v := leNat bs
  let now (key cur : Nat) : Nat := if s.on .dsk then cur else ((find? key s.zop.offWrites).map leNat).getD cur
  let p := if k = .printSectors then v else now 0x113101 s.jrn.printSectors
  let b := if k = .jrnBase then v else now 0x113201 s.jrn.jrnBase
  let n := if k = .jrnSectors then v else now 0x113202 s.jrn.jrnSectors
  if !areasMeet p s.spoolBase s.spoolExtents b n || (decide (k = .printSectors) && decide (s.capacitySoon < p)) then (.range, s)
  else if s.on .dsk then (.none, { s with jrn := { s.jrn with printSectors := p, jrnBase := b, jrnSectors := n } })
  else (.none, s.keepWrite o bs)

/-- The header of an image set (R1127). -/
def imageOk (bs : List Byte) (svnMin : Nat) : Bool :=
  decide (leAt bs 0 4 = 0x4D494650) && decide (leAt bs 4 2 = 1) && decide (leAt bs 6 2 = 0x7740) &&
    decide (bs.length = 128 + leAt bs 20 4 + leAt bs 24 4) && decide (leAt bs 28 4 = 0) && decide (svnMin ≤ leAt bs 12 4) && Config.imageSigned bs

/-- Put a bank of the image store. -/
def Rec.putImage (r : Rec) (k : Nat) (b : ImgBank) : Rec := if k = 0 then { r with img0 := b } else { r with img1 := b }

/-- The staging of an image set into the bank that is not active (R1127 to R1129). -/
def stageStore (bs : List Byte) (s : State) : Abort × State :=
  if bs.length < 128 ∨ 4194304 < bs.length then (.length, s)
  else if s.boot.updState = 2 ∨ s.boot.trial then (.stateConflict, s)
  else
    let k := 1 - s.die.imgActive
    let b : ImgBank := { state := 1, rejected := false, version := leAt bs 8 4, svn := leAt bs 12 4, ckpt := leAt bs 16 4 }
    if imageOk bs s.die.svnMin then (.none, { s with die := s.die.putImage k b })
    else (.range, ({ s with die := s.die.putImage k {} } : State).raise 9)

/-- The special objects of identity, modes, communication and the host. -/
def coreWrite (via : Via) (o : Obj) (k : OSpec) (bs : List Byte) (s : State) : Abort × State :=
  let v := leNat bs
  match k with
  | .modeRequest => modeReqStore v s
  | .startTarget => if v = 0 ∨ v = 2 ∨ v = 3 then (.none, s.odPut 0x100104 [3] bs) else (.range, s)
  | .safeAck => oneOnly v (.none, safeAck false s) s
  | .store => storeCmd v s
  | .oemDecl => oemStore bs s
  | .key => keyStore o.m bs s
  | .subsysIds => (.none, s.odPut 0x113003 (leBytes 2 Config.vendorId.toNat ++ leBytes 2 0x7740) bs)
  | .printSectors | .jrnBase | .jrnSectors => areaStore o k bs s
  | .jrnFormat => formatStore v s
  | .jrnAck => ackStore v s
  | .domReq => if v &&& 0xF8FC ≠ 0 then (.range, s)
      else kept s (domReqStore (v / 256 % 8) (v % 4) (s.setReg 0x800008 (place (v / 256) 24 3 ||| place v 0 2)))
  | .linApply => linStore v s
  | .force => forceStore (o.row.index - 0x5100 + o.i) v s
  | .clearProtected => clearProtStore via.admin v s
  | .note => noteStore bs s
  | .clearMarks => kept s (clearMarksStore v s)
  | .runStep => kept s (runStepStore v s)
  | .stage => stageStore bs s
  | .updateCmd => updateStore v s
  | .handback => handbackStore v s
  | _ => (.access, s)

/-! ## The special objects of the blocks -/

/-- A write of `CULM_AXk_CFG`, VCFG, VPAR or VOFS through the dictionary (R129, R210). -/
def axisStore (k which : Nat) (v : Word) (s : State) : Abort × State :=
  if s.axisWriteBad k which v then (.range, s) else (.none, axisWord k which v s)

/-- The special objects of the timebase. -/
def culmObj (o : Obj) (k : OSpec) (bs : List Byte) (s : State) : Abort × State :=
  let v := leNat bs
  let w : Word := BitVec.ofNat 32 v
  match k with
  | .swapAxis => if 23 < v then (.range, s) else (.none, s.onCulm fun c => { c with swapAxis := v })
  | .swapCmd =>
    if v = 1 ∨ v = 2 then
      let t := swapArmStore s.culm.swapAxis (decide (v = 2)) s
      if 5 ≤ t.culm.swapStatus then (.stateConflict, s.onCulm fun c => { c with swapStatus := t.culm.swapStatus })
      else (.none, t)
    else if v = 3 then (.none, swapCancelStore s)
    else (.range, s)
  | .bank => bankStore o.m bs s
  | .axCfg => axisStore o.i 0 w s
  | .axVcfg => axisStore o.i 1 w s
  | .axVpar => (.none, axisWord o.i 3 (BitVec.ofNat 32 (v / 2 ^ 32)) (axisWord o.i 2 w s))
  | .axVofs => (.none, axisWord o.i 4 w s)
  | .axGain => (.none, gainWord o.i w s)
  | _ => (.access, s)

/-- The special objects of the stations and of Sheaf. -/
def pageObj (o : Obj) (k : OSpec) (bs : List Byte) (s : State) : Abort × State :=
  let v := leNat bs
  match k with
  | .lsCtrl => lsCtrlStore o.i (BitVec.ofNat 32 v) s
  | .tblCmd => if v = 0 ∨ 4 < v then (.range, s) else kept s (tblStore o.i (placeB true 31 ||| place (v - 1) 0 2) s)
  | .lsMod => if 4095 < v then (.range, s) else modStore o.i o.m v s
  | .screenCmd => screenCmdStore o.i v s
  | .screen => screenStore (o.i / 8) (o.i % 8) bs s
  | .budget => budgetStore o.i v s
  | _ => (.access, s)

/-- The special objects of the disk. -/
def diskObj (k : OSpec) (bs : List Byte) (s : State) : Abort × State :=
  let v := leNat bs
  let w : Word := BitVec.ofNat 32 v
  match k with
  | .paCmd => kept s (paCmdStore w s)
  | .fhCmd => kept s (fhCmdStore w s)
  | .glistClear => glistClearStore v s
  | .srvCmd => kept s (srvCmdStore w s)
  | .rpmSet => rpmStore v s
  | .retClear => oneOnly v (.none, retClear s) s
  | _ => (.access, s)

/-- The special objects of motion, drives, Teff, high voltage, the fuser and CAL. -/
def engineObj (o : Obj) (k : OSpec) (bs : List Byte) (s : State) : Abort × State :=
  let v := leNat bs
  let w : Word := BitVec.ofNat 32 v
  match k with
  | .pathCmd => if v = 1 then kept s (clearJamStore (s.setReg 0x600004 0)) else (.range, s)
  | .axisCmd => if bitOf w 31 then byStatus (axisCmdWord o.i w) (fun t => (t.mx o.i).cmdStatus) status345 s
      else (.none, axisCmdWord o.i w s)
  | .tableApply => oneOnly v (.none, microstepApplyStore s) s
  | .busCmd => if v = 1 ∨ v = 2 then byStatus (busWord (placeB true 31 ||| place (v - 1) 0 2)) (·.drv.busStatus) status345 s
      else (.range, s)
  | .unitCmd => if v = 0 ∨ 8 < v then (.range, s)
      else byStatus (unitWord o.i (placeB true 31 ||| place (v - 1) 0 3)) (fun t => (t.du o.i).cmdStatus) status345 s
  | .laneCmd => if bitOf w 31 then byStatus (laneWord w) (·.teff.cmdStatus) status345 s else (.none, laneWord w s)
  | .teffApply => if v = 0 ∨ 4 < v then (.range, s)
      else byStatus (applyWord (placeB true 31 ||| place (v - 1) 0 2)) (·.teff.applyStatus)
        (fun n => if n = 4 then .range else if n = 5 then .stateConflict else .none) s
  | .slotCfg => match s.cfgJudge o.i w with
      | .none => (.none, s.cfgStore o.i w)
      | a => (a, s)
  | .sineApply => if v = 1 then s.hvArm else if v = 2 then s.hvCancel else (.range, s)
  | .tripClear => (List.range 16).foldl (fun r i => if v / 2 ^ i % 2 = 1 then kept s (r.2.hvClear i) else r) (.none, s)
  | .cutClear => oneOnly v s.clearCut s
  | .cutForce => oneOnly v s.forceCut s
  | .fusApply => if v = 1 then s.fusArm else if v = 2 then s.fusCancel else (.range, s)
  | .calCmd => kept s (calCmdStore w s)
  | .trimFaultClear => trimFaultStore o.i v s
  | _ => (.access, s)

/-- A write of a special object: its block's domain, then its rules (R211, R304, R353, R468, R550, R617, R689, R751,
R796, R848, R1074). -/
def specWrite (via : Via) (o : Obj) (k : OSpec) (bs : List Byte) (s : State) : Abort × State :=
  if o.dom ≠ .aon ∧ !s.on o.dom then
    let down := (s.st o.i).ilkLocal || s.sys.laserOff
    if k = .lsCtrl ∧ leNat bs % 2 = 1 ∧ ¬(leNat bs / 2 ^ 31 % 2 = 1 ∧ down) then (.none, s.keepWrite o bs)
    else (.stateConflict, s)
  else match o.dom with
    | .img | .mem => pageObj o k bs s
    | .dsk => diskObj k bs s
    | .eng => match k with
      | .swapAxis | .swapCmd | .bank | .axCfg | .axVcfg | .axVpar | .axVofs | .axGain => culmObj o k bs s
      | k => engineObj o k bs s
    | _ => match k with
      | .cutClear | .cutForce => engineObj o k bs s
      | k => coreWrite via o k bs s

/-! ## Writing -/

/-- A change of the PTP domain (OD 2001:04), or the end of PTP (OD 2001:03), leaves the master that was followed
(R188). -/
def State.ptpLeaves (s0 s : State) : State :=
  if s.ptpOn && decide (s.ptp 4 1 0 = s0.ptp 4 1 0) then s else s.onTime fun t => { t with master := none }

/-- An object without a register: its range (R853 step 6). -/
def ownWrite (o : Obj) (d lo hi : Nat) (bs : List Byte) (s : State) : Abort × State :=
  if lo ≤ leNat bs ∧ leNat bs ≤ hi then
    (.none, if o.key = 0x200103 ∨ o.key = 0x200104 then s.ptpLeaves (s.odPut o.key (leBytes o.row.size d) bs)
      else s.odPut o.key (leBytes o.row.size d) bs)
  else (.range, s)

/-- The owning chapter's rules on a write, and the write (R853 step 6). -/
def bodyWrite (via : Via) (o : Obj) (bs : List Byte) (s : State) : Abort × State :=
  match o.row.home with
  | .regs _ _ _ _ w => mirrorWrite o w bs s
  | .own d lo hi => ownWrite o d lo hi bs s
  | .bytes d => if bs.length = o.row.size then (.none, s.odPut o.key d bs) else (.length, s)
  | .spec k => specWrite via o k bs s

/-- The length last written to a DOMAIN object (R859). -/
def State.noteLength (o : Obj) (n : Nat) (s : State) : State :=
  if o.row.ty = 10 ∧ n ≠ 0 ∧ o.stored then
    { s with zop := { s.zop with lens := sput o.dflt.length n o.key s.zop.lens } }
  else s

/-- An object has an open write transfer (R884, R901). -/
def State.transferOn (s : State) (key : Nat) : Bool := s.zop.xfers.any fun x => x.write && decide (x.object = key)

/-- Steps 1 to 5 of R853 on a write, with the length `n` of the value. -/
def State.writeJudge (s : State) (via : Via) (key ty n : Nat) : Abort :=
  match objOf key, s.oemObj key with
  | some o, _ =>
    if o.row.acc = .ro then .access
    else match s.mayPut via key with
      | .none =>
        if ty ≠ o.row.ty ∨ ((typeSize o.row.ty).any fun k => decide (k ≠ n)) then .type
        else if !s.mayWrite o.row.cls then .stateConflict
        else .none
      | a => a
  | none, some d =>
    if d.acc = 0 then .access
    else match s.mayPut via key with
      | .none =>
        if ty ≠ d.ty ∨ ((typeSize d.ty).any fun k => decide (k ≠ n)) then .type
        else if !s.modes.all fun m => decide (d.mask / 2 ^ m.code % 2 = 1) then .stateConflict
        else .none
      | a => a
  | none, none => .unknownObject

/-- A write of a value whose first five steps have passed (R853 steps 6 and 7). -/
def State.writeBody (via : Via) (key : Nat) (bs : List Byte) (s : State) : Abort × State :=
  match objOf key, s.oemObj key with
  | some o, _ =>
    let r := bodyWrite via o bs s
    if r.1 = .none then (r.1, r.2.noteLength o bs.length) else r
  | none, some d => if d.size < bs.length then (.length, s) else (.none, s.odPut key d.dflt bs)
  | none, none => (.unknownObject, s)

/-- The domain behind an object is off, and a write of it does not wait for it: the owning chapter asks for the
domain before any length (R168, R211, R304, R353, R468, R550, R617, R689, R751, R796, R848, R853). -/
def State.domainShut (s : State) (key : Nat) : Bool :=
  match objOf key with
  | some o => decide (o.dom ≠ .aon) && !s.on o.dom && !o.waits &&
      !(match o.row.home with
        | .spec k => decide (k = .printSectors ∨ k = .jrnBase ∨ k = .jrnSectors ∨ k = .lsCtrl)
        | _ => false)
  | none => false

/-- A write of an object: the first five steps, the domain behind it, a transfer that is open on it, then the rules of
its chapter (R168, R211, R853, R901). -/
def odWrite (via : Via) (key ty : Nat) (bs : List Byte) (s : State) : Abort × State :=
  match s.writeJudge via key ty bs.length with
  | .none =>
    if s.domainShut key then (.stateConflict, s)
    else if s.transferOn key then (.busy, s) else s.writeBody via key bs
  | a => (a, s)

end Sys2Proof.Machine
end

