-- ==== Sys2Proof/Machine/ZopCmd.lean ====
section
/-! DEFINITION. Machine/ZopCmd.lean: the dictionary transports: ZOP datagrams and sessions, segmented transfers and
atomic sets, the PCIe mailbox, SMBus, and the commands of the stored configuration (R849 to R901). -/
namespace Sys2Proof.Machine

/-- Change the dictionary service. -/
def State.onZop (f : Zop → Zop) (s : State) : State := { s with zop := f s.zop }

/-! ## Requests -/

/-- One item of an atomic set: its key, type and value (R885). -/
structure Item where
  key : Nat
  ty : Nat
  val : List Byte
  deriving DecidableEq, Repr, Inhabited

/-- A request, as its operation reads its payload (R868). -/
inductive ZReq where
  | read (key : Nat)
  | write (key ty : Nat) (v : List Byte)
  | readInit (key : Nat)
  | readSeg (x off count : Nat)
  | writeInit (key total : Nat)
  | writeSeg (x off : Nat) (v : List Byte)
  | xferAbort (x : Nat)
  | atomic (l : List Item)
  | opens (slot : Nat) (nonce : List Byte)
  | close
  | ping
  /-- An unknown operation, or a payload that does not match it (R869). -/
  | bad
  deriving DecidableEq, Repr

/-- The `n` items of an atomic set, which fill the bytes exactly (R885). -/
def zopItems : Nat → List Byte → Option (List Item)
  | 0, bs => if bs = [] then some [] else none
  | n + 1, bs =>
    let v := leAt bs 4 2
    let w := (v + 3) / 4 * 4
    if bs.length < 8 + w ∨ leAt bs 6 2 ≠ 0 ∨ leNat ((bs.drop (8 + v)).take (w - v)) ≠ 0 then none
    else (zopItems n (bs.drop (8 + w))).map
      ({ key := leAt bs 0 2 * 256 + leAt bs 2 1, ty := leAt bs 3 1, val := slice bs 8 v } :: ·)

/-- Read a payload by its operation; reserved payload bytes must be 0 (R868, R869). -/
def zopParse (op : Nat) (p : List Byte) : ZReq :=
  let n := p.length
  let key := leAt p 0 2 * 256 + leAt p 2 1
  if 1352 < n then .bad
  else if op = 1 then (if n = 4 ∧ leAt p 3 1 = 0 then .read key else .bad)
  else if op = 2 then (if 4 ≤ n then .write key (leAt p 3 1) (p.drop 4) else .bad)
  else if op = 3 then (if n = 4 ∧ leAt p 3 1 = 0 then .readInit key else .bad)
  else if op = 4 then (if n = 12 ∧ leAt p 2 2 = 0 ∧ leAt p 10 2 = 0 then .readSeg (leAt p 0 2) (leAt p 4 4) (leAt p 8 2) else .bad)
  else if op = 5 then (if n = 8 ∧ leAt p 3 1 = 0 then .writeInit key (leAt p 4 4) else .bad)
  else if op = 6 then (if 9 ≤ n ∧ leAt p 2 2 = 0 then .writeSeg (leAt p 0 2) (leAt p 4 4) (p.drop 8) else .bad)
  else if op = 7 then (if n = 4 ∧ leAt p 2 2 = 0 then .xferAbort (leAt p 0 2) else .bad)
  else if op = 8 then
    if 4 ≤ n ∧ leAt p 1 3 = 0 ∧ leAt p 0 1 ≤ 16 then
      match zopItems (leAt p 0 1) (p.drop 4) with
      | some l => .atomic l
      | none => .bad
    else .bad
  else if op = 0x10 then (if n = 20 ∧ leAt p 1 3 = 0 then .opens (leAt p 0 1) (slice p 4 16) else .bad)
  else if op = 0x11 then (if n = 0 then .close else .bad)
  else if op = 0x12 then (if n = 0 then .ping else .bad)
  else .bad

/-- The operations of R868. -/
def zopKnown (op : Nat) : Bool := decide (1 ≤ op ∧ op ≤ 8) || decide (0x10 ≤ op ∧ op ≤ 0x12)

/-! ## Transfers -/

/-- The type and the size of an object. -/
def State.typeOf (s : State) (key : Nat) : Nat × Nat :=
  match objOf key, s.oemObj key with
  | some o, _ => (o.row.ty, o.row.size)
  | none, some d => (d.ty, d.size)
  | none, none => (0, 0)

/-- The bytes of a write fit the object's length rules (R851, R871, R880, R1127). -/
def State.lengthFits (s : State) (key n : Nat) : Bool :=
  match objOf key with
  | some o => match typeSize o.row.ty with
    | some k => decide (n = k)
    | none => match o.row.home with
      | .regs _ _ _ _ _ => decide ((o.lengthOf n).1 = .none)
      | .spec .bank => decide (n % 16 = 0 ∧ n ≤ 65536)
      | .bytes _ => decide (n = o.row.size)
      | .spec .key => decide (n = 33)
      | .spec .stage => decide (128 ≤ n ∧ n ≤ 4194304)
      | _ => decide (n ≤ o.row.size)
  | none => match s.oemObj key with
    | some d => (match typeSize d.ty with
      | some k => decide (n = k)
      | none => decide (n ≤ d.size))
    | none => false

/-- The frames that hold the `n` staged bytes of transfer id: none up to 65,536 (R884). A refused credit answers LENGTH
and raises 96, as at `SHF_CMD`; a frame that is not FREE yet is waited for, while segments are taken (R416, R417, R457).
DESIGN CHOICE, log entry 117. -/
def State.stageFrames (n id : Nat) (s : State) : Abort × List Nat × State :=
  if n ≤ 65536 then (.none, [], s)
  else if !s.on .mem then (.stateConflict, [], s)
  else
    let k := ceilDiv n 65536
    match s.credit 5 k with
    | none => (.length, [], s.raise 96)
    | some t =>
      let r := (List.range k).foldl (fun (a : State × List Nat) _ =>
        let b := a.1.allocOrWait { pool := 5, who := .stage id }
        (b.1, a.2 ++ b.2.toList)) (t, [])
      (.none, r.2, r.1)

/-- A number that is not in use: the spec leaves it open which one is taken. DESIGN CHOICE, log entry 41. -/
def pickId (least top free : Nat) (used : List Nat) : Nat :=
  let c := free % top
  if c < least ∨ used.contains c then ((List.range' least (used.length + 1)).find? fun i => !used.contains i).getD least else c

/-- Open a transfer; its number is open (R884). -/
def State.openXfer (sess key : Nat) (write : Bool) (total : Nat) (data : List Byte) (s : State) : Abort × Nat × State :=
  if 4 ≤ s.zop.xfers.length then (.busy, 0, s)
  else
    let id := pickId 0 65536 s.fresh (s.zop.xfers.map (·.id))
    let g := s.stageFrames total id
    if g.1 ≠ .none then (g.1, 0, g.2.2)
    else
      let x : Xfer := { id := id, object := key, write := write, total := total, data := data, session := sess, frames := g.2.1 }
      let t := g.2.2.used
      (.none, id, t.onZop fun z => { z with xfers := z.xfers ++ [x], abandoned := z.abandoned.filter fun n => decide (n ≠ id) })

/-- Close a transfer that has completed. -/
def State.closeXfer (x : Xfer) (s : State) : State :=
  ((s.freeFrames x.frames).dropAllocs fun a => decide (a.who = .stage x.id)).onZop fun z =>
    { z with xfers := z.xfers.filter fun y => decide (y.id ≠ x.id) }

/-- The open transfer of a number and a direction; TIMEOUT for an abandoned one (R883). -/
def State.findXfer (s : State) (write : Bool) (id : Nat) : Except Abort Xfer :=
  match s.zop.xfers.find? fun x => decide (x.id = id) && (x.write == write) with
  | some x => .ok x
  | none => .error (if s.zop.abandoned.contains id then .timeout else .xfer)

/-! ## Operations -/

/-- What a request answers: its outcome, its response payload, and the session and key of an OPEN. -/
structure ZOut where
  abort : Abort
  pay : List Byte := []
  opened : Option (Nat × List Byte) := none
  deriving DecidableEq, Repr, Inhabited

/-- A read by READ, by an init or by SMBus, without the effects of a refused one (R854). -/
def readKeep (via : Via) (key : Nat) (s : State) : Abort × Nat × List Byte × State :=
  let r := odRead via key s
  if r.1 = .none then r else (r.1, 0, [], s)

/-- READ (R868, R878). DEDUCED, log entry 70. -/
def zRead (via : Via) (key : Nat) (s : State) : ZOut × State :=
  let r := readKeep via key s
  if r.1 ≠ .none then ({ abort := r.1 }, s)
  else if r.2.1 = 10 ∧ 1024 < (s.typeOf key).2 then ({ abort := .length }, s)
  else ({ abort := .none, pay := [BitVec.ofNat 8 r.2.1, 0] ++ leBytes 2 r.2.2.1.length ++ r.2.2.1 }, r.2.2.2)

/-- A write of a value of at most 1,024 bytes (R853, R878). -/
def writeShort (via : Via) (key ty : Nat) (v : List Byte) (s : State) : Abort × State :=
  if s.writeJudge via key ty v.length = .none ∧ s.domainShut key = false ∧ 1024 < v.length then (.length, s)
  else odWrite via key ty v s

/-- WRITE (R868). -/
def zWrite (via : Via) (key ty : Nat) (v : List Byte) (s : State) : ZOut × State :=
  let r := writeShort via key ty v s
  ({ abort := r.1 }, r.2)

/-- READ_INIT (R879). -/
def zReadInit (via : Via) (sess key : Nat) (s : State) : ZOut × State :=
  let r := readKeep via key s
  if r.1 ≠ .none then ({ abort := r.1 }, s)
  else
    let v := r.2.2.1
    let x := r.2.2.2.openXfer sess key false v.length v
    if x.1 = .none then ({ abort := .none, pay := leBytes 2 x.2.1 ++ [0, 0] ++ u32le v.length }, x.2.2)
    else ({ abort := x.1 }, (s.openXfer sess key false v.length v).2.2)

/-- READ_SEG (R879, R883). -/
def zReadSeg (via : Via) (id off count : Nat) (s : State) : ZOut :=
  let open1 := decide (via ≠ .anonymous) || decide (s.odGet 0x110002 [1] = [1])
  match s.findXfer false id with
  | .error a => { abort := if open1 then a else .auth }
  | .ok x =>
    if !open1 && decide (x.object / 256 ≠ 0x1000) then { abort := .auth }
    else if 1024 < count ∨ x.total < off + count then { abort := .length }
    else { abort := .none, pay := u32le off ++ slice x.data off count }

/-- WRITE_INIT (R880, R884). -/
def zWriteInit (via : Via) (sess key total : Nat) (s : State) : ZOut × State :=
  let ty := (s.typeOf key).1
  match s.writeJudge via key ty ((typeSize ty).getD total) with
  | .none =>
    if s.domainShut key then ({ abort := .stateConflict }, s)
    else if total = 0 then ({ abort := .none, pay := leBytes 2 s.fresh ++ [0, 0] }, s.used)
    else if !s.lengthFits key total then ({ abort := .length }, s)
    else if s.transferOn key then ({ abort := .busy }, s)
    else
      let x := s.openXfer sess key true total []
      if x.1 = .none then ({ abort := .none, pay := leBytes 2 x.2.1 ++ [0, 0] }, x.2.2) else ({ abort := x.1 }, x.2.2)
  | a => ({ abort := a }, s)

/-- WRITE_SEG: the segment that reaches TOTAL writes the value in one step (R881, R882, R901). -/
def zWriteSeg (via : Via) (id off : Nat) (v : List Byte) (s : State) : ZOut × State :=
  if via = .anonymous then ({ abort := .auth }, s)
  else match s.findXfer true id with
  | .error a => ({ abort := a }, s)
  | .ok x =>
    let next := off + v.length
    if off ≠ x.data.length then ({ abort := .xfer }, s)
    else if 1024 < v.length ∨ x.total < next then ({ abort := .length }, s)
    else if next < x.total then
      ({ abort := .none, pay := u32le next },
       s.onZop fun z => { z with xfers := z.xfers.map fun y => if y.id = id then { y with data := y.data ++ v } else y })
    else
      let t := s.closeXfer x
      let r := odWrite via x.object (s.typeOf x.object).1 (x.data ++ v) t
      if r.1 = .none then ({ abort := .none, pay := u32le next }, r.2) else ({ abort := r.1 }, t)

/-- XFER_ABORT (R870, R883). -/
def zXferAbort (via : Via) (id : Nat) (s : State) : ZOut × State :=
  match s.zop.xfers.find? fun x => decide (x.id = id) with
  | none => ({ abort := if s.zop.abandoned.contains id then .timeout else .xfer }, s)
  | some x =>
    if x.write ∧ via = .anonymous then ({ abort := .auth }, s)
    else ({ abort := .none }, s.dropXfers fun y => decide (y.id = id))

/-- An object is a command object (R887). -/
def isCommand (key : Nat) : Bool :=
  match objOf key with
  | none => false
  | some o => match o.row.home with
    | .spec k => decide (o.row.acc ≠ .ro) && !o.stored && decide (k ≠ .key ∧ k ≠ .note ∧ k ≠ .stage)
    | _ => false

/-- The items of a set in order: the state after them, or the abort of the first that fails and its place (R886). -/
def zopFold (via : Via) : Nat → List Item → State → Abort × Nat × State
  | _, [], s => (.none, 0xFF, s)
  | i, x :: l, s =>
    let r := writeShort via x.key x.ty x.val s
    if r.1 = .none then zopFold via (i + 1) l r.2 else (r.1, i, s)

/-- ATOMIC (R886, R887): FAIL of a set refused as a whole is open. DESIGN CHOICE, log entry 42. -/
def zAtomic (via : Via) (l : List Item) (s : State) : ZOut × State :=
  if via = .anonymous then ({ abort := .auth, pay := [BitVec.ofNat 8 s.fresh, 0, 0, 0] }, s.used)
  else if l.dropLast.any fun x => isCommand x.key then
    ({ abort := .protocol, pay := [BitVec.ofNat 8 s.fresh, 0, 0, 0] }, s.used)
  else
    let r := zopFold via 0 l s
    ({ abort := r.1, pay := [BitVec.ofNat 8 r.2.1, 0, 0, 0] }, if r.1 = .none then r.2.2 else s)

/-- The bytes "ZOP1". -/
def zop1 : List Byte := [0x5A, 0x4F, 0x50, 0x31]

/-- OPEN (R872): the session number and the nonce of the controller are open. -/
def zOpen (slot : Nat) (nonce : List Byte) (s : State) : ZOut × State :=
  match nth none s.die.keys slot with
  | none => ({ abort := .access }, s.raise 241)
  | some k =>
    if k.role = 0 then ({ abort := .access }, s.raise 241)
    else if 8 ≤ s.zop.sessions.length then ({ abort := .busy }, s.raise 241)
    else
      let id := pickId 1 (2 ^ 32) s.fresh (s.zop.sessions.map (·.id))
      let mine := leBytes 16 s.used.fresh
      let ks := hmac256 k.key (zop1 ++ nonce ++ mine ++ u32le id)
      let x : Session := { id := id, slot := slot, role := k.role, key := ks, lastSeq := 0, cached := [], seen := s.time.now }
      ({ abort := .none, pay := u32le id ++ mine, opened := some (id, ks) },
       s.used.used.onZop fun z => { z with sessions := z.sessions ++ [x] })

/-- CLOSE (R875). DEDUCED, log entry 78. -/
def zClose (via : Via) (sess : Nat) (s : State) : ZOut × State :=
  if via = .anonymous then ({ abort := .auth }, s)
  else ({ abort := .none }, s.endSessions fun x => decide (x.id = sess))

/-- PING (R868). -/
def zPing (s : State) : ZOut :=
  { abort := .none,
    pay := u64le s.time.now.toNat ++ [BitVec.ofNat 8 s.time.stat.code, BitVec.ofNat 8 s.sys.mode.code, 0, 0] }

/-- Carry out a request. -/
def zExecute (via : Via) (sess : Nat) (r : ZReq) (s : State) : ZOut × State :=
  match r with
  | .read key => zRead via key s
  | .write key ty v => zWrite via key ty v s
  | .readInit key => zReadInit via sess key s
  | .readSeg x off count => (zReadSeg via x off count s, s)
  | .writeInit key total => zWriteInit via sess key total s
  | .writeSeg x off v => zWriteSeg via x off v s
  | .xferAbort x => zXferAbort via x s
  | .atomic l => zAtomic via l s
  | .opens slot nonce => zOpen slot nonce s
  | .close => zClose via sess s
  | .ping => (zPing s, s)
  | .bad => ({ abort := .protocol }, s)

/-- Serve a request: its transaction is complete, and its response goes out, once the checkpoint that includes it is
written (R58, R59). -/
def zServe (via : Via) (sess : Nat) (r : ZReq) (s : State) : ZOut × State :=
  let x := zExecute via sess r s
  (x.1, x.2.checkpoints)

/-! ## Datagrams -/

/-- A datagram or a mailbox response: header, payload, and the MAC where there is a key (R867, R873). -/
def zopMessage (resp : Bool) (op : Nat) (ab : Abort) (sess seq : Nat) (key : Option (List Byte)) (pay : List Byte) :
    List Byte :=
  let flags := (if resp then 1 else 0) + (if key.isSome then 2 else 0)
  let m : List Byte := [0x5A, 0x4F, 1, BitVec.ofNat 8 flags, BitVec.ofNat 8 op, BitVec.ofNat 8 ab.code] ++ leBytes 2 pay.length ++
    u32le sess ++ u32le seq ++ pay
  match key with
  | none => m
  | some k => m ++ hmac256 k m

/-- The operation that a datagram names. -/
def zopOp (u : List Byte) : Nat := leAt u 4 1

/-- The authentication flag of a datagram. -/
def zopAuth (u : List Byte) : Bool := decide (leAt u 3 1 / 2 % 2 = 1)

/-- The payload of a datagram. -/
def zopPay (u : List Byte) : List Byte := slice u 16 (leAt u 6 2)

/-- A datagram is one that R869 does not discard. DEDUCED, log entry 78. -/
def zopFormed (u : List Byte) : Bool :=
  decide (16 ≤ u.length) && decide (leAt u 0 2 = 0x4F5A) && decide (leAt u 2 1 = 1) && decide (leAt u 3 1 % 2 = 0) &&
    decide (u.length = 16 + leAt u 6 2 + (if zopAuth u then 32 else 0)) && (zopAuth u == decide (leAt u 8 4 ≠ 0))

/-- Change the counters of a port. -/
def State.onPort (p : Nat) (f : PortCounts → PortCounts) (s : State) : State :=
  s.onZop fun z => { z with ports := modAt z.ports p f }

/-- A counter modulo 2^32. -/
def inc32 (n : Nat) : Nat := (n + 1) % 2 ^ 32

/-- Send a datagram from a port (R865). -/
def State.send (p : Nat) (bs : List Byte) (s : State) : State :=
  (s.onPort p fun c => { c with answered := inc32 c.answered }).onZop fun z => { z with sent := modAt z.sent p fun _ => bs }

/-- A datagram arrives on a port: whether it lies within the rate (R866). -/
def State.zopArrive (p : Nat) (s : State) : State × Bool :=
  let sec := s.time.now.toNat / 1000000000
  let limit := leNat (s.odGet 0x110005 (leBytes 2 2000))
  let c := nth {} s.zop.ports p
  let n := if c.second = sec then c.inSecond else 0
  let s1 := s.onPort p fun c => { c with received := inc32 c.received, second := sec, inSecond := n + 1 }
  if n < limit then (s1, true)
  else
    let s2 := s1.onPort p fun c => { c with rateDiscarded := inc32 c.rateDiscarded }
    (if n = limit then s2.raise 243 else s2, false)

/-- Serve a datagram without a session. -/
def zopAnonymous (p : Nat) (u : List Byte) (s : State) : State :=
  let r := zServe .anonymous 0 (zopParse (zopOp u) (zopPay u)) s
  let sess := (r.1.opened.map (·.1)).getD 0
  r.2.send p (zopMessage true (zopOp u) r.1.abort sess (leAt u 12 4) (r.1.opened.map (·.2)) r.1.pay)

/-- Execute the next request of a session, cache the response, and send it (R875, R876). -/
def zopExecute (p : Nat) (u : List Byte) (x : Session) (s : State) : State :=
  let seq := leAt u 12 4
  let r := zServe (.session x.role) x.id (zopParse (zopOp u) (zopPay u)) s
  let sess := (r.1.opened.map (·.1)).getD x.id
  let bs := zopMessage true (zopOp u) r.1.abort sess seq (some ((r.1.opened.map (·.2)).getD x.key)) r.1.pay
  let t := (r.2.onZop fun z => { z with sessions := z.sessions.map fun y =>
    if y.id = x.id then { y with lastSeq := seq, cached := bs } else y }).send p bs
  if seq = 0xFFFFFFFF then t.endSessions fun y => decide (y.id = x.id) else t

/-- Serve a datagram of a session (R874, R876). -/
def zopInSession (p : Nat) (u : List Byte) (s : State) : State :=
  let n := 16 + leAt u 6 2
  match s.zop.sessions.find? fun x => decide (x.id = leAt u 8 4) && decide (u.drop n = hmac256 x.key (u.take n)) with
  | none => (s.onPort p fun c => { c with authFailed := inc32 c.authFailed }).raise 240
  | some x =>
    let seq := leAt u 12 4
    let s1 := s.onZop fun z => { z with sessions := z.sessions.map fun y => if y.id = x.id then { y with seen := s.time.now } else y }
    if seq = x.lastSeq + 1 then zopExecute p u x s1
    else if seq = x.lastSeq ∧ x.cached ≠ [] then s1.send p x.cached
    else s1.onPort p fun c => { c with seqDiscarded := inc32 c.seqDiscarded }

/-- A datagram of operation `op` reaches a port (R864 to R877). Each row of the table serves the datagrams of its own
operation, and those of no known operation. DEDUCED, log entry 69. -/
def zopDatagram (op p : Nat) (u : List Byte) (s : State) : State :=
  if !s.served .service || decide (2 ≤ p) || (zopKnown (zopOp u) && decide (zopOp u ≠ op)) then s
  else
    let a := s.zopArrive p
    if !a.2 then a.1
    else if !zopFormed u then a.1.onPort p fun c => { c with discarded := inc32 c.discarded }
    else if zopAuth u then zopInSession p u a.1
    else zopAnonymous p u a.1

/-- ZOP_READ. -/
def zopRead (p : Nat) (u : List Byte) (s : State) : State := zopDatagram 1 p u s

/-- ZOP_WRITE. -/
def zopWrite (p : Nat) (u : List Byte) (s : State) : State := zopDatagram 2 p u s

/-- ZOP_READ_INIT. -/
def zopReadInit (p : Nat) (u : List Byte) (s : State) : State := zopDatagram 3 p u s

/-- ZOP_READ_SEG. -/
def zopReadSeg (p : Nat) (u : List Byte) (s : State) : State := zopDatagram 4 p u s

/-- ZOP_WRITE_INIT. -/
def zopWriteInit (p : Nat) (u : List Byte) (s : State) : State := zopDatagram 5 p u s

/-- ZOP_WRITE_SEG. -/
def zopWriteSeg (p : Nat) (u : List Byte) (s : State) : State := zopDatagram 6 p u s

/-- ZOP_XFER_ABORT. -/
def zopXferAbort (p : Nat) (u : List Byte) (s : State) : State := zopDatagram 7 p u s

/-- ZOP_ATOMIC. -/
def zopAtomic (p : Nat) (u : List Byte) (s : State) : State := zopDatagram 8 p u s

/-- ZOP_OPEN. -/
def zopOpen (p : Nat) (u : List Byte) (s : State) : State := zopDatagram 0x10 p u s

/-- ZOP_CLOSE. -/
def zopClose (p : Nat) (u : List Byte) (s : State) : State := zopDatagram 0x11 p u s

/-- ZOP_PING. -/
def zopPing (p : Nat) (u : List Byte) (s : State) : State := zopDatagram 0x12 p u s

/-- SESSION_IDLE_TIMEOUT: a session has received no valid datagram for OD 1100:03, and ends (R875). -/
def sessionIdleTimeout (id : Nat) (s : State) : State :=
  if s.on .mgt then s.endSessions fun x => decide (x.id = id) else s

/-- XFER_TIMEOUT: a transfer has had no segment for OD 1100:04, and is abandoned (R883). -/
def xferTimeout (id : Nat) (s : State) : State :=
  if s.on .mgt && s.zop.xfers.any fun x => decide (x.id = id) then
    (s.dropXfers fun x => decide (x.id = id)).raise 242
  else s

/-- LINK_CHANGE: an Ethernet link goes down or comes up (R900). -/
def linkChange (p : Nat) (up : Bool) (s : State) : State :=
  if s.on .mgt && decide (p < 2) && (nth false s.hq.eth p != up) then
    (s.onHq fun h => { h with eth := modAt h.eth p fun _ => up }).raise 244
  else s

/-! ## The stored configuration and the key slots -/

/-- A write of an object by the row of the table that names it, with the rights of an administrator or an operator. -/
def rowWrite (admin : Bool) (key ty : Nat) (bs : List Byte) (s : State) : State :=
  s.dict (odWrite (.session (if admin then 2 else 1)) key ty bs)

/-- STORE (R856, R858, R859). -/
def storeWrite (s : State) : State := rowWrite false 0x101001 1 [1] s

/-- STORE_COMPLETE: the bank written becomes the one in use, in one step (R856, R1181). -/
def storeComplete (s : State) : State :=
  match s.on .mgt, s.die.cfgWriting with
  | true, some b =>
    let k := match s.die.inUse with
      | some k => 1 - k
      | none => 0
    let d := { s.die with storeMark := false, cfgWriting := none }
    let d2 : Rec := if k = 0 then { d with cfg0 := b } else { d with cfg1 := b }
    let z : Zop := { s.zop with storeStatus := 2, storeTime := b.time, stored := b.items }
    { s with die := d2, zop := z }
  | _, _ => s

/-- STORE_VOID (R857, R858). -/
def storeVoid (s : State) : State := rowWrite false 0x101001 1 [2] s

/-- KEY_WRITE (R871, R899). -/
def keyWrite (admin : Bool) (n : Nat) (bs : List Byte) (s : State) : State := rowWrite admin (0x112001 + n) 10 bs s

/-! ## The mailbox -/

/-- The request in the mailbox buffer. -/
def State.mbxRequest (s : State) : List Byte := (List.range s.zop.mbxReqLen).map fun i => sget 0 i s.zop.mbxReq

/-- A write of `HQ_MBX_CTRL` (R891, R892). -/
def mbxCtrlStore (v : Word) (s : State) : State :=
  let s1 := s.onZop fun z => { z with mbxIen := bitOf v 0 }
  if !bitOf v 31 || decide (s.zop.mbxStatus = 1) then s1
  else
    let n := s.zop.mbxReqLen
    let st := if 1384 < n ∨ n < 16 ∨ n ≠ 16 + leAt s.mbxRequest 6 2 then 3 else if !s.anyPair then 4 else 1
    s1.onZop fun z => { z with mbxStatus := st }

/-- MAILBOX_GO: `HQ_MBX_CTRL.GO` (R890, R891). -/
def mailboxGo (ien : Bool) (s : State) : State :=
  s.bar0 0xA10000 .any (mbxCtrlStore (placeB true 31 ||| placeB ien 0))

/-- The request in the mailbox is a ZOP request without a session (R867, R889). -/
def mbxFormed (u : List Byte) : Bool := zopFormed u && !zopAuth u

/-- Serve the mailbox (R889, R890). -/
def mbxServe (s : State) : State :=
  let u := s.mbxRequest
  let r := zServe .mailbox 0 (if mbxFormed u then zopParse (zopOp u) (zopPay u) else .bad) s
  let sess := (r.1.opened.map (·.1)).getD 0
  let bs := zopMessage true (zopOp u) r.1.abort sess (leAt u 12 4) (r.1.opened.map (·.2)) r.1.pay
  let t := r.2.onZop fun z =>
    { z with mbxRsp := bs, mbxRspLen := bs.length, mbxStatus := 2, mbxCount := z.mbxCount + 1 }
  if t.zop.mbxIen then t.raise 246 else t

/-- MAILBOX_RESPONSE: the service pair answers the request in the mailbox (R890). -/
def mailboxResponse (s : State) : State :=
  if s.zop.mbxStatus = 1 ∧ s.anyPair then mbxServe s else s

/-- A write of the mailbox registers; discarded while STATUS is 1 (R891, R893). -/
def mbxWord (o : Nat) (v : Word) (s : State) : Option State :=
  if o = 0x10000 then some (mbxCtrlStore v s)
  else if o = 0x10004 then
    some (if s.zop.mbxStatus = 1 then s else s.onZop fun z => { z with mbxReqLen := fld v 0 11 })
  else if 0x10800 ≤ o ∧ o < 0x10D68 then
    some (if s.zop.mbxStatus = 1 then s
      else s.onZop fun z => { z with mbxReq :=
        (leBytes 4 v.toNat).zipIdx.foldl (fun l b => sput 0 b.1 (o - 0x10800 + b.2) l) z.mbxReq })
  else none

/-! ## SMBus -/

/-- One byte enters the packet error code: CRC-8 with the polynomial x⁸ + x² + x + 1 (SMBus 3.1). -/
def pecByte (c b : Byte) : Byte :=
  (List.range 8).foldl (fun (x : Byte) _ => if x.getLsbD 7 then (x <<< 1) ^^^ 0x07 else x <<< 1) (c ^^^ b)

/-- The packet error code of a message (R894). PRESUMED, log entry 73. -/
def pec (bs : List Byte) : Byte := bs.foldl pecByte 0

/-- The address byte of a transaction (OD 1110:01). -/
def State.smbAddr (s : State) (read : Bool) : Byte :=
  BitVec.ofNat 8 (2 * leNat (s.odGet 0x111001 [0x4C]) + (if read then 1 else 0))

/-- The bytes of an object's index and subindex. -/
def keyBytes (key : Nat) : List Byte := leBytes 2 (key / 256) ++ [BitVec.ofNat 8 key]

/-- The target returns a block and appends PEC (R894). -/
def State.smbReturn (head bs : List Byte) (s : State) : State :=
  let m := head ++ [s.smbAddr true, BitVec.ofNat 8 bs.length] ++ bs
  s.onZop fun z => { z with smbSent := bs ++ [pec m], smbCount := inc32 z.smbCount }

/-- What precedes the block that OD_READ returns. -/
def State.readHead (s : State) (key : Nat) : List Byte := [s.smbAddr false, 0x20, 3] ++ keyBytes key

/-- OD_READ (R894, R896). -/
def smbRead (key : Nat) (s : State) : State :=
  let r := readKeep .smbus key s
  let h := s.readHead key
  if r.1 ≠ .none then s.smbReturn h [BitVec.ofNat 8 r.1.code]
  else if 32 < r.2.2.1.length then s.smbReturn h [BitVec.ofNat 8 Abort.length.code]
  else r.2.2.2.smbReturn h ([0, BitVec.ofNat 8 r.2.1] ++ r.2.2.1)

/-- Record the outcome of an OD_WRITE. -/
def State.smbDone (key : Nat) (a : Abort) (s : State) : State :=
  s.onZop fun z => { z with smbResult := a, smbObject := key, smbCount := inc32 z.smbCount }

/-- The message of an OD_WRITE, up to its packet error code. -/
def State.writeHead (s : State) (key ty : Nat) (bs : List Byte) : List Byte :=
  [s.smbAddr false, 0x21, BitVec.ofNat 8 (4 + bs.length)] ++ keyBytes key ++ [BitVec.ofNat 8 ty] ++ bs

/-- OD_WRITE, with the packet error code that the host sent, if any (R894 to R896). -/
def smbWrite (key ty : Nat) (bs : List Byte) (sent : Option Byte) (s : State) : State :=
  if sent ≠ some (pec (s.writeHead key ty bs)) then
    ((s.smbDone key .protocol).onZop fun z => { z with smbPec := inc32 z.smbPec }).raise 245
  else if 32 < bs.length then s.smbDone key .length
  else
    let r := odWrite .smbus key ty bs s
    r.2.smbDone key r.1

/-- PING (R894). -/
def smbPing (s : State) : State :=
  s.smbReturn [s.smbAddr false, 0x22] ([BitVec.ofNat 8 s.sys.mode.code] ++ u64le s.time.now.toNat)

/-- RESULT (R894). -/
def smbOutcome (s : State) : State :=
  s.smbReturn [s.smbAddr false, 0x23] ([BitVec.ofNat 8 s.zop.smbResult.code] ++ keyBytes s.zop.smbObject)

/-- Serve an SMBus transaction, with its checkpoint (R58, R59, R894). -/
def smbServe (r : SmbReq) (s : State) : State :=
  (match r with
    | .read key => smbRead key s
    | .write key ty bs sent => smbWrite key ty bs sent s
    | .ping => smbPing s
    | .result => smbOutcome s).checkpoints

/-- The target is stretching the clock: its address has matched, and the wake from STANDBY has not yet put the
service load in service (R110); a wake with SAFE_LOCKED shows SAFE from its first step (R90, R1123). -/
def State.stretching (s : State) : Bool :=
  decide (s.pwr.wakeSrc = 1) && s.sys.transit &&
    ((decide (s.sys.mode = .standby) && decide (s.sys.target ≠ .off)) || (decide (s.sys.mode = .safe) && !s.on .mgt))

/-- A transaction reaches the target (R110, R894): served now, or held while the target stretches the clock. -/
def smbTake (r : SmbReq) (s : State) : State :=
  if s.served .service then smbServe r s
  else if s.stretching then s.onZop fun z => { z with smbHeld := some r }
  else s

/-- OD_READ. -/
def odReadSmb (key : Nat) (s : State) : State := smbTake (.read key) s

/-- OD_WRITE, with the packet error code that the host sent, if any. -/
def odWriteSmb (key ty : Nat) (bs : List Byte) (sent : Option Byte) (s : State) : State := smbTake (.write key ty bs sent) s

/-- SMBUS_PING. -/
def smbusPing (s : State) : State := smbTake .ping s

/-- RESULT. -/
def smbusResult (s : State) : State := smbTake .result s

/-- The transaction that the target holds is served as soon as the service load is in service (R110). -/
def smbGo (s : State) : State :=
  match s.zop.smbHeld with
  | some r => if s.served .service then smbServe r (s.onZop fun z => { z with smbHeld := none }) else s
  | none => s

/-- SMBUS_STRETCH_TIMEOUT: the service pair has not answered a transaction within t_SMS (R897), or the wake has not
put it in service within t_WAKE (R110). -/
def smbusStretchTimeout (write : Bool) (key : Nat) (s : State) : State :=
  let t := s.onZop fun z => { z with smbBusy := inc32 z.smbBusy, smbHeld := none }
  if write then t.smbDone key .busy else t.smbReturn (s.readHead key) [BitVec.ofNat 8 Abort.busy.code]

end Sys2Proof.Machine
end

