-- ==== Sys2Proof/Machine/RegCmd.lean ====
section
/-! DEFINITION. Machine/RegCmd.lean: a BAR0 write of any register, and the reads that latch other words (R27, R44 to
R52, R123, R197, R1174). -/
namespace Sys2Proof.Machine

/-! ## Writes -/

/-- A command word of SYS, at `o` from its base (R52, R120, R122). -/
def sysWord (o : Nat) (v : Word) (s : State) : Option State :=
  if o = 0x14 then some (badInfoWord v s)
  else if o = 0x24 then some (modeReqStore (fld v 0 3) s).2
  else if o = 0x28 then some (if bitOf v 31 then safeAck false s else s)
  else none

/-- A command word of a block, at `o` from its base; none where the register is plain. -/
def blockWord (b : Block) (o : Nat) (v : Word) (s : State) : Option State :=
  match b with
  | .sys => sysWord o v s
  | .culm => culmWord o v s
  | .ls n => lsWord n o v s
  | .pgf => if o = 0x20 then some (if bitOf v 31 then pgfSnapshot s else s) else none
  | .shf => shfWords o v s
  | .mov => movWords o v s
  | .rch => rchWord o v s
  | .srv => srvWord o v s
  | .spn => if o = 0x04 then some (spnWord v s) else none
  | .mot => motWord o v s
  | .drv => drvWord o v s
  | .teff => teffWord o v s
  | .hv => if o = 0x08 then some (hvWord v s) else none
  | .fus => if o = 0x08 then some (fusWord v s) else none
  | .pwr => pwrWord o v s
  | .thm => thmWord o v s
  | .cal => calWord o v s
  | .boot => if o = 0x08 then some (bootCmdStore v s).2 else none
  | .hq => (mbxWord o v s).or (hqWord o v s)
  | .husk | .evt | .glm => none

/-- The word of an event bank: its status bits, or its force bits (R1076, R1081). -/
def evBankStore (b : EvBank) (off : Nat) (v : Word) (s : State) : State :=
  if off = b.stat then statusStore b v s else if s.mayWrite .test then forceBits b v s else s

/-- A BAR0 write of a whole word to a register that can be reached. -/
def wordStore (off : Nat) (v : Word) (s : State) : State :=
  match evBanks.find? fun b => decide (off = b.stat ∨ off = b.stat + 8) with
  | some b => evBankStore b off v s
  | none => match Block.ofOff off with
    | none => s
    | some b => (blockWord b (off - b.base) v s).getD (plainWrite off v s)

/-- REGISTER_WRITE: a BAR0 write of one 32-bit word with its byte enables (R44 to R47, R1174). The two low bits of the
offset are not part of the address. DEDUCED, log entry 13. -/
def registerWrite (off : BitVec 26) (be : BitVec 4) (v : Word) (s : State) : State :=
  let a := off.toNat / 4 * 4
  let r := s.badReason a be true
  if r ≠ 0 then s.badAccess a true r else wordStore a v s

/-! ## Reads -/

/-- The low words of the split 64-bit registers whose read latches the high word (R123, R197, R345, R465, R677,
R1072). -/
def splitLow (off : Nat) : Bool :=
  decide (off ∈ [0x00002C, 0x100064, 0x1F0000, 0x30000C, 0x30006C, 0x400034, 0x600058]) ||
    (grp 0x840114 10 0x20 off).any fun p => decide (p.2 = 0)

/-- LATCHED_LO_READ: a read of the low word of a split register latches its high word for the next read (R123). -/
def latchedLoRead (off : BitVec 26) (s : State) : State :=
  let a := off.toNat / 4 * 4
  let r := s.badReason a 0xF#4 false
  if r ≠ 0 then s.badAccess a false r
  else if splitLow a then { s with latched := sput 0 (s.readReg (a + 4)) (a + 4) s.latched }
  else s

/-- What a BAR0 read of a word returns (R27, R46, R123): 0 for a bad access, and the latched word of a split register.
DESIGN CHOICE, log entry 14. The high word of a split register reads what the last read of its low word latched, at
every read, and 0 where there was none. DESIGN CHOICE, log entry 96. -/
def State.bar0Read (s : State) (off : Nat) : Word :=
  if s.badReason off 0xF#4 false ≠ 0 then 0
  else if splitLow (off - 4) then sget 0 off s.latched
  else s.readReg off

end Sys2Proof.Machine
end

