-- ==== Sys2Proof/Machine/TickCmd.lean ====
section
/-! DEFINITION. Machine/TickCmd.lean: the 800 MHz prediction tick with what the event table and the angles of the axes
bring about, and the commands that touch several blocks: index edges, slot updates and PWM periods. -/
namespace Sys2Proof.Machine

/-! ## What the event table does (R161 to R164) -/

/-- The division of an axis with DIVS divisions that holds a fraction (R130). -/
def divOf (divs f : Nat) : Nat := ((f + 1) * divs - 1) / 2 ^ 32

/-- The turn and the division of the scanner axis at which a line-start strobe of station n fires (R231, R258): of the
occurrence itself when its entry stands on that axis. -/
def State.linePoint (s : State) (n : Nat) (f : Firing) : Nat × Nat :=
  let a := s.culm.ax (s.scanAxis n)
  let p := if f.axis = s.scanAxis n then f.point else a.theta / 2 ^ 32
  (p / 2 ^ 32 % 2 ^ 32, divOf a.divs (p % 2 ^ 32))

/-- An EDGE action (R162, R164). -/
def State.fireEdge (f : Firing) (s : State) : State :=
  let t := fld f.arg 0 8
  let level (now : Bool) : Bool := if fld f.arg 8 2 = 2 then !now else decide (fld f.arg 8 2 = 1)
  if t < 4 then s.fusEdge t (level (nth {} s.fus.chans t : FusCh).pulse)
  else if t < 8 then let p := s.linePoint (t - 4) f; s.lineStart (t - 4) p.1 p.2 f.step
  else if t < 20 then s.strobe (t - 8) .edge
  else if t < 36 then s.hvEdge (t - 20) (level (s.hvCh (t - 20)).gate)
  else s

/-- A CAPTURE action (R161, R191). -/
def State.fireCapture (f : Firing) (s : State) : State :=
  match fld f.arg 8 2 with
  | 0 => s.onCulm fun c => { c with bursts := modAt c.bursts (fld f.arg 0 4) (· + 1) }
  | 1 => takeSnapshot s
  | _ => s

/-- One occurrence takes effect (R160, R161); BANK actions are the tick's own. `pins` holds the present samples of the
feedback pins. -/
def State.fireOne (pins : List Int) (s : State) (f : Firing) : State :=
  let s1 := if f.late then s.raise 40 else s
  match f.action with
  | 1 => s1.fireEdge f
  | 2 => s1.inDom .img (State.beamGates (fld f.arg 16 2) (fld f.arg 0 16) (bitOf f.arg 24))
  | 3 =>
    let n := fld f.arg 0 8
    s1.nextInstant.angleTrigger n (nth 0 pins (fld (s1.srcReg n) 22 5))
  | 4 => s1.fireCapture f
  | 5 => s1.inDom .mem (State.movGo (fld f.arg 0 4))
  | 6 => s1.raise (46 + fld f.arg 0 1)
  | _ => s1

/-- A bank swap: source 41, the station tables and the coefficient sets that wait for it (R169, R174, R279, R776). -/
def State.bankSwap (s : State) : State :=
  let s1 := (s.onCulm Culm.swap).raise 41
  let seen (t : Station) : Station := if t.tblArmed ∧ t.tblPoint = 2 then { t with tblSwapSeen := true } else t
  ({ s1 with ls := s1.ls.map seen } : State).teffSwap

/-! ## Angles that other blocks follow -/

/-- An axis has turned forward over a fraction of its turn, which it had not passed before (R155). -/
def passes (a b : Axis) (ang : Nat) : Bool :=
  decide (a.st ≠ .off) && decide (b.st ≠ .off) && reaches a b { w0 := BitVec.ofNat 32 ang, w1 := 0xA0000000 }

/-- The mains axis has turned: half-cycles begin, and channels reach their firing angles (R824 to R826). -/
def State.mainsTurned (a b : Axis) (s : State) : State :=
  let s1 := if passes a b 0 then s.halfCycle 0 else if passes a b (2 ^ 31) then s.halfCycle 1 else s
  (List.range 4).foldl (fun t k =>
    (nth {} t.fus.chans k : FusCh).due.foldl (fun u ang => if passes a b ang then u.fire k ang else u) t) s1

/-- The axes have turned since the timebase `c` (R567, R824). -/
def State.turned (c : Culm) (s : State) : State :=
  let s1 := s.mainsTurned (c.ax s.mainsAxis) (s.culm.ax s.mainsAxis)
  if s1.on .dsk && passes (c.ax s1.spindleAxis) (s1.culm.ax s1.spindleAxis) 0 then s1.spindleTurn else s1

/-- The Mover channels queued in one fabric cycle, those after the first n of the queue, run in ascending order
(R447). -/
def State.movSorted (n : Nat) (s : State) : State :=
  s.onMov fun m => { m with queue := m.queue.take n ++ (List.range 16).filter fun k => (m.queue.drop n).contains k }

/-- PREDICTION_TICK: one tick of 1.25 ns. `pins` holds the present samples of the feedback pins, for the slots that the
event table triggers (R136 to R139, R153 to R174). -/
def predictionTick (pins : List Int) (s : State) : State :=
  if !s.on .eng then s
  else
    let r := s.culm.tickOf s.motViews
    let s1 := (s.onCulm fun _ => r.1).commitsGo
    let s2 := if s.culm.swapArmed && !r.1.swapArmed then s1.raise 42 else s1
    let s3 := ((s2.lostAxes s.culm).judgeZones (List.range 4) s.culm.tick).turned s.culm
    let s4 := (r.2.1.foldl (State.fireOne pins) s3).movSorted s3.mov.queue.length
    if r.2.2 || r.2.1.any fun f => decide (f.action = 7) then s4.bankSwap else s4

/-! ## Commands that touch several blocks -/

/-- What the blocks make of an edge of axis k that the timebase has judged: the polygon check of R265, the ageing of
APC samples (R252), the samples and the switch-over of a calibration (R1039, R1041), and the angles that its
correction passes (R157). -/
def State.edgeSeen (k : Nat) (c : Culm) (accepted corr : Bool) (e : Int) (s : State) : State :=
  let s1 := (if accepted then s.facetPass k else s).polyEdge k accepted
  let s2 := if corr then (s1.calEdge k (s1.culm.ax k).div e).turned c else s1
  s2.calPoint 1 k

/-- INDEX_EDGE: an edge of axis k at step `s6` of the present tick, its pulse width in 1/64 tick, its direction,
whether it is a zero mark, and, for the stripe of source 4, the header with it (R131 to R150, R556). -/
def indexEdgeAll (k s6 width : Nat) (reverse zero : Bool) (h : Option StripeHeader) (s : State) : State :=
  let a0 := s.culm.ax k
  if a0.source = 4 ∧ !(s.on .dsk && decide (s.spindleAxis = k) && h.any s.headerGood) then s
  else
    let t := indexEdge k s6 width reverse zero s
    let stamp := s.culm.tick * 64 + s6 % 64
    let b := t.culm.ax k
    if zero || decide (b.lastAny ≠ some stamp) then t
    else
      let a := if a0.commit then a0.applyGains (s.shadowGains k) else a0
      let accepted := decide (b.lastAcc = stamp) && decide (b.rejRow = 0)
      t.edgeSeen k s.culm accepted (accepted && a.corrects) (a.phaseError (s6 % 64) (reverse && decide (a.source = 3)))

/-- INDEX_MISS, with what the stations make of the facet that has passed (R146, R252). -/
def indexMissAll (k : Nat) (s : State) : State :=
  if s.missDue k then (indexMiss k s).facetPass k else s

/-- The update that lane l runs next, and neither skips nor finds stale (R769, R773, R774, R779, R781). -/
def State.runsNext (s : State) (l : Nat) (fault : Bool) : Option (Nat × Pend) :=
  if s.on .eng && decide (s.lane l = .active) && !fault then
    (s.firstPending l).filter fun x =>
      s.slotOn x.1 && !bitOf (s.ts x.1).cfg 30 && !(s.ts x.1).stranded && !x.2.stale
  else none

/-- SLOT_UPDATE, with what HV and FUS make of the updates of their slots (R767, R807, R824, R825). -/
def slotUpdateAll (l : Nat) (fault : Bool) (s : State) : State :=
  let t := slotUpdate l fault s
  match s.runsNext l fault with
  | some (n, p) => match s.bindOf n with
    | some (.hv k) => t.hvUpdated k p.y
    | some (.fus k) => if t.fusLive k then t.placeHalf k t.fus.half true else t
    | _ => t
  | none => t

/-- PWM_PERIOD, with the switch-over of a calibration of the unit's shunts (R1039). -/
def pwmPeriodAll (u : Nat) (convs : List (List Nat)) (sector : Nat) (s : State) : State :=
  let t := pwmPeriod u convs sector s
  if s.on .eng then t.calPoint 4 u else t

end Sys2Proof.Machine
end

