-- ==== Sys2Proof/Machine/Act.lean ====
section
/-! DEFINITION. Machine/Act.lean: what every command has in common: its effect, and what the controller then does by
itself. -/
namespace Sys2Proof.Machine

/-- The pair that an operand names: A, or B when it is true. -/
def pairOf (b : Bool) : Pair := if b then .b else .a

/-- The key of an index and a subindex. -/
def keyOf (index : BitVec 16) (sub : BitVec 8) : Nat := index.toNat * 256 + sub.toNat

/-- The runs of a read plan, as plane, first frame, frames and LBA (R418). -/
def planOf (l : List (Nat × Nat × Nat × Nat)) : List PlanRun :=
  l.map fun r => { plane := r.1, first := r.2.1, frames := r.2.2.1, lba := r.2.2.2 }

/-- The slots that their blocks bind and run (R763, R771). -/
def State.slotsRunning (s : State) : List Nat :=
  if s.on .eng then (s.binds.filter fun b => s.bindRuns b.2).map (·.1) else []

/-- The motion axes whose commanded acceleration the command has changed refresh the feed-forward of the Culm axes
that name them (R139). -/
def State.accFollows (s t : State) : State :=
  (List.range 12).foldl (fun u k => if s.mAcc k = t.mAcc k then u else u.refreshAff 1 k (t.mAcc k)) t

/-- What goes on by itself after a command that has turned `s` into `t`: the feed-forward follows the motion axes
(R139); MAINS_OK follows the mains axis (R823); frames are paged out (R425); an APC sequence that may not run is cut
(R251); a station remembers that its polygon has locked (R268); SAFE, the sequencers and the start go on; an SMBus
transaction that waited is served (R110); slots whose block has begun to run restart (R771); Sheaf checks its frame
identities (R434). -/
def State.goesOn (s t : State) : State :=
  let t1 := if t.on .eng then (s.accFollows t).mainsUpdate else t
  let t2 := smbGo (if t1.on .mem then t1.pageOutDue else t1).apcCuts.polySeen.settle
  let was := s.slotsRunning
  let t3 := t2.startSlots s.teff.instant (t2.slotsRunning.filter fun n => !was.contains n)
  if t3.on .mem then t3.checkFrames else t3

/-- The state after a command that has turned `s` into `t`: what goes on by itself has gone on; a heater output that
may no longer stand has ended (R798); ERR_N follows what drives it (R1091). The queue of commands stays as it is. -/
def State.after (s t : State) : State :=
  { (if t.aonOn then State.goesOn s t else t).stopHeat.errUpdate with pending := s.pending }

/-- Carry out a command: nothing happens without AON power (R1152). -/
def act (f : State → State) (s : State) : Host.Outcome State Fault Refusal :=
  .next (if s.aonOn then s.after (f s) else s)

/-- Carry out an event of the retract circuit, which works without AON power too (R40, R1170). -/
def actRetract (f : State → State) (s : State) : Host.Outcome State Fault Refusal :=
  .next (if s.aonOn then s.after (f s) else { s with ret := (f s).ret })

/-- Carry out the application of AON power, the one command that a controller without it takes (R107). -/
def applyAon (s : State) : Host.Outcome State Fault Refusal := .next (s.after (aonPowerApplied s))

end Sys2Proof.Machine
end

