-- ==== Sys2Proof/Machine/ExecBuffer.lean ====
section
/-! DEFINITION. Machine/ExecBuffer.lean: the meanings of the commands of Sheaf and the Mover, one for each row of the
table. -/
namespace Sys2Proof.Machine

/-- CREDIT_GRANT (R409). -/
def execCreditGrant (s : State) : Host.Outcome State Fault Refusal :=
  act creditGrant s

/-- ALLOC_COMPLETE (R416). -/
def execAllocComplete (s : State) : Host.Outcome State Fault Refusal :=
  act allocComplete s

/-- TRANSIT_ARRIVE (R412). -/
def execTransitArrive (f : Nat) (s : State) : Host.Outcome State Fault Refusal :=
  act (transitArrive f) s

/-- PAGEOUT_WRITE_COMPLETE (R426). -/
def execPageoutWriteComplete (f : Nat) (ok : Bool) (s : State) : Host.Outcome State Fault Refusal :=
  act (pageoutWriteComplete f ok) s

/-- SHF_SNAPSHOT (R435). -/
def execShfSnapshot (s : State) : Host.Outcome State Fault Refusal :=
  act shfSnapshot s

/-- BOOKS_READ (R435). -/
def execBooksRead (s : State) : Host.Outcome State Fault Refusal :=
  act booksRead s

/-- DRAM_UNCORRECTABLE (R436). -/
def execDramUncorrectable (f : Nat) (o : Nat) (s : State) : Host.Outcome State Fault Refusal :=
  act (dramUncorrectable f o) s

/-- SHF_CREDIT (R460). -/
def execShfCredit (pool : Fin 8) (s : State) : Host.Outcome State Fault Refusal :=
  act (shfCredit pool) s

/-- SHF_RETURN (R414). -/
def execShfReturn (pool : Fin 8) (s : State) : Host.Outcome State Fault Refusal :=
  act (shfReturn pool) s

/-- SHF_ALLOCATE (R461). -/
def execShfAllocate (pool : Fin 8) (s : State) : Host.Outcome State Fault Refusal :=
  act (shfAllocate pool) s

/-- SHF_FREE (R461). -/
def execShfFree (pool : Fin 8) (s : State) : Host.Outcome State Fault Refusal :=
  act (shfFree pool) s

/-- SHF_RETIRE (R461). -/
def execShfRetire (pool : Fin 8) (s : State) : Host.Outcome State Fault Refusal :=
  act (shfRetire pool) s

/-- POOL_BUDGET_WRITE (R405). -/
def execPoolBudgetWrite (p : Fin 8) (v : Word) (s : State) : Host.Outcome State Fault Refusal :=
  act (poolBudgetWrite p v) s

/-- MOV_START (R444). -/
def execMovStart (k : Fin 16) (ctrl : Word) (s : State) : Host.Outcome State Fault Refusal :=
  act (movStart k ctrl) s

/-- MOV_CHANNEL_RUN (R448). -/
def execMovChannelRun (s : State) : Host.Outcome State Fault Refusal :=
  act movChannelRun s

/-- MOV_CHANNEL_DONE (R451). -/
def execMovChannelDone (s : State) : Host.Outcome State Fault Refusal :=
  act movChannelDone s

/-- MOV_ABORT (R453). -/
def execMovAbort (mask : BitVec 16) (blocks : Nat) (s : State) : Host.Outcome State Fault Refusal :=
  act (movAbort (mask.setWidth 32) blocks) s

end Sys2Proof.Machine
end

