-- ==== Sys2Proof/Machine/ExecCal.lean ====
section
/-! DEFINITION. Machine/ExecCal.lean: the meanings of the commands of calibration, one for each row of the table. -/
namespace Sys2Proof.Machine

/-- CAL_COMMAND (R1059). -/
def execCalCommand (id : BitVec 4) (inst : BitVec 5) (s : State) : Host.Outcome State Fault Refusal :=
  act (calCommand id.toNat inst.toNat) s

/-- CAL_MEASUREMENT_DONE (R1047). -/
def execCalMeasurementDone (id : Fin 10) (samples : List (List Int)) (readback : Bool)
    (s : State) : Host.Outcome State Fault Refusal :=
  act (calMeasurementDone id samples readback) s

/-- CAL_INTERVAL (R1058). -/
def execCalInterval (id : Fin 10) (s : State) : Host.Outcome State Fault Refusal :=
  act (calInterval id) s

/-- CAL_PENDING_START (R1060). -/
def execCalPendingStart (id : Fin 10) (s : State) : Host.Outcome State Fault Refusal :=
  act (calPendingStart id) s

/-- CAL_PEND_TIMEOUT (R1061). -/
def execCalPendTimeout (id : Fin 10) (s : State) : Host.Outcome State Fault Refusal :=
  act (calPendTimeout id) s

/-- CAL_SWITCHOVER_TIMEOUT (R1051). -/
def execCalSwitchoverTimeout (id : Fin 10) (s : State) : Host.Outcome State Fault Refusal :=
  act (calSwitchoverTimeout id) s

/-- TRIM_FAULT_CLEAR (R1073). -/
def execTrimFaultClear (id : Fin 10) (s : State) : Host.Outcome State Fault Refusal :=
  act (trimFaultClear id) s

end Sys2Proof.Machine
end

