-- ==== Sys2Proof/Machine/ExecComm.lean ====
section
/-! DEFINITION. Machine/ExecComm.lean: the meanings of the commands of the dictionary transports, one for each row of
the table. -/
namespace Sys2Proof.Machine

/-- ZOP_READ (R868). -/
def execZopRead (p : Fin 2) (u : List Byte) (s : State) : Host.Outcome State Fault Refusal :=
  act (zopRead p u) s

/-- ZOP_WRITE (R853). -/
def execZopWrite (p : Fin 2) (u : List Byte) (s : State) : Host.Outcome State Fault Refusal :=
  act (zopWrite p u) s

/-- ZOP_READ_INIT (R879). -/
def execZopReadInit (p : Fin 2) (u : List Byte) (s : State) : Host.Outcome State Fault Refusal :=
  act (zopReadInit p u) s

/-- ZOP_READ_SEG (R879). -/
def execZopReadSeg (p : Fin 2) (u : List Byte) (s : State) : Host.Outcome State Fault Refusal :=
  act (zopReadSeg p u) s

/-- ZOP_WRITE_INIT (R880). -/
def execZopWriteInit (p : Fin 2) (u : List Byte) (s : State) : Host.Outcome State Fault Refusal :=
  act (zopWriteInit p u) s

/-- ZOP_WRITE_SEG (R882). -/
def execZopWriteSeg (p : Fin 2) (u : List Byte) (s : State) : Host.Outcome State Fault Refusal :=
  act (zopWriteSeg p u) s

/-- ZOP_XFER_ABORT (R883). -/
def execZopXferAbort (p : Fin 2) (u : List Byte) (s : State) : Host.Outcome State Fault Refusal :=
  act (zopXferAbort p u) s

/-- ZOP_ATOMIC (R886). -/
def execZopAtomic (p : Fin 2) (u : List Byte) (s : State) : Host.Outcome State Fault Refusal :=
  act (zopAtomic p u) s

/-- ZOP_OPEN (R872). -/
def execZopOpen (p : Fin 2) (u : List Byte) (s : State) : Host.Outcome State Fault Refusal :=
  act (zopOpen p u) s

/-- ZOP_CLOSE (R875). -/
def execZopClose (p : Fin 2) (u : List Byte) (s : State) : Host.Outcome State Fault Refusal :=
  act (zopClose p u) s

/-- ZOP_PING (R868). -/
def execZopPing (p : Fin 2) (u : List Byte) (s : State) : Host.Outcome State Fault Refusal :=
  act (zopPing p u) s

/-- SESSION_IDLE_TIMEOUT (R875). -/
def execSessionIdleTimeout (id : BitVec 32) (s : State) : Host.Outcome State Fault Refusal :=
  act (sessionIdleTimeout id.toNat) s

/-- XFER_TIMEOUT (R883). -/
def execXferTimeout (id : BitVec 16) (s : State) : Host.Outcome State Fault Refusal :=
  act (xferTimeout id.toNat) s

/-- STORE (R856). -/
def execStore (s : State) : Host.Outcome State Fault Refusal :=
  act storeWrite s

/-- STORE_COMPLETE (R856). -/
def execStoreComplete (s : State) : Host.Outcome State Fault Refusal :=
  act storeComplete s

/-- STORE_VOID (R857). -/
def execStoreVoid (s : State) : Host.Outcome State Fault Refusal :=
  act storeVoid s

/-- KEY_WRITE (R899). -/
def execKeyWrite (admin : Bool) (n : Fin 4) (bs : List Byte) (s : State) : Host.Outcome State Fault Refusal :=
  act (keyWrite admin n bs) s

/-- MAILBOX_GO (R890). -/
def execMailboxGo (ien : Bool) (s : State) : Host.Outcome State Fault Refusal :=
  act (mailboxGo ien) s

/-- MAILBOX_RESPONSE (R890). -/
def execMailboxResponse (s : State) : Host.Outcome State Fault Refusal :=
  act mailboxResponse s

/-- OD_READ (R894). -/
def execOdRead (index : BitVec 16) (sub : BitVec 8) (s : State) : Host.Outcome State Fault Refusal :=
  act (odReadSmb (keyOf index sub)) s

/-- OD_WRITE (R895). -/
def execOdWrite (index : BitVec 16) (sub : BitVec 8) (ty : BitVec 8) (bs : List Byte) (pec : Option Byte)
    (s : State) : Host.Outcome State Fault Refusal :=
  act (odWriteSmb (keyOf index sub) ty.toNat bs pec) s

/-- SMBUS_PING (R894). -/
def execSmbusPing (s : State) : Host.Outcome State Fault Refusal :=
  act smbusPing s

/-- RESULT (R894). -/
def execResult (s : State) : Host.Outcome State Fault Refusal :=
  act smbusResult s

/-- SMBUS_STRETCH_TIMEOUT (R897). -/
def execSmbusStretchTimeout (write : Bool) (index : BitVec 16) (sub : BitVec 8) (s : State) : Host.Outcome State Fault Refusal :=
  act (smbusStretchTimeout write (keyOf index sub)) s

/-- LINK_CHANGE (R900). -/
def execLinkChange (p : Fin 2) (up : Bool) (s : State) : Host.Outcome State Fault Refusal :=
  act (linkChange p up) s

end Sys2Proof.Machine
end

