-- ==== Sys2Proof/Machine/ExecCore.lean ====
section
/-! DEFINITION. Machine/ExecCore.lean: the meanings of the commands of the registers, the pairs, the modes and the pins,
one for each row of the table. -/
namespace Sys2Proof.Machine

/-- REGISTER_WRITE (R1174). -/
def execRegisterWrite (off : BitVec 26) (be : BitVec 4) (v : Word) (s : State) : Host.Outcome State Fault Refusal :=
  act (registerWrite off be v) s

/-- LATCHED_LO_READ (R123). -/
def execLatchedLoRead (off : BitVec 26) (s : State) : Host.Outcome State Fault Refusal :=
  act (latchedLoRead off) s

/-- AXIS_FRAC_READ (R197). -/
def execAxisFracRead (k : Fin 24) (s : State) : Host.Outcome State Fault Refusal :=
  act (axisFracRead k) s

/-- TOKEN_RECORD_READ (R351). -/
def execTokenRecordRead (k : Fin 1024) (s : State) : Host.Outcome State Fault Refusal :=
  act (tokenRecordRead k) s

/-- SAMPLE_LINK_PACKET (R37). -/
def execSampleLinkPacket (ok : Bool) (slots : List (Fin 256)) (s : State) : Host.Outcome State Fault Refusal :=
  act (sampleLinkPacket ok (slots.map (·.val))) s

/-- LOCKSTEP_MISMATCH (R60). -/
def execLockstepMismatch (b : Bool) (s : State) : Host.Outcome State Fault Refusal :=
  act (lockstepMismatch (pairOf b)) s

/-- PAIR_REJOIN (R61). -/
def execPairRejoin (b : Bool) (s : State) : Host.Outcome State Fault Refusal :=
  act (pairRejoin (pairOf b)) s

/-- ENGINE_FIRMWARE_CYCLE (R58). -/
def execEngineFirmwareCycle (s : State) : Host.Outcome State Fault Refusal :=
  act engineFirmwareCycle s

/-- MODE_REQUEST (R78). -/
def execModeRequest (od : Bool) (v : BitVec 8) (s : State) : Host.Outcome State Fault Refusal :=
  act (modeRequest od v) s

/-- MODE_TRANSITION_COMPLETE (R91). -/
def execModeTransitionComplete (s : State) : Host.Outcome State Fault Refusal :=
  act modeTransitionComplete s

/-- READY_TIMEOUT (R93). -/
def execReadyTimeout (s : State) : Host.Outcome State Fault Refusal :=
  act readyTimeout s

/-- PRINT_LINGER_EXPIRY (R97). -/
def execPrintLingerExpiry (s : State) : Host.Outcome State Fault Refusal :=
  act printLingerExpiry s

/-- SAFE_RUNOUT_LIMIT (R102). -/
def execSafeRunoutLimit (s : State) : Host.Outcome State Fault Refusal :=
  act safeRunoutLimit s

/-- SAFE_SETTLED (R90). -/
def execSafeSettled (s : State) : Host.Outcome State Fault Refusal :=
  act safeSettled s

/-- SAFE_ACK (R84). -/
def execSafeAck (od : Bool) (s : State) : Host.Outcome State Fault Refusal :=
  act (safeAck od) s

/-- AON_POWER_APPLIED (R107). -/
def execAonPowerApplied (s : State) : Host.Outcome State Fault Refusal :=
  applyAon s

/-- PB_SHORT_PRESS (R1007). -/
def execPbShortPress (s : State) : Host.Outcome State Fault Refusal :=
  act pbShortPress s

/-- PB_LONG_PRESS (R1008). -/
def execPbLongPress (s : State) : Host.Outcome State Fault Refusal :=
  act pbLongPress s

/-- WAKE_N (R999). -/
def execWakeN (s : State) : Host.Outcome State Fault Refusal :=
  act wakeN s

/-- SMBUS_ADDRESS_MATCH (R110). -/
def execSmbusAddressMatch (s : State) : Host.Outcome State Fault Refusal :=
  act smbusAddressMatch s

end Sys2Proof.Machine
end

