-- ==== Sys2Proof/Machine/ExecDisk.lean ====
section
/-! DEFINITION. Machine/ExecDisk.lean: the meanings of the commands of the disk, one for each row of the table. -/
namespace Sys2Proof.Machine

/-- NONPRINT_PIECE_START (R577). -/
def execNonprintPieceStart (psi : Nat) (s : State) : Host.Outcome State Fault Refusal :=
  act (nonprintPieceStart psi) s

/-- PLAN_RUN_START (R578). -/
def execPlanRunStart (psi : Nat) (s : State) : Host.Outcome State Fault Refusal :=
  act (planRunStart psi) s

/-- SECTOR_READ_COMPLETE (R499). -/
def execSectorReadComplete (p : ReadPass) (s : State) : Host.Outcome State Fault Refusal :=
  act (sectorReadComplete p) s

/-- RELAXED_REREAD (R497). -/
def execRelaxedReread (p : ReadPass) (s : State) : Host.Outcome State Fault Refusal :=
  act (relaxedReread p) s

/-- LADDER_STEP (R506). -/
def execLadderStep (p : ReadPass) (s : State) : Host.Outcome State Fault Refusal :=
  act (ladderStep p) s

/-- SECTOR_WRITE (R501). -/
def execSectorWrite (data : List Byte) (bits : Nat) (us : Nat) (s : State) : Host.Outcome State Fault Refusal :=
  act (sectorWrite data bits us) s

/-- SECTOR_REWRITE (R505). -/
def execSectorRewrite (data : List Byte) (bits : Nat) (us : Nat) (s : State) : Host.Outcome State Fault Refusal :=
  act (sectorRewrite data bits us) s

/-- REWRITE_TIMEOUT (R505). -/
def execRewriteTimeout (s : State) : Host.Outcome State Fault Refusal :=
  act rewriteTimeout s

/-- PREAMP_FAULT (R522). -/
def execPreampFault (s : State) : Host.Outcome State Fault Refusal :=
  act preampFault s

/-- PREAMP_MANUAL_FRAME (R521). -/
def execPreampManualFrame (read : Bool) (addr : BitVec 7) (data : BitVec 8) (s : State) : Host.Outcome State Fault Refusal :=
  act (preampManualFrame read addr.toNat data.toNat) s

/-- PREAMP_FRAME_DONE (R519). -/
def execPreampFrameDone (data : BitVec 8) (s : State) : Host.Outcome State Fault Refusal :=
  act (preampFrameDone data.toNat) s

/-- HEAD_SELECT (R520). -/
def execHeadSelect (h : Fin 4) (s : State) : Host.Outcome State Fault Refusal :=
  act (headSelect h) s

/-- FH_CAL_START (R527). -/
def execFhCalStart (head : Fin 4) (zones : BitVec 8) (s : State) : Host.Outcome State Fault Refusal :=
  act (fhCalStart head zones) s

/-- FH_CAL_ZONE_STEP (R528). -/
def execFhCalZoneStep (v : Nat) (s : State) : Host.Outcome State Fault Refusal :=
  act (fhCalZoneStep v) s

/-- TOUCHDOWN (R529). -/
def execTouchdown (v : Nat) (s : State) : Host.Outcome State Fault Refusal :=
  act (touchdown v) s

/-- GLIST_CLEAR (R547). -/
def execGlistClear (s : State) : Host.Outcome State Fault Refusal :=
  act glistClear s

/-- SERVO_WINDOW (R557). -/
def execServoWindow (slots : List StripeSlot) (agc : Bool) (h : Option StripeHeader)
    (s : State) : Host.Outcome State Fault Refusal :=
  act (servoWindow slots agc h) s

/-- SEEK (R571). -/
def execSeek (head : Fin 4) (s : State) : Host.Outcome State Fault Refusal :=
  act (seek head) s

/-- PARK (R597). -/
def execPark (s : State) : Host.Outcome State Fault Refusal :=
  act park s

/-- LOAD (R598). -/
def execLoad (s : State) : Host.Outcome State Fault Refusal :=
  act load s

/-- SEEK_PROFILE_DONE (R565). -/
def execSeekProfileDone (s : State) : Host.Outcome State Fault Refusal :=
  act seekProfileDone s

/-- SEEK_TIMEOUT (R565). -/
def execSeekTimeout (s : State) : Host.Outcome State Fault Refusal :=
  act seekTimeout s

/-- LOAD_TIMEOUT (R565). -/
def execLoadTimeout (s : State) : Host.Outcome State Fault Refusal :=
  act loadTimeout s

/-- PARK_LATCHED (R565). -/
def execParkLatched (s : State) : Host.Outcome State Fault Refusal :=
  act parkLatched s

/-- PARK_TIMEOUT (R565). -/
def execParkTimeout (s : State) : Host.Outcome State Fault Refusal :=
  act parkTimeout s

/-- RETRACT_FIRE (R40, R599). -/
def execRetractFire (s : State) : Host.Outcome State Fault Refusal :=
  actRetract retractFire s

/-- RETRACT_COMPLETE (R40, R600). -/
def execRetractComplete (s : State) : Host.Outcome State Fault Refusal :=
  actRetract retractComplete s

/-- VCM_FAULT (R569). -/
def execVcmFault (s : State) : Host.Outcome State Fault Refusal :=
  act vcmFault s

/-- SPN_BRIDGE_FAULT (R604). -/
def execSpnBridgeFault (s : State) : Host.Outcome State Fault Refusal :=
  act spnBridgeFault s

/-- WRITE_INHIBIT_CAUSE (R582). -/
def execWriteInhibitCause (i : Fin 6) (s : State) : Host.Outcome State Fault Refusal :=
  act (writeInhibitCause i) s

/-- SHOCK_ASSERT (R582). -/
def execShockAssert (s : State) : Host.Outcome State Fault Refusal :=
  act shockAssert s

/-- SHOCK_HOLD_EXPIRY (R582). -/
def execShockHoldExpiry (s : State) : Host.Outcome State Fault Refusal :=
  act shockHoldExpiry s

/-- SUPPLY_LOW (R582). -/
def execSupplyLow (mv : Nat) (s : State) : Host.Outcome State Fault Refusal :=
  act (supplyLow mv) s

/-- SUPPLY_RESTORED (R582). -/
def execSupplyRestored (mv : Nat) (s : State) : Host.Outcome State Fault Refusal :=
  act (supplyRestored mv) s

/-- RPM_SET_WRITE (R594). -/
def execRpmSetWrite (v : BitVec 16) (s : State) : Host.Outcome State Fault Refusal :=
  act (rpmSetWrite v.toNat) s

/-- SPINDLE_START (R588). -/
def execSpindleStart (sector : Fin 6) (s : State) : Host.Outcome State Fault Refusal :=
  act (spindleStart sector) s

/-- SPINDLE_HANDOVER (R588). -/
def execSpindleHandover (ms : Nat) (s : State) : Host.Outcome State Fault Refusal :=
  act (spindleHandover ms) s

/-- SPINDLE_AT_SPEED (R591). -/
def execSpindleAtSpeed (revs : List Nat) (s : State) : Host.Outcome State Fault Refusal :=
  act (spindleAtSpeed revs) s

/-- SPINDLE_ATTEMPT_FAILED (R589). -/
def execSpindleAttemptFailed (cause : Fin 3) (degrees : Nat) (s : State) : Host.Outcome State Fault Refusal :=
  act (spindleAttemptFailed cause degrees) s

/-- SPINUP_TIMEOUT (R590). -/
def execSpinupTimeout (s : State) : Host.Outcome State Fault Refusal :=
  act spinupTimeout s

/-- SPINDLE_SPEED_FAULT (R591). -/
def execSpindleSpeedFault (mrpm : Nat) (s : State) : Host.Outcome State Fault Refusal :=
  act (spindleSpeedFault mrpm) s

/-- SPINDLE_ROTOR_LOSS (R595). -/
def execSpindleRotorLoss (s : State) : Host.Outcome State Fault Refusal :=
  act spindleRotorLoss s

/-- SPINDLE_CATCH (R595). -/
def execSpindleCatch (rpm : Nat) (ok : Option Bool) (s : State) : Host.Outcome State Fault Refusal :=
  act (spindleCatch rpm ok) s

/-- ROTOR_STOPPED (R589). -/
def execRotorStopped (who : Option (Fin 24)) (s : State) : Host.Outcome State Fault Refusal :=
  act (rotorStopped (who.map (·.val))) s

/-- RETRACT_FLAG_CLEAR (R601). -/
def execRetractFlagClear (s : State) : Host.Outcome State Fault Refusal :=
  act retractFlagClear s

end Sys2Proof.Machine
end

