-- ==== Sys2Proof/Machine/ExecDrive.lean ====
section
/-! DEFINITION. Machine/ExecDrive.lean: the meanings of the commands of the motor drives, one for each row of the table.
-/
namespace Sys2Proof.Machine

/-- PWM_PERIOD (R702). -/
def execPwmPeriod (u : Fin 24) (convs : List (List Nat)) (sector : Fin 6) (s : State) : Host.Outcome State Fault Refusal :=
  act (pwmPeriodAll u convs sector) s

/-- UNIT_START (R719). -/
def execUnitStart (u : Fin 24) (s : State) : Host.Outcome State Fault Refusal :=
  act (unitStart u) s

/-- UNIT_STOP (R746). -/
def execUnitStop (u : Fin 24) (s : State) : Host.Outcome State Fault Refusal :=
  act (unitStop u) s

/-- UNIT_COAST (R746). -/
def execUnitCoast (u : Fin 24) (s : State) : Host.Outcome State Fault Refusal :=
  act (unitCoast u) s

/-- UNIT_FAULT_CLEAR (R746). -/
def execUnitFaultClear (u : Fin 24) (s : State) : Host.Outcome State Fault Refusal :=
  act (unitFaultClear u) s

/-- ADVANCE_TABLE_APPLY (R709). -/
def execAdvanceTableApply (u : Fin 24) (s : State) : Host.Outcome State Fault Refusal :=
  act (advanceTableApply u) s

/-- ZERO_CROSSING (R707). -/
def execZeroCrossing (u : Fin 24) (tick : Nat) (s : State) : Host.Outcome State Fault Refusal :=
  act (zeroCrossing u tick) s

/-- COMMUTATION (R707). -/
def execCommutation (u : Fin 24) (s : State) : Host.Outcome State Fault Refusal :=
  act (commutation u) s

/-- UNIT_ATTEMPT_FAILED (R720). -/
def execUnitAttemptFailed (u : Fin 24) (cause : Fin 3) (degrees : Nat) (s : State) : Host.Outcome State Fault Refusal :=
  act (unitAttemptFailed u cause degrees) s

/-- CATCH_TIMEOUT (R722). -/
def execCatchTimeout (u : Fin 24) (s : State) : Host.Outcome State Fault Refusal :=
  act (catchTimeout u) s

/-- VBUS_SAMPLE (R728). -/
def execVbusSample (sns : Nat) (isns : Int) (s : State) : Host.Outcome State Fault Refusal :=
  act (vbusSample sns isns) s

/-- CHOPPER_CHECK (R729). -/
def execChopperCheck (elapsed : Bool) (isns : Int) (s : State) : Host.Outcome State Fault Refusal :=
  act (chopperCheck elapsed isns) s

/-- BUS_UNDERVOLTAGE (R735). -/
def execBusUndervoltage (s : State) : Host.Outcome State Fault Refusal :=
  act busUndervoltage s

/-- BUS_HARD_CUT (R733). -/
def execBusHardCut (s : State) : Host.Outcome State Fault Refusal :=
  act busHardCut s

/-- CHOP_FAULT_CLEAR (R734). -/
def execChopFaultClear (s : State) : Host.Outcome State Fault Refusal :=
  act chopFaultClear s

/-- HARD_CUT_CLEAR (R734). -/
def execHardCutClear (s : State) : Host.Outcome State Fault Refusal :=
  act hardCutClear s

/-- OVERCURRENT (R737). -/
def execOvercurrent (u : Fin 24) (ma : Int) (desat : Bool) (s : State) : Host.Outcome State Fault Refusal :=
  act (overcurrent u ma desat) s

/-- GATE_SUPPLY (R738). -/
def execGateSupply (s : State) : Host.Outcome State Fault Refusal :=
  act gateSupply s

end Sys2Proof.Machine
end

