-- ==== Sys2Proof/Machine/ExecEvent.lean ====
section
/-! DEFINITION. Machine/ExecEvent.lean: the meanings of the commands of events, faults and the record, one for each row
of the table. -/
namespace Sys2Proof.Machine

/-- EVENT_FORCE (R1081). -/
def execEventForce (od : Bool) (n : Fin 256) (v : Word) (s : State) : Host.Outcome State Fault Refusal :=
  act (eventForce od n v) s

/-- EVENT_STATUS_CLEAR (R1077). -/
def execEventStatusClear (k : Fin 24) (v : Word) (s : State) : Host.Outcome State Fault Refusal :=
  act (eventStatusClear k v) s

/-- ERR_N_MINW_EXPIRY (R1091). -/
def execErrNMinwExpiry (s : State) : Host.Outcome State Fault Refusal :=
  act errNMinwExpiry s

/-- BLOCK_RESET_DONE (R1085). -/
def execBlockResetDone (src : Fin 256) (s : State) : Host.Outcome State Fault Refusal :=
  act (blockResetDone src) s

/-- CHIP_RESET (R1086). -/
def execChipReset (s : State) : Host.Outcome State Fault Refusal :=
  act chipReset s

/-- GLUME_ENTRY_COMMIT (R1095). -/
def execGlumeEntryCommit (good : Bool) (s : State) : Host.Outcome State Fault Refusal :=
  act (glumeEntryCommit good) s

/-- GLUME_LINK_RETRY (R1103). -/
def execGlumeLinkRetry (works : Bool) (s : State) : Host.Outcome State Fault Refusal :=
  act (glumeLinkRetry works) s

/-- CLEAR_PROTECTED (R1102). -/
def execClearProtected (admin : Bool) (s : State) : Host.Outcome State Fault Refusal :=
  act (clearProtected admin) s

/-- NOTE (R1096). -/
def execNote (bs : List Byte) (s : State) : Host.Outcome State Fault Refusal :=
  act (note bs) s

end Sys2Proof.Machine
end

