-- ==== Sys2Proof/Machine/ExecHost.lean ====
section
/-! DEFINITION. Machine/ExecHost.lean: the meanings of the commands of the PCIe host interface, one for each row of the
table. -/
namespace Sys2Proof.Machine

/-- PCIE_RESET (R906). -/
def execPcieReset (flr : Bool) (s : State) : Host.Outcome State Fault Refusal :=
  act (pcieReset flr) s

/-- D3HOT_CHANGE (R908). -/
def execD3hotChange (d3 : Bool) (s : State) : Host.Outcome State Fault Refusal :=
  act (d3hotChange d3) s

/-- BAR2_ACCESS (R910). -/
def execBar2Access (off : BitVec 32) (n : Nat) (wr : Option (List (Option Byte)))
    (s : State) : Host.Outcome State Fault Refusal :=
  act (bar2Access off n wr) s

/-- B2_BASE_WRITE (R909). -/
def execB2BaseWrite (v : Word) (s : State) : Host.Outcome State Fault Refusal :=
  act (b2BaseWrite v) s

/-- QUEUE_ENABLE (R912). -/
def execQueueEnable (ev : Bool) (i : Fin 16) (cfg : Word) (s : State) : Host.Outcome State Fault Refusal :=
  act (queueEnable ev i cfg) s

/-- QUEUE_DISABLE (R918). -/
def execQueueDisable (ev : Bool) (i : Fin 16) (cfg : Word) (s : State) : Host.Outcome State Fault Refusal :=
  act (queueDisable ev i cfg) s

/-- SQ_DOORBELL (R913). -/
def execSqDoorbell (q : Fin 16) (v : BitVec 12) (s : State) : Host.Outcome State Fault Refusal :=
  act (sqDoorbell q v) s

/-- CQ_DOORBELL (R914). -/
def execCqDoorbell (q : Fin 16) (v : BitVec 12) (s : State) : Host.Outcome State Fault Refusal :=
  act (cqDoorbell q v) s

/-- EVQ_DOORBELL (R955). -/
def execEvqDoorbell (e : Fin 4) (v : BitVec 12) (s : State) : Host.Outcome State Fault Refusal :=
  act (evqDoorbell e v) s

/-- DESCRIPTOR_FETCH (R920). -/
def execDescriptorFetch (bytes : Option (List Byte)) (s : State) : Host.Outcome State Fault Refusal :=
  act (descriptorFetch bytes) s

/-- SUBMIT_PAGE (R929). -/
def execSubmitPage (q : Fin 16) (table : Option (List (Nat × Nat × List Nat))) (s : State) : Host.Outcome State Fault Refusal :=
  act (submitPage q table) s

/-- PAGE_DATA_READ_DONE (R929). -/
def execPageDataReadDone (q : Fin 16) (data : Option (List (List Byte))) (s : State) : Host.Outcome State Fault Refusal :=
  act (pageDataReadDone q data) s

/-- CANCEL_PAGE (R930). -/
def execCancelPage (q : Fin 16) (s : State) : Host.Outcome State Fault Refusal :=
  act (cancelPage q) s

/-- READ (R932). -/
def execRead (q : Fin 16) (segs : Option (List Nat)) (s : State) : Host.Outcome State Fault Refusal :=
  act (blockRead q segs) s

/-- WRITE (R933). -/
def execWrite (q : Fin 16) (segs : Option (List Nat)) (s : State) : Host.Outcome State Fault Refusal :=
  act (blockWrite q segs) s

/-- BLOCK_COMMAND_DONE (R933). -/
def execBlockCommandDone (q : Fin 16) (failed : Option Nat) (s : State) : Host.Outcome State Fault Refusal :=
  act (blockCommandDone q failed) s

/-- READ_JOURNAL (R949). -/
def execReadJournal (q : Fin 16) (segs : Option (List Nat)) (moved : Option Nat) (s : State) : Host.Outcome State Fault Refusal :=
  act (readJournal q segs moved) s

/-- ACK_JOURNAL (R950). -/
def execAckJournal (q : Option (Fin 16)) (v : BitVec 64) (s : State) : Host.Outcome State Fault Refusal :=
  act (ackJournal (q.map (·.val)) v) s

/-- JOURNAL_SECTOR_WRITE (R947). -/
def execJournalSectorWrite (s : State) : Host.Outcome State Fault Refusal :=
  act journalSectorWrite s

/-- JOURNAL_FORMAT (R951). -/
def execJournalFormat (s : State) : Host.Outcome State Fault Refusal :=
  act journalFormat s

end Sys2Proof.Machine
end

