-- ==== Sys2Proof/Machine/ExecImage.lean ====
section
/-! DEFINITION. Machine/ExecImage.lean: the meanings of the commands of the stations, page flow and Husk, one for each
row of the table. -/
namespace Sys2Proof.Machine

/-- LINE_END (R224). -/
def execLineEnd (n : Fin 4) (s : State) : Host.Outcome State Fault Refusal :=
  act (lineEnd n) s

/-- APC_SEQUENCE_START (R245). -/
def execApcSequenceStart (n : Fin 4) (fits : Nat) (s : State) : Host.Outcome State Fault Refusal :=
  act (apcSequenceStart n fits) s

/-- APC_SAMPLE (R247). -/
def execApcSample (n : Fin 4) (codes : List (BitVec 12)) (s : State) : Host.Outcome State Fault Refusal :=
  act (apcSample n (codes.map (·.toNat))) s

/-- BD_WINDOW (R243). -/
def execBdWindow (n : Fin 4) (opens : Bool) (s : State) : Host.Outcome State Fault Refusal :=
  act (bdWindow n opens) s

/-- ILK_DEASSERT (R270). -/
def execIlkDeassert (line : Fin 5) (short : Bool) (s : State) : Host.Outcome State Fault Refusal :=
  act (ilkDeassert line short) s

/-- REARM (R274). -/
def execRearm (n : Fin 4) (s : State) : Host.Outcome State Fault Refusal :=
  act (rearm n) s

/-- STATION_DISABLE (R275). -/
def execStationDisable (n : Fin 4) (s : State) : Host.Outcome State Fault Refusal :=
  act (stationDisable n) s

/-- STATION_ENABLE (R276). -/
def execStationEnable (n : Fin 4) (s : State) : Host.Outcome State Fault Refusal :=
  act (stationEnable n) s

/-- READINESS_LOSS (R268). -/
def execReadinessLoss (n : Fin 4) (cause : Fin 3) (s : State) : Host.Outcome State Fault Refusal :=
  act (readinessLoss n cause) s

/-- BEAM_COMPLIANCE (R254). -/
def execBeamCompliance (n : Fin 4) (s : State) : Host.Outcome State Fault Refusal :=
  act (beamCompliance n) s

/-- TABLE_GO (R279). -/
def execTableGo (n : Fin 4) (whn : Fin 4) (s : State) : Host.Outcome State Fault Refusal :=
  act (tableGo n whn) s

/-- TABLE_CANCEL (R279). -/
def execTableCancel (n : Fin 4) (s : State) : Host.Outcome State Fault Refusal :=
  act (tableCancel n) s

/-- TOKEN_ACCEPT (R314). -/
def execTokenAccept (k : Fin 1024) (s : State) : Host.Outcome State Fault Refusal :=
  act (tokenAccept k) s

/-- TOKEN_ARM (R418). -/
def execTokenArm (k : Fin 1024) (front : List (Nat × Nat × Nat × Nat)) (back : List (Nat × Nat × Nat × Nat))
    (s : State) : Host.Outcome State Fault Refusal :=
  act (tokenArm k (planOf front) (planOf back)) s

/-- TOKEN_DISARM (R315). -/
def execTokenDisarm (k : Fin 1024) (s : State) : Host.Outcome State Fault Refusal :=
  act (tokenDisarm k) s

/-- TOKEN_REJECT_POLICY (R314). -/
def execTokenRejectPolicy (k : Fin 1024) (s : State) : Host.Outcome State Fault Refusal :=
  act (tokenRejectPolicy k) s

/-- PICK_REQUEST (R325). -/
def execPickRequest (k : Fin 1024) (front : List (Option (Nat × Nat))) (back : List (Option (Nat × Nat)))
    (s : State) : Host.Outcome State Fault Refusal :=
  act (pickRequest k front back) s

/-- GATE_EVALUATION_COMPLETE (R325). -/
def execGateEvaluationComplete (s : State) : Host.Outcome State Fault Refusal :=
  act gateEvaluationComplete s

/-- PGF_SNAPSHOT (R349). -/
def execPgfSnapshot (s : State) : Host.Outcome State Fault Refusal :=
  act pgfSnapshot s

/-- TOKEN_COUNTS_READ (R343). -/
def execTokenCountsRead (s : State) : Host.Outcome State Fault Refusal :=
  act tokenCountsRead s

/-- SCREEN_WRITE (R320). -/
def execScreenWrite (n : Fin 4) (i : Fin 8) (bs : List Byte) (s : State) : Host.Outcome State Fault Refusal :=
  act (screenWrite n i bs) s

/-- SCREEN_ARM (R321). -/
def execScreenArm (n : Fin 4) (s : State) : Host.Outcome State Fault Refusal :=
  act (screenArm n) s

/-- SCREEN_CANCEL (R321). -/
def execScreenCancel (n : Fin 4) (s : State) : Host.Outcome State Fault Refusal :=
  act (screenCancel n) s

/-- PLANE_CODED (R389). -/
def execPlaneCoded (s : State) : Host.Outcome State Fault Refusal :=
  act planeCoded s

/-- BAND_DECODE (R380). -/
def execBandDecode (n : Fin 4) (s : State) : Host.Outcome State Fault Refusal :=
  act (bandDecode n) s

end Sys2Proof.Machine
end

