-- ==== Sys2Proof/Machine/ExecLoop.lean ====
section
/-! DEFINITION. Machine/ExecLoop.lean: the meanings of the commands of Teff, high voltage and the fuser, one for each
row of the table. -/
namespace Sys2Proof.Machine

/-- SLOT_TIMER (R756). -/
def execSlotTimer (n : Fin 256) (y : Int) (s : State) : Host.Outcome State Fault Refusal :=
  act (slotTimer n y) s

/-- SLOT_TRIGGER (R758). -/
def execSlotTrigger (n : Fin 256) (y : Int) (stale : Bool) (late : Bool) (s : State) : Host.Outcome State Fault Refusal :=
  act (slotTrigger n y stale late) s

/-- SLOT_UPDATE (R769). -/
def execSlotUpdate (l : Fin 4) (fault : Bool) (s : State) : Host.Outcome State Fault Refusal :=
  act (slotUpdateAll l fault) s

/-- RELOCATION_DONE (R780). -/
def execRelocationDone (s : State) : Host.Outcome State Fault Refusal :=
  act relocationDone s

/-- COEF_APPLY_ARM (R776). -/
def execCoefApplyArm (w : Fin 4) (s : State) : Host.Outcome State Fault Refusal :=
  act (coefApplyArm w) s

/-- COEF_APPLY_CANCEL (R776). -/
def execCoefApplyCancel (s : State) : Host.Outcome State Fault Refusal :=
  act coefApplyCancel s

/-- COEF_APPLIED (R777). -/
def execCoefApplied (s : State) : Host.Outcome State Fault Refusal :=
  act coefApplied s

/-- LANE_EVACUATE (R782). -/
def execLaneEvacuate (l : Fin 4) (s : State) : Host.Outcome State Fault Refusal :=
  act (laneEvacuate l) s

/-- LANE_RETURN (R782). -/
def execLaneReturn (l : Fin 4) (s : State) : Host.Outcome State Fault Refusal :=
  act (laneReturn l) s

/-- LANE_SELF_TEST (R782). -/
def execLaneSelfTest (l : Fin 4) (s : State) : Host.Outcome State Fault Refusal :=
  act (laneSelfTest l) s

/-- LANE_SELF_TEST_DONE (R782). -/
def execLaneSelfTestDone (l : Fin 4) (pass : Bool) (s : State) : Host.Outcome State Fault Refusal :=
  act (laneSelfTestDone l pass) s

/-- SLOT_MOVE (R782). -/
def execSlotMove (n : Fin 256) (l : Fin 4) (s : State) : Host.Outcome State Fault Refusal :=
  act (slotMove n l) s

/-- HV_PWM_PERIOD (R800). -/
def execHvPwmPeriod (k : Fin 16) (c : BitVec 12) (s : State) : Host.Outcome State Fault Refusal :=
  act (hvPwmPeriod k c.toNat) s

/-- HV_TRIP_CLEAR (R813). -/
def execHvTripClear (k : Fin 16) (s : State) : Host.Outcome State Fault Refusal :=
  act (hvTripClear k) s

/-- HV_TABLE_ARM (R834). -/
def execHvTableArm (s : State) : Host.Outcome State Fault Refusal :=
  act hvTableArm s

/-- HV_TABLE_CANCEL (R834). -/
def execHvTableCancel (s : State) : Host.Outcome State Fault Refusal :=
  act hvTableCancel s

/-- TH_CONVERSION (R815). -/
def execThConversion (j : Fin 8) (c : BitVec 12) (s : State) : Host.Outcome State Fault Refusal :=
  act (thConversion j c.toNat) s

/-- CUT_COMPARE (R817). -/
def execCutCompare (codes : List (BitVec 12)) (s : State) : Host.Outcome State Fault Refusal :=
  act (cutCompare (codes.map (·.toNat))) s

/-- CUT_CLEAR (R821). -/
def execCutClear (s : State) : Host.Outcome State Fault Refusal :=
  act cutClear s

/-- FUS_TABLE_ARM (R834). -/
def execFusTableArm (s : State) : Host.Outcome State Fault Refusal :=
  act fusTableArm s

/-- FUS_TABLE_CANCEL (R834). -/
def execFusTableCancel (s : State) : Host.Outcome State Fault Refusal :=
  act fusTableCancel s

/-- CUT_FORCE (R822). -/
def execCutForce (s : State) : Host.Outcome State Fault Refusal :=
  act cutForce s

/-- TRIGGER_PULSE_END (R828). -/
def execTriggerPulseEnd (k : Fin 4) (s : State) : Host.Outcome State Fault Refusal :=
  act (triggerPulseEnd k) s

end Sys2Proof.Machine
end

