-- ==== Sys2Proof/Machine/ExecMotion.lean ====
section
/-! DEFINITION. Machine/ExecMotion.lean: the meanings of the commands of the paper path, one for each row of the table.
-/
namespace Sys2Proof.Machine

/-- MOVE_ABSOLUTE (R634). -/
def execMoveAbsolute (k : Fin 12) (queue : Bool) (ien : Bool) (s : State) : Host.Outcome State Fault Refusal :=
  act (moveAbsolute k queue ien) s

/-- MOVE_RELATIVE (R634). -/
def execMoveRelative (k : Fin 12) (queue : Bool) (ien : Bool) (s : State) : Host.Outcome State Fault Refusal :=
  act (moveRelative k queue ien) s

/-- VELOCITY_POSITIVE (R629). -/
def execVelocityPositive (k : Fin 12) (queue : Bool) (ien : Bool) (s : State) : Host.Outcome State Fault Refusal :=
  act (velocityPositive k queue ien) s

/-- VELOCITY_NEGATIVE (R629). -/
def execVelocityNegative (k : Fin 12) (queue : Bool) (ien : Bool) (s : State) : Host.Outcome State Fault Refusal :=
  act (velocityNegative k queue ien) s

/-- STOP (R637). -/
def execStop (k : Fin 12) (s : State) : Host.Outcome State Fault Refusal :=
  act (stop k) s

/-- QUICK_STOP (R637). -/
def execQuickStop (k : Fin 12) (s : State) : Host.Outcome State Fault Refusal :=
  act (quickStop k) s

/-- HOME (R647). -/
def execHome (k : Fin 12) (s : State) : Host.Outcome State Fault Refusal :=
  act (home k) s

/-- SET_POS (R622). -/
def execSetPos (k : Fin 12) (s : State) : Host.Outcome State Fault Refusal :=
  act (setPos k) s

/-- AXIS_FAULT_CLEAR (R683). -/
def execAxisFaultClear (k : Fin 12) (s : State) : Host.Outcome State Fault Refusal :=
  act (axisFaultClear k) s

/-- MICROSTEP (R624). -/
def execMicrostep (k : Fin 12) (s : State) : Host.Outcome State Fault Refusal :=
  act (microstep k) s

/-- SERVO_EVALUATION (R627). -/
def execServoEvaluation (k : Fin 12) (s : State) : Host.Outcome State Fault Refusal :=
  act (servoEvaluation k) s

/-- HOLD_DELAY_EXPIRY (R641). -/
def execHoldDelayExpiry (k : Fin 12) (s : State) : Host.Outcome State Fault Refusal :=
  act (holdDelayExpiry k) s

/-- DIN_CHANGE (R644). -/
def execDinChange (i : Fin 32) (raw : Bool) (s : State) : Host.Outcome State Fault Refusal :=
  act (dinChange i raw) s

/-- DIN_DEBOUNCED (R643). -/
def execDinDebounced (i : Fin 32) (s : State) : Host.Outcome State Fault Refusal :=
  act (dinDebounced i) s

/-- CLEAR_JAM (R666). -/
def execClearJam (s : State) : Host.Outcome State Fault Refusal :=
  act clearJam s

/-- MOT_SNAPSHOT (R673). -/
def execMotSnapshot (byRead : Bool) (s : State) : Host.Outcome State Fault Refusal :=
  act (motSnapshot byRead) s

/-- MICROSTEP_TABLE_APPLY (R642). -/
def execMicrostepTableApply (s : State) : Host.Outcome State Fault Refusal :=
  act microstepTableApply s

end Sys2Proof.Machine
end

