-- ==== Sys2Proof/Machine/ExecPins.lean ====
section
/-! DEFINITION. Machine/ExecPins.lean: the meanings of the commands of the conditions of the pins that stand last in the
table, one for each row of the table. -/
namespace Sys2Proof.Machine

/-- PLL_LOCK (R266). -/
def execPllLock (n : Fin 4) (s : State) : Host.Outcome State Fault Refusal :=
  act (pllLock n) s

/-- INTERLOCK_REASSERT (R272). -/
def execInterlockReassert (line : Fin 5) (s : State) : Host.Outcome State Fault Refusal :=
  act (interlockReassert line) s

/-- PCIE_LINK (R960). -/
def execPcieLink (up : Bool) (speed : Nat) (width : Nat) (s : State) : Host.Outcome State Fault Refusal :=
  act (pcieLink up speed width) s

/-- COMPLETION_TIMEOUT (R916). -/
def execCompletionTimeout (fetch : Bool) (q : Fin 16) (s : State) : Host.Outcome State Fault Refusal :=
  act (completionTimeout fetch q) s

/-- ENCODER_COUNT (R656). -/
def execEncoderCount (e : Fin 12) (d : Int) (s : State) : Host.Outcome State Fault Refusal :=
  act (encoderCount e d) s

/-- PA_FLT_N_DEASSERT (R522). -/
def execPaFltNDeassert (s : State) : Host.Outcome State Fault Refusal :=
  act paFltNDeassert s

/-- AON_POWER_REMOVED (R1152). -/
def execAonPowerRemoved (phase : Nat) (s : State) : Host.Outcome State Fault Refusal :=
  act (aonPowerRemoved phase) s

/-- PTP_ANNOUNCE (R188). -/
def execPtpAnnounce (domain : BitVec 8) (priority1 : BitVec 8) (clockClass : BitVec 8) (accuracy : BitVec 8)
    (variance : BitVec 16) (priority2 : BitVec 8) (identity : BitVec 64)
    (s : State) : Host.Outcome State Fault Refusal :=
  act (ptpAnnounce domain.toNat {
    priority1 := priority1.toNat, clockClass := clockClass.toNat, accuracy := accuracy.toNat, variance := variance.toNat,
    priority2 := priority2.toNat, identity := identity.toNat }) s

/-- GATE_SUPPLY_RESTORED (R738). -/
def execGateSupplyRestored (s : State) : Host.Outcome State Fault Refusal :=
  act gateSupplyRestored s

/-- RECORD_DIE_FAULT (R1103). -/
def execRecordDieFault (s : State) : Host.Outcome State Fault Refusal :=
  act recordDieFault s

end Sys2Proof.Machine
end

