-- ==== Sys2Proof/Machine/ExecPower.lean ====
section
/-! DEFINITION. Machine/ExecPower.lean: the meanings of the commands of power and thermal, one for each row of the
table. -/
namespace Sys2Proof.Machine

/-- DOMAIN_REQUEST (R982). -/
def execDomainRequest (d : Fin 8) (st : Fin 4) (s : State) : Host.Outcome State Fault Refusal :=
  act (domainRequest d st) s

/-- DOMAIN_STEP_READY (R976). -/
def execDomainStepReady (s : State) : Host.Outcome State Fault Refusal :=
  act domainStepReady s

/-- DOMAIN_STEP_TIMEOUT (R979). -/
def execDomainStepTimeout (s : State) : Host.Outcome State Fault Refusal :=
  act domainStepTimeout s

/-- RAIL_ENABLE (R987). -/
def execRailEnable (s : State) : Host.Outcome State Fault Refusal :=
  act railEnable s

/-- RAIL_QUALIFIED (R988). -/
def execRailQualified (k : Fin 16) (s : State) : Host.Outcome State Fault Refusal :=
  act (railQualified k) s

/-- RAIL_PG_DROP (R988). -/
def execRailPgDrop (k : Fin 16) (s : State) : Host.Outcome State Fault Refusal :=
  act (railPgDrop k) s

/-- RAIL_PG_TIMEOUT (R989). -/
def execRailPgTimeout (k : Fin 16) (s : State) : Host.Outcome State Fault Refusal :=
  act (railPgTimeout k) s

/-- RAIL_FALLEN (R993). -/
def execRailFallen (k : Fin 16) (s : State) : Host.Outcome State Fault Refusal :=
  act (railFallen k) s

/-- RAIL_FALL_TIMEOUT (R994). -/
def execRailFallTimeout (k : Fin 16) (s : State) : Host.Outcome State Fault Refusal :=
  act (railFallTimeout k) s

/-- RAIL_LOST (R995). -/
def execRailLost (k : Fin 16) (s : State) : Host.Outcome State Fault Refusal :=
  act (railLost k) s

/-- PMBUS_TRANSACTION_DONE (R1013). -/
def execPmbusTransactionDone (k : Fin 16) (ok : Bool) (s : State) : Host.Outcome State Fault Refusal :=
  act (pmbusTransactionDone k ok) s

/-- PMBUS_ALERT (R1014). -/
def execPmbusAlert (addr : BitVec 7) (word : BitVec 16) (s : State) : Host.Outcome State Fault Refusal :=
  act (pmbusAlert addr.toNat word.toNat) s

/-- OFFMIN_EXPIRY (R998). -/
def execOffminExpiry (supply : Bool) (s : State) : Host.Outcome State Fault Refusal :=
  act (offminExpiry supply) s

/-- POWER_LOSS (R1002). -/
def execPowerLoss (k : Fin 16) (s : State) : Host.Outcome State Fault Refusal :=
  act (powerLoss k) s

/-- POWER_LOSS_RAIL_STEP (R1002). -/
def execPowerLossRailStep (s : State) : Host.Outcome State Fault Refusal :=
  act powerLossRailStep s

/-- RST_IN (R1009). -/
def execRstIn (s : State) : Host.Outcome State Fault Refusal :=
  act rstIn s

/-- RSTO_STRETCH_EXPIRY (R1011). -/
def execRstoStretchExpiry (k : Fin 4) (s : State) : Host.Outcome State Fault Refusal :=
  act (rstoStretchExpiry k) s

/-- HK_ROUND (R1015). -/
def execHkRound (codes : List (BitVec 12)) (dies : List Int) (supplies : List Int) (failed : BitVec 12)
    (s : State) : Host.Outcome State Fault Refusal :=
  act (hkRound (codes.map (·.toNat)) dies supplies failed) s

/-- THERMAL_SHUTDOWN (R1024). -/
def execThermalShutdown (i : Fin 12) (s : State) : Host.Outcome State Fault Refusal :=
  act (thermalShutdown i) s

/-- HK_LIN_APPLY (R1019). -/
def execHkLinApply (s : State) : Host.Outcome State Fault Refusal :=
  act hkLinApply s

end Sys2Proof.Machine
end

