-- ==== Sys2Proof/Machine/ExecStart.lean ====
section
/-! DEFINITION. Machine/ExecStart.lean: the meanings of the commands of start-up and update, one for each row of the
table. -/
namespace Sys2Proof.Machine

/-- BOOT_STEP_DONE (R1111). -/
def execBootStepDone (n : Fin 16) (ok : Bool) (inst : Nat) (cause : Nat) (us : Nat) (arg : Nat)
    (s : State) : Host.Outcome State Fault Refusal :=
  act (bootStepDone n ok inst cause us arg) s

/-- RUN_STEP (R1125). -/
def execRunStep (od : Bool) (n : BitVec 8) (s : State) : Host.Outcome State Fault Refusal :=
  act (runStep od n) s

/-- CLEAR_MARKS (R1120). -/
def execClearMarks (od : Bool) (mask : BitVec 16) (s : State) : Host.Outcome State Fault Refusal :=
  act (clearMarks od mask) s

/-- ACTIVATE (R1132). -/
def execActivate (s : State) : Host.Outcome State Fault Refusal :=
  act activate s

/-- CONFIRM (R1137). -/
def execConfirm (s : State) : Host.Outcome State Fault Refusal :=
  act confirm s

/-- REVERT (R1138). -/
def execRevert (s : State) : Host.Outcome State Fault Refusal :=
  act revert s

/-- HANDOVER_DONE (R1133). -/
def execHandoverDone (s : State) : Host.Outcome State Fault Refusal :=
  act handoverDone s

/-- PAIR_RELOAD_DONE (R1133). -/
def execPairReloadDone (b : Bool) (s : State) : Host.Outcome State Fault Refusal :=
  act (pairReloadDone (pairOf b)) s

/-- TRIAL_TIMEOUT (R1137). -/
def execTrialTimeout (s : State) : Host.Outcome State Fault Refusal :=
  act trialTimeout s

/-- HANDBACK (R1140). -/
def execHandback (v : BitVec 8) (s : State) : Host.Outcome State Fault Refusal :=
  act (handback v) s

end Sys2Proof.Machine
end

