-- ==== Sys2Proof/Machine/ExecTime.lean ====
section
/-! DEFINITION. Machine/ExecTime.lean: the meanings of the commands of the timebase, one for each row of the table. -/
namespace Sys2Proof.Machine

/-- PREDICTION_TICK (R138). -/
def execPredictionTick (pins : List Int) (s : State) : Host.Outcome State Fault Refusal :=
  act (predictionTick pins) s

/-- INDEX_EDGE (R142). -/
def execIndexEdge (k : Fin 24) (step : Fin 64) (width : Nat) (reverse : Bool) (zero : Bool) (h : Option StripeHeader)
    (s : State) : Host.Outcome State Fault Refusal :=
  act (indexEdgeAll k step width reverse zero h) s

/-- INDEX_MISS (R146). -/
def execIndexMiss (k : Fin 24) (s : State) : Host.Outcome State Fault Refusal :=
  act (indexMissAll k) s

/-- AXIS_CFG_WRITE (R1178). -/
def execAxisCfgWrite (k : Fin 24) (which : Fin 5) (v : Word) (s : State) : Host.Outcome State Fault Refusal :=
  act (axisWord k which v) s

/-- SWAP_ARM (R172). -/
def execSwapArm (axis : BitVec 5) (atTurn : Bool) (s : State) : Host.Outcome State Fault Refusal :=
  act (swapArm axis.toNat atTurn) s

/-- SWAP_CANCEL (R196). -/
def execSwapCancel (s : State) : Host.Outcome State Fault Refusal :=
  act swapCancel s

/-- ENTRY_WRITE (R167). -/
def execEntryWrite (bank : Fin 2) (index : BitVec 12) (w0 : Word) (w1 : Word) (w2 : Word) (w3 : Word)
    (s : State) : Host.Outcome State Fault Refusal :=
  act (entryWrite bank index.toNat { w0 := w0, w1 := w1, w2 := w2, w3 := w3 }) s

/-- ENTRY_READ (R199). -/
def execEntryRead (bank : Fin 2) (index : BitVec 12) (s : State) : Host.Outcome State Fault Refusal :=
  act (entryRead bank index.toNat) s

/-- BANK_WRITE (R168). -/
def execBankWrite (bank : Fin 2) (bs : List Byte) (s : State) : Host.Outcome State Fault Refusal :=
  act (bankWrite bank bs) s

/-- GAIN_COMMIT (R204). -/
def execGainCommit (k : Fin 24) (v : Word) (s : State) : Host.Outcome State Fault Refusal :=
  act (gainCommit k v) s

/-- SNAP_REQ (R191). -/
def execSnapReq (hold : Bool) (s : State) : Host.Outcome State Fault Refusal :=
  act (snapReq hold) s

/-- SNAPSHOT_READ (R193). -/
def execSnapshotRead (s : State) : Host.Outcome State Fault Refusal :=
  act snapshotRead s

/-- DEVICE_TIME_TICK (R177). -/
def execDeviceTimeTick (s : State) : Host.Outcome State Fault Refusal :=
  act deviceTimeTick s

/-- PTP_SYNC (R180). -/
def execPtpSync (offset : Int) (rate : Word) (s : State) : Host.Outcome State Fault Refusal :=
  act (ptpSync offset rate) s

/-- SYNC_TIMEOUT (R183). -/
def execSyncTimeout (s : State) : Host.Outcome State Fault Refusal :=
  act syncTimeout s

/-- HOLDOVER_LIMIT (R184). -/
def execHoldoverLimit (s : State) : Host.Outcome State Fault Refusal :=
  act holdoverLimit s

/-- TIME_STEP (R187). -/
def execTimeStep (hi : Word) (s : State) : Host.Outcome State Fault Refusal :=
  act (timeStep hi) s

/-- PTP_PORT_FAILOVER (R189). -/
def execPtpPortFailover (s : State) : Host.Outcome State Fault Refusal :=
  act ptpPortFailover s

end Sys2Proof.Machine
end

