-- ==== Sys2Proof/Machine/Dispatch.lean ====
section
/-! DEFINITION. Machine/Dispatch.lean: one arm for each command. -/
namespace Sys2Proof.Machine

def exec (i : Instr) (s : State) : Host.Outcome State Fault Refusal :=
  match i with
  | .registerWrite off be v => Sys2Proof.Machine.execRegisterWrite off be v s
  | .latchedLoRead off => Sys2Proof.Machine.execLatchedLoRead off s
  | .axisFracRead k => Sys2Proof.Machine.execAxisFracRead k s
  | .tokenRecordRead k => Sys2Proof.Machine.execTokenRecordRead k s
  | .sampleLinkPacket ok slots => Sys2Proof.Machine.execSampleLinkPacket ok slots s
  | .lockstepMismatch b => Sys2Proof.Machine.execLockstepMismatch b s
  | .pairRejoin b => Sys2Proof.Machine.execPairRejoin b s
  | .engineFirmwareCycle => Sys2Proof.Machine.execEngineFirmwareCycle s
  | .modeRequest od v => Sys2Proof.Machine.execModeRequest od v s
  | .modeTransitionComplete => Sys2Proof.Machine.execModeTransitionComplete s
  | .readyTimeout => Sys2Proof.Machine.execReadyTimeout s
  | .printLingerExpiry => Sys2Proof.Machine.execPrintLingerExpiry s
  | .safeRunoutLimit => Sys2Proof.Machine.execSafeRunoutLimit s
  | .safeSettled => Sys2Proof.Machine.execSafeSettled s
  | .safeAck od => Sys2Proof.Machine.execSafeAck od s
  | .aonPowerApplied => Sys2Proof.Machine.execAonPowerApplied s
  | .pbShortPress => Sys2Proof.Machine.execPbShortPress s
  | .pbLongPress => Sys2Proof.Machine.execPbLongPress s
  | .wakeN => Sys2Proof.Machine.execWakeN s
  | .smbusAddressMatch => Sys2Proof.Machine.execSmbusAddressMatch s
  | .predictionTick pins => Sys2Proof.Machine.execPredictionTick pins s
  | .indexEdge k step width reverse zero h => Sys2Proof.Machine.execIndexEdge k step width reverse zero h s
  | .indexMiss k => Sys2Proof.Machine.execIndexMiss k s
  | .axisCfgWrite k which v => Sys2Proof.Machine.execAxisCfgWrite k which v s
  | .swapArm axis atTurn => Sys2Proof.Machine.execSwapArm axis atTurn s
  | .swapCancel => Sys2Proof.Machine.execSwapCancel s
  | .entryWrite bank index w0 w1 w2 w3 => Sys2Proof.Machine.execEntryWrite bank index w0 w1 w2 w3 s
  | .entryRead bank index => Sys2Proof.Machine.execEntryRead bank index s
  | .bankWrite bank bs => Sys2Proof.Machine.execBankWrite bank bs s
  | .gainCommit k v => Sys2Proof.Machine.execGainCommit k v s
  | .snapReq hold => Sys2Proof.Machine.execSnapReq hold s
  | .snapshotRead => Sys2Proof.Machine.execSnapshotRead s
  | .deviceTimeTick => Sys2Proof.Machine.execDeviceTimeTick s
  | .ptpSync offset rate => Sys2Proof.Machine.execPtpSync offset rate s
  | .syncTimeout => Sys2Proof.Machine.execSyncTimeout s
  | .holdoverLimit => Sys2Proof.Machine.execHoldoverLimit s
  | .timeStep hi => Sys2Proof.Machine.execTimeStep hi s
  | .ptpPortFailover => Sys2Proof.Machine.execPtpPortFailover s
  | .lineEnd n => Sys2Proof.Machine.execLineEnd n s
  | .apcSequenceStart n fits => Sys2Proof.Machine.execApcSequenceStart n fits s
  | .apcSample n codes => Sys2Proof.Machine.execApcSample n codes s
  | .bdWindow n opens => Sys2Proof.Machine.execBdWindow n opens s
  | .ilkDeassert line short => Sys2Proof.Machine.execIlkDeassert line short s
  | .rearm n => Sys2Proof.Machine.execRearm n s
  | .stationDisable n => Sys2Proof.Machine.execStationDisable n s
  | .stationEnable n => Sys2Proof.Machine.execStationEnable n s
  | .readinessLoss n cause => Sys2Proof.Machine.execReadinessLoss n cause s
  | .beamCompliance n => Sys2Proof.Machine.execBeamCompliance n s
  | .tableGo n whn => Sys2Proof.Machine.execTableGo n whn s
  | .tableCancel n => Sys2Proof.Machine.execTableCancel n s
  | .tokenAccept k => Sys2Proof.Machine.execTokenAccept k s
  | .tokenArm k front back => Sys2Proof.Machine.execTokenArm k front back s
  | .tokenDisarm k => Sys2Proof.Machine.execTokenDisarm k s
  | .tokenRejectPolicy k => Sys2Proof.Machine.execTokenRejectPolicy k s
  | .pickRequest k front back => Sys2Proof.Machine.execPickRequest k front back s
  | .gateEvaluationComplete => Sys2Proof.Machine.execGateEvaluationComplete s
  | .pgfSnapshot => Sys2Proof.Machine.execPgfSnapshot s
  | .tokenCountsRead => Sys2Proof.Machine.execTokenCountsRead s
  | .screenWrite n ix bs => Sys2Proof.Machine.execScreenWrite n ix bs s
  | .screenArm n => Sys2Proof.Machine.execScreenArm n s
  | .screenCancel n => Sys2Proof.Machine.execScreenCancel n s
  | .planeCoded => Sys2Proof.Machine.execPlaneCoded s
  | .bandDecode n => Sys2Proof.Machine.execBandDecode n s
  | .creditGrant => Sys2Proof.Machine.execCreditGrant s
  | .allocComplete => Sys2Proof.Machine.execAllocComplete s
  | .transitArrive f => Sys2Proof.Machine.execTransitArrive f s
  | .pageoutWriteComplete f ok => Sys2Proof.Machine.execPageoutWriteComplete f ok s
  | .shfSnapshot => Sys2Proof.Machine.execShfSnapshot s
  | .booksRead => Sys2Proof.Machine.execBooksRead s
  | .dramUncorrectable f o => Sys2Proof.Machine.execDramUncorrectable f o s
  | .shfCredit pool => Sys2Proof.Machine.execShfCredit pool s
  | .shfReturn pool => Sys2Proof.Machine.execShfReturn pool s
  | .shfAllocate pool => Sys2Proof.Machine.execShfAllocate pool s
  | .shfFree pool => Sys2Proof.Machine.execShfFree pool s
  | .shfRetire pool => Sys2Proof.Machine.execShfRetire pool s
  | .poolBudgetWrite p v => Sys2Proof.Machine.execPoolBudgetWrite p v s
  | .movStart k ctrl => Sys2Proof.Machine.execMovStart k ctrl s
  | .movChannelRun => Sys2Proof.Machine.execMovChannelRun s
  | .movChannelDone => Sys2Proof.Machine.execMovChannelDone s
  | .movAbort mask blocks => Sys2Proof.Machine.execMovAbort mask blocks s
  | .nonprintPieceStart psi => Sys2Proof.Machine.execNonprintPieceStart psi s
  | .planRunStart psi => Sys2Proof.Machine.execPlanRunStart psi s
  | .sectorReadComplete p => Sys2Proof.Machine.execSectorReadComplete p s
  | .relaxedReread p => Sys2Proof.Machine.execRelaxedReread p s
  | .ladderStep p => Sys2Proof.Machine.execLadderStep p s
  | .sectorWrite data bits us => Sys2Proof.Machine.execSectorWrite data bits us s
  | .sectorRewrite data bits us => Sys2Proof.Machine.execSectorRewrite data bits us s
  | .rewriteTimeout => Sys2Proof.Machine.execRewriteTimeout s
  | .preampFault => Sys2Proof.Machine.execPreampFault s
  | .preampManualFrame read addr data => Sys2Proof.Machine.execPreampManualFrame read addr data s
  | .preampFrameDone data => Sys2Proof.Machine.execPreampFrameDone data s
  | .headSelect h => Sys2Proof.Machine.execHeadSelect h s
  | .fhCalStart head zones => Sys2Proof.Machine.execFhCalStart head zones s
  | .fhCalZoneStep v => Sys2Proof.Machine.execFhCalZoneStep v s
  | .touchdown v => Sys2Proof.Machine.execTouchdown v s
  | .glistClear => Sys2Proof.Machine.execGlistClear s
  | .servoWindow slots agc h => Sys2Proof.Machine.execServoWindow slots agc h s
  | .seek head => Sys2Proof.Machine.execSeek head s
  | .park => Sys2Proof.Machine.execPark s
  | .load => Sys2Proof.Machine.execLoad s
  | .seekProfileDone => Sys2Proof.Machine.execSeekProfileDone s
  | .seekTimeout => Sys2Proof.Machine.execSeekTimeout s
  | .loadTimeout => Sys2Proof.Machine.execLoadTimeout s
  | .parkLatched => Sys2Proof.Machine.execParkLatched s
  | .parkTimeout => Sys2Proof.Machine.execParkTimeout s
  | .retractFire => Sys2Proof.Machine.execRetractFire s
  | .retractComplete => Sys2Proof.Machine.execRetractComplete s
  | .vcmFault => Sys2Proof.Machine.execVcmFault s
  | .spnBridgeFault => Sys2Proof.Machine.execSpnBridgeFault s
  | .writeInhibitCause ix => Sys2Proof.Machine.execWriteInhibitCause ix s
  | .shockAssert => Sys2Proof.Machine.execShockAssert s
  | .shockHoldExpiry => Sys2Proof.Machine.execShockHoldExpiry s
  | .supplyLow mv => Sys2Proof.Machine.execSupplyLow mv s
  | .supplyRestored mv => Sys2Proof.Machine.execSupplyRestored mv s
  | .rpmSetWrite v => Sys2Proof.Machine.execRpmSetWrite v s
  | .spindleStart sector => Sys2Proof.Machine.execSpindleStart sector s
  | .spindleHandover ms => Sys2Proof.Machine.execSpindleHandover ms s
  | .spindleAtSpeed revs => Sys2Proof.Machine.execSpindleAtSpeed revs s
  | .spindleAttemptFailed cause degrees => Sys2Proof.Machine.execSpindleAttemptFailed cause degrees s
  | .spinupTimeout => Sys2Proof.Machine.execSpinupTimeout s
  | .spindleSpeedFault mrpm => Sys2Proof.Machine.execSpindleSpeedFault mrpm s
  | .spindleRotorLoss => Sys2Proof.Machine.execSpindleRotorLoss s
  | .spindleCatch rpm ok => Sys2Proof.Machine.execSpindleCatch rpm ok s
  | .rotorStopped who => Sys2Proof.Machine.execRotorStopped who s
  | .retractFlagClear => Sys2Proof.Machine.execRetractFlagClear s
  | .moveAbsolute k queue ien => Sys2Proof.Machine.execMoveAbsolute k queue ien s
  | .moveRelative k queue ien => Sys2Proof.Machine.execMoveRelative k queue ien s
  | .velocityPositive k queue ien => Sys2Proof.Machine.execVelocityPositive k queue ien s
  | .velocityNegative k queue ien => Sys2Proof.Machine.execVelocityNegative k queue ien s
  | .stop k => Sys2Proof.Machine.execStop k s
  | .quickStop k => Sys2Proof.Machine.execQuickStop k s
  | .home k => Sys2Proof.Machine.execHome k s
  | .setPos k => Sys2Proof.Machine.execSetPos k s
  | .axisFaultClear k => Sys2Proof.Machine.execAxisFaultClear k s
  | .microstep k => Sys2Proof.Machine.execMicrostep k s
  | .servoEvaluation k => Sys2Proof.Machine.execServoEvaluation k s
  | .holdDelayExpiry k => Sys2Proof.Machine.execHoldDelayExpiry k s
  | .dinChange ix raw => Sys2Proof.Machine.execDinChange ix raw s
  | .dinDebounced ix => Sys2Proof.Machine.execDinDebounced ix s
  | .clearJam => Sys2Proof.Machine.execClearJam s
  | .motSnapshot byRead => Sys2Proof.Machine.execMotSnapshot byRead s
  | .microstepTableApply => Sys2Proof.Machine.execMicrostepTableApply s
  | .pwmPeriod u convs sector => Sys2Proof.Machine.execPwmPeriod u convs sector s
  | .unitStart u => Sys2Proof.Machine.execUnitStart u s
  | .unitStop u => Sys2Proof.Machine.execUnitStop u s
  | .unitCoast u => Sys2Proof.Machine.execUnitCoast u s
  | .unitFaultClear u => Sys2Proof.Machine.execUnitFaultClear u s
  | .advanceTableApply u => Sys2Proof.Machine.execAdvanceTableApply u s
  | .zeroCrossing u tick => Sys2Proof.Machine.execZeroCrossing u tick s
  | .commutation u => Sys2Proof.Machine.execCommutation u s
  | .unitAttemptFailed u cause degrees => Sys2Proof.Machine.execUnitAttemptFailed u cause degrees s
  | .catchTimeout u => Sys2Proof.Machine.execCatchTimeout u s
  | .vbusSample sns isns => Sys2Proof.Machine.execVbusSample sns isns s
  | .chopperCheck elapsed isns => Sys2Proof.Machine.execChopperCheck elapsed isns s
  | .busUndervoltage => Sys2Proof.Machine.execBusUndervoltage s
  | .busHardCut => Sys2Proof.Machine.execBusHardCut s
  | .chopFaultClear => Sys2Proof.Machine.execChopFaultClear s
  | .hardCutClear => Sys2Proof.Machine.execHardCutClear s
  | .overcurrent u ma desat => Sys2Proof.Machine.execOvercurrent u ma desat s
  | .gateSupply => Sys2Proof.Machine.execGateSupply s
  | .slotTimer n y => Sys2Proof.Machine.execSlotTimer n y s
  | .slotTrigger n y stale late => Sys2Proof.Machine.execSlotTrigger n y stale late s
  | .slotUpdate l fault => Sys2Proof.Machine.execSlotUpdate l fault s
  | .relocationDone => Sys2Proof.Machine.execRelocationDone s
  | .coefApplyArm w => Sys2Proof.Machine.execCoefApplyArm w s
  | .coefApplyCancel => Sys2Proof.Machine.execCoefApplyCancel s
  | .coefApplied => Sys2Proof.Machine.execCoefApplied s
  | .laneEvacuate l => Sys2Proof.Machine.execLaneEvacuate l s
  | .laneReturn l => Sys2Proof.Machine.execLaneReturn l s
  | .laneSelfTest l => Sys2Proof.Machine.execLaneSelfTest l s
  | .laneSelfTestDone l pass => Sys2Proof.Machine.execLaneSelfTestDone l pass s
  | .slotMove n l => Sys2Proof.Machine.execSlotMove n l s
  | .hvPwmPeriod k c => Sys2Proof.Machine.execHvPwmPeriod k c s
  | .hvTripClear k => Sys2Proof.Machine.execHvTripClear k s
  | .hvTableArm => Sys2Proof.Machine.execHvTableArm s
  | .hvTableCancel => Sys2Proof.Machine.execHvTableCancel s
  | .thConversion j c => Sys2Proof.Machine.execThConversion j c s
  | .cutCompare codes => Sys2Proof.Machine.execCutCompare codes s
  | .cutClear => Sys2Proof.Machine.execCutClear s
  | .fusTableArm => Sys2Proof.Machine.execFusTableArm s
  | .fusTableCancel => Sys2Proof.Machine.execFusTableCancel s
  | .cutForce => Sys2Proof.Machine.execCutForce s
  | .triggerPulseEnd k => Sys2Proof.Machine.execTriggerPulseEnd k s
  | .zopRead p u => Sys2Proof.Machine.execZopRead p u s
  | .zopWrite p u => Sys2Proof.Machine.execZopWrite p u s
  | .zopReadInit p u => Sys2Proof.Machine.execZopReadInit p u s
  | .zopReadSeg p u => Sys2Proof.Machine.execZopReadSeg p u s
  | .zopWriteInit p u => Sys2Proof.Machine.execZopWriteInit p u s
  | .zopWriteSeg p u => Sys2Proof.Machine.execZopWriteSeg p u s
  | .zopXferAbort p u => Sys2Proof.Machine.execZopXferAbort p u s
  | .zopAtomic p u => Sys2Proof.Machine.execZopAtomic p u s
  | .zopOpen p u => Sys2Proof.Machine.execZopOpen p u s
  | .zopClose p u => Sys2Proof.Machine.execZopClose p u s
  | .zopPing p u => Sys2Proof.Machine.execZopPing p u s
  | .sessionIdleTimeout id => Sys2Proof.Machine.execSessionIdleTimeout id s
  | .xferTimeout id => Sys2Proof.Machine.execXferTimeout id s
  | .store => Sys2Proof.Machine.execStore s
  | .storeComplete => Sys2Proof.Machine.execStoreComplete s
  | .storeVoid => Sys2Proof.Machine.execStoreVoid s
  | .keyWrite admin n bs => Sys2Proof.Machine.execKeyWrite admin n bs s
  | .mailboxGo ien => Sys2Proof.Machine.execMailboxGo ien s
  | .mailboxResponse => Sys2Proof.Machine.execMailboxResponse s
  | .odRead index sub => Sys2Proof.Machine.execOdRead index sub s
  | .odWrite index sub ty bs pec => Sys2Proof.Machine.execOdWrite index sub ty bs pec s
  | .smbusPing => Sys2Proof.Machine.execSmbusPing s
  | .result => Sys2Proof.Machine.execResult s
  | .smbusStretchTimeout write index sub => Sys2Proof.Machine.execSmbusStretchTimeout write index sub s
  | .linkChange p up => Sys2Proof.Machine.execLinkChange p up s
  | .pcieReset flr => Sys2Proof.Machine.execPcieReset flr s
  | .d3hotChange d3 => Sys2Proof.Machine.execD3hotChange d3 s
  | .bar2Access off n wr => Sys2Proof.Machine.execBar2Access off n wr s
  | .b2BaseWrite v => Sys2Proof.Machine.execB2BaseWrite v s
  | .queueEnable ev ix cfg => Sys2Proof.Machine.execQueueEnable ev ix cfg s
  | .queueDisable ev ix cfg => Sys2Proof.Machine.execQueueDisable ev ix cfg s
  | .sqDoorbell q v => Sys2Proof.Machine.execSqDoorbell q v s
  | .cqDoorbell q v => Sys2Proof.Machine.execCqDoorbell q v s
  | .evqDoorbell e v => Sys2Proof.Machine.execEvqDoorbell e v s
  | .descriptorFetch bytes => Sys2Proof.Machine.execDescriptorFetch bytes s
  | .submitPage q table => Sys2Proof.Machine.execSubmitPage q table s
  | .pageDataReadDone q data => Sys2Proof.Machine.execPageDataReadDone q data s
  | .cancelPage q => Sys2Proof.Machine.execCancelPage q s
  | .read q segs => Sys2Proof.Machine.execRead q segs s
  | .write q segs => Sys2Proof.Machine.execWrite q segs s
  | .blockCommandDone q failed => Sys2Proof.Machine.execBlockCommandDone q failed s
  | .readJournal q segs moved => Sys2Proof.Machine.execReadJournal q segs moved s
  | .ackJournal q v => Sys2Proof.Machine.execAckJournal q v s
  | .journalSectorWrite => Sys2Proof.Machine.execJournalSectorWrite s
  | .journalFormat => Sys2Proof.Machine.execJournalFormat s
  | .domainRequest d st => Sys2Proof.Machine.execDomainRequest d st s
  | .domainStepReady => Sys2Proof.Machine.execDomainStepReady s
  | .domainStepTimeout => Sys2Proof.Machine.execDomainStepTimeout s
  | .railEnable => Sys2Proof.Machine.execRailEnable s
  | .railQualified k => Sys2Proof.Machine.execRailQualified k s
  | .railPgDrop k => Sys2Proof.Machine.execRailPgDrop k s
  | .railPgTimeout k => Sys2Proof.Machine.execRailPgTimeout k s
  | .railFallen k => Sys2Proof.Machine.execRailFallen k s
  | .railFallTimeout k => Sys2Proof.Machine.execRailFallTimeout k s
  | .railLost k => Sys2Proof.Machine.execRailLost k s
  | .pmbusTransactionDone k ok => Sys2Proof.Machine.execPmbusTransactionDone k ok s
  | .pmbusAlert addr word => Sys2Proof.Machine.execPmbusAlert addr word s
  | .offminExpiry supply => Sys2Proof.Machine.execOffminExpiry supply s
  | .powerLoss k => Sys2Proof.Machine.execPowerLoss k s
  | .powerLossRailStep => Sys2Proof.Machine.execPowerLossRailStep s
  | .rstIn => Sys2Proof.Machine.execRstIn s
  | .rstoStretchExpiry k => Sys2Proof.Machine.execRstoStretchExpiry k s
  | .hkRound codes dies supplies failed => Sys2Proof.Machine.execHkRound codes dies supplies failed s
  | .thermalShutdown ix => Sys2Proof.Machine.execThermalShutdown ix s
  | .hkLinApply => Sys2Proof.Machine.execHkLinApply s
  | .calCommand id inst => Sys2Proof.Machine.execCalCommand id inst s
  | .calMeasurementDone id samples readback => Sys2Proof.Machine.execCalMeasurementDone id samples readback s
  | .calInterval id => Sys2Proof.Machine.execCalInterval id s
  | .calPendingStart id => Sys2Proof.Machine.execCalPendingStart id s
  | .calPendTimeout id => Sys2Proof.Machine.execCalPendTimeout id s
  | .calSwitchoverTimeout id => Sys2Proof.Machine.execCalSwitchoverTimeout id s
  | .trimFaultClear id => Sys2Proof.Machine.execTrimFaultClear id s
  | .eventForce od n v => Sys2Proof.Machine.execEventForce od n v s
  | .eventStatusClear k v => Sys2Proof.Machine.execEventStatusClear k v s
  | .errNMinwExpiry => Sys2Proof.Machine.execErrNMinwExpiry s
  | .blockResetDone src => Sys2Proof.Machine.execBlockResetDone src s
  | .chipReset => Sys2Proof.Machine.execChipReset s
  | .glumeEntryCommit good => Sys2Proof.Machine.execGlumeEntryCommit good s
  | .glumeLinkRetry works => Sys2Proof.Machine.execGlumeLinkRetry works s
  | .clearProtected admin => Sys2Proof.Machine.execClearProtected admin s
  | .note bs => Sys2Proof.Machine.execNote bs s
  | .bootStepDone n ok inst cause us arg => Sys2Proof.Machine.execBootStepDone n ok inst cause us arg s
  | .runStep od n => Sys2Proof.Machine.execRunStep od n s
  | .clearMarks od mask => Sys2Proof.Machine.execClearMarks od mask s
  | .activate => Sys2Proof.Machine.execActivate s
  | .confirm => Sys2Proof.Machine.execConfirm s
  | .revert => Sys2Proof.Machine.execRevert s
  | .handoverDone => Sys2Proof.Machine.execHandoverDone s
  | .pairReloadDone b => Sys2Proof.Machine.execPairReloadDone b s
  | .trialTimeout => Sys2Proof.Machine.execTrialTimeout s
  | .handback v => Sys2Proof.Machine.execHandback v s
  | .pllLock n => Sys2Proof.Machine.execPllLock n s
  | .interlockReassert line => Sys2Proof.Machine.execInterlockReassert line s
  | .pcieLink up speed width => Sys2Proof.Machine.execPcieLink up speed width s
  | .completionTimeout fetch q => Sys2Proof.Machine.execCompletionTimeout fetch q s
  | .encoderCount e d => Sys2Proof.Machine.execEncoderCount e d s
  | .paFltNDeassert => Sys2Proof.Machine.execPaFltNDeassert s
  | .aonPowerRemoved phase => Sys2Proof.Machine.execAonPowerRemoved phase s
  | .ptpAnnounce domain priority1 clockClass accuracy variance priority2 identity => Sys2Proof.Machine.execPtpAnnounce domain priority1 clockClass accuracy variance priority2 identity s
  | .gateSupplyRestored => Sys2Proof.Machine.execGateSupplyRestored s
  | .recordDieFault => Sys2Proof.Machine.execRecordDieFault s

end Sys2Proof.Machine
end

