-- ==== Sys2Proof/Safety.lean ====
section
/-! DEFINITION. Safety.lean: the conditions in which the claims speak of safe states, and of what a command does. -/
namespace Sys2Proof

/-- A pass whose decisions are the bits of the bytes given, with an even envelope and the signs of its detector right.
-/
def ReadPass.carries (p : ReadPass) (l : List Byte) : Prop :=
  p.bits.map (·.d) = Machine.bitsMsb l ∧ (∃ e, ∀ b ∈ p.bits, b.env = e) ∧ ∀ b ∈ p.bits, (b.llr < 0 ↔ b.d = true)

end Sys2Proof
namespace Sys2Proof.Machine

/-- ERR_N is low while anything drives it, and when nothing does it is low only in its minimum low time (R1091). -/
def State.errFollows (s : State) : Bool :=
  if s.errDriven then s.evt.errLow else s.evt.errMin || !s.evt.errLow

/-- A heater channel that may not fire has no pulse, no firing angle and no power (R798, R830). -/
def State.heatersHeld (s : State) : Bool :=
  (List.range 4).all fun k =>
    let c : FusCh := nth {} s.fus.chans k
    s.fusLive k || (!c.pulse && decide (c.due = []) && decide (c.p = 0))

/-- The outputs that the controller must hold inactive are held. -/
def State.Held (s : State) : Prop := s.errFollows = true ∧ s.heatersHeld = true

/-- The command `i` turns `s` into `t`, after which the controller goes on by itself. -/
def Does (i : Instr) (s t : State) : Prop := exec i s = .next (s.after t)

/-- Where AON is powered, the command `i` has an effect `t` that `only` gives back from the state before and from `t`:
what `only` takes from the state before is left unchanged. -/
def Within (i : Instr) (only : State → State → State) : Prop :=
  ∀ s : State, s.aonOn = true → ∃ t, Does i s t ∧ t = only s t

/-- After a command that has turned `s` into `t`, the controller has nothing to do by itself: no SAFE entry is
decided, no transition, sequence or latched request is in progress, no token has just been committed, and every
output that follows the state stands as its rule asks. -/
structure State.AtRest (s t : State) : Prop where
  power : t.aonOn = true
  noSafe : t.evt.safeReq = none
  noSkip : t.evt.safeSkip = false
  noTransit : t.sys.transit = false
  noLatched : t.sys.latched = none
  noLeave : t.sys.leave = 0
  noSteps : t.boot.running = 0
  noHeld : t.zop.smbHeld = none
  noDrain : t.sys.drain = false
  noSequence : t.pwr.seq = []
  sequenceEnded : t.pwr.seqOver = false
  noCommit : t.sys.mode = .ready → t.flying = []
  noSwitch : (t.calCh 7).run = none
  marks : t.stationMarks = t
  feeds : s.accFollows t = t
  apc : t.apcCuts = t
  polygons : t.polySeen = t
  frames : t.pageOutDue = t
  books : t.checkFrames = t
  mains : t.mainsUpdate = t
  resetOuts : t.rstoUpdate = t
  slots : ∀ n ∈ t.slotsRunning, n ∈ s.slotsRunning
  heaters : t.stopHeat = t
  errN : t.errUpdate = t

/-- A completion can go out on a queue pair at once: the link is up, in D0, nothing is due, and the CQ has room
(R914). -/
abbrev State.CanPost (s : State) (q : Nat) : Prop :=
  q < s.hq.qs.length ∧ s.hq.linkUp = true ∧ s.hq.d3 = false ∧ (s.qp q).due = [] ∧ s.cqRoom q = true

/-- From `s` to `t` a queue pair posts one completion, with the command's identifier, a status and a result (R935). -/
def Posts (s t : State) (q cid status result : Nat) : Prop :=
  ∃ e, (t.qp q).posted = (s.qp q).posted ++ [e] ∧ e.qid = q ∧ e.cpl.cid = cid ∧ e.cpl.status = status ∧
    e.cpl.result = result

/-- The block has as many of everything as the spec gives it: axes, stations, queue pairs, event queues, ports,
pools, motion axes, encoders, switch inputs, drive units, lanes, slots, high-voltage channels, heater channels and
thermistors, calibrations, domains, rails, housekeeping channels, keys and message ports (R124, R213, R404 and the
register tables). -/
def State.shaped (s : State) : Bool :=
  decide (s.culm.axes.length = 24 ∧ s.ls.length = 4 ∧ s.shf.pools.length = 8) &&
    decide (s.hq.qs.length = 16 ∧ s.hq.evqs.length = 4 ∧ s.hq.eth.length = 2) &&
    decide (s.mot.axes.length = 12 ∧ s.mot.enc.length = 12 ∧ s.mot.dins.length = 32) &&
    decide (s.drv.units.length = 24 ∧ s.teff.lanes.length = 4 ∧ s.hv.chans.length = 16) &&
    decide (s.fus.chans.length = 4 ∧ s.fus.ths.length = 8 ∧ s.thm.chans.length = 48) &&
    decide (s.cal.chans.length = 10 ∧ s.die.cal.length = 10 ∧ s.die.keys.length = 4) &&
    decide (s.pwr.doms.length = 7 ∧ s.pwr.slots.length = 16 ∧ s.zop.ports.length = 2)

/-- The canonical form of the DRAM: addresses strictly rising, and no byte that is 0, which an unlisted address reads as
(R398). -/
def Memory.wf (m : List Host.Cell) : Bool := swf (fun _ => (0 : Byte)) m

end Sys2Proof.Machine
end

