-- ==== Sys2Proof/Certificates/Slice0/Obligations.lean ====
section
/-! DEFINITION. Certificates/Slice0/Obligations.lean: the statements for the provers. `Does i s t` says that command `i`
answers a next state in `s`: `t`, and then what the controller does by itself (`State.after`). -/
open Sys2Proof Sys2Proof.Machine

/-! ## The block as a machine -/

/-- A step carries out the command at the front of the queue, with the rest of the queue left; with nothing waiting
the block idles. The queue and the idle step are the model's choice (log entry 2). -/
def Obligations.StepRunsTheFrontCommand : Prop :=
  (∀ (c : Instr) (rest : List Instr) (s : State), s.pending = c :: rest →
    step s = exec c { s with pending := rest }) ∧
  ∀ s : State, s.pending = [] → step s = .next s

/-- No command stops the block: each one, in every state, ends in a next state. The model's choice (log entry 6): no
rule of the spec stops the block. A command changes nothing in the queue of commands. Where the controller has nothing
to do by itself, a command ends in exactly the state that its own effect gives, with the queue as it was. -/
def Obligations.EveryCommandCompletes : Prop :=
  (∀ (c : Instr) (s : State), ∃ t, exec c s = .next t) ∧
  (∀ (c : Instr) (s t : State), exec c s = .next t → t.pending = s.pending) ∧
  (∀ s t : State, s.AtRest t → s.after t = { t with pending := s.pending })

/-- What every step keeps, from any state in which it holds: ERR_N is low while anything drives it and low by nothing
else but its minimum low time, and a heater channel that may not fire has no pulse, no firing angle and no power; and
the block has as many axes, stations, queues and channels as the spec gives it, which it has after reset. -/
def Obligations.StepsKeepTheOutputsHeld : Prop :=
  (∀ s t : State, s.Held → step s = .next t → t.Held) ∧
  State.reset.shaped = true ∧ ∀ s t : State, s.shaped = true → step s = .next t → t.shaped = true

/-- What reset leaves: the mode, the pairs, the cause of SAFE, the last bad access, and the identity registers. The
outputs are held in the state after reset. -/
def Obligations.ResetLeavesRegistersAndOutputs : Prop :=
  (State.reset.sys.mode = .off ∧ State.reset.sys.transit = false ∧ State.reset.sys.safeLocked = false ∧
   State.reset.sys.pairA = .active ∧ State.reset.sys.pairB = .active ∧
   State.reset.readReg 0x18 = 0x85#32 ∧ State.reset.readReg 0x20 = 0#32 ∧ State.reset.readReg 0x24 = 0#32 ∧
   State.reset.readReg 0x28 = 0#32 ∧ State.reset.readReg 0x0 = 0x77400100#32 ∧
   State.reset.readReg 0x10 = 0#32 ∧ State.reset.readReg 0x14 = 0#32) ∧
  (State.reset.Held)

/-- The identity of the sheets, FED = DELIVERED + PURGED + IN_PATH + CLEARED modulo 2^32, holds after reset, and every
step keeps it, from any state in which it holds. The identities of the token counters hold after reset, and every step
keeps them, from any state in which they hold. The counters of tokens keep the identities of R341 through every
transition of R314 (R342). -/
def Obligations.StepsKeepTheBooks : Prop :=
  (let ok (s : State) : Prop := s.mot.fed = s.mot.delivered + s.mot.purged + s.mot.inPath + s.mot.cleared
   ok State.reset ∧ ∀ s t : State, ok s → step s = .next t → ok t) ∧
  (State.reset.pgf.balanced = true ∧
   ∀ s t : State, s.pgf.balanced = true → step s = .next t → t.pgf.balanced = true) ∧
  (∀ (g : Pgf) (old new : TState), g.balanced = true →
     (old, new) ∈ [(TState.free, TState.submitted), (.delivered, .submitted), (.spoiled, .submitted), (.rejected, .submitted),
       (.submitted, .accepted), (.accepted, .armed), (.armed, .accepted), (.armed, .committed), (.submitted, .rejected),
       (.accepted, .rejected), (.armed, .rejected), (.committed, .imaged), (.committed, .spoiled), (.imaged, .spoiled),
       (.imaged, .delivered)] →
     (g.count old new).balanced = true)

/-- The DRAM keeps its canonical form: it has it after reset, and every step keeps it, from any state in which it
holds. Its bytes change by a BAR2 access, by a sector read for a block command, by a copy of the Mover that ends or
is cut off, when a frame loses its token and keeps the bytes of the plane that it held, and otherwise only by the loss
of MEM, which leaves it empty.
The stores of the model, in which an unlisted key reads as a fixed value: a write is read back, every other key is
left alone, and the canonical form is kept. A copy of the Mover between ranges of stored cells that do not meet:
every byte of the destination reads as the source did, every other stored byte is unchanged, and the stored cells
keep their canonical form (R398, R450). -/
def Obligations.StepsKeepTheMemoryForm : Prop :=
  (Memory.wf State.reset.dram = true ∧
   (∀ s t : State, Memory.wf s.dram = true → step s = .next t → Memory.wf t.dram = true) ∧
   ∀ (c : Instr) (s t : State), exec c s = .next t →
     t.dram = s.dram ∨ (t.dram = [] ∧ t.on .mem = false) ∨ c = .movChannelDone ∨
       (∃ m b, c = .movAbort m b) ∨ (∃ off n l, c = .bar2Access off n (some l)) ∨
       (∃ p, c = .sectorReadComplete p ∨ c = .relaxedReread p ∨ c = .ladderStep p) ∨
       ∃ f x, s.frame? f = some x ∧ x.owner.isSome = true ∧ ∀ y, t.frame? f = some y → y.owner = none) ∧
  (∀ (d v : Nat) (k : Nat) (l : List (Nat × Nat)), swf (fun _ => d) l = true →
     swf (fun _ => d) (sput d v k l) = true ∧ sget d k (sput d v k l) = v ∧
       ∀ j, j ≠ k → sget d j (sput d v k l) = sget d j l) ∧
  (∀ (a b n : Nat) (s : State), s.shf.frames = [] → Memory.wf s.dram = true → (a + n ≤ b ∨ b + n ≤ a) →
     Memory.wf (s.copyBytes a b n).dram = true ∧
     ∀ x, sget 0 x (s.copyBytes a b n).dram =
       if b ≤ x ∧ x < b + n then sget 0 (x - b + a) s.dram else sget 0 x s.dram)

/-! ## Registers, pairs and modes -/

/-- A BAR0 write to an unmapped offset, the first bad access since VALID was cleared, is recorded as a write with
REASON 1 and COUNT 1, and stores nothing (R46, R51, R52). A write of `SYS_EVT_IEN` stores its eight bits, in every
mode. A write of `PGF_GATE_CFG` with MARGIN at most 200 and PICK_LEAD above 0, where the Setpoints class may be
written, stores its fields; with MARGIN above 200 or PICK_LEAD at 0 it stores nothing (R66, R346, R1174). Reads that
latch: `SYS_SAFE_TIME_LO` latches the high word of the time (R123); `CULM_AXk_FRAC` latches turn count and velocity
(R197); word 0 of a token record latches words 1 to 7 (R351). Nothing else changes. Writing 1 to bits of an event
status register clears them, and leaves the other sources' bits (R1076); ERR_N goes high once nothing drives it and its
minimum low time has passed (R1091). -/
def Obligations.RegisterAccessesActOrAreDiscarded : Prop :=
  (∀ (off : BitVec 26) (be : BitVec 4) (v : Word) (s : State), s.aonOn = true →
     Block.ofOff (off.toNat / 4 * 4) = none → s.sys.badValid = false →
     ∃ t, Does (.registerWrite off be v) s t ∧ t.regs = s.regs ∧ t.sys.badValid = true ∧ t.sys.badWrite = true ∧
       t.sys.badAddr = BitVec.ofNat 32 (off.toNat / 4 * 4) ∧ t.sys.badCount = 1 ∧ t.sys.badReason = 1) ∧
  ((∀ (v : Word) (s : State), s.aonOn = true →
     Does (.registerWrite 0xC4#26 0xF#4 v) s (s.setReg 0xC4 (v &&& 0xFF#32))) ∧
   (∀ (v : Word) (s : State), s.aonOn = true → s.on .pix = true → s.mayWrite .setp = true →
     fld v 8 8 ≤ 200 → 1 ≤ fld v 16 8 →
     Does (.registerWrite 0x300004#26 0xF#4 v) s (s.setReg 0x300004 (v &&& 0x00FFFFFF#32))) ∧
   ∀ (v : Word) (s : State), s.aonOn = true → s.on .pix = true → (200 < fld v 8 8 ∨ fld v 16 8 = 0) →
     Does (.registerWrite 0x300004#26 0xF#4 v) s s) ∧
  ((∀ s : State, s.aonOn = true → ∃ t, Does (.latchedLoRead 0x2C#26) s t ∧ t = { s with latched := t.latched } ∧
     t.bar0Read 0x30 = BitVec.ofNat 32 (s.sys.safeTime.toNat / 2 ^ 32)) ∧
   (∀ (k : Fin 24) (s : State), s.aonOn = true → s.on .eng = true →
     Does (.axisFracRead k) s (s.onCulm (Culm.modAx k fun a =>
       { a with latTurn := BitVec.ofNat 32 (turnOf a.theta), latVel := velOf a.omega }))) ∧
   ∀ (k : Fin 1024) (s : State), s.aonOn = true → s.on .pix = true →
     ∃ t, Does (.tokenRecordRead k) s t ∧
       t = { s with latched := t.latched, pgf := { s.pgf with latSlot := some k.val } } ∧
       ∀ i < 7, t.bar0Read (0x310004 + 0x20 * k + 4 * i) = nth 0 (s.tok k).record (i + 1)) ∧
  ((∀ (k : Fin 24) (b : EvBank) (v : Word) (s : State), s.aonOn = true → evBanks[k.val]? = some b →
     s.badReason b.stat 0xF#4 true = 0 →
     ∃ t, Does (.eventStatusClear k v) s t ∧
       (∀ i < b.count, t.statusSrc (b.first + i) = (s.statusSrc (b.first + i) && !bitOf v i)) ∧
       ∀ j, j < b.first ∨ b.first + b.count ≤ j → t.statusSrc j = s.statusSrc j ∧ t.busySrc j = s.busySrc j) ∧
   ∀ s : State, s.aonOn = true → s.errDriven = false →
     Does .errNMinwExpiry s (s.onEvt fun e => { e with errMin := false, errLow := false }))

/-- The sample link: a good packet ends the wait for a repeat, and one that is a repeat has come late to the
slots that wait for it, whose updates count as late (R16, R762); a first failed packet awaits its repeat, and raises
nothing; a second one, for which no slot waits, raises source 6 (R37, R38). The pairs. Pair A mismatches while it
carries the engine load, long after its last rejoining and outside every update: it is in reset, pair B carries both
loads, and one failover is counted (R60). Its reset completes while pair B is in service: it rejoins as standby and
takes no load (R61); after a mismatch the time of its rejoining is noted, from which the 60 s of R62 count. The
firmware cycle writes a checkpoint of each load in service, with its time (R58). While no
pair carries the service load, dictionary commands wait and change nothing (R64). The link to the record die: the entry
at the head of the queue is committed with the next SEQ (R1094, R1095), a fault of the die is its link's fault with
source 254, and a retry that succeeds goes on with the queue (R1103). An update under way that began on pair B
takes both loads to pair A with its first handover, and the end of pair B's reload leads to its next step (R1133). The
end of a trial's time makes the new bank the active one (R1137); outside a trial it changes nothing. -/
def Obligations.LinkAndPairsRecover : Prop :=
  ((∀ (l : List (Fin 256)) (s : State), s.aonOn = true → s.sys.linkRepeat = false →
     Does (.sampleLinkPacket true l) s s) ∧
   (∀ (l : List (Fin 256)) (s : State), s.aonOn = true → s.sys.linkRepeat = true →
     ∃ t, Does (.sampleLinkPacket true l) s t ∧
       t = { s with sys := { s.sys with linkRepeat := false }, teff := t.teff } ∧
       ∀ n : Fin 256, t.ts n = if n ∈ l then
         { s.ts n with pend := (s.ts n).pend.map fun p => { p with late := true } } else s.ts n) ∧
   (∀ (l : List (Fin 256)) (s : State), s.aonOn = true → s.sys.linkRepeat = false →
     Does (.sampleLinkPacket false l) s (s.onSys fun y => { y with linkRepeat := true })) ∧
   ∀ s : State, s.aonOn = true → s.sys.linkRepeat = true →
     Does (.sampleLinkPacket false []) s
       (((s.onSys fun y => { y with linkRepeat := false }).nextInstant).raise 6)) ∧
  ((∀ s : State, s.aonOn = true → s.on .mgt = true → s.sys.pairA = .active → s.sys.pairB = .active →
     s.sys.engineOn = .a → s.rejoinedLately .a = false → s.boot.handback = none → s.boot.updState ≠ 2 →
     s.boot.trial = false →
     ∃ t, Does (.lockstepMismatch false) s t ∧ t.sys.pairA = .inReset ∧ t.sys.pairB = .active ∧ t.sys.engineOn = .b ∧
       t.sys.serviceOn = .b ∧ t.sys.failovers = satInc 255 s.sys.failovers ∧ t.regs = s.regs ∧ t.sys.mode = s.sys.mode) ∧
   (∀ s : State, s.aonOn = true → s.on .mgt = true → s.sys.pairA = .inReset → s.sys.pairB = .active →
     s.boot.updState ≠ 2 → s.boot.starting = false →
     (s.sys.missA = true → Does (.pairRejoin false) s (s.onSys fun y =>
       { y with rejoinA := some s.time.now, missA := false, pairA := .standby })) ∧
     (s.sys.missA = false → Does (.pairRejoin false) s (s.onSys fun y => { y with pairA := .standby }))) ∧
   (∀ s : State, s.aonOn = true → s.served .engine = true → s.served .service = true →
     Does .engineFirmwareCycle s (s.onSys fun y =>
       { y with ckptEngine := y.ckptEngine + 1, ckptEngineTime := s.time.now, ckptService := y.ckptService + 1,
                ckptServiceTime := s.time.now })) ∧
   ∀ (v : BitVec 8) (m : BitVec 16) (w : BitVec 64) (n : Fin 4) (k : Fin 256) (id : Fin 10) (b : List Byte) (s : State),
     s.aonOn = true → s.served .service = false →
     ∀ c ∈ [Instr.modeRequest true v, .safeAck true, .runStep true v, .clearMarks true m, .activate, .confirm, .revert,
         .handback v, .eventForce true k 1, .clearProtected true, .note b, .ackJournal none w, .journalFormat,
         .glistClear, .trimFaultClear id, .screenArm n, .screenCancel n],
       Does c s s) ∧
  ((∀ (i : GItem) (l : List GItem) (s : State), s.aonOn = true → s.evt.queue = i :: l → s.evt.waiting = [] →
     i.prot = false → i.react = false →
     (s.evt.linkFault = false →
       ∃ t, Does (.glumeEntryCommit true) s t ∧ t.evt.queue = l ∧ t.die.nextSeq = s.die.nextSeq + 1 ∧
         t.die.gen.getLast? = some { seq := s.die.nextSeq, item := i, state := 0 }) ∧
     (s.evt.linkFault = true → ∃ t, Does (.glumeLinkRetry true) s t ∧ t.evt.linkFault = false ∧
       t.evt.queue = l ∧ t.die.nextSeq = s.die.nextSeq + 1)) ∧
   (∀ s : State, s.aonOn = true →
     Does .recordDieFault s ((s.onEvt fun e => { e with linkFault := true }).raise 254)) ∧
   (∀ s : State, s.aonOn = true → (s.boot.trial = false → Does .trialTimeout s s) ∧
     (s.boot.trial = true → ∃ t, Does .trialTimeout s t ∧ t.die.imgActive = s.spare ∧ t.boot.trial = false ∧
       t.boot.updState = 4)) ∧
   ∀ s : State, s.aonOn = true → s.on .mgt = true → s.boot.updState = 2 → s.boot.cold = false → s.boot.updP1 = .b →
     (s.boot.updStep = 1 → ∃ t, Does .handoverDone s t ∧ t.sys.engineOn = .a ∧ t.sys.serviceOn = .a ∧
       t.sys.pairA = .active ∧ t.sys.pairB = .inReset ∧ t.boot.updStep = 2) ∧
     (s.boot.updStep = 2 → s.sys.pairB = .inReset → Does (.pairReloadDone true) s
       ((s.onSys fun y => { y with pairB := .standby }).onBoot fun b => { b with updStep := 3 })))

/-- Requests that change no mode: in SERVICE a request for SERVICE is done at once (R79); one for PRINT ends with
RANGE in every mode outside a transition (R80), and so does OD 1001:02 with a code above 5 (R81). Each is counted once
in SEQ (R120). A request for a code of 6 or above is refused with RANGE: codes 6 and 7 through `SYS_MODE_REQ`, and
every value from 6 to 255 through OD 1001:02. No transition starts, no request is latched, and the request is counted.
-/
def Obligations.RequestsThatChangeNoMode : Prop :=
  ((∀ s : State, s.aonOn = true → s.anyPair = true → s.sys.transit = false → s.sys.mode = .service →
     Does (.modeRequest false 2#8) s
       (s.onSys fun y => { y with req := 2, reqStatus := .done, reqSeq := (y.reqSeq + 1) % 256 })) ∧
   (∀ s : State, s.aonOn = true → s.anyPair = true →
     Does (.modeRequest false 4#8) s
       (s.onSys fun y => { y with req := 4, reqStatus := .range, reqSeq := (y.reqSeq + 1) % 256 })) ∧
   ∀ (v : BitVec 8) (s : State), s.aonOn = true → s.served .service = true → s.mayWrite .mgmt = true → 5 < v.toNat →
     Does (.modeRequest true v) s
       (((s.onSys fun y => { y with req := v.toNat, reqStatus := .range, reqSeq := (y.reqSeq + 1) % 256 }).replied
         .range).checkpoints)) ∧
  (∀ (v : BitVec 8) (s : State), s.aonOn = true → s.anyPair = true → 6 ≤ v.toNat →
     let t := s.onSys fun y => { y with req := v.toNat, reqStatus := .range, reqSeq := (y.reqSeq + 1) % 256 }
     (v.toNat < 8 → Does (.modeRequest false v) s t) ∧
     (s.served .service = true → s.mayWrite .mgmt = true →
       Does (.modeRequest true v) s ((t.replied .range).checkpoints)) ∧
     (s.served .service = true → s.mayWrite .mgmt = false →
       Does (.modeRequest true v) s ((s.replied .stateConflict).checkpoints)))

/-- A request for READY in SERVICE starts the transition: MODE still shows SERVICE, TARGET shows READY, TRANSIT is 1,
and the request is pending (R78, R90). The ends of transitions. To STANDBY, once its row of domains is met and nothing
is left to do; out of PRINT after the linger time; and of SAFE once every domain is settled: MODE takes the target,
TRANSIT ends, the time of entry is the present device time, and source 2 is raised (R90, R91, R97). A transition to
READY whose time is over, with no step running and READY's conditions unmet, turns round for SERVICE and keeps the
unmet conditions; once the engine stands as SERVICE has it, the transition ends in SERVICE, with the time of entry as
it was (R91, R93). SAFE: its run-out ends at the limit, whatever still runs (R102); the
acknowledgement clears UNACK and nothing else, and OD 1001:0D answers with no abort code (R84). A step of the start
that runs by its own method and succeeds ends, with its outcome and its time in the log of the start (R1111, R1149); a
report of a step that is not running changes nothing. -/
def Obligations.TransitionsStartAndEnd : Prop :=
  (∀ s : State, s.aonOn = true → s.anyPair = true → s.sys.transit = false → s.sys.mode = .service →
     ∃ t, Does (.modeRequest false 3#8) s t ∧ t.sys.mode = .service ∧ t.sys.target = .ready ∧ t.sys.transit = true ∧
       t.sys.reqStatus = .pending ∧ t.sys.reqSeq = s.sys.reqSeq ∧ t.sys.entryTime = s.sys.entryTime) ∧
  ((∀ s : State, s.aonOn = true → s.sys.transit = true → s.sys.target = .standby → s.seqIdle = true →
     s.rowMet .standby = true → s.pwr.wakePend = false →
     ∃ t, Does .modeTransitionComplete s t ∧ t.sys.mode = .standby ∧ t.sys.target = .standby ∧ t.sys.transit = false ∧
       t.sys.entryTime = s.time.now) ∧
   (∀ s : State, s.aonOn = true → s.sys.mode = .print → s.flying = [] → s.pgf.gate = none → s.sys.drain = false →
     Does .printLingerExpiry s ((s.onSys fun y =>
       { y with mode := .ready, target := .ready, transit := false, phase := 0, entryTime := s.time.now }).raise 2)) ∧
   (∀ s : State, s.aonOn = true → s.sys.mode = .safe → s.sys.target = .safe → s.sys.transit = true →
     s.seqIdle = true → s.rowMet .safe = true → s.mot.runout = false →
     ∃ t, Does .safeSettled s t ∧ t.sys.mode = .safe ∧ t.sys.transit = false ∧ t.sys.phase = 3 ∧
       t.sys.entryTime = s.time.now ∧ t.sys.unack = s.sys.unack ∧ t.sys.causeSource = s.sys.causeSource) ∧
   ∀ s : State, s.aonOn = true → s.sys.transit = true → s.sys.target = .ready → s.sys.mode = .service →
     s.boot.running = 0 → s.readyLacks ≠ 0 →
     ∃ t, Does .readyTimeout s t ∧ t.sys.mode = .service ∧ t.sys.target = .service ∧ t.sys.transit = true ∧
       t.sys.failing = some s.readyLacks ∧ t.sys.entryTime = s.sys.entryTime) ∧
   (∀ (n : Nat) (s : State), s.aonOn = true → s.sys.transit = true → s.sys.target = .service → s.sys.failing = some n →
     s.seqIdle = true → s.rowMet .service = true → s.leftReady = true → s.boot.starting = false →
     ∃ t, Does .modeTransitionComplete s t ∧ t.sys.mode = .service ∧ t.sys.target = .service ∧ t.sys.transit = false ∧
       t.sys.failing = none ∧ t.sys.entryTime = s.sys.entryTime) ∧
  ((∀ s : State, s.aonOn = true → s.sys.mode = .safe → s.sys.phase = 2 → s.on .eng = true → s.mot.runout = true →
     ∃ t, Does .safeRunoutLimit s t ∧ t.mot.runout = false) ∧
   (∀ s : State, s.aonOn = true → Does (.safeAck false) s (s.onSys fun y => { y with unack := false })) ∧
   ∀ s : State, s.aonOn = true → s.mayWrite .mgmt = true →
     s.served .service = true →
     Does (.safeAck true) s (((s.onSys fun y => { y with unack := false }).replied .none).checkpoints)) ∧
  ∀ (n : Fin 16) (ok : Bool) (inst cause us arg : Nat) (s : State), s.aonOn = true → s.boot.serviceStep = 0 →
    (s.boot.running.getLsbD n = false → Does (.bootStepDone n ok inst cause us arg) s s) ∧
    (n ∈ [1, 2, 4, 8] → s.boot.running.getLsbD n = true → s.boot.byAlt.getLsbD n = false → s.stepEnds n ok = some true →
      Does (.bootStepDone n ok inst cause us arg) s (s.onBoot fun b =>
        { b with running := b.running &&& ~~~(stepBit n), ended := b.ended ||| stepBit n,
                 lastStart := modAt b.lastStart (n.val - 1) fun _ => { method := 0, outcome := 0, duration := us } }))

/-- Without AON power every command but the application of AON power and the two events of the retract circuit
leaves the whole state as it is (log entry 4); those two work on the retract circuit alone, and with its heads
loaded the circuit fires and ends its run (R40, R1170). AON power comes and goes. With the stored start mode at OFF,
its application sets the fuser cut with cause POWER_ON and leaves the controller in OFF, with the source of the
start named (R107, R820). Its removal keeps what the record die holds, fires the retract circuit of loaded heads,
and leaves the registers at their reset values (R1010). Leaving OFF and STANDBY. A short press in SERVICE is a
request for OFF: the transition to OFF starts (R78, R89). In STANDBY, outside a transition and without the SAFE
lock, a falling edge of WAKE_N and a match of the SMBus address wake the controller to the mode in OD 1001:06, and
name their source (R109). A press, an edge or a match during a transition to STANDBY is latched (R1000). A long
press with FORCE_EN at 0 does nothing (R1008). A long press with FORCE_EN at 1, while no power loss runs and DSK is
not on, begins the steps of a power loss: every other pending start, wake and request is dropped, and PFAIL stays as
it was (R1008, R1026). Power loss. The loss of a monitored supply that stood latches PFAIL, is counted, and drops the
running sequence (R1002, R1003). Its steps disable one slot after the other, with every domain off, and the last one
ends in OFF (R1002). RST_IN_N begins the same steps (R1009). A reset output whose stretch has run out is let go, where
nothing else holds it. After OFFMIN a retry is counted (R990, R1006). A chip reset that waits for its own entry of the
record changes nothing; with its entry written it begins the steps, as RST_IN_N does (R1084, R1086). -/
def Obligations.PowerAndPinsStartAndWake : Prop :=
  ((∀ (c : Instr) (s : State), s.aonOn = false → c ∉ [Instr.aonPowerApplied, .retractFire, .retractComplete] →
     exec c s = .next s) ∧
   (∀ s : State, s.aonOn = false → s.ret.loaded = true → s.ret.running = false →
     exec .retractFire s = .next { s with ret := { s.ret with flag := true, running := true } }) ∧
   ∀ s : State, s.aonOn = false → s.ret.running = true →
     exec .retractComplete s = .next { s with ret := { s.ret with running := false, loaded := false } }) ∧
  ((∀ s : State, s.aonOn = false → s.on .eng = false → s.storedStart = .off →
     ∃ t, Does .aonPowerApplied s t ∧ t.aonOn = true ∧ t.cut.set = true ∧ t.cut.cause = 1 ∧ t.sys.mode = s.sys.mode ∧
       t.pwr.wakeSrc = 4 ∧ t.sys.startDue = false) ∧
   ∀ s : State, s.aonOn = true →
     ∃ t, Does (.aonPowerRemoved 0) s t ∧ t.aonOn = false ∧ t.regs = [] ∧ t.od = [] ∧ t.dram = [] ∧
       t.sys.mode = .off ∧ t.die = s.die ∧
       t.ret = (if s.ret.loaded && !s.ret.running then { s.ret with flag := true, running := true } else s.ret) ∧
        t.evt = {} ∧ t.free = s.free) ∧
  ((∀ s : State, s.aonOn = true → s.pwr.losing = false → s.sys.transit = false → s.sys.mode = .service →
     ∃ t, Does .pbShortPress s t ∧ t.sys.mode = .service ∧ t.sys.target = .off ∧ t.sys.transit = true) ∧
   (∀ s : State, s.aonOn = true → s.pwr.losing = false → s.sys.transit = false → s.sys.mode = .standby →
     s.sys.safeLocked = false →
     (∃ t, Does .wakeN s t ∧ t.pwr.wakeSrc = 2 ∧ t.sys.mode = .standby ∧ t.sys.target = s.wakeTarget ∧
       t.sys.transit = true) ∧
     ∃ t, Does .smbusAddressMatch s t ∧ t.pwr.wakeSrc = 1 ∧ t.sys.mode = .standby ∧ t.sys.target = s.wakeTarget ∧
       t.sys.transit = true) ∧
   (∀ s : State, s.aonOn = true → s.pwr.losing = false → s.sys.transit = true → s.sys.target = .standby →
     s.pwr.wakePend = false → ∀ c n, (c, n) ∈ [(Instr.pbShortPress, 3), (.wakeN, 2), (.smbusAddressMatch, 1)] →
       Does c s (s.onPwr fun p => { p with wakePend := true, wakeSrc := n })) ∧
   ∀ s : State, s.aonOn = true → bitOf (s.reg 0x800018) 0 = false → Does .pbLongPress s s) ∧
  (∀ s : State, s.aonOn = true → bitOf (s.reg 0x800018) 0 = true → s.pwr.losing = false →
     ∃ t, Does .pbLongPress s t ∧ t.pwr.losing = true ∧ t.pwr.seq = [] ∧ t.pwr.afterOff = none) ∧
  ((∀ (k : Fin 16) (s : State), s.aonOn = true → s.monitor k = true → s.slotLevel k ≠ 0 → s.pwr.losing = false →
     ∃ t, Does (.powerLoss k) s t ∧ t.pwr.losing = true ∧ t.pwr.pfail = true ∧ t.pwr.seq = [] ∧
       t.pwr.cntPfail = satInc 0xFFFFFFFF s.pwr.cntPfail) ∧
   (∀ s : State, s.aonOn = true → s.pwr.losing = true →
     (∀ k, s.lossSlot = some k → s.shaped = true → ∃ t, Does .powerLossRailStep s t ∧ (t.slot k).enabled = false ∧
       t.pwr.losing = true ∧ ∀ d : Dom, d ≠ .aon → t.dom d = .off) ∧
     (s.lossSlot = none → s.pwr.resetIn = false → s.pwr.chipReset = false →
       ∃ t, Does .powerLossRailStep s t ∧ t.sys.mode = .off ∧ t.sys.transit = false ∧ t.pwr.losing = false)) ∧
   (∀ s : State, s.aonOn = true → s.pwr.losing = false →
     ∃ t, Does .rstIn s t ∧ t.pwr.losing = true ∧ t.pwr.resetIn = true ∧ t.pwr.forced = true) ∧
   (∀ (k : Fin 4) (s : State), s.aonOn = true → s.rstoUpdate = s → nth false s.pwr.rstoStretch k = true →
     Does (.rstoStretchExpiry k) s (s.onPwr fun p =>
       { p with rsto := modAt p.rsto k fun _ => false, rstoStretch := modAt p.rstoStretch k fun _ => false })) ∧
   (∀ (b : Bool) (s : State), s.aonOn = true → s.pwr.afterOff = some .retry →
     ∃ t, Does (.offminExpiry b) s t ∧ t.pwr.afterOff = none ∧ t.pwr.retries = s.pwr.retries + 1 ∧
       t.pwr.cntRetry = satInc 0xFFFFFFFF s.pwr.cntRetry) ∧
   ∀ (src : Nat) (s : State), s.aonOn = true → s.evt.chipReset = some src →
     (s.resetEntryDue src = true → Does .chipReset s s) ∧
     (s.resetEntryDue src = false → s.pwr.losing = false →
       ∃ t, Does .chipReset s t ∧ t.evt.chipReset = none ∧ t.pwr.losing = true ∧ t.pwr.chipReset = true))

/-! ## The timebase -/

/-- A prediction tick, whatever it fires: the tick is counted, and every LOCKED physical axis takes the velocity
that its acceleration and its feed-forward give it, and turns by that velocity (R138). A tick in which
nothing fires but one EVENT action, in time, raises the event source that its argument names (R161).
No occurrence of an entry fires unless the axis moves forward over it in this tick, beyond what it had reached
before, and its axis and its state permit it (R147, R155). -/
def Obligations.TicksTurnTheAxes : Prop :=
  (∀ (pins : List Int) (s : State), s.aonOn = true → s.on .eng = true →
     ∃ t, Does (.predictionTick pins) s t ∧ t.culm.tick = s.culm.tick + 1 ∧
       ∀ k < 24, (s.culm.ax k).source ≠ 7 → (s.culm.ax k).st = .locked →
         let a := s.culm.ax k
         let w := sat64 (a.omega + sat64 (a.alpha + a.alphaFf))
         (t.culm.ax k).omega = w ∧ (t.culm.ax k).theta = wrap96 ((a.theta : Int) + w) ∧ (t.culm.ax k).st = .locked) ∧
  (∀ (pins : List Int) (s : State) (f : Firing), s.aonOn = true → s.on .eng = true →
     (s.culm.tickOf s.motViews).2.1 = [f] → f.action = 6 → f.late = false → s.busySrc (46 + fld f.arg 0 1) = false →
     ∃ t, Does (.predictionTick pins) s t ∧ t.culm.tick = s.culm.tick + 1 ∧
       t.evt.status.getLsbD (46 + fld f.arg 0 1) = true) ∧
  (∀ (bank : List (Nat × TEntry)) (k divs : Nat) (st : AxState) (theta high : Nat) (d : Int) (f : Firing),
     f ∈ firings bank k divs st theta high d false →
     0 < d ∧ st ≠ .off ∧ f.axis = k ∧ f.step < 64 ∧ f.late = false ∧
       ∃ e, (f.index, e) ∈ bank ∧ e.valid = true ∧ e.axis = k ∧ f.action = e.action ∧ f.action ≠ 0 ∧ f.arg = e.w3)

/-- An index edge of a LOCKED axis of source 1 or 2 that the glitch filter passes, 200 ticks or more after the one
before. Within the window it is accepted, and angle, velocity and acceleration take the corrections of R142; outside
it, while REJ_MAX is not reached, it is counted as a reject and nothing is corrected (R134, R135, R142, R145). A miss
of a LOCKED axis counts, sets COAST and takes the next division for the missed one; the one that exceeds MISS_MAX
takes the axis to LOST, raises its source and cancels a swap that is armed on it (R146, R148, R173, R194). Between its
edges a LOCKED axis takes, with every prediction tick, the velocity that its acceleration and its feed-forward give
it, turns by that velocity, and keeps its state, its division and its counters (R138). -/
def Obligations.IndexEdgesAndMissesAreJudged : Prop :=
  (∀ (pins : List Int) (s : State), s.aonOn = true → s.on .eng = true →
     ∃ t, Does (.predictionTick pins) s t ∧ t.culm.tick = s.culm.tick + 1 ∧
       ∀ k < 24, (s.culm.ax k).source ≠ 7 → (s.culm.ax k).st = .locked →
         let a := s.culm.ax k
         let w := sat64 (a.omega + sat64 (a.alpha + a.alphaFf))
         (t.culm.ax k).omega = w ∧ (t.culm.ax k).theta = wrap96 ((a.theta : Int) + w) ∧ (t.culm.ax k).st = .locked ∧
           (t.culm.ax k).div = a.div ∧ (t.culm.ax k).rejects = a.rejects ∧ (t.culm.ax k).misses = a.misses) ∧
  (∀ (k : Fin 24) (step : Fin 64) (width : Nat) (s : State), s.aonOn = true → s.on .eng = true →
     (s.culm.ax k).st = .locked → ((s.culm.ax k).source = 1 ∨ (s.culm.ax k).source = 2) → (s.culm.ax k).commit = false →
     (∀ x, (s.culm.ax k).lastAny = some x → x + 12800 ≤ s.culm.tick * 64 + step) →
     64 * fld (s.axFilt k) 24 8 ≤ width → 1024 ≤ 10 * width →
     let a := s.culm.ax k
     let e := a.phaseError step false
     let i6 : Int := (max 1 (min (s.culm.tick * 64 + step - a.lastAcc) (2 ^ 32 - 1)) : Nat)
     let d1 := sat64 ((e * 64).tdiv i6)
     (e.natAbs ≤ a.act.win.toNat * 2 ^ 32 →
       ∃ t, Does (.indexEdge k step width false false none) s t ∧
         (t.culm.ax k).theta = wrap96 ((a.theta : Int) + asr e (fld a.act.gain 24 5)) ∧
         (t.culm.ax k).omega = sat64 (a.omega + asr d1 (fld a.act.gain 16 5)) ∧
         (t.culm.ax k).alpha = sat64 (a.alpha + asr (sat64 ((d1 * 64).tdiv i6)) (fld a.act.gain 8 5)) ∧
         ((t.culm.ax k).divTurn, (t.culm.ax k).div) = a.nextDiv false ∧ (t.culm.ax k).coast = false ∧
         (t.culm.ax k).st = .locked ∧ (t.culm.ax k).rejects = a.rejects) ∧
     (a.act.win.toNat * 2 ^ 32 < e.natAbs → a.rejRow < fld (s.axFilt k) 4 4 →
       ∃ t, Does (.indexEdge k step width false false none) s t ∧ (t.culm.ax k).theta = a.theta ∧
         (t.culm.ax k).omega = a.omega ∧ (t.culm.ax k).rejects = satInc 65535 a.rejects ∧ (t.culm.ax k).st = .locked)) ∧
  (∀ (k : Fin 24) (s : State), s.aonOn = true → s.on .eng = true → (s.culm.ax k).source ≠ 7 →
     (s.culm.ax k).st = .locked → (s.culm.ax k).missed = true →
     let a := s.culm.ax k
     let b : Axis := { a with div := (a.nextDiv a.backward).2, divTurn := (a.nextDiv a.backward).1, coast := true,
                              misses := satInc 65535 a.misses, missRow := a.missRow + 1 }
     (a.missRow < fld (s.axFilt k) 8 4 → ∃ t, Does (.indexMiss k) s t ∧ t.culm.ax k = b ∧
       ∀ j < 24, j ≠ k → (s.culm.ax j).source ≠ 7 → t.culm.ax j = s.culm.ax j) ∧
     (fld (s.axFilt k) 8 4 ≤ a.missRow → ∃ t, Does (.indexMiss k) s t ∧ t.culm.ax k = { b with st := .lost } ∧
       (∀ j < 24, j ≠ k → (s.culm.ax j).source ≠ 7 → t.culm.ax j = s.culm.ax j) ∧
       (s.busySrc (16 + k) = false → t.evt.status.getLsbD (16 + k) = true) ∧
       (s.culm.swapArmed = true → s.culm.armAxis = k → t.culm.swapArmed = false ∧ t.culm.swapStatus = 4)))

/-- A legal write of `CULM_AXk_CFG` that sets EN of an axis in OFF stores it and clears the counts of misses and
rejects; the axis waits in OFF for the next tick. One that breaks R129 changes no configuration, sets CFG_ERR and
raises source 16 + k (R129, R148, R208). A COMMIT stores GAIN in the shadow copy. On an axis that is not LOCKED the
whole shadow copy applies at once; on a LOCKED one it waits for the next index edge (R204). -/
def Obligations.AxisConfigurationIsApplied : Prop :=
  (∀ (k : Fin 24) (v : Word) (s : State), s.aonOn = true → s.on .eng = true → s.mayWrite .fixed = true →
     (s.axisWriteBad k 0 v = false → (s.culm.ax k).en = false → (s.culm.ax k).st = .off → bitOf v 31 = true →
       s.shaped = true →
       ∃ t, Does (.axisCfgWrite k 0 v) s t ∧ t.regs = s.regs ∧ t.culm.ax k =
         { s.culm.ax k with cfg := v &&& 0xFF1FFFFF#32, st := .off, coast := false, misses := 0, rejects := 0, missRow := 0,
                            rejRow := 0, acqEdges := 0, fromOff := true, goodRow := 0 }) ∧
     (s.axisWriteBad k 0 v = true →
       Does (.axisCfgWrite k 0 v) s ((s.onCulm (Culm.modAx k fun a => { a with cfgErr := true })).raise (16 + k)))) ∧
  (∀ (k : Fin 24) (v : Word) (s : State), s.aonOn = true → s.on .eng = true → s.mayWrite .shadow = true →
     let s1 := s.setReg (0x101008 + 0x40 * k) (v &&& 0x1F1F1F00#32)
     ((s.culm.ax k).st ≠ .locked → Does (.gainCommit k v) s (s1.onCulm (Culm.modAx k fun a =>
       { a with act := { gain := s1.reg (0x101008 + 0x40 * k), win := s1.reg (0x10100C + 0x40 * k),
                         locktol := s1.reg (0x101010 + 0x40 * k), aff := s1.reg (0x101014 + 0x40 * k),
                         iofs := (List.range 16).map fun j => s1.reg (0x102000 + 0x40 * k + 4 * j) },
                commit := false, alphaFf := if bitOf (s1.reg (0x101014 + 0x40 * k)) 31 then a.alphaFf else 0 }))) ∧
     ((s.culm.ax k).st = .locked → Does (.gainCommit k v) s (s1.onCulm (Culm.modAx k fun a => { a with commit := true }))))

/-- Bank swaps: armed on a LOCKED axis while none is armed, refused with status 5 on another axis, and cancelled with
status 3 (R172, R196). The event table. A legal entry goes into the inactive bank, and a read of either bank answers
what it holds; the active bank is refused with status 3 and keeps its entries; 16 bytes of a legal entry, written to
OD 2000:10 or 2000:11 for the inactive bank, become its entry 0, and a length that no entries make is refused with
LENGTH (R165 to R168, R199). -/
def Obligations.BanksAreWrittenAndSwapped : Prop :=
  (∀ s : State, s.aonOn = true → s.on .eng = true → s.mayWrite .shadow = true →
     (∀ x : BitVec 5, x.toNat < 24 → s.culm.swapArmed = false → (s.culm.ax x.toNat).st = .locked →
       Does (.swapArm x false) s (s.onCulm fun c =>
         { c with swapAxis := x.toNat, swapAtTurn := false, swapArmed := true, swapStatus := 1, armAxis := x.toNat,
                  armAtTurn := false, armAngle := (s.reg 0x100008).toNat, armTurn := (s.reg 0x10000C).toNat })) ∧
     (∀ x : BitVec 5, x.toNat < 24 → s.culm.swapArmed = false → (s.culm.ax x.toNat).st ≠ .locked →
       Does (.swapArm x false) s (s.onCulm fun c =>
         { c with swapAxis := x.toNat, swapAtTurn := false, swapStatus := 5 })) ∧
     (s.culm.swapArmed = true →
       Does .swapCancel s (s.onCulm fun c => { c with swapArmed := false, swapStatus := 3 }))) ∧
  (∀ (b : Fin 2) (s : State), s.aonOn = true → s.on .eng = true → s.mayWrite .shadow = true →
     (∀ (i : BitVec 12) (w0 w1 w2 w3 : Word), s.culm.entryBad { w0 := w0, w1 := w1, w2 := w2, w3 := w3 } = false →
       s.culm.active ≠ b → s.culm.swapArmed = false →
       ∃ t, Does (.entryWrite b i w0 w1 w2 w3) s t ∧ t.culm.entStatus = 1 ∧
         t.culm.bank b = sput {} { w0 := w0, w1 := w1, w2 := w2, w3 := w3 } i.toNat (s.culm.bank b) ∧
         t.culm.bank (1 - b) = s.culm.bank (1 - b)) ∧
     (∀ (i : BitVec 12) (w0 w1 w2 w3 : Word), s.culm.entryBad { w0 := w0, w1 := w1, w2 := w2, w3 := w3 } = false →
       s.culm.active = b →
       ∃ t, Does (.entryWrite b i w0 w1 w2 w3) s t ∧ t.culm.entStatus = 3 ∧ t.culm.bank0 = s.culm.bank0 ∧
         t.culm.bank1 = s.culm.bank1) ∧
     (∀ i : BitVec 12, ∃ t, Does (.entryRead b i) s t ∧ t.culm.entStatus = 1 ∧
       t.culm.ent = sget {} i.toNat (s.culm.bank b) ∧ t.culm.bank0 = s.culm.bank0 ∧ t.culm.bank1 = s.culm.bank1) ∧
     (∀ bs : List Byte, bs.length = 16 → s.culm.entryBad (entryAt bs 0) = false → s.culm.active ≠ b →
       s.culm.swapArmed = false → s.served .service = true →
       ∃ t, Does (.bankWrite b bs) s t ∧ t.zop.reply = .none ∧ t.culm.bank b = sput {} (entryAt bs 0) 0 (s.culm.bank b)) ∧
     ∀ bs : List Byte, bs.length % 16 ≠ 0 → s.served .service = true →
       Does (.bankWrite b bs) s ((s.replied .length).checkpoints))

/-- Snapshots. With HOLD written 0 the angles and the time enter the snapshot registers and SEQ counts; with HOLD
written 1 the snapshot is dropped. A read of OD 2000:20 with HOLD at 1 answers the live angles and leaves the
registers alone (R190 to R193). Snapshots of the token counts: by the register, and by a read of OD 2800:05, which
answers the seven counts, their time and its status (R343, R349, R352). A snapshot of the books, by the register or by
a read of OD 2C00:07, records FREE, TRANSIT, the pools, the byte books of the Mover, and the time (R435, R467). -/
def Obligations.SnapshotsAreTaken : Prop :=
  (∀ s : State, s.aonOn = true → s.on .eng = true →
     Does (.snapReq false) s (s.onCulm fun c =>
       { c with snapHold := false, snapTime := s.time.now, snapTstat := s.time.stat.code, snapValid := true,
                snapSeq := (c.snapSeq + 1) % 65536,
                snap := c.axes.map fun a => { frac := fracOf a.theta, turn := turnOf a.theta, vel := velOf a.omega,
                                              st := a.st.code + (if a.coast then 4 else 0) } }) ∧
     Does (.snapReq true) s (s.onCulm fun c =>
       { c with snapHold := true, snapDropped := satInc 255 c.snapDropped }) ∧
     (s.served .service = true → s.culm.snapHold = true → ∃ t, Does .snapshotRead s t ∧ t.culm = s.culm ∧ t.zop.reply = .none ∧
       t.zop.replyData = snapBytes s.time.now s.time.stat.code s.culm.snapOf)) ∧
  (∀ s : State, s.aonOn = true → s.on .pix = true →
     let t := s.onPgf fun g => { g with snap := g.counts, snapTime := s.time.now, snapValid := true,
                                        snapSeq := (g.snapSeq + 1) % 65536 }
     Does .pgfSnapshot s t ∧
     (s.served .service = true → Does .tokenCountsRead s (({ t with zop := { t.zop with
       reply := .none, replyData := (s.pgf.counts.flatMap fun w => u32le w.toNat) ++ u64le s.time.now.toNat ++
         [BitVec.ofNat 8 s.time.stat.code] } } : State).checkpoints))) ∧
  (∀ s : State, s.aonOn = true → s.on .mem = true →
     let t := s.onShf fun h =>
       { h with snapFree := h.free, snapTransit := h.transit, snapPools := h.pools,
                snapMov := [s.mov.requested, s.mov.moved, s.mov.abandoned, s.mov.pend, s.mov.buffered],
                snapTime := s.time.now, snapTstat := s.time.stat.code, snapValid := true,
                snapSeq := (h.snapSeq + 1) % 65536 }
     Does .shfSnapshot s t ∧ (s.served .service = true → Does .booksRead s
       (({ t with zop := { t.zop with reply := .none, replyData := t.shf.booksBytes } } : State).checkpoints)))

/-- Device time. A crystal cycle is 40 ns where nothing corrects it and no horizon is due (R177). An offset of a Sync
up to the step threshold is slewed, and TSTAT is LOCKED from 1 µs down (R180, R183). A failed Sync timer leaves LOCKED
for HOLDOVER with source 43, and the holdover limit leaves that for FREE_RUN with source 44 (R183, R184).
`CULM_TIME_STEP_HI` steps time forward while PTP is off (R187). The link of the PTP port fails: the other port serves,
without a master (R189). A first master of the domain is taken, and UNSYNC becomes ACQUIRING (R183, R188). -/
def Obligations.DeviceTimeRuns : Prop :=
  (∀ s : State, s.aonOn = true → s.time.rate = 0#32 → s.time.slew = 0 → s.time.frac < 2 ^ 32 →
    horizonDue (s.time.now + 40#64) s.die.horizon = none →
    Does .deviceTimeTick s (s.onTime fun t => { t with now := t.now + 40#64 })) ∧
  (∀ (o : Int) (r : Word) (s : State), s.aonOn = true → s.ptpOn = true → s.time.master.isSome = true →
    s.served .service = true → s.time.port = 0 → s.ptp 0x0B 4 0 = 0 → s.ptp 9 4 1000000 = 1000000 →
    o.natAbs ≤ 1000000 →
    Does (.ptpSync o r) s (s.onTime fun t =>
      { t with offset := o, rate := w32 (clampI (-274877906) 274877906 r.toInt), slew := -o * (2 ^ 32 : Nat),
               stat := if o.natAbs ≤ 1000 then .locked else .acquiring })) ∧
  (∀ s : State, s.aonOn = true → s.time.stat = .locked →
    Does .syncTimeout s ((s.onTime fun t => { t with stat := .holdover, slew := 0 }).raise 43)) ∧
  (∀ s : State, s.aonOn = true → s.time.stat = .holdover →
    Does .holdoverLimit s ((s.onTime fun t => { t with stat := .freeRun }).raise 44)) ∧
  (∀ (hi : Word) (s : State), s.aonOn = true → s.mayWrite .mgmt = true → s.ptpOn = false → hi ≠ 0#32 →
    ∃ t, Does (.timeStep hi) s t ∧
      t.time.now = s.time.now + BitVec.ofNat 64 (hi.toNat * 2 ^ 32 + s.time.stepLo.toNat) ∧ t.time.stat = s.time.stat) ∧
  (∀ s : State, s.aonOn = true → s.on .mgt = true →
    Does .ptpPortFailover s (s.onTime fun t => { t with port := 1 - t.port, master := none })) ∧
  ∀ (d p1 cl ac p2 : BitVec 8) (va : BitVec 16) (id : BitVec 64) (s : State), s.aonOn = true → s.ptpOn = true →
    s.served .service = true → d.toNat = s.ptp 4 1 0 → s.ptp 0x0D 1 0 = 0 → s.time.master = none →
    Does (.ptpAnnounce d p1 cl ac va p2 id) s (s.onTime fun t =>
      { t with master := some { priority1 := p1.toNat, clockClass := cl.toNat, accuracy := ac.toNat,
                                variance := va.toNat, priority2 := p2.toNat, identity := id.toNat },
               stat := if t.stat = .unsync then .acquiring else t.stat })

/-! ## Imaging, tokens, coding and frames -/

/-- The interlock. An LSn_EN_N deasserted long enough sets the latch of its station, on the BCD die; with IMG on and no
page in flight there, it holds the gates and takes every beam's samples with it. REARM clears the latch while both
inputs are asserted; it writes DISABLE as it stands, so that a disabled station is disabled again; while an input is
deasserted it leaves the latch set (R270, R273, R274, R275, R289). DISABLE. A write of 1 sets the gate hold and ends the
APC sequence; a write of 0 to a station whose checks fail leaves it disabled, with
CFG_ERR and its source; where they pass, a station that start-up left disabled is enabled and its counters restart
(R219, R275, R276, R300). Loss of PLL lock sets the gate hold and raises its source; a beam at its compliance limit
does so too (R254, R255, R268). The lock of a station's PLL ends its locking (R266). The return of an interlock input
ends what the input alone holds off (R272, R290). An encoder's counter follows its edges, and the axes that nothing
enables keep their place (R618). The reset of a station's block, once it is due, ends with the gates held, the line
stopped, and its registers as they are (R1085). -/
def Obligations.StationsAreGuarded : Prop :=
  ((∀ (l : Fin 5) (s : State), l.val < 4 → s.aonOn = true → s.on .ana = true →
     (s.on .img = true → (s.st l).pages = [] → Does (.ilkDeassert l false) s ((s.onLs l fun t =>
       { t with ilkLocal := true, ilkLatch := true, gateHold := true,
                beams := t.beams.map fun b => { b with sample0 := none, sample1 := none } }).raise (48 + 8 * l))) ∧
     (s.on .img = false →
       Does (.ilkDeassert l false) s (s.onLs l fun t => { t with ilkLocal := true, ilkLatch := true }))) ∧
   (∀ (n : Fin 4) (s : State), s.aonOn = true → s.on .img = true → s.mayWrite .mgmt = true → s.sys.laserOff = false →
     (s.st n).ilkLocal = false →
     ((s.st n).disable = false →
       Does (.rearm n) s (s.onLs n fun t => { t with ilkLatch := false, bootDisabled := false })) ∧
     ((s.st n).disable = true → s.shaped = true →
       ∃ t, Does (.rearm n) s t ∧ (t.st n).ilkLatch = false ∧ (t.st n).disable = true ∧ (t.st n).gateHold = true)) ∧
   ∀ (n : Fin 4) (s : State), s.aonOn = true → s.on .img = true → s.mayWrite .mgmt = true → s.sys.laserOff = true →
     ∃ t, Does (.rearm n) s t ∧ (t.st n).ilkLatch = (s.st n).ilkLatch) ∧
  ((∀ (n : Fin 4) (s : State), s.aonOn = true → s.on .img = true → s.mayWrite .mgmt = true → (s.st n).disable = false →
     ∃ t, Does (.stationDisable n) s t ∧ (t.st n).disable = true ∧ (t.st n).gateHold = true ∧ (t.st n).apcLeft = []) ∧
   (∀ (n : Fin 4) (s : State), s.aonOn = true → s.on .img = true → s.mayWrite .mgmt = true → (s.st n).disable = true →
     (s.st n).bootDisabled = true → bitOf (s.lsReg n 0) 31 = true → s.stationFits n = true →
     ∃ t, Does (.stationEnable n) s t ∧ (t.st n).disable = false ∧ (t.st n).bootDisabled = false ∧ (t.st n).cntLines = 0 ∧
       (t.st n).cntLineFlt = 0 ∧ (t.st n).cntApcShort = 0 ∧ (t.st n).cntClamp = 0) ∧
   (∀ (n : Fin 4) (s : State), s.aonOn = true → s.on .img = true → s.mayWrite .mgmt = true → (s.st n).disable = true →
     bitOf (s.lsReg n 0) 31 = true → s.stationFits n = false →
     Does (.stationEnable n) s ((s.onLs n fun t =>
       { t with bootDisabled := false, disable := true, cfgErr := true, biasHold := (s.st n).biasHold }).raise (55 + 8 * n))) ∧
   (∀ (n : Fin 4) (s : State), s.aonOn = true → s.on .img = true → (s.st n).pllLocked = true → (s.st n).pages = [] →
     Does (.readinessLoss n 1) s ((s.onLs n fun t => { t with pllLocked := false, gateHold := true }).raise (52 + 8 * n))) ∧
   ∀ (n : Fin 4) (s : State), s.aonOn = true → s.stEnabled n = true → (s.st n).pages = [] →
     Does (.beamCompliance n) s ((s.raise (51 + 8 * n)).onLs n fun t => { t with gateHold := true })) ∧
  (∀ s : State, s.aonOn = true →
     (∀ n : Fin 4, s.on .img = true → Does (.pllLock n) s (s.onLs n fun t => { t with pllLocked := true })) ∧
     (∀ line : Fin 5, Does (.interlockReassert line) s
       (if line.val = 4 then { s with sys := { s.sys with laserOff := false } }
        else s.onLs line fun t => { t with ilkLocal := false })) ∧
     ∀ (e : Fin 12) (d : Int), s.on .eng = true → s.shaped = true →
       (∃ t, Does (.encoderCount e d) s t ∧ nth 0 t.mot.enc e = satS 32 (nth 0 s.mot.enc e + d) ∧
         ∀ j, j ≠ e.val → nth 0 t.mot.enc j = nth 0 s.mot.enc j) ∧
       ((∀ k < 12, s.mEn k = false) →
         Does (.encoderCount e d) s (s.onMot fun m => { m with enc := modAt m.enc e fun c => satS 32 (c + d) }))) ∧
  ∀ (src : Fin 256) (s : State), s.aonOn = true → 48 ≤ src.val → src.val < 80 → s.on .img = true →
    s.evt.blockResets.contains src.val = true → s.shaped = true →
    ∃ t, Does (.blockResetDone src) s t ∧ t.evt.blockResets.contains src.val = false ∧ t.regs = s.regs ∧
      (t.st ((src.val - 48) / 8)).gateHold = true ∧ (t.st ((src.val - 48) / 8)).lineOn = false

/-- Lines and beams. The end of a line with no page on the station stops the pixel clock and nothing else; the end
of the last line of a page takes the page off the station, and its token, whose only station it is, is IMAGED (R224,
R335). An APC sequence with time for all takes PER_SWEEP beams from the one after the last measured (R248); a sample
is the mean of its conversions, and becomes the last of the two samples by which R252 judges the beam (R247, R252).
The beam-detect window opens while the scanner axis is LOCKED (R243). -/
def Obligations.LinesAndSamples : Prop :=
  (∀ (n : Fin 4) (s : State), s.aonOn = true → s.on .img = true → (s.st n).lineOn = true → (s.st n).pages = [] →
    Does (.lineEnd n) s (s.onLs n fun t => { t with lineOn := false })) ∧
  (∀ (n : Fin 4) (p : SPage) (rest : List SPage) (k : Nat) (s : State), s.aonOn = true → s.on .img = true →
    (s.st n).lineOn = true → (s.st n).pages = p :: rest → p.sweep = some k →
    (s.st n).tbl.pageOver (s.nbeam n) k (4 * (s.tok p.slot).hdr.height) = true →
    (s.tok p.slot).state = .committed → (s.tok p.slot).spoilMark = false →
    (∀ q ∈ (s.tok p.slot).hdr.list, s.planeStation q = some n.val) →
    ∃ t, Does (.lineEnd n) s t ∧ (t.st n).lineOn = false ∧ (t.st n).pages = rest ∧ (t.tok p.slot).state = .imaged ∧
      (t.tok p.slot).reason = 0 ∧ (t.tok p.slot).time = s.time.now) ∧
  (∀ (n : Fin 4) (fits : Nat) (s : State), s.aonOn = true → s.apcRuns n = true → (s.st n).lineOn = false →
    (∀ b ∈ (s.st n).beams, b.gate = false) → (s.st n).apcLeft = [] → fld (s.lsReg n 0x28) 24 5 ≤ s.nbeam n →
    fld (s.lsReg n 0x28) 24 5 ≤ fits →
    Does (.apcSequenceStart n fits) s (s.onLs n fun t =>
      { t with apcLeft := (List.range (fld (s.lsReg n 0x28) 24 5)).map fun i => ((s.st n).apcNext + i) % s.nbeam n,
               apcGap := false, apcShort := false })) ∧
  (∀ (n : Fin 4) (codes : List (BitVec 12)) (b : Nat) (rest : List Nat) (s : State), s.aonOn = true →
    s.apcRuns n = true → (s.st n).apcLeft = b :: rest → b < (s.st n).beams.length → codes ≠ [] →
    let x := (codes.map (·.toNat)).sum / codes.length
    ∃ t, Does (.apcSample n codes) s t ∧ (t.st n).apcLeft = rest ∧ (t.st n).apcNext = (b + 1) % s.nbeam n ∧
       (nth {} (t.st n).beams b).last = x ∧
      (nth {} (t.st n).beams b).sample1 = (nth {} (s.st n).beams b).sample0 ∧ (nth {} (t.st n).beams b).age = 0 ∧
      (nth {} (t.st n).beams b).sample0 = some x) ∧
  ∀ (n : Fin 4) (o : Bool) (s : State), s.aonOn = true → s.stEnabled n = true →
    (s.culm.ax (s.scanAxis n)).st = .locked → Does (.bdWindow n o) s (s.onLs n fun t => { t with bdWindow := o })

/-- Tables and screens. On an enabled station a GO of good tables arms them, and on one that is not enabled they apply
at once; a cancel ends an armed apply (R279, R281, R284, R285). Screens are armed while none is, a cancel ends that,
and a screen set of one cell is stored in the shadow copy (R319 to R322, R352). -/
def Obligations.TablesAndScreens : Prop :=
  (∀ (n : Fin 4) (w : Fin 4) (s : State), w.val < 3 → s.aonOn = true → s.on .img = true → s.mayWrite .shadow = true →
    (s.st n).tblArmed = false →
    tablesBad (s.shadowTables n) (fld (s.lsReg n 0) 0 8) (fld (s.lsReg n 0) 16 4) (s.nbeam n) = false →
    (s.stEnabled n = true → Does (.tableGo n w) s (s.onLs n fun t =>
      { t with tblWhen := w, tblPoint := w, tblTick := s.culm.tick, tblArmed := true, tblSwapSeen := false,
               tblStatus := .armed })) ∧
    (s.stEnabled n = false → Does (.tableGo n w) s ((s.onLs n fun t =>
      { t with tblWhen := w, tbl := s.shadowTables n, tblArmed := false, tblSwapSeen := false,
               tblStatus := .applied }).raise (54 + 8 * n)))) ∧
  (∀ (n : Fin 4) (s : State), s.aonOn = true → s.on .img = true → s.mayWrite .shadow = true →
    (s.st n).tblArmed = true →
    Does (.tableCancel n) s (s.onLs n fun t =>
      { t with tblWhen := 3, tblArmed := false, tblStatus := .cancelled })) ∧
  (∀ (n : Fin 4) (s : State), s.aonOn = true → s.on .img = true → s.mayWrite .shadow = true →
    s.served .service = true → (s.st n).screenApply ≠ 1 →
    Does (.screenArm n) s (((s.onLs n fun t => { t with screenApply := 1 }).replied .none).checkpoints)) ∧
  (∀ (n : Fin 4) (s : State), s.aonOn = true → s.on .img = true → s.mayWrite .shadow = true →
    s.served .service = true → (s.st n).screenApply = 1 →
    Does (.screenCancel n) s (((s.onLs n fun t => { t with screenApply := 3, pages := t.pages.map fun p =>
      { p with screens := false } }).replied .none).checkpoints)) ∧
  (∀ (n : Fin 4) (i : Fin 8) (a b c : Byte) (s : State), s.aonOn = true → s.on .img = true → s.mayWrite .shadow = true →
    s.served .service = true → (s.st n).screenApply ≠ 1 → a.toNat ≤ b.toNat → b.toNat ≤ c.toNat →
    Does (.screenWrite n i [1, 0, 1, 0, 0, 0, 0, 0, 0, 0x94, 0xAA, 0xBF, 0, 0, 0, 0, a, b, c]) s (((s.onLs n fun t =>
      { t with shadowScreens := modAt t.shadowScreens i fun _ =>
          { w := 1, h := 1, px := 0, py := 0, lvl := [0, 0x94, 0xAA, 0xBF], cells := [a.toNat, b.toNat, c.toNat] } }).replied
        .none).checkpoints)) ∧
  ∀ (n : Fin 4) (i : Fin 8) (s : State), s.aonOn = true → s.on .img = true → s.mayWrite .shadow = true →
    s.served .service = true → Does (.screenWrite n i [1, 0, 1, 0]) s ((s.replied .length).checkpoints)

/-- Tokens that wait. A simplex token with every plane in the spool pool is ACCEPTED, at the present device time, and
stays counted as waiting (R314, R341). Disarmed, it goes back to ACCEPTED without its plan and its ring credits (R314,
R315); under the gate a disarm is refused with STATE_CONFLICT (R334). Rejected by policy, it ends REJECTED with reason
8 (R316). Arming. A simplex ACCEPTED token with no frame in the spool pool, a valid plan and room in the station-ring
budget is ARMED with that plan, against one ring credit for each of its frames (R329, R418). A run that reaches past
its plane is refused with LENGTH, and arms nothing (R329). The commitment gate. A pick request starts its evaluation;
one that finds an evaluation in progress is BUSY, and leaves it alone (R325, R334). An evaluation in which a check
fails refuses the pick: the failed checks are recorded, source 81 is raised, and no token moves (R326, R347). One in
which every check holds commits, and counts it (R314, R341). -/
def Obligations.TokensMoveToCommitment : Prop :=
  ((∀ (k : Fin 1024) (s : State), s.aonOn = true → s.on .pix = true → s.served .engine = true → s.acceptable k = true →
     (s.tok k).partner = none →
     ∃ t, Does (.tokenAccept k) s t ∧ (t.tok k).state = .accepted ∧ (t.tok k).reason = 0 ∧
       (t.tok k).time = s.time.now ∧ (t.tok k).hdr = (s.tok k).hdr ∧ t.pgf.counts = s.pgf.counts) ∧
   (∀ (k : Fin 1024) (s : State), s.aonOn = true → s.on .pix = true → s.served .engine = true → s.underGate k = false →
     (s.tok k).state = .armed → (s.tok k).partner = none →
     ∃ t, Does (.tokenDisarm k) s t ∧ (t.tok k).state = .accepted ∧ (t.tok k).plan = [] ∧ (t.tok k).ringLeft = 0 ∧
       (t.tok k).planes = (s.tok k).planes ∧ t.zop.reply = .none) ∧
   (∀ (k : Fin 1024) (s : State), s.aonOn = true → s.on .pix = true → s.served .engine = true → s.underGate k = true →
     Does (.tokenDisarm k) s (s.replied .stateConflict)) ∧
   ∀ (k : Fin 1024) (s : State), s.aonOn = true → s.on .pix = true → s.served .engine = true → s.underGate k = false →
     (s.tok k).waits = true → (s.tok k).partner = none →
     ∃ t, Does (.tokenRejectPolicy k) s t ∧ (t.tok k).state = .rejected ∧ (t.tok k).reason = 8 ∧ t.zop.reply = .none) ∧
  (∀ (k : Fin 1024) (l : List (Nat × Nat × Nat × Nat)) (s : State), s.aonOn = true → s.on .pix = true → s.on .mem = true →
     s.served .engine = true → (s.tok k).partner = none →
     (s.planJudge k (planOf l) = .none → (s.tok k).state = .accepted → s.framesOf k 3 = [] →
       (s.pool 0).issued + (s.tok k).hdr.spoolFrames ≤ s.budget 0 → 0 < (s.tok k).hdr.spoolFrames →
       ∃ t, Does (.tokenArm k l []) s t ∧ (t.tok k).state = .armed ∧ (t.tok k).plan = planOf l ∧
         (t.tok k).ringLeft = (s.tok k).hdr.spoolFrames ∧ t.zop.reply = .none ∧
         t.shf.pools = modAt s.shf.pools 0 fun x =>
           { x with issued := x.issued + (s.tok k).hdr.spoolFrames, out := x.out + (s.tok k).hdr.spoolFrames }) ∧
     (∀ r ∈ planOf l, 0 < r.frames → (s.tok k).hdr.frames r.plane < r.first + r.frames →
       Does (.tokenArm k l []) s (s.replied .length))) ∧
  ((∀ (k : Fin 1024) (f b : List (Option (Nat × Nat))) (s : State), s.aonOn = true → s.on .pix = true →
     s.served .engine = true → s.pgf.gate = none →
     Does (.pickRequest k f b) s (s.onPgf fun g =>
       { g with gateSlot := k, gate := some { slot := k, drain := s.sys.drain, front := f, back := b } })) ∧
   (∀ (k : Fin 1024) (f b : List (Option (Nat × Nat))) (s : State), s.aonOn = true → s.on .pix = true →
     s.served .engine = true → s.pgf.gate.isSome = true →
     Does (.pickRequest k f b) s (s.onPgf fun g => { g with gateSlot := k, gateOutcome := 3 })) ∧
   (∀ (g : GateEval) (s : State), s.aonOn = true → s.on .pix = true → s.pgf.gate = some g →
     (s.gateChecks g).all id = false →
     Does .gateEvaluationComplete s ((s.onPgf fun p =>
       { p with gate := none, gateOutcome := 2, gateFailed := failedBits (s.gateChecks g) }).raise 81)) ∧
   ∀ (g : GateEval) (s : State), s.aonOn = true → s.on .pix = true → s.pgf.gate = some g →
     (s.gateChecks g).all id = true → (s.tok g.slot).partner = none →
     ∃ t, Does .gateEvaluationComplete s t ∧ t.pgf.gate = none ∧ t.pgf.gateOutcome = 1 ∧ t.pgf.gateFailed = 0 ∧
       t.pgf.cntCommitted = s.pgf.cntCommitted + 1 ∧ t.pgf.cntSubmitted = s.pgf.cntSubmitted)

/-- The coder and the decoders. A plane that has its extents and its spool credits enters the spool pool, and the next
plane of the queue follows (R385, R424). With no run of extents free its token is REJECTED with reason 7 (R424). A
decoder whose next band is resident, with room in its band store, decodes it (R380). -/
def Obligations.PlanesAreCodedAndBandsDecoded : Prop :=
  (∀ (k p e : Nat) (rest : List (Nat × Nat)) (s : State), s.aonOn = true → s.on .pix = true → s.on .mem = true →
    s.husk.busy = true → s.husk.coderWaits = false → s.husk.coding = (k, p) :: rest →
    s.findExtents ((s.tok k).hdr.frames p) = some e →
    (s.pool 3).issued + (s.tok k).hdr.frames p ≤ s.budget 3 → (nth {} (s.tok k).planes p).input ≠ [] →
    ∃ t, Does .planeCoded s t ∧ t.husk.coding = rest ∧ t.husk.coderWaits = false ∧
      (nth {} (t.tok k).planes p).ready = true ∧ (nth {} (t.tok k).planes p).extent = some e) ∧
  (∀ (k p : Nat) (rest : List (Nat × Nat)) (s : State), s.aonOn = true → s.on .pix = true → s.on .mem = true →
    s.husk.busy = true → s.husk.coderWaits = false → s.husk.coding = (k, p) :: rest →
    s.findExtents ((s.tok k).hdr.frames p) = none →
    (s.tok k).waits = true → (s.tok k).partner = none →
    ∃ t, Does .planeCoded s t ∧ (t.tok k).state = .rejected ∧ (t.tok k).reason = 7) ∧
  ∀ (n : Fin 4) (p : SPage) (rest : List SPage) (s : State), s.aonOn = true → s.on .pix = true → s.on .img = true →
    (s.st n).pages = p :: rest → p.bands = 0 → 0 < (s.tok p.slot).hdr.nb → (s.tok p.slot).spoilMark = false →
    (s.tok p.slot).hdr.has (fld (s.lsReg n 0) 26 2) = true → (s.st n).bandStore = [] →
    (∀ i ≤ ((s.tok p.slot).hdr.bb (fld (s.lsReg n 0) 26 2) - 1) / 65536,
      s.resident p.slot (fld (s.lsReg n 0) 26 2) i = true) →
    ∃ t, Does (.bandDecode n) s t ∧ (t.st n).bandStore.map (fun b => (b.slot, b.band)) = [(p.slot, 0)] ∧
      (t.st n).pages.map (fun q => (q.slot, q.sweep)) = (s.st n).pages.map (fun q => (q.slot, q.sweep)) ∧
      ∀ q ∈ (t.st n).pages, q.slot = p.slot → q.bands = 1

/-- The commands of `SHF_CMD`, with none executing, on pool 5 or 6: credits within the budget are granted, and others
refused with LENGTH and source 96 (R409, R411, R417); a return of outstanding credits is made (R414); an allocation
against a credit puts the lowest FREE frame into TRANSIT (R412); a HELD frame without pins, which no Mover channel
uses, begins its way to the free list, or retired, to the reserve pool (R413, R437, R461); every other pool is refused
with RANGE (R460). -/
def Obligations.FrameCommands : Prop :=
  ∀ (p : Fin 8) (s : State), s.aonOn = true → s.on .mem = true → s.shf.allocWait = none → s.shf.allocFrame = none →
    (p.val = 5 ∨ p.val = 6 →
      let c (o : Nat) (h : Shf) : Shf := { h with cmdPool := p, cmdOp := o }
      (0 < s.shfArg → (s.pool p).issued + s.shfArg ≤ s.budget p →
        Does (.shfCredit p) s (s.onShf fun h => { c 0 h with cmdStatus := 1, pools := modAt h.pools p fun x =>
          { x with issued := x.issued + s.shfArg, out := x.out + s.shfArg } })) ∧
      (0 < s.shfArg → s.budget p < (s.pool p).issued + s.shfArg →
        ∃ t, Does (.shfCredit p) s t ∧ t.shf = { c 0 s.shf with cmdStatus := 2 }) ∧
      (s.shfArg ≤ (s.pool p).out →
        Does (.shfReturn p) s (s.onShf fun h => { c 1 h with cmdStatus := 1, pools := modAt h.pools p fun x =>
          { x with issued := x.issued - s.shfArg, out := x.out - s.shfArg } })) ∧
      (∀ f, 0 < (s.pool p).out → s.shf.transit < 8 → s.lowestFree = some f →
        ∃ t, Does (.shfAllocate p) s t ∧ t.shf.cmdStatus = 1 ∧ t.shf.cmdResult = f ∧
          t.shf.transit = s.shf.transit + 1 ∧ t.shf.free = s.shf.free - 1 ∧ (t.frame? f).map (·.st) = some .toPool) ∧
      (∀ x, s.frame? s.shfArg = some x → x.st = .held → x.pool = p → x.pins = 0 → x.retire = false →
        s.movHolds s.shfArg = false → s.shf.transit < 8 →
        (∃ t, Does (.shfFree p) s t ∧ t.shf.cmdStatus = 1 ∧ t.shf.transit = s.shf.transit + 1 ∧
          (t.frame? s.shfArg).map (·.st) = some .toFree) ∧
        ∃ t, Does (.shfRetire p) s t ∧ t.shf.cmdStatus = 1 ∧ t.shf.transit = s.shf.transit + 1 ∧
          (t.frame? s.shfArg).map (fun y => (y.st, y.pool)) = some (.toPool, 7))) ∧
    (p.val ≠ 5 → p.val ≠ 6 → Does (.shfFree p) s (s.onShf fun h => { h with cmdPool := p, cmdOp := 3, cmdStatus := 3 }))

/-- What happens to frames. A frame arrives in its pool, or on the free list (R412, R413). A wait of page submission
that has room is granted its credits (R409, R417). An allocation that waited takes the lowest FREE frame (R416). A
page-out whose write completes sends the frame on its way to the free list (R413, R426); one whose write fails gives
the frame back to its pool, never to be paged out again, with source 98 (R428). An uncorrectable error marks a frame
of a pool for retirement, with source 100 (R436). A budget within its limits is stored, and one below 16 for the
journal pool is discarded (R405). -/
def Obligations.FramesMove : Prop :=
  (∀ (f : Nat) (x : Frame) (s : State), s.aonOn = true → s.on .mem = true → s.frame? f = some x →
    (x.st = .toPool → x.freeLater = false → s.shf.allocFrame = none →
      ∃ t, Does (.transitArrive f) s t ∧ t.frame? f = some { x with st := .held } ∧
        t.shf.transit = s.shf.transit - 1 ∧ t.shf.free = s.shf.free) ∧
    (x.st = .toFree → ∃ t, Does (.transitArrive f) s t ∧ t.shf.frames = kdel f s.shf.frames ∧
      t.shf.transit = s.shf.transit - 1 ∧ t.shf.free = s.shf.free + 1) ∧
    (x.st = .dif → x.retire = false → x.freeLater = false → x.noPage = false → s.movHolds f = false → s.shf.transit < 8 →
      (∀ d ∈ s.rch.cur.toList ++ s.rch.waiting, d.kind ≠ .pageOut f) → x.pool = 3 → s.shaped = true →
      ∃ t, Does (.pageoutWriteComplete f true) s t ∧ t.frame? f = some { st := .toFree, pool := 3 } ∧
        t.shf.transit = s.shf.transit + 1 ∧ t.shf.free = s.shf.free ∧ (t.pool 3).dif = (s.pool 3).dif - 1 ∧
        (t.pool 3).issued = (s.pool 3).issued - 1) ∧
    (x.st = .dif → x.freeLater = false → x.owner.isSome = true →
      ∃ t, Does (.pageoutWriteComplete f false) s t ∧ t.frame? f = some { x with st := .held, noPage := true }) ∧
    (∀ o, f < s.shf.total → x.retire = false → x.pool ≠ 7 →
      ∃ t, Does (.dramUncorrectable f o) s t ∧ t.frame? f = some { x with retire := true } ∧
        t.shf.errs = s.shf.errs ++ [65536 * f + o % 65536])) ∧
  (∀ (w : CreditWait) (s : State), s.aonOn = true → s.on .mem = true → s.shf.waits = [w] → w.consumer = 0 →
    0 < w.n → (s.pool w.pool).issued + w.n ≤ s.budget w.pool → (s.tok w.ref).state ≠ .free →
    ∃ t, Does .creditGrant s t ∧ t.shf.waits = [] ∧ (t.tok w.ref).creditWait = 0 ∧
      t.shf.pools = modAt s.shf.pools w.pool fun x => { x with issued := x.issued + w.n, out := x.out + w.n }) ∧
  (∀ (p f : Nat) (s : State), s.aonOn = true → s.on .mem = true → s.shf.allocWait = some p → s.lowestFree = some f →
    s.shf.transit < 8 →
    ∃ t, Does .allocComplete s t ∧ t.shf.allocWait = none ∧ t.shf.allocFrame = some f ∧
      t.shf.transit = s.shf.transit + 1 ∧ t.shf.free = s.shf.free - 1) ∧
  ∀ (p : Fin 8) (v : Word) (s : State), s.aonOn = true → s.on .mem = true → s.mayWrite .fixed = true →
    ((s.shf.budgets.set p v.toNat).sum ≤ s.shf.total → (s.pool p).issued ≤ v.toNat → p.val ≠ 2 → p.val ≠ 4 →
      Does (.poolBudgetWrite p v) s (s.onShf fun h => { h with budgets := h.budgets.set p v.toNat })) ∧
    (p.val = 4 → v.toNat < 16 → Does (.poolBudgetWrite p v) s s)

/-- The Mover. A start whose checks pass queues the channel and adds COUNT to REQUESTED and PENDING (R447, R454); one
of a queued channel is missed, with source 106 (R443); one with COUNT 0 is done at once (R445). The head of the queue
runs when its checks still pass; how many of its bytes are read and not yet written is a free value of at most 512
(R448, R455; log entry 40). When it ends, its bytes are counted as moved (R454). An abort takes a queued
channel off the queue with all of its bytes abandoned, and source 105 (R453). -/
def Obligations.TheMoverCopies : Prop :=
  (∀ (k : Fin 16) (v : Word) (s : State), s.aonOn = true → s.on .mem = true →
    let s1 := (s.onMovCh k fun c => { c with missed := c.missed && !bitOf v 7 }).setReg (0x480114 + 0x20 * k)
      (v &&& 0x67700000#32)
    (s.mov.queue.contains k.val = false → 0 < s.movCount k → s1.movCheck k = none →
      ∃ t, Does (.movStart k v) s t ∧ t.mov.queue = s.mov.queue ++ [k.val] ∧
        t.mov.requested = s.mov.requested + s.movCount k ∧ t.mov.pend = s.mov.pend + s.movCount k ∧
        t.mov.moved = s.mov.moved ∧ t.dram = s.dram) ∧
    (s.mov.queue.contains k.val = true →
      ∃ t, Does (.movStart k v) s t ∧ t.mov.queue = s.mov.queue ∧ t.mov.requested = s.mov.requested ∧ t.regs = s.regs) ∧
    (s.mov.queue.contains k.val = false → s.movCount k = 0 →
      ∃ t, Does (.movStart k v) s t ∧ t.mov.queue = s.mov.queue ∧ t.mov.requested = s.mov.requested ∧ t.dram = s.dram)) ∧
  (∀ (k : Nat) (rest : List Nat) (s : State), s.aonOn = true → s.on .mem = true → s.mov.queue = k :: rest →
    (s.mov.running = false → s.movCheck k = none →
      ∃ t, Does .movChannelRun s t ∧ t.mov.running = true ∧ t.mov.cur = k ∧ t.mov.queue = s.mov.queue ∧
        t.mov.chans = modAt s.mov.chans k (fun c => { c with status := .running }) ∧
        t.mov.buffered ≤ s.mov.buffered + min 512 (s.movCount k) ∧ t.mov.requested = s.mov.requested ∧
        t.mov.moved = s.mov.moved ∧ t.mov.abandoned = s.mov.abandoned ∧ t.dram = s.dram ∧
        (s.movCount k ≤ s.mov.pend → t.mov.pend + t.mov.buffered = s.mov.pend + s.mov.buffered)) ∧
    (s.mov.running = true → k ∉ rest → (∀ f ∈ s.shf.frames, f.2.freeLater = false) →
      ∃ t, Does .movChannelDone s t ∧ t.mov.queue = rest ∧ t.mov.running = false ∧
        t.mov.moved = s.mov.moved + s.movCount k ∧
        t.mov.pend = s.mov.pend - (s.movCount k - s.mov.buffered) ∧ t.mov.buffered = 0 ∧
        t.mov.requested = s.mov.requested)) ∧
  ∀ (k : Nat) (s : State), k < 16 → s.aonOn = true → s.on .mem = true → s.mov.queue = [k] → s.mov.running = false →
    (∀ f ∈ s.shf.frames, f.2.freeLater = false) →
    ∃ t, Does (.movAbort (BitVec.ofNat 16 (2 ^ k)) 0) s t ∧ t.mov.queue = [] ∧
      t.mov.abandoned = s.mov.abandoned + s.movCount k ∧ t.mov.moved = s.mov.moved ∧ t.dram = s.dram

/-! ## The disk -/

/-- The disk's work. The first waiting transfer that has its frame starts when nothing runs: past CAPACITY it ends with
LENGTH, on a disk that is not ready with NOT_READY (R510, R511), and its block command learns it; on a ready disk with
no print work pending it starts whole, with a seek (R580), and with print work pending its first piece, of at most
NP_MAX sectors, starts when its estimate is within the credit and waits otherwise (R577). A plan run starts on a ready
disk, and past CAPACITY it ends (R511, R576); a non-print piece in progress is told to stop at its next sector boundary
(R578). -/
def Obligations.DiskWorkStarts : Prop :=
  (∀ (psi q c : Nat) (x : DXfer) (s : State), s.aonOn = true → s.on .dsk = true → s.rch.cur = none →
    (s.frameOfBlock (q * 65536 + c)).isSome = true → s.rch.waiting = [x] → s.journalDue = false → x.kind = .hostRead q c →
     s.rch.fhCal = none →
    s.calOn 7 0 = false → x.done = 0 → s.rch.writing = false →
    (s.capacity < x.lba + x.count → ∃ t, Does (.nonprintPieceStart psi) s t ∧ t.rch.cur = none ∧ t.rch.waiting = [] ∧
      t.hq.qs = (s.onCmd q c fun d => { d with phase := 2, status := 6, done := 0 }).hq.qs) ∧
    (x.lba + x.count ≤ s.capacity → s.diskReady = false →
      ∃ t, Does (.nonprintPieceStart psi) s t ∧ t.rch.cur = none ∧ t.rch.waiting = [] ∧
        t.hq.qs = (s.onCmd q c fun d => { d with phase := 2, status := 4, done := 0 }).hq.qs) ∧
    (x.lba + x.count ≤ s.capacity → s.diskReady = true → s.rch.plans = [] →
      ∃ t, Does (.nonprintPieceStart psi) s t ∧ t.rch.cur = some x ∧ t.rch.waiting = [] ∧
        t.rch.pieceEnd = x.count ∧ t.srv.cntSeeks = satInc 0xFFFFFFFF s.srv.cntSeeks ∧
        t.rch.cntRead = s.rch.cntRead) ∧
    (x.lba + x.count ≤ s.capacity → s.diskReady = true → s.rch.plans ≠ [] →
      let n := min x.count (fld (s.srvReg 0x38) 16 13)
      (s.estimate x n ≤ s.rch.credit → ∃ t, Does (.nonprintPieceStart psi) s t ∧ t.rch.cur = some x ∧
        t.rch.waiting = [] ∧ t.rch.pieceEnd = n ∧ t.rch.pieceCharged = true) ∧
      (s.rch.credit < s.estimate x n → Does (.nonprintPieceStart psi) s s.follows))) ∧
  (∀ (psi : Nat) (x : DXfer) (rest : List DXfer) (s : State), s.aonOn = true → s.on .dsk = true → s.rch.cur = none →
    s.rch.plans = x :: rest → s.diskReady = true → x.done < x.count → s.rch.writing = false →
    (x.lba + x.count ≤ s.capacity → ∃ t, Does (.planRunStart psi) s t ∧ t.rch.cur = some x ∧ t.rch.plans = rest ∧
      t.srv.cntSeeks = satInc 0xFFFFFFFF s.srv.cntSeeks) ∧
    (s.capacity < x.lba + x.count → ∃ t, Does (.planRunStart psi) s t ∧ t.rch.cur = none ∧ t.rch.plans = rest ∧
      t.srv.cntSeeks = s.srv.cntSeeks)) ∧
  ∀ (psi q c : Nat) (x : DXfer) (s : State), s.aonOn = true → s.on .dsk = true → s.rch.plans ≠ [] →
    s.rch.cur = some x → x.kind = .hostWrite q c →
    Does (.planRunStart psi) s (s.onRch fun r => { r with stopNext := true }).follows

/-- Reading a sector. A pass that carries the sector as it was written, bit by bit, with an even envelope, lands its
user bytes in the frame of the block command, and counts it, whatever the settings of the window and the decoder; the
transfer goes on with the next sector (R479 to R485, R488, R492 to R500, R507). So does every other pass whose decode
passes every check (R499). A pass in which both marks are missed counts that, and the relaxed reread is due
(R495, R497); one whose tag differs, as that of another sector with the same scrambler seed does, enters the ladder at
its first enabled step (R500, R506, R509). A good pass within
the ladder lands, and the transfer is marked as recovered (R508, R510); the first read of step 7 leaves its detector
output for the second one to be summed with (R489, R496, R506); a failed one leads to the next enabled step,
and past the last the LBA is a grown defect and the transfer ends (R506, R508). The judgement of the sync marks, the
alignment that they give (R495); of the decodes at a single mark, at the shifts 0, +1, −1 and so on, the first that
passes is taken (R496); the codeword of every sector satisfies every parity check, and passes the checks of
its own LBA (R481 to R484, R499, R500). -/
def Obligations.SectorsAreReadAndRecovered : Prop :=
  (∀ (p : ReadPass) (q c : Nat) (x : DXfer) (s : State), s.aonOn = true → s.on .dsk = true → s.canRead = true →
     s.rch.cur = some x → x.kind = .hostRead q c → x.cut = false → s.rch.stopNext = false → x.done + 1 < x.count →
     x.done + 1 < s.rch.pieceEnd →
     let lba := x.lba + x.done
     let e := s.earn p.us
     let first := s.ladderNext x 0 0
     let steady := 0 < fld (s.rchReg 0x24) 8 8 ∧ s.rch.firstSoft = none
     (∀ u f, s.rch.recov = .fresh → steady → s.thNormal ≤ 32 → p.carries (trackSector lba u) →
       s.frameOfBlock (q * 65536 + c) = some f → Memory.wf s.dram = true →
       ∃ t, Does (.sectorReadComplete p) s t ∧ t.rch.cur = some { x with done := x.done + 1 } ∧ t.rch.recov = .fresh ∧
         t.rch.cntRead = satInc 0xFFFFFFFF s.rch.cntRead ∧ t.rch.cntSmmiss = s.rch.cntSmmiss ∧
         t.rch.cntTagmis = s.rch.cntTagmis ∧
         ∀ i < 4096, sget 0 (65536 * f + 4096 * (x.done % 16) + i) t.dram = u.getD i 0) ∧
     (s.rch.recov = .fresh → p.bits.length < 32 →
       ∃ t, Does (.sectorReadComplete p) s t ∧ t.rch.cur = some x ∧ t.rch.recov = .relaxed ∧
         t.rch.cntRead = s.rch.cntRead ∧ t.rch.cntSmmiss = satInc 0xFFFFFFFF s.rch.cntSmmiss) ∧
     (∀ u other j, s.rch.recov = .fresh → steady → s.thNormal ≤ 32 → p.carries (trackSector other u) →
       other % 32767 = lba % 32767 → other % 2 ^ 32 ≠ lba % 2 ^ 32 → first = some j →
       ∃ t, Does (.sectorReadComplete p) s t ∧ t.rch.cur = some x ∧ t.rch.recov = .ladder j 1 ∧
         t.rch.cntTagmis = satInc 0xFFFFFFFF s.rch.cntTagmis ∧ t.rch.cntLadder = satInc 0xFFFFFFFF s.rch.cntLadder) ∧
     (∀ u, s.rch.recov = .relaxed → steady → fld (s.rchReg 0x20) 8 6 ≤ 32 → p.carries (trackSector lba u) →
       ∃ t, Does (.relaxedReread p) s t ∧ t.rch.cur = some { x with done := x.done + 1, recovered := true } ∧
         t.rch.recov = .fresh ∧ t.rch.cntRead = satInc 0xFFFFFFFF s.rch.cntRead) ∧
     (∀ j, s.rch.recov = .relaxed → p.bits.length < 32 → first = some j →
       ∃ t, Does (.relaxedReread p) s t ∧ t.rch.cur = some x ∧ t.rch.recov = .ladder j 1 ∧
         t.rch.cntRead = s.rch.cntRead) ∧
     (∀ i ran u, s.rch.recov = .ladder i ran → i ≠ 7 → steady → s.thNormal ≤ 32 → p.carries (trackSector lba u) →
       ∃ t, Does (.ladderStep p) s t ∧ t.rch.cur = some { x with done := x.done + 1, recovered := true } ∧
         t.rch.recov = .fresh ∧ t.rch.cntRead = satInc 0xFFFFFFFF s.rch.cntRead ∧ t.srv.ofs = 0) ∧
     (∀ ran u l, s.rch.recov = .ladder 7 ran → s.rch.firstSoft = some l → hardBits l = bitsMsb (trackSector lba u) →
       0 < fld (s.rchReg 0x24) 8 8 → s.thNormal ≤ 32 → p.carries (trackSector lba u) →
       ∃ t, Does (.ladderStep p) s t ∧ t.rch.cur = some { x with done := x.done + 1, recovered := true } ∧
         t.rch.soft = softSum l (p.bits.map (·.llr)) ∧ t.rch.firstSoft = none) ∧
     (∀ i ran j, s.rch.recov = .ladder i ran → (i ≠ 7 ∨ s.rch.firstSoft.isSome = true) → p.bits.length < 32 →
       s.ladderNext x i ran = some j →
       ∃ t, Does (.ladderStep p) s t ∧ t.rch.cur = some x ∧ t.rch.recov = .ladder j (ran + 1) ∧
         t.rch.cntLadder = s.rch.cntLadder) ∧
     (∀ i ran, s.rch.recov = .ladder i ran → (i ≠ 7 ∨ s.rch.firstSoft.isSome = true) → p.bits.length < 32 →
       s.ladderNext x i ran = none → s.die.glist.length < 4096 →
       ∃ t, Does (.ladderStep p) s t ∧ t.rch.cur = none ∧ t.rch.cntRfail = satInc 0xFFFFFFFF s.rch.cntRfail ∧
         t.die.glist = s.die.glist ++ [(lba, 1)] ∧
         t.hq.qs = (s.onCmd q c fun d => { d with phase := 2, status := 2, done := x.done }).hq.qs) ∧
     (∀ m u w, s.rch.recov = .fresh → e.readPass p s.thNormal s.iterNormal 0 lba = (m, .good u, w) →
       ∃ t, Does (.sectorReadComplete p) s t ∧ t.rch.cur = some { x with done := x.done + 1 } ∧ t.rch.recov = .fresh ∧
         t.rch.cntRead = satInc 0xFFFFFFFF s.rch.cntRead) ∧
     (∀ w, s.rch.recov = .fresh → e.readPass p s.thNormal s.iterNormal 0 lba = (.missed, .bad, w) →
       ∃ t, Does (.sectorReadComplete p) s t ∧ t.rch.cur = some x ∧ t.rch.recov = .relaxed ∧
         t.rch.cntRead = s.rch.cntRead ∧ t.rch.cntSmmiss = satInc 0xFFFFFFFF s.rch.cntSmmiss) ∧
     (∀ m w j, s.rch.recov = .fresh → e.readPass p s.thNormal s.iterNormal 0 lba = (m, .tag, w) → first = some j →
       ∃ t, Does (.sectorReadComplete p) s t ∧ t.rch.cur = some x ∧ t.rch.recov = .ladder j 1 ∧
         (m ≠ .single → t.rch.cntTagmis = satInc 0xFFFFFFFF s.rch.cntTagmis) ∧
         t.rch.cntLadder = satInc 0xFFFFFFFF s.rch.cntLadder) ∧
     (∀ m u w, s.rch.recov = .relaxed →
       e.readPass p (fld (s.rchReg 0x20) 8 6) s.iterNormal 0 lba = (m, .good u, w) →
       ∃ t, Does (.relaxedReread p) s t ∧ t.rch.cur = some { x with done := x.done + 1, recovered := true } ∧
         t.rch.cntRead = satInc 0xFFFFFFFF s.rch.cntRead) ∧
     (∀ i ran m u w, s.rch.recov = .ladder i ran → 0 < i → i ≠ 2 → (i ≠ 7 ∨ s.rch.firstSoft.isSome = true) →
       e.readPass p s.thNormal s.iterNormal i lba = (m, .good u, w) →
       ∃ t, Does (.ladderStep p) s t ∧ t.rch.cur = some { x with done := x.done + 1, recovered := true } ∧
         t.rch.cntLadder = s.rch.cntLadder ∧ t.srv.ofs = 0) ∧
     (∀ ran, s.rch.recov = .ladder 7 ran → s.rch.firstSoft = none →
       ∃ t, Does (.ladderStep p) s t ∧ t.rch.cur = some x ∧ t.rch.recov = .ladder 7 ran ∧
         t.rch.firstSoft = some t.rch.soft ∧ t.rch.cntRead = s.rch.cntRead) ∧
     (∀ i ran j m w, s.rch.recov = .ladder i ran → i ≠ 2 → (i ≠ 7 ∨ s.rch.firstSoft.isSome = true) →
         e.readPass p s.thNormal s.iterNormal i lba = (m, .bad, w) →
       s.ladderNext x i ran = some j →
       ∃ t, Does (.ladderStep p) s t ∧ t.rch.cur = some x ∧ t.rch.recov = .ladder j (ran + 1) ∧
         t.rch.cntLadder = s.rch.cntLadder) ∧
     ∀ i ran m w, s.rch.recov = .ladder i ran → i ≠ 2 → (i ≠ 7 ∨ s.rch.firstSoft.isSome = true) →
       e.readPass p s.thNormal s.iterNormal i lba = (m, .bad, w) →
       s.ladderNext x i ran = none → s.die.glist.length < 4096 →
       ∃ t, Does (.ladderStep p) s t ∧ t.rch.cur = none ∧ t.rch.cntRfail = satInc 0xFFFFFFFF s.rch.cntRfail ∧
         t.die.glist = s.die.glist ++ [(lba, 1)] ∧
         t.hq.qs = (s.onCmd q c fun d => { d with phase := 2, status := 2, done := x.done }).hq.qs) ∧
  ((∀ a b : Nat, judgeMarks (some a) (some b) = (if b = a + 19184 then .both else .differ) ∧
     alignOf (some a) (some b) = some ((b : Int) - 19152, (b : Int) + 32)) ∧
   (∀ a : Nat, judgeMarks (some a) none = .single ∧ judgeMarks none (some a) = .single ∧
     alignOf (some a) none = some ((a : Int) + 32, (a : Int) + 19216) ∧
     alignOf none (some a) = some ((a : Int) - 19152, (a : Int) + 32)) ∧
   judgeMarks none none = .missed ∧ alignOf none none = none ∧
   (∀ (k : Nat) (l t : List Checked) (u : List Byte), (∀ c ∈ l, ∀ v, c ≠ .good v) →
     firstGood k (l ++ .good u :: t) = (.good u, k + l.length)) ∧
   (List.range 5).map shiftOf = [0, 1, -1, 2, -2] ∧
   (∀ (lba : Nat) (u : List Byte), parityOk (codeword lba u) = true ∧ (codeword lba u).length = 4788 ∧
     checkDecode lba (some (codeword lba u)) = .good (padTo 4096 u)) ∧
   ∀ (mark : Word) (pred w th : Nat) (bits : List RBit) (flags : List Bool) (x : Nat),
     findMark mark pred w th bits flags = some x →
       pred - w ≤ x ∧ x ≤ pred - w + 2 * w ∧ x + 32 ≤ bits.length ∧ th ≤ agreement mark (bits.drop x) ∧
         ((flags.drop x).take 32).any id = false)

/-- Writing a sector. Until 38,656 bits have passed the write gate stays open; then it closes, the sector is counted,
and the transfer goes on (R501). What the medium then holds is read back: a pass that carries it gives a read of that
sector its user bytes, at the first attempt, at the relaxed reread, and within the ladder (R495 to R500, R506 to R508).
An abandoned sector is written again, which counts as a rewrite (R505); while its
cause stands, the end of WR_WAIT makes it a grown defect and ends its transfer WRITE_FAILED (R505, R510). The
preamplifier. A fault during a write abandons the sector, and FAULT is to be read (R504, R520); once the line
deasserts, transfers may go on. A manual frame runs in the modes of its class, ends with BUSY while a frame is in
progress, and with STATE_CONFLICT in every other mode (R521, R531); when it has ended, STATUS is done and a read
frame's byte stands in DATA (R515, R542). A head selection takes the tables of the head, and acquires it anew (R520,
R523, R572). -/
def Obligations.SectorsAreWritten : Prop :=
  (∀ (data : List Byte) (bits us q c : Nat) (x : DXfer) (s : State), s.aonOn = true → s.on .dsk = true →
     s.rch.cur = some x → x.kind = .hostWrite q c →
     (s.canWrite = true → s.rch.abandoned = false → bits < 38656 →
       ∃ t, Does (.sectorWrite data bits us) s t ∧ t.rch.writing = true ∧ t.rch.cur = some x ∧
         t.rch.written = trackSector (x.lba + x.done) (padTo 4096 data) ∧ t.rch.cntWritten = s.rch.cntWritten) ∧
     (s.canWrite = true → s.rch.abandoned = false → 38656 ≤ bits → x.cut = false → s.rch.stopNext = false →
       x.done + 1 < x.count →
       x.done + 1 < s.rch.pieceEnd →
       ∃ t, Does (.sectorWrite data bits us) s t ∧ t.rch.writing = false ∧ t.rch.cur = some { x with done := x.done + 1 } ∧
         t.rch.cntWritten = satInc 0xFFFFFFFF s.rch.cntWritten) ∧
     (s.canWrite = true → s.rch.abandoned = true → bits < 38656 →
       ∃ t, Does (.sectorRewrite data bits us) s t ∧ t.rch.writing = true ∧ t.rch.abandoned = false ∧
         t.rch.rewrites = s.rch.rewrites + 1) ∧
     (s.rch.abandoned = true → s.srv.winh ≠ 0 → s.die.glist.length < 4096 →
       ∃ t, Does .rewriteTimeout s t ∧ t.rch.cur = none ∧ t.rch.cntWfail = satInc 0xFFFFFFFF s.rch.cntWfail ∧
         t.die.glist = s.die.glist ++ [(x.lba + x.done, 2)] ∧
         t.hq.qs = (s.onCmd q c fun d => { d with phase := 2, status := 3, done := x.done }).hq.qs)) ∧
  (∀ (p : ReadPass) (u : List Byte) (q c f : Nat) (x : DXfer) (s : State), s.aonOn = true → s.on .dsk = true →
     s.diskReady = true → s.rch.paFault = false → s.rch.paCur = none → s.rch.paDue = [] → s.rch.cur = some x →
     x.kind = .hostRead q c → (s.lbaAt (x.lba + x.done)).1 = s.rch.head → x.done + 1 = x.count → x.recovered = false →
     s.frameOfBlock (q * 65536 + c) = some f → Memory.wf s.dram = true → s.rch.written = trackSector (x.lba + x.done) u →
     p.carries s.rch.written → s.rch.firstSoft = none → 0 < fld (s.rchReg 0x24) 8 8 →
     let read (t : State) (status : Nat) : Prop :=
       t.rch.cur = none ∧ t.rch.cntRead = satInc 0xFFFFFFFF s.rch.cntRead ∧ t.rch.recov = .fresh ∧
         (∀ i < 4096, sget 0 (65536 * f + 4096 * (x.done % 16) + i) t.dram = u.getD i 0) ∧
         t.hq.qs = (s.onCmd q c fun d => { d with phase := 2, status := status, done := x.count }).hq.qs
     (s.rch.recov = .fresh → fld (s.rchReg 0x20) 16 6 ≤ 32 → ∃ t, Does (.sectorReadComplete p) s t ∧ read t 0) ∧
     (s.rch.recov = .relaxed → fld (s.rchReg 0x20) 8 6 ≤ 32 → ∃ t, Does (.relaxedReread p) s t ∧ read t 1) ∧
     ∀ i ran, i ≠ 7 → s.rch.recov = .ladder i ran → fld (s.rchReg 0x20) 16 6 ≤ 32 →
       ∃ t, Does (.ladderStep p) s t ∧ read t 1) ∧
  ((∀ s : State, s.aonOn = true → s.on .dsk = true → s.rch.writing = true → s.rch.rewrites < fld (s.rchReg 0x30) 20 4 →
     ∃ t, Does .preampFault s t ∧ t.rch.paFault = true ∧ t.rch.writing = false ∧ t.rch.abandoned = true ∧
       t.rch.cntWabort = satInc 0xFFFFFFFF s.rch.cntWabort ∧ t.rch.cur = s.rch.cur) ∧
   (∀ s : State, s.aonOn = true → s.on .dsk = true →
     Does .paFltNDeassert s (s.onRch fun r => { r with paFault := false }).follows) ∧
   (∀ (read : Bool) (addr : BitVec 7) (data : BitVec 8) (s : State), s.aonOn = true → s.on .dsk = true →
     (s.mayWrite .test = true → s.rch.paCur = none → s.rch.paDue = [] →
       ∃ t, Does (.preampManualFrame read addr data) s t ∧ t.rch.paStatus = 0 ∧
         t.rch.paCur = some { read := read, addr := addr.toNat, data := data.toNat }) ∧
     (s.mayWrite .test = true → s.rch.paCur.isSome = true →
       ∃ t, Does (.preampManualFrame read addr data) s t ∧ t.rch.paStatus = 3 ∧ t.rch.paCur = s.rch.paCur) ∧
     (s.mayWrite .test = false →
       Does (.preampManualFrame read addr data) s (s.onRch fun r => { r with paStatus := 2 }))) ∧
   (∀ (data : BitVec 8) (a d : Nat) (s : State), s.aonOn = true → s.on .dsk = true → s.rch.paDue = [] →
     s.rch.paCur = some { read := true, addr := a, data := d } →
     Does (.preampFrameDone data) s (s.onRch fun r =>
       { r with paCur := none, paStatus := 1, paWord := putFld r.paWord 0 8 data.toNat }).follows) ∧
   ∀ (h : Fin 4) (s : State), s.aonOn = true → s.on .dsk = true → h.val < s.heads → s.rch.cur = none →
     ∃ t, Does (.headSelect h) s t ∧ t.rch.head = h ∧ t.rch.heads = modAt s.rch.heads h (fun _ => s.shadowHead h) ∧
       (s.srv.st = .follow → h.val ≠ s.rch.head → t.srv.st = .acquire))

/-- Fly height. A touchdown outside calibration lowers both codes of the current zone by 2 (R529). In a calibration that
has begun (R527) the heater code rises by one until the variance exceeds the threshold (R528); the second search that
agrees with the first gives the zone its codes in the shadow table (R528); code 255 fails the zone, and the calibration
of the last zone ends FAILED with STATUS 3 (R528, R543, R1049). Its start outside READY ends with STATE_CONFLICT (R527).
The clear of the grown-defect list empties it (R547). -/
def Obligations.FlyHeightIsCalibrated : Prop :=
  (∀ (v : Nat) (s : State), s.aonOn = true → s.on .dsk = true → s.rch.fhCal = none → (s.rchReg 0x58).toNat < v →
    let o := 0x500410 + 0x40 * s.rch.head + 4 * s.zone
    ∃ t, Does (.touchdown v) s t ∧ t.regs = (s.setReg o (lower2 (s.reg o))).regs) ∧
  (∀ (v z : Nat) (rest : List Nat) (c : FhCal) (s : State), s.aonOn = true → s.on .dsk = true → s.rch.fhCal = some c →
    c.zones = z :: rest →
    (c.begun = false → Does (.fhCalZoneStep v) s s.follows) ∧
    (c.begun = true → v ≤ (s.rchReg 0x58).toNat → c.htr ≠ 255 →
      ∃ t, Does (.fhCalZoneStep v) s t ∧ t.rch.fhCal = some { c with htr := c.htr + 1 } ∧ t.regs = s.regs) ∧
    (c.begun = true → (s.rchReg 0x58).toNat < v → c.td = none →
      ∃ t, Does (.fhCalZoneStep v) s t ∧ t.rch.fhCal = some { c with td := some c.htr, htr := s.htrStart } ∧
        t.regs = s.regs) ∧
    (∀ td r, c.begun = true → (s.rchReg 0x58).toNat < v → c.td = some td → rest = [] → c.bad = 0 → (s.calCh 8).run = some r →
      r.slots = [] → (s.calCh 8).turn = [] →
      ((td : Int) - (c.htr : Int)).natAbs ≤ fld (s.rchReg 0x54) 0 4 →
      ∃ t, Does (.fhCalZoneStep v) s t ∧ t.rch.fhCal = none ∧ t.rch.fhStatus = 2 ∧
        t.regs = (s.setReg (0x500410 + 0x40 * c.head + 4 * z)
          (place (td - fld (s.rchReg 0x54) 8 8) 8 8 ||| place (td - fld (s.rchReg 0x54) 16 8) 0 8)).regs) ∧
    (∀ r, c.begun = true → v ≤ (s.rchReg 0x58).toNat → c.htr = 255 → rest = [] → (s.calCh 8).run = some r →
      r.slots = [] → (s.calCh 8).turn = [] →
      ∃ t, Does (.fhCalZoneStep v) s t ∧ t.rch.fhCal = none ∧ t.rch.fhStatus = 3 ∧ t.regs = s.regs)) ∧
  (∀ (h : Fin 4) (z : BitVec 8) (s : State), s.aonOn = true → s.on .dsk = true → h.val < s.heads →
    s.mayWrite .setp = true →
    (s.sys.mode ≠ .ready → Does (.fhCalStart h z) s (s.onRch fun r =>
      { r with fhWord := place h 16 2 ||| place z.toNat 8 8, fhStatus := 5 })) ∧
    (s.on .eng = true → s.sys.mode = .ready → s.sys.transit = false → s.diskClaimed = false → s.calBusy 8 h = false →
      z ≠ 0#8 → ∃ t, Does (.fhCalStart h z) s t ∧ t.rch.fhStatus = 1 ∧ t.rch.fhCal.isSome = true ∧
        (t.calCh 8).pending = none)) ∧
  ∀ s : State, s.aonOn = true → s.on .dsk = true → s.mayWrite .test = true →
    s.served .service = true →
    Does .glistClear s ((({ s with die := { s.die with glist := [] } } : State).replied .none).checkpoints)

/-- A servo window of a loaded head gives one position sample (R558 to R563): the bursts of the quartets that lie wholly
inside the window are summed, modulo 2^24 (the model's choice, log entry 123). A sample within the limits of `SRV_QUAL`
takes the position with the fine position of R559 that lies nearest the prediction; any other takes the prediction
itself, and counts. More than INV_MAX of these in a row make the servo lost: the heads park, with source 128. In FOLLOW
a good sample whose error exceeds RD_LIM leads to SETTLE (R565, R567, R568). A cause of write inhibition is set by its
condition and latched, and abandons the sector being written; what clears it is its own condition alone, never a read
(R582, R585). While SHOCK stands no sector is written (R504). -/
def Obligations.ServoWindowsAndWriteSafety : Prop :=
  (∀ (slots : List StripeSlot) (agc : Bool) (s : State), s.aonOn = true → s.on .dsk = true →
     s.srv.st = .seek ∨ s.srv.st = .settle ∨ s.srv.st = .follow →
     let whole : List (List Nat) := slots.filterMap fun x => match x with
       | .quartet true a b c d => some [a, b, c, d]
       | _ => none
     let burst (i : Nat) : Nat := (whole.map fun l => l.getD i 0).sum % 2 ^ 24
     let n : Int := (burst 0 : Int) - burst 1
     let q : Int := (burst 2 : Int) - burst 3
     let sum := n.natAbs + q.natAbs
     let pes : Int := clampI (-8192) 8191 (if 0 ≤ q then (n * 4096).tdiv sum
       else (if 0 < n then 1 else -1) * (8192 - ((n.natAbs : Int) * 4096).tdiv sum))
     let pred : Int := 2 * s.srv.p - s.srv.p1
     let good := s.srvQual 0 ≤ whole.length ∧ fld (s.srvReg 0x2C) 16 16 ≤ sum ∧ agc = true
     (good → 0 < sum → s.srv.headers = 0 →
       ∃ t, Does (.servoWindow slots agc none) s t ∧ t.srv.valid = true ∧ t.srv.pes = pes ∧
         (t.srv.p - pes) % 16384 = 0 ∧ (t.srv.p - pred).natAbs ≤ 8192 ∧ t.srv.p1 = s.srv.p ∧
         t.srv.cntInvalid = s.srv.cntInvalid ∧
         (s.srv.st = .follow →
           t.srv.err = sat32 ((s.srv.tgt : Int) * 16384 + s.srv.ofs + nth 0 s.srv.rdofs t.zone - t.srv.p) ∧
           t.srv.st = (if fld (s.srvReg 0x24) 16 16 < t.srv.err.natAbs then .settle else .follow))) ∧
     (¬ good → s.srv.invalidRow + 1 ≤ s.srvQual 8 → s.srv.idRow ≤ 4 →
       ∃ t, Does (.servoWindow slots agc none) s t ∧ t.srv.valid = false ∧ t.srv.p = pred ∧ t.srv.p1 = s.srv.p ∧
         t.srv.invalidRow = s.srv.invalidRow + 1 ∧ t.srv.cntInvalid = satInc 0xFFFFFFFF s.srv.cntInvalid) ∧
     (¬ good → s.srvQual 8 < s.srv.invalidRow + 1 →
       ∃ u : State, Does (.servoWindow slots agc none) s (u.raise 128).follows ∧ u.srv.st = .parking ∧
         u.srv.cmdRun = false ∧ (s.srv.cmdRun = true → u.srv.cmdStatus = 6))) ∧
  (∀ s : State, s.aonOn = true → s.on .dsk = true →
     (∀ i : Fin 6, s.causeHolds i = true → s.srv.winh.getLsbD i = false →
       ∃ u : State, Does (.writeInhibitCause i) s (State.follows u) ∧ u.srv.winh.getLsbD i = true ∧
         u.srv.latch.getLsbD i = true ∧ u.rch.writing = false ∧
         (s.rch.writing = true → u.rch.cntWabort = satInc 0xFFFFFFFF s.rch.cntWabort)) ∧
     (s.srv.winh.getLsbD 1 = false →
       ∃ t, Does .shockAssert s t ∧ t.srv.winh.getLsbD 1 = true ∧ t.srv.latch.getLsbD 1 = true ∧ t.canWrite = false) ∧
     Does .shockHoldExpiry s (s.onSrv fun v => { v with winh := v.winh &&& ~~~ 2#6 }).follows ∧
     (∀ mv, mv < (s.spnReg 0x20).toNat * 100 → s.srv.winh.getLsbD 3 = false →
       ∃ t, Does (.supplyLow mv) s t ∧ t.srv.winh.getLsbD 3 = true ∧ t.canWrite = false) ∧
     (∀ mv, mv < (s.spnReg 0x20).toNat * 100 → s.srv.winh.getLsbD 3 = true → s.spn.st = .ramp →
       s.spn.attempts ≤ fld (s.spnReg 8) 21 3 →
       ∃ t, Does (.supplyLow mv) s t ∧ t.spn.st = .coast ∧ t.spn.attemptWait = true) ∧
     ∀ mv, (s.spnReg 0x20).toNat * 100 + 200 < mv →
       Does (.supplyRestored mv) s (s.onSrv fun v => { v with winh := v.winh &&& ~~~ 8#6 }).follows)

/-- The commands of `SRV_CMD` (R565, R602, R606). A seek of a head on track to a turn of the disk starts, on the active
head as a profile and on another as an acquisition; park of loaded heads parks them; load of parked heads with the
spindle at speed loads them. Each is refused outside READY, and a head or a turn that the disk does not have is a range
error. How servo states end (R565, R569, R599, R600). A finished profile settles; a seek past SEEK_MAX parks, with
source 130 and STATUS 6; a load past LOAD_MAX without a good header parks, with source 128; latched heads are parked; a
park past PARK_MAX is a fault, which fires the retract circuit, with source 135. When RET_TIME ends the heads are
retracted, and a servo fault so ends too. A VCM fault opens the bridge and fires the circuit, with source 136; the
circuit fires only with heads loaded, and sets the retract flag, which the test write clears (R601). -/
def Obligations.ServoStatesGoTheirWay : Prop :=
  (∀ s : State, s.aonOn = true → s.on .dsk = true →
     (∀ h : Fin 4, s.srvLegal = true → h.val < s.heads → fld (s.srvReg 0x10) 0 24 < s.turns → s.srv.cmdRun = false →
       s.rch.cur = none → s.srv.st = .follow ∨ s.srv.st = .settle →
       ∃ t, Does (.seek h) s t ∧ t.srv.cmdStatus = 1 ∧ t.srv.cmdRun = true ∧
         t.srv.cntSeeks = satInc 0xFFFFFFFF s.srv.cntSeeks ∧ t.rch.head = h ∧
         (h.val = s.rch.head → t.srv.st = .seek ∧ t.srv.tgt = fld (s.srvReg 0x10) 0 24) ∧
         (h.val ≠ s.rch.head → t.srv.st = .acquire ∧ t.srv.pending = some (fld (s.srvReg 0x10) 0 24))) ∧
     (∀ h : Fin 4, s.srvLegal = true → s.heads ≤ h.val ∨ s.turns ≤ fld (s.srvReg 0x10) 0 24 →
       ∃ t, Does (.seek h) s t ∧ t.srv.cmdStatus = 5 ∧ t.srv.st = s.srv.st ∧ t.rch.head = s.rch.head) ∧
     (s.srvLegal = true → s.srv.st = .follow → ∃ t, Does .park s t ∧ t.srv.cmdStatus = 1 ∧ t.srv.st = .parking) ∧
     (s.srvLegal = true → s.srv.st = .parked → s.spn.st = .atSpeed →
       ∃ t, Does .load s t ∧ t.srv.cmdStatus = 1 ∧ t.srv.st = .loading ∧ t.ret.loaded = true) ∧
     (s.srvLegal = true → s.srv.st = .parked → s.spn.st ≠ .atSpeed →
       ∃ t, Does .load s t ∧ t.srv.cmdStatus = 3 ∧ t.srv.st = .parked) ∧
     ∀ i ∈ [Instr.park, Instr.load, Instr.seek 0], s.srvLegal = false →
       ∃ t, Does i s t ∧ t.srv.cmdStatus = 3 ∧ t.srv.st = s.srv.st ∧ t.rch.head = s.rch.head) ∧
  (∀ s : State, s.aonOn = true → s.on .dsk = true →
     (s.srv.st = .seek → s.srv.prof.x = s.srv.prof.xt →
       Does .seekProfileDone s (s.onSrv fun v => { v with st := .settle, settleRow := 0 }).follows) ∧
     (s.srv.st = .seek ∨ s.srv.st = .settle → s.srv.seeking = true → s.srv.cmdRun = true →
       ∃ u : State, Does .seekTimeout s (u.raise 130).follows ∧ u.srv.st = .parking ∧ u.srv.cmdStatus = 6) ∧
     (s.srv.st = .loading → s.srv.headers = 0 →
       ∃ u : State, Does .loadTimeout s (u.raise 128).follows ∧ u.srv.st = .parking) ∧
     (s.srv.st = .loading → s.srv.headers ≠ 0 → Does .loadTimeout s s.follows) ∧
     (s.srv.st = .parking → ∃ t, Does .parkLatched s t ∧ t.srv.st = .parked ∧ t.ret.loaded = false ∧
       (s.spn.stopAfterPark = true → s.spn.st = .accel → t.spn.st = .stopping)) ∧
     (s.srv.st = .parking → s.ret.loaded = true → s.ret.running = false →
       ∃ u : State, Does .parkTimeout s (u.raise 135).follows ∧ u.srv.st = .fault ∧ u.ret.running = true ∧ u.ret.flag = true) ∧
     (s.ret.loaded = true → s.ret.running = false → s.srv.st = .follow → s.spn.st = .atSpeed →
       ∃ t, Does .retractFire s t ∧ t.ret.flag = true ∧ t.ret.running = true ∧ t.srv.st = .parking ∧ t.spn.st = .coast) ∧
     (s.ret.loaded = false → Does .retractFire s s.follows) ∧
     (s.ret.running = true → s.srv.st = .fault ∨ s.srv.st = .parking →
       ∃ t, Does .retractComplete s t ∧ t.ret.running = false ∧ t.ret.loaded = false ∧ t.srv.st = .retracted ∧
         t.ret.flag = s.ret.flag) ∧
     (s.ret.loaded = true → s.ret.running = false →
       ∃ u : State, Does .vcmFault s u.follows ∧ u.srv.vcmOpen = true ∧ u.ret.running = true ∧ u.ret.flag = true) ∧
     (s.mayWrite .test = true →
       ∃ t, Does .retractFlagClear s t ∧ t.ret = { s.ret with flag := false } ∧ t.spn.retracted = false))

/-- The spindle starts in SENSE, ramps from the sector that it finds, hands over to the observer and reaches its speed,
whereupon the heads load (R588, R591, R594). A setpoint out of range changes nothing (R612), and one from which the
speed lies too far leaves AT_SPEED (R591). The spindle's failures (R589 to R596, R604). A failed attempt waits for the
rotor and is tried again, up to the limit, past which the spindle faults with source 138, as it does past SPINUP_MAX; a
bridge fault ends it with source 143. A speed out of tolerance, with loaded heads that of the Culm axis, or a Culm axis
not locked, leaves AT_SPEED and parks the heads, with source 141. After a loss of the rotor the bridge opens and the
heads park, with source 139, and the running transfer ends without a grown defect; a catch succeeds into ACCEL, and the
third failure, or a speed below CATCH_LO, stops the rotor for a fresh start, with source 140. The stop requested by a
setpoint of 0 parks loaded heads first (R593). -/
def Obligations.TheSpindleStartsAndFails : Prop :=
  (∀ s : State, s.aonOn = true → s.on .dsk = true →
     (∀ v : BitVec 16, s.mayWrite .setp = true → 3600 ≤ v.toNat → v.toNat ≤ 10000 → s.spn.rpmSet = 0 →
       s.diskClaimed = false → s.spindleLive = true → s.spn.st = .stopped →
       ∃ t, Does (.rpmSetWrite v) s t ∧ t.spn.rpmSet = v.toNat ∧ t.spn.st = .sense ∧ t.spn.attempts = 1 ∧
         t.spn.cntStarts = satInc 0xFFFFFFFF s.spn.cntStarts) ∧
     (∀ v : BitVec 16, s.mayWrite .setp = true → 0 < v.toNat → v.toNat < 3600 → Does (.rpmSetWrite v) s s) ∧
     (∀ v : BitVec 16, s.mayWrite .setp = true → 3600 ≤ v.toNat → v.toNat ≤ 10000 → s.spn.rpmSet ≠ 0 →
       s.spn.rpmSet ≠ v.toNat → s.diskClaimed = false → s.spn.st = .atSpeed → s.srv.st = .parked →
       (s.onSpn fun p => { p with rpmSet := v.toNat }).spnWithin (1000 * s.spn.rpm) = false →
       ∃ u : State, Does (.rpmSetWrite v) s (u.raise 141).follows ∧ u.spn.rpmSet = v.toNat ∧ u.spn.st = .accel) ∧
     (∀ c : Fin 6, s.spn.st = .sense → Does (.spindleStart c) s (s.onSpn fun p =>
       { p with st := .ramp, sector := c, current := 10 * (fld (s.spnReg 8) 24 8 : Nat) }).follows) ∧
     (∀ c : Fin 6, s.spn.st = .stopped → s.spn.rpmSet ≠ 0 → s.spindleLive = true → s.spn.attemptWait = false →
       ∃ t, Does (.spindleStart c) s t ∧ t.spn.st = .sense ∧ t.spn.attempts = 1) ∧
     (∀ ms, let rpm := 60 * fld (s.spnReg 0x10) 0 16 * ms / fld (s.spnReg 0xC) 0 4
       s.spn.st = .ramp → 10 * fld (s.spnReg 8) 0 8 ≤ rpm → rpm < 65536 → Does (.spindleHandover ms) s
         (s.onSpn fun p => { p with st := .accel, plausible := true, rpm := rpm }).follows) ∧
     (∀ revs : List Nat, s.spn.st = .accel → s.spn.rpmSet ≠ 0 → fld (s.spnReg 0x14) 8 8 ≤ revs.length →
       (∀ r ∈ revs.take (fld (s.spnReg 0x14) 8 8), s.spnWithin r = true) → s.srv.st = .parked →
       ∃ t, Does (.spindleAtSpeed revs) s t ∧ t.spn.st = .atSpeed ∧ t.srv.st = .loading ∧ t.ret.loaded = true) ∧
     (∀ revs : List Nat, s.spn.st = .accel → s.spn.rpmSet ≠ 0 → fld (s.spnReg 0x14) 8 8 ≤ s.spn.axisRevs.length →
       (∀ r ∈ s.spn.axisRevs.take (fld (s.spnReg 0x14) 8 8), s.spnWithin r = true) → s.srv.st = .follow →
       (s.culm.ax s.spindleAxis).st = .locked →
       ∃ t, Does (.spindleAtSpeed revs) s t ∧ t.spn.st = .atSpeed ∧ t.srv.st = .follow) ∧
     (∀ revs : List Nat, (if s.srv.st.loaded then s.spn.axisRevs else revs).length < fld (s.spnReg 0x14) 8 8 →
       Does (.spindleAtSpeed revs) s s.follows)) ∧
  (∀ s : State, s.aonOn = true → s.on .dsk = true →
     (∀ degrees, s.spn.st = .ramp ∨ (s.spn.st = .accel ∧ s.spn.reached = false) → fld (s.spnReg 8) 8 8 < degrees →
       s.spn.attempts ≤ fld (s.spnReg 8) 21 3 → Does (.spindleAttemptFailed 0 degrees) s
         (s.onSpn fun p => { p with st := .coast, attemptWait := true, plausible := false }).follows) ∧
     (∀ degrees, s.spn.st = .ramp → fld (s.spnReg 8) 21 3 < s.spn.attempts →
       ∃ u : State, Does (.spindleAttemptFailed 1 degrees) s (u.raise 138).follows ∧ u.spn.st = .fault) ∧
     (s.spn.reached = false → s.spn.st = .accel ∨ (s.spn.st = .stopped ∧ s.spn.attemptWait = true) →
       ∃ u : State, Does .spinupTimeout s (u.raise 138).follows ∧ u.spn.st = .fault) ∧
     (∃ u : State, Does .spnBridgeFault s (u.raise 143).follows ∧ u.spn.st = .fault ∧ u.spn.plausible = false ∧
       (s.srv.st = .follow → u.srv.st = .parking)) ∧
     (∀ mrpm, s.spn.st = .atSpeed → s.srv.st = .follow →
       s.spnWithin s.axisMrpm = false ∨ (s.culm.ax s.spindleAxis).st ≠ .locked →
       ∃ u : State, Does (.spindleSpeedFault mrpm) s (u.raise 141).follows ∧ u.spn.st = .accel ∧ u.srv.st = .parking) ∧
     (∀ mrpm, s.spn.st = .atSpeed → s.srv.st = .parked → s.spnWithin mrpm = false →
       ∃ u : State, Does (.spindleSpeedFault mrpm) s (u.raise 141).follows ∧ u.spn.st = .accel) ∧
     (s.spn.st = .atSpeed → s.spn.reached = true → s.srv.st = .follow →
       ∃ t, Does .spindleRotorLoss s t ∧ t.spn.st = .coast ∧ t.spn.catchDue = true ∧ t.srv.st = .parking ∧
         t.spn.cntLoss = satInc 0xFFFFFFFF s.spn.cntLoss ∧ t.srv.winh.getLsbD 4 = true ∧ t.srv.winh.getLsbD 5 = true ∧
         t.rch.cur = none ∧ t.die.glist = s.die.glist) ∧
     (∀ rpm, s.spn.st = .coast → s.spn.catchDue = true → s.srv.st = .parked → rpm < 65536 →
       (fld (s.spnReg 0x18) 0 16 ≤ rpm → rpm ≤ s.spn.rpmSet →
         (Does (.spindleCatch rpm (some true)) s (s.onSpn fun p =>
           { p with st := .accel, plausible := true, catchDue := false, catches := p.catches + 1, rpm := rpm }).follows) ∧
         (s.spn.catches + 1 < 3 → Does (.spindleCatch rpm (some false)) s
           (s.onSpn fun p => { p with st := .coast, catches := p.catches + 1, rpm := rpm }).follows) ∧
         (3 ≤ s.spn.catches + 1 → ∃ u : State, Does (.spindleCatch rpm (some false)) s (u.raise 140).follows ∧
           u.spn.st = .stopping ∧ u.spn.freshStart = true)) ∧
       (rpm < fld (s.spnReg 0x18) 0 16 → ∀ ok, ∃ u : State, Does (.spindleCatch rpm ok) s (u.raise 140).follows ∧
         u.spn.st = .stopping ∧ u.spn.freshStart = true)) ∧
     (s.spn.st = .stopping → s.spn.freshStart = true → s.spn.rpmSet ≠ 0 → s.spindleLive = true →
       ∃ t, Does (.rotorStopped none) s t ∧ t.spn.st = .sense ∧ t.spn.attempts = 1) ∧
     (s.mayWrite .setp = true → s.spn.rpmSet ≠ 0 → s.diskClaimed = false → s.spn.st = .atSpeed → s.srv.st = .follow →
       ∃ t, Does (.rpmSetWrite 0) s t ∧ t.spn.rpmSet = 0 ∧ t.srv.st = .parking ∧ t.spn.stopAfterPark = true))

/-! ## Paper path and drives -/

/-- Moves of an idle axis. A servo axis starts its move at velocity 0 toward the target of its OP (R627, R629); a
stepper issues its first step at the start (R625). A move toward an active limit switch is refused (R638), and one
of an axis that is MOVING, HOMING or STOPPING, without QUEUE: its target stays (R634). With QUEUE the move goes into
the queue slot, and a full slot answers BUSY (R635). -/
def Obligations.MovesStartQueueOrAreRefused : Prop :=
  ∀ (k : Fin 12) (ien : Bool) (s : State), s.aonOn = true → s.on .eng = true → s.mayWrite .setp = true →
    let m := s.mx k
    let x := m.prof.x
    let target := s32 (s.motReg k 0x0C)
    let rows : List (Instr × Nat × Int × Option Int) :=
      [(.moveAbsolute k false ien, 0, if x ≤ target * 2 ^ 24 then 1 else -1, some (target * 2 ^ 24)),
       (.moveRelative k false ien, 1, if 0 ≤ target then 1 else -1, some (x + target * 2 ^ 24)),
       (.velocityPositive k false ien, 2, 1, none), (.velocityNegative k false ien, 3, -1, none)]
    (m.st = .idle → ∀ r ∈ rows, s.limitActive k r.2.2.1 = false →
      (s.mServo k = true → ∃ t, Does r.1 s t ∧ (t.mx k).st = .moving ∧ (t.mx k).cmdStatus = 1 ∧ (t.mx k).ien = ien ∧
        (t.mx k).prof.x = x ∧ (t.mx k).prof.v = 0 ∧ (t.mx k).prof.a = 0 ∧ (t.mx k).prof.dir = r.2.2.1 ∧
        (t.mx k).prof.xt = r.2.2.2.getD x ∧ (t.mx k).prof.position = r.2.2.2.isSome) ∧
      (s.mServo k = false → s.mot.sheets = [] → m.queue = none → r.2.2.2 ≠ some x →
        r.2.2.2 ≠ some (x + r.2.2.1 * 2 ^ 24) →
        ∃ t, Does r.1 s t ∧ (t.mx k).st = .moving ∧ (t.mx k).cmdStatus = 1 ∧
          (t.mx k).prof.x = x + r.2.2.1 * 2 ^ 24)) ∧
    (m.st = .idle → ∀ r ∈ rows, s.limitActive k r.2.2.1 = true →
      Does r.1 s (s.onMx k fun m => { m with cmdWord := placeB ien 26 ||| place r.2.1 0 4, cmdStatus := 3 })) ∧
    (m.st = .moving ∨ m.st = .homing ∨ m.st = .stopping → ∀ r ∈ rows,
      Does r.1 s (s.onMx k fun m => { m with cmdWord := placeB ien 26 ||| place r.2.1 0 4, cmdStatus := 3 })) ∧
    (m.st ≠ .disabled → m.st ≠ .fault → ∀ r ∈ ([(.moveAbsolute k true ien, 0), (.moveRelative k true ien, 1),
        (.velocityPositive k true ien, 2), (.velocityNegative k true ien, 3)] : List (Instr × Nat)),
      let w := placeB true 27 ||| placeB ien 26 ||| place r.2 0 4
      (m.queue = none → Does r.1 s (s.onMx k fun m =>
        { m with cmdWord := w, queue := some { op := r.2, target := target, ien := ien }, cmdStatus := 2 })) ∧
      (m.queue.isSome = true → Does r.1 s (s.onMx k fun m => { m with cmdWord := w, cmdStatus := 4 })))

/-- The other commands of an axis. STOP and the quick stop of a moving axis empty its queue slot and take it to
STOPPING, the quick stop with its acceleration at -EMAX at once (R637); a disabled axis refuses them. SET_POS places an
idle stepper at TARGET and makes it HOMED (R622). HOME starts the sequence at its fast approach, or at its back-off with
the home switch active (R647), where no limit stands in the way of it (R638). A fault clear takes an axis in FAULT to
IDLE (R683). Steps and evaluations. In CRUISE a step of a stepper leaves velocity and acceleration as they are and moves
the axis by one microstep (R624, R629); HOLD_DELAY turns an idle axis to its holding current (R641). A servo axis that
stands within FERR_MAX of its setpoint triggers its slot; beyond it, the axis faults with FOLLOWING (R619, R676). The
profile generator: an evaluation keeps the velocity between its floor and the higher of its cap and the velocity before;
a quick stop decelerates at EMAX at once; and the interval of a step lies within its bounds (R624, R637). -/
def Obligations.AxesStopStepAndFollow : Prop :=
  (∀ (k : Fin 12) (s : State), s.aonOn = true → s.on .eng = true → s.mayWrite .setp = true →
     let m := s.mx k
     (m.st = .moving →
       Does (.stop k) s (s.onMx k fun m => { m with
         cmdWord := 4#32, cmdStatus := 1, st := .stopping, queue := none, strobed := none, homeStep := 0,
         homeBack := none, prof := { m.prof with stopping := true, held := false } }) ∧
       Does (.quickStop k) s (s.onMx k fun m => { m with
         cmdWord := 5#32, cmdStatus := 1, st := .stopping, queue := none, strobed := none, homeStep := 0,
         homeBack := none, prof := { m.prof with
           stopping := true, quick := true, held := false, a := -accU (s.motReg k 0x24).toNat } })) ∧
     (m.st = .disabled →
       Does (.stop k) s (s.onMx k fun m => { m with cmdWord := 4#32, cmdStatus := 3 }) ∧
       Does (.quickStop k) s (s.onMx k fun m => { m with cmdWord := 5#32, cmdStatus := 3 })) ∧
     (m.st = .idle → s.mServo k = false → Does (.setPos k) s (s.onMx k fun m => { m with
       cmdWord := 7#32, cmdStatus := 1, homed := true,
       prof := { m.prof with x := s32 (s.motReg k 0x0C) * (2 ^ 24 : Nat) } })) ∧
     (m.st ≠ .idle → Does (.setPos k) s (s.onMx k fun m => { m with cmdWord := 7#32, cmdStatus := 3 })) ∧
     (∀ i, m.st = .idle → s.mServo k = true → s.homeDin k = some i →
       s.homeBarred k (if s.dinLevel i then 3 else 1) = false → ∃ t, Does (.home k) s t ∧
         (t.mx k).st = .homing ∧ (t.mx k).cmdStatus = 1 ∧ (t.mx k).prof.v = 0 ∧
         (t.mx k).homeStep = (if s.dinLevel i then 3 else 1) ∧
         (t.mx k).prof.dir = (if s.dinLevel i then -(s.homeDir k) else s.homeDir k) ∧ (t.mx k).homed = m.homed) ∧
     (m.st = .fault → Does (.axisFaultClear k) s (s.onMx k fun m => { m with st := .idle, fcode := 0 }))) ∧
  (∀ (k : Fin 12) (s : State), s.aonOn = true → s.on .eng = true →
     let m := s.mx k
     let vmax := velU (s.motReg k 0x10).toNat
     let fe := satS 32 (asr m.prof.x 24 - s.mPos k)
     (s.mServo k = false → m.st = .moving → m.prof.position = false → m.prof.stopping = false → m.prof.quick = false →
       s.mot.runout = false → m.prof.v = vmax → m.prof.a = 0 → velU (s.motReg k 0x20).toNat ≤ vmax →
       0 ≤ accU (s.motReg k 0x14).toNat → s.mot.sheets = [] → m.queue = none →
       ∃ t, Does (.microstep k) s t ∧ (t.mx k).prof.x = m.prof.x + m.prof.dir * 2 ^ 24 ∧ (t.mx k).prof.v = vmax ∧
         (t.mx k).prof.a = 0 ∧ (t.mx k).st = .moving ∧ (t.mx k).prof.phase = .cruise) ∧
     (m.st = .idle → Does (.holdDelayExpiry k) s (s.onMx k fun m => { m with holding := true })) ∧
     (s.mServo k = true → m.st = .idle → fe.natAbs ≤ (s.motReg k 0x3C).toNat →
       ∃ t, Does (.servoEvaluation k) s t ∧ (t.mx k).ferr = fe ∧ (t.mx k).st = .idle ∧ (t.mx k).homed = m.homed) ∧
     (s.mServo k = true → m.st = .idle → (s.motReg k 0x3C).toNat < fe.natAbs → s.pathAxis k = false → s.divEn = false →
       ∃ t, Does (.servoEvaluation k) s t ∧ (t.mx k).ferr = fe ∧ (t.mx k).st = .fault ∧ (t.mx k).fcode = 4 ∧
         (t.mx k).homed = false)) ∧
  (∀ (p : Profile) (g : Gen) (dt : Nat) (free : Int), g.vs ≤ p.v → g.vs ≤ g.vc →
     let q := p.eval g dt free
     g.vs ≤ q.v ∧ q.v ≤ max g.vc p.v ∧ q.x = p.x ∧ q.xt = p.xt ∧ q.dir = p.dir ∧
       (p.quick = true → 0 ≤ g.emax → q.a = -g.emax ∧ q.v ≤ p.v) ∧ 200 ≤ p.interval ∧ p.interval < 2 ^ 32)

/-- Switch inputs. With DEBOUNCE and no chatter check, a change of the raw level changes it alone (R643); more
changes than CHAT_N in CHAT_WIN set CHATTER (R644); the debounced level takes the raw level, inverted with INV
(R643). The path. A jam stops every path axis that moves and every sheet, and is recorded (R662). CLEAR_JAM moves
the stopped sheets from IN_PATH to CLEARED and clears the jam, and the identity of R670 holds, which raises source
153; while it is not legal it answers STATE_CONFLICT (R666). Snapshots of the counts (R673); the apply of the
microstep tables (R642). -/
def Obligations.ThePathIsWatched : Prop :=
  (∀ (i : Fin 32) (raw : Bool) (s : State), s.aonOn = true → s.on .eng = true →
     let d : Din := nth {} s.mot.dins i
     let c := s.reg (0x603000 + 8 * i)
     (s.shaped = true → d.raw ≠ raw → fld c 12 16 ≠ 0 → fld c 8 4 = 0 →
       ∃ t, Does (.dinChange i raw) s t ∧ (nth {} t.mot.dins i).raw = raw ∧ (nth {} t.mot.dins i).level = d.level ∧
         (nth {} t.mot.dins i).chatter = d.chatter ∧ t.mot.axes = s.mot.axes ∧ t.mot.sheets = s.mot.sheets) ∧
     (s.shaped = true → d.raw ≠ raw → fld c 12 16 ≠ 0 → fld c 8 4 ≠ 0 → 0 < fld c 0 8 →
       fld c 8 4 ≤ (d.recent.filter fun t => decide (s.time.now.toNat - t < fld c 0 8 * 1000000)).length →
       ∃ t, Does (.dinChange i raw) s t ∧ (nth {} t.mot.dins i).chatter = true ∧ (nth {} t.mot.dins i).raw = raw) ∧
     (d.raw = raw → Does (.dinChange i raw) s s) ∧
     (s.shaped = true →
       ∃ t, Does (.dinDebounced i) s t ∧ (nth {} t.mot.dins i).level = xor d.raw (bitOf c 31) ∧
         (nth {} t.mot.dins i).raw = d.raw)) ∧
  ((∀ (kind point sheet : Nat) (s : State), s.mot.jam = none →
     let t := s.jamUp kind point sheet
     t.mot.jam = some { kind := kind, point := point, sheet := sheet % 65536 } ∧
       (∀ x ∈ t.mot.sheets, x.stopped = true) ∧ t.mot.inPath = s.mot.inPath ∧
       ∀ k < 12, s.pathAxis k = true → (s.mx k).st = .moving →
         (t.mx k).st = .stopping ∧ (t.mx k).prof.quick = true ∧ (t.mx k).queue = none) ∧
   (∀ s : State, s.aonOn = true → s.on .eng = true → s.mayWrite .setp = true →
     let n := BitVec.ofNat 32 (s.mot.sheets.filter fun x => x.stopped).length
     let m : Mot := { s.mot with sheets := s.mot.sheets.filter fun x => !x.stopped, jam := none, pathStatus := 1,
                                 inPath := s.mot.inPath - n, cleared := s.mot.cleared + n }
     (s.mot.fed = s.mot.delivered + s.mot.purged + s.mot.inPath + s.mot.cleared →
       m.fed = m.delivered + m.purged + m.inPath + m.cleared) ∧
       (s.mayClear = true → Does .clearJam s ((s.onMot fun _ => m).motRaise 153 0)) ∧
       (s.mayClear = false → Does .clearJam s (s.onMot fun m => { m with pathStatus := 3 }))) ∧
   ∀ s : State, s.aonOn = true → s.on .eng = true →
     (let t := s.onMot fun m =>
        { m with snap := [m.fed, m.delivered, m.purged, m.inPath, m.cleared], snapTime := s.time.now,
                 snapTstat := s.time.stat.code, snapValid := true, snapSeq := (m.snapSeq + 1) % 65536 }
      Does (.motSnapshot false) s t ∧
        (s.served .service = true → Does (.motSnapshot true) s
          (({ t with zop := { t.zop with reply := .none, replyData := t.mot.countBytes } } : State).checkpoints))) ∧
     (s.served .service = true → s.mayWrite .shadow = true → ∃ t, Does .microstepTableApply s t ∧ t.zop.reply = .none ∧
       t.mot.axes = s.mot.axes.map (fun a => { a with tblNew := some [s.shadowSteps 0, s.shadowSteps 1] }) ∧
       t.regs = s.regs ∧ (s.busySrc 159 = false → t.statusSrc 159 = true)))

/-- A PWM period of a single half-bridge unit. With NS conversions its bridge holds their mean as a valid sample; with
fewer the sample is invalid, and the period counts as stale (R702 to R704). Six-step. A zero crossing in RUN schedules
the next commutation at t_zc + T_60 × (30 − A) / 60, with A in quarters of a degree (R707, R708); the commutation
steps to the next sector, in descending order for a rotor that turns in reverse (R706), and at the entry into sector 0
an armed table comes into force, with source 174 (R709). -/
def Obligations.PeriodsAndCommutations : Prop :=
  (∀ (u : Fin 24) (codes : List Nat) (sector : Fin 6) (s : State), s.aonOn = true → s.on .eng = true → s.duEn u = true →
     s.duType u = 4 → s.calRuns 4 u = false →
     let n := nsOf (s.drvReg u 8)
     (n ≤ codes.length → ∃ t, Does (.pwmPeriod u [codes] sector) s t ∧ (t.du u).stale = (s.du u).stale ∧
       t.drv.bridges = modAt s.drv.bridges (s.duBase u) fun _ =>
         { valid := true, code := ((codes.take n).map (· % 4096)).sum / n }) ∧
     (codes.length < n → (s.du u).stale < 65535 → s.shaped = true →
       ∃ t, Does (.pwmPeriod u [codes] sector) s t ∧ (t.du u).stale = (s.du u).stale + 1 ∧
         t.drv.bridges = modAt s.drv.bridges (s.duBase u) fun _ => { valid := false, code := 0 })) ∧
  (∀ (u : Fin 24) (s : State), s.aonOn = true → s.on .eng = true →
     (∀ tick z a rest, s.duType u = 1 → s.duEn u = true → s.duSine u = false → (s.du u).st = .run →
       (s.du u).zcLast = some z → (s.du u).zcInt = a :: rest → z < tick →
       let t60 := (tick - z + a) / 2
       let adv := advanceAt (s.du u).adv (fld (s.drvReg u 0x50) 0 16) (sixOmega t60)
       0 < t60 → ∃ t, Does (.zeroCrossing u tick) s t ∧ (t.du u).zcLast = some tick ∧ (t.du u).zcInt = [tick - z, a] ∧
         (t.du u).commAt = some ((tick : Int) + (t60 : Int) * (120 - adv) / 240).toNat ∧
         (t.du u).sector = (s.du u).sector) ∧
     (∀ c, (s.du u).st = .run → (s.du u).commAt = some c →
       ∃ t, Does (.commutation u) s t ∧ (t.du u).commAt = none ∧ (t.du u).commLast = c ∧
         (t.du u).sector = (if s.duReverse u then ((s.du u).sector + 5) % 6 else ((s.du u).sector + 1) % 6)) ∧
     (∀ c, (s.du u).st = .run → (s.du u).commAt = some c → s.duReverse u = false → (s.du u).sector = 5 →
       (s.du u).advArmed = true → ∃ t, Does (.commutation u) s t ∧ (t.du u).advArmed = false ∧
         (t.du u).adv = (List.range 17).map fun i => fld (s.reg (0x683000 + 0x80 * u + 4 * i)) 0 8))

/-- The commands of a unit of its own setpoint or duty. A start of an idle unit begins with SENSE for a three-phase
motor and RUN for the others (R719, R746); outside READY, PRINT and a transition to READY it ends with STATE_CONFLICT
(R694). A stop takes a running motor to STOPPING, a coast opens its bridges, a fault clear takes FAULT to IDLE, and OP
4 arms the advance table (R709, R746). On a unit of another source OPs 0 to 2 end with STATE_CONFLICT (R746). Attempts
and catches. A failed attempt opens the bridges and waits for the rotor (R720); with its retries used up the unit
faults with FCODE 1 (R721). The stopped rotor begins the next attempt, or ends a commanded stop in IDLE (R720, R746).
The end of CATCH_TIME ends the catch, and the third failure leads to STOPPING (R722 steps 6 and 7). -/
def Obligations.UnitsStartStopAndCatch : Prop :=
  (∀ (u : Fin 24) (s : State), s.aonOn = true → s.on .eng = true → s.mayWrite .setp = true →
     let d := s.du u
     let refused (op : Nat) : State := s.onDu u fun d => { d with cmdOp := op, cmdStatus := 3 }
     (s.duSrc u ≠ 1 → s.duSrc u ≠ 2 →
       (d.st = .idle → s.calRuns 4 u = false → s.engineLive = true → s.drv.hardCut = false → s.duEn u = true →
         s.duCount u ≠ 0 → ∃ t, Does (.unitStart u) s t ∧ (t.du u).cmdStatus = 1 ∧ (t.du u).attempts = 1 ∧
           (t.du u).st = (if s.duType u = 1 then .sense else .run) ∧ (t.du u).fcode = 0) ∧
       (s.calRuns 4 u = false → s.engineLive = false → Does (.unitStart u) s (refused 0)) ∧
       (s.calRuns 4 u = false → s.drv.hardCut = true → Does (.unitStart u) s (refused 0)) ∧
       (d.st = .run → s.duType u = 1 → Does (.unitStop u) s (s.onDu u fun d =>
         { d with cmdOp := 1, cmdStatus := 1, st := .stopping, stopWanted := true, attemptWait := false,
                  regenCoast := false, commAt := none })) ∧
       (d.st = .run → Does (.unitCoast u) s (s.onDu u fun d =>
         { d with cmdOp := 2, cmdStatus := 1, st := .coast, stopWanted := true, attemptWait := false, catchWait := false,
                  regenCoast := false, lowSides := false, commAt := none })) ∧
       (d.st = .fault → Does (.unitStop u) s (refused 1) ∧ Does (.unitCoast u) s (refused 2))) ∧
     (d.st = .fault → Does (.unitFaultClear u) s (s.onDu u fun d =>
       { d with cmdOp := 3, cmdStatus := 1, st := .idle, fcode := 0, attempts := 0 })) ∧
     (d.st ≠ .fault → Does (.unitFaultClear u) s (refused 3)) ∧
     Does (.advanceTableApply u) s (s.onDu u fun d => { d with cmdOp := 4, cmdStatus := 1, advArmed := true }) ∧
     (s.duSrc u = 1 ∨ s.duSrc u = 2 →
       Does (.unitStart u) s (refused 0) ∧ Does (.unitStop u) s (refused 1) ∧ Does (.unitCoast u) s (refused 2))) ∧
  (∀ (u : Fin 24) (s : State), s.aonOn = true → s.on .eng = true → s.duType u = 1 →
     ((s.du u).st = .ramp →
       ((s.du u).attempts ≤ fld (s.drvReg u 0x20) 28 3 → Does (.unitAttemptFailed u 1 0) s (s.onDu u fun d =>
         { d with st := .coast, attemptWait := true, commAt := none })) ∧
       (fld (s.drvReg u 0x20) 28 3 < (s.du u).attempts →
         ∃ t, Does (.unitAttemptFailed u 1 0) s t ∧ (t.du u).st = .fault ∧ (t.du u).fcode = 1)) ∧
     (∀ deg, (s.du u).st = .ramp → deg ≤ fld (s.drvReg u 0x20) 20 8 → Does (.unitAttemptFailed u 0 deg) s s) ∧
     ((s.du u).st = .catching →
       ((s.du u).catches < 3 → Does (.catchTimeout u) s (s.onDu u fun d =>
         { d with st := .coast, catchWait := true, zcInt := [], zcLast := none, commAt := none })) ∧
       (3 ≤ (s.du u).catches → Does (.catchTimeout u) s ((s.onDu u fun d =>
         { d with st := .stopping, catchWait := false, regenCoast := false, commAt := none }).drvRaise 163 u))) ∧
     ((s.du u).st = .coast → (s.du u).attemptWait = true → s.engineLive = true →
       ∃ t, Does (.rotorStopped (some u)) s t ∧ (t.du u).st = .sense ∧
         (t.du u).attempts = satInc 15 (s.du u).attempts ∧ (t.du u).attemptWait = false) ∧
     ((s.du u).st = .stopping → (s.du u).attemptWait = false → (s.du u).stopWanted = true →
       Does (.rotorStopped (some u)) s (s.onDu u fun d => { d with st := .idle, lowSides := false, omega := 0 })))

/-- The motor bus. A sample is recorded; one at WARN turns BRK_GATE on, counts it and raises source 167, and one below
WARN leaves it off (R726, R728). The chopper is faulty with a current above BRK_IMAX, which turns it off, or with none
throughout the check (R729). Undervoltage, a hard cut, the loss of the gate supply and a trip take the units concerned
to FAULT with their codes (R733, R735, R737, R738). The latches are cleared only while VBUS lies below WARN − HYST
(R734). -/
def Obligations.TheBusIsProtected : Prop :=
  (∀ s : State, s.aonOn = true → s.on .eng = true → s.on .ana = true →
    (∀ (sns : Nat) (ibrk : Int), sns ≤ 2400 → s.busLim 0 ≠ 0 → s.drv.chopFault = false → s.drv.chopOn = false →
      s.drv.chopHeld = false →
      let v := sns * 65536 / s.busLim 0 % 65536
      (s.busLim 1 ≤ v → ∃ t, Does (.vbusSample sns ibrk) s t ∧ t.drv.vbus = v ∧ t.drv.ibrk = s.brkMa ibrk ∧
        t.drv.chopOn = true ∧ t.drv.busWarn = true ∧ t.drv.cntChop = satInc 0xFFFFFFFF s.drv.cntChop ∧
        t.drv.regenInh = s.drv.regenInh ∧ t.drv.units = s.drv.units) ∧
      (v < s.busLim 1 → s.drv.busWarn = false → ∃ t, Does (.vbusSample sns ibrk) s t ∧ t.drv.vbus = v ∧
        t.drv.chopOn = false ∧ t.drv.cntChop = s.drv.cntChop ∧ t.drv.units = s.drv.units)) ∧
    (∀ ibrk : Int, ((fld (s.reg 0x680028) 0 12 * 10 : Nat) : Int) < s.brkMa ibrk →
      ∃ t, Does (.chopperCheck false ibrk) s t ∧ t.drv.chopFault = true ∧ t.drv.chopOn = false ∧
        t.drv.ibrk = s.brkMa ibrk) ∧
    (∀ ibrk : Int, s.brkMa ibrk ≤ ((fld (s.reg 0x680028) 0 12 * 10 : Nat) : Int) → s.drv.chopOn = true →
      s.drv.chopLow = true → s.brkMa ibrk < ((fld (s.reg 0x680028) 12 12 * 10 : Nat) : Int) →
      ∃ t, Does (.chopperCheck true ibrk) s t ∧ t.drv.chopFault = true) ∧
    (s.drv.vbus < s.busLim 4 → s.drv.busUv = false →
      ∃ t, Does .busUndervoltage s t ∧ t.drv.busUv = true ∧ ∀ u < 24, s.duEn u = true → s.duCount u ≠ 0 →
        (s.du u).st ≠ .disabled → (s.du u).st ≠ .fault → (t.du u).st = .fault ∧ (t.du u).fcode = 6) ∧
    (s.drv.hardCut = false →
      ∃ t, Does .busHardCut s t ∧ t.drv.hardCut = true ∧ t.drv.cntCut = satInc 0xFFFFFFFF s.drv.cntCut ∧
        ∀ u < 24, s.duEn u = true → s.duCount u ≠ 0 → (s.du u).st ≠ .disabled → (s.du u).st ≠ .fault →
          (t.du u).st = .fault ∧ (t.du u).fcode = 5)) ∧
  ∀ s : State, s.aonOn = true → s.on .eng = true →
    (s.drv.gateUv = false → ∃ t, Does .gateSupply s t ∧ t.drv.gateUv = true ∧ ∀ u < 24, s.duEn u = true →
      s.duCount u ≠ 0 → (s.du u).st ≠ .disabled → (s.du u).st ≠ .fault → (t.du u).st = .fault ∧ (t.du u).fcode = 4) ∧
    Does .gateSupplyRestored s (s.onDrv fun d => { d with gateUv := false }) ∧
    (∀ (u : Fin 24) (ma : Int) (desat : Bool), s.duEn u = true → s.duCount u ≠ 0 → (s.du u).st = .run →
      (desat = true ∨ fld (s.drvReg u 0x48) 16 16 * 10 < ma.natAbs →
        ∃ t, Does (.overcurrent u ma desat) s t ∧ (t.du u).st = .fault ∧ (t.du u).fcode = 3) ∧
      (ma.natAbs ≤ fld (s.drvReg u 0x48) 16 16 * 10 → Does (.overcurrent u ma false) s s)) ∧
    (s.mayWrite .test = true →
      (s.drv.vbus + s.busLim 2 < s.busLim 1 →
        Does .chopFaultClear s (s.onDrv fun d =>
          { d with chopFault := false, regenInh := false, chopHeld := false, busOp := 0, busStatus := 1 }) ∧
        Does .hardCutClear s (s.onDrv fun d => { d with hardCut := false, busOp := 1, busStatus := 1 })) ∧
      (s.busLim 1 ≤ s.drv.vbus + s.busLim 2 →
        Does .chopFaultClear s (s.onDrv fun d => { d with busOp := 0, busStatus := 3 }) ∧
        Does .hardCutClear s (s.onDrv fun d => { d with busOp := 1, busStatus := 3 })))

/-! ## The loop engine, high voltage, fuser and calibration -/

/-- The arithmetic of an update: the output lies within its limits, and the integrator never leaves them, does not
move while the destination is frozen, and does not grow against a limit that the output has reached (R769, R770). An
active lane starts its first pending update. An enabled, unbound slot without a destination or a model check takes the
result of R769 and nothing waits there any more; a held slot skips it (R774); a residue mismatch discards it, counts
it as stale and faults the lane (R779). Triggers. A timer and a Culm action make the update of an enabled, unbound
slot of their kind pending, with the feedback of that instant; one that finds an update pending is dropped, and sets
OVERRUN (R756, R758). -/
def Obligations.LoopsUpdateWithinLimits : Prop :=
  (∀ (t : TSlot) (r y f free : Int) (frozen : Bool),
     let c := coefOf t.coef
     let v := t.update r y f frozen free
     let _inc := sat32 (asr (c.ki * sat32 (r - y)) c.si)
     c.lo ≤ c.hi →
       (c.lo ≤ v.u ∧ v.u ≤ c.hi) ∧ (c.lo ≤ t.i ∧ t.i ≤ c.hi → c.lo ≤ v.i ∧ v.i ≤ c.hi) ∧
       (t.restart = false → frozen = true → v.i = t.i) ∧
       (t.restart = false → t.satHi = true → c.lo ≤ t.i → t.i ≤ c.hi → v.i ≤ t.i) ∧
       (t.restart = false → t.satLo = true → c.lo ≤ t.i → t.i ≤ c.hi → t.i ≤ v.i) ∧
       (t.restart = true → frozen = true → v.i = clampI c.lo c.hi t.u) ∧ v.cfg = t.cfg ∧ v.coef = t.coef) ∧
  (∀ (l : Fin 4) (n : Nat) (p : Pend) (s : State), s.aonOn = true → s.on .eng = true → s.lane l = .active →
     s.firstPending l = some (n, p) → s.slotOn n = true → s.bindOf n = none → s.destOf n = (0, 0) →
     (s.ts n).stranded = false → fld (s.ts n).cfg 16 4 = 0 → p.late = false → ¬(80 ≤ n ∧ n < 84) →
     (bitOf (s.ts n).cfg 30 = false → p.stale = false →
       let v := (s.ts n).update (s.refOf n) p.y p.f false (sx 32 s.fresh)
       ∃ t, Does (.slotUpdate l false) s t ∧ (t.ts n).pend = none ∧ (t.ts n).u = v.u ∧ (t.ts n).i = v.i ∧
         (t.ts n).d = v.d ∧ (t.ts n).e1 = v.e1 ∧ (t.ts n).y1 = v.y1 ∧ (t.ts n).yh = v.yh ∧
         (t.ts n).satHi = v.satHi ∧ (t.ts n).satLo = v.satLo ∧ t.regs = s.regs) ∧
     (bitOf (s.ts n).cfg 30 = true →
       Does (.slotUpdate l false) s (s.onTs n fun t => { t with pend := none })) ∧
     (bitOf (s.ts n).cfg 30 = false → p.stale = true →
       ∃ t, Does (.slotUpdate l false) s t ∧ (t.ts n).pend = none ∧ (t.ts n).u = (s.ts n).u ∧ (t.ts n).i = (s.ts n).i ∧
         (t.ts n).stale = satInc 65535 (s.ts n).stale) ∧
     (bitOf (s.ts n).cfg 30 = false → bitOf (s.reg 0x700004) 31 = false → s.shaped = true →
       ∃ t, Does (.slotUpdate l true) s t ∧ t.lane l = .faulted ∧ (t.ts n).pend = none ∧ (t.ts n).u = (s.ts n).u ∧
         (t.ts n).i = (s.ts n).i ∧ (t.ts n).stale = satInc 65535 (s.ts n).stale)) ∧
  (∀ (n : Fin 256) (y : Int) (s : State), s.aonOn = true → s.on .eng = true → s.bindOf n = none → s.slotOn n = true →
     ∀ c k, (c, k) ∈ [(Instr.slotTimer n y, 1), (.slotTrigger n y false false, 2)] → fld (s.ts n).cfg 26 2 = k →
       ((s.ts n).pend = none → Does c s (s.nextInstant.onTs n fun t =>
         { t with pend := some { inst := s.teff.instant + 1, y := s.fbOf (fld (s.srcReg n) 27 3) (fld (s.srcReg n) 22 5) y,
                                 f := s.ffOf n, stale := false, late := false } })) ∧
       ((s.ts n).pend.isSome = true → ∃ t, Does c s t ∧ (t.ts n).overrun = true ∧ (t.ts n).pend = (s.ts n).pend ∧
         t.teff.cntOverrun = satInc 0xFFFFFFFF s.teff.cntOverrun))

/-- Coefficient sets. GO arms the apply, and is refused while one is armed, with a reserved WHEN, and for a set whose
limits cross (R776, R778); a cancel ends an armed apply (R776); at its tick every selected slot takes its shadow set,
with its integrator clamped to the new limits, and no other slot changes (R777). Lane commands. An evacuation for
which there is room leaves no enabled slot on its lane, which is OUT; without room it answers RANGE (R782). A lane
that has passed its self-test returns; a self-test runs on a lane that is OUT or FAULTED, and its outcome decides the
lane's state (R782). A slot moves to an ACTIVE lane with room (R754, R782). A command while one is carried out answers
BUSY, and the end of a relocation is counted (R780, R782). -/
def Obligations.CoefficientsAndLanesAreServiced : Prop :=
  (∀ s : State, s.aonOn = true → s.on .eng = true →
     (s.mayWrite .shadow = true →
       (∀ w : Fin 4, w.val < 2 → s.teff.applyArmed = false → s.coefBad = false →
         Does (.coefApplyArm w) s (s.onTeff fun x => { x with applyStatus := 1, applyWhen := w, applyArmed := true })) ∧
       (∀ w : Fin 4, w.val < 2 → s.teff.applyArmed = false → s.coefBad = true →
         Does (.coefApplyArm w) s (s.onTeff fun x => { x with applyStatus := 4 })) ∧
       (∀ w : Fin 4, w.val < 2 → s.teff.applyArmed = true →
         Does (.coefApplyArm w) s (s.onTeff fun x => { x with applyStatus := 5 })) ∧
       (s.teff.applyArmed = true →
         Does .coefApplyCancel s (s.onTeff fun x => { x with applyStatus := 3, applyArmed := false })) ∧
       (s.teff.applyArmed = false → Does .coefApplyCancel s s)) ∧
     (s.teff.applyArmed = true → s.teff.applyWhen = 0 →
       ∃ t, Does .coefApplied s t ∧ t.teff.applyStatus = 2 ∧ t.teff.applyArmed = false ∧ ∀ n < s.teff.slots.length,
         (n < 256 → s.masked n = true → (t.ts n).coef = s.shadowCoef n ∧ (t.ts n).u = (s.ts n).u ∧
           (t.ts n).d = (s.ts n).d ∧
           (t.ts n).i = clampI (coefOf (s.shadowCoef n)).lo (coefOf (s.shadowCoef n)).hi (s.ts n).i) ∧
         (s.masked n = false → t.ts n = s.ts n))) ∧
  (∀ (l : Fin 4) (s : State), s.aonOn = true → s.on .eng = true →
     let word (op slot : Nat) : Word := place l 24 2 ||| place op 16 2 ||| place slot 0 8
     (s.mayWrite .mgmt = true → s.laneBusy = false →
       (s.laneLoad l ≤ s.roomOff l → s.shaped = true → ∃ t, Does (.laneEvacuate l) s t ∧ t.laneLoad l = 0 ∧
         t.lane l = .out ∧ t.teff.cmdStatus = 2 ∧ t.teff.reloc = true) ∧
       (s.roomOff l < s.laneLoad l →
         Does (.laneEvacuate l) s (s.onTeff fun x => { x with cmdWord := word 0 0, cmdStatus := 5 })) ∧
       ((nth {} s.teff.lanes l).st = .out → (nth {} s.teff.lanes l).tested = true →
         Does (.laneReturn l) s ((s.onTeff fun x => { x with cmdWord := word 1 0, cmdStatus := 1 }).onLane l fun _ =>
           { st := .active, tested := false })) ∧
       ((nth {} s.teff.lanes l).tested = false →
         Does (.laneReturn l) s (s.onTeff fun x => { x with cmdWord := word 1 0, cmdStatus := 3 })) ∧
       (s.lane l = .out ∨ s.lane l = .faulted →
         Does (.laneSelfTest l) s ((s.onTeff fun x => { x with cmdWord := word 2 0, cmdStatus := 2 }).onLane l fun x =>
           { x with st := .test })) ∧
       (s.lane l = .active →
         Does (.laneSelfTest l) s (s.onTeff fun x => { x with cmdWord := word 2 0, cmdStatus := 3 })) ∧
       (∀ n : Fin 256, s.lane l = .active → s.laneLoad l < 64 →
         Does (.slotMove n l) s ((s.onTeff fun x => { x with cmdWord := word 3 n, cmdStatus := 1 }).onTs n fun t =>
           { t with lane := l, stranded := false, pend := t.pend.map fun p => { p with late := true } })) ∧
       (∀ n : Fin 256, s.lane l = .active → 64 ≤ s.laneLoad l →
         Does (.slotMove n l) s (s.onTeff fun x => { x with cmdWord := word 3 n, cmdStatus := 5 }))) ∧
     (s.mayWrite .mgmt = true → s.laneBusy = true →
       Does (.laneEvacuate l) s (s.onTeff fun x => { x with cmdWord := word 0 0, cmdStatus := 4 }) ∧
       Does (.laneReturn l) s (s.onTeff fun x => { x with cmdWord := word 1 0, cmdStatus := 4 })) ∧
     (∀ pass : Bool, s.lane l = .test →
       Does (.laneSelfTestDone l pass) s ((s.onLane l fun _ =>
         { st := if pass then .out else .faulted, tested := pass }).onTeff fun x =>
           { x with cmdStatus := if pass then 1 else 6 })) ∧
     (s.teff.reloc = true →
       ∃ t, Does .relocationDone s t ∧ t.teff.reloc = false ∧ t.teff.cntReloc = satInc 0xFFFFFFFF s.teff.cntReloc ∧
         t.teff.slots = s.teff.slots))

/-- High voltage. A period of an enabled channel converts the code into y_c and drives the duty that the current and
the sine ask, within 0 and MAXD (R800, R801); two conversions in a row beyond LIM latch TRIP and close the window,
with source 192 (R811). A period of a channel that is not enabled does nothing. The clear of TRIP and FB_FAULT is
legal in SERVICE and READY only; r restarts from y, and the slot restarts (R813). The sine table comes into force at
once where no channel waits for its wrap; a second arm is refused, and the cancel takes an arm back (R834, R835). The
calibration of a channel's feedback offset (ID 5) begins on its command, where its precondition holds and no run is in
its way (R1040, R1060, R1069), and is refused otherwise; one that is due begins, or becomes pending (R1058, R1061), and
a pending one begins as soon as it may. Two measurements in a row that agree end the run accepted, and half their sum
is the offset in force (R1039, R1047, R1050); a run whose measurements are used up is rejected and changes no register
(R1048). A pending run whose wait is over holds what it needs (R1061). Where an accepted correction waits for its
point, the switch-over time brings it into force and the run ends accepted (R1051); without a run it changes
nothing. -/
def Obligations.HighVoltageIsWatched : Prop :=
  ∀ s : State, s.aonOn = true →
    (∀ (k : Fin 16) (c : BitVec 12), s.hvEn k = false → Does (.hvPwmPeriod k c) s s) ∧
    (∀ (k : Fin 16) (c : BitVec 12), s.shaped = true → s.hvEn k = true → s.hvAc k = false →
      (s.hvCh k).num + 1 ≤ fld (s.hvReg k 0) 16 8 → s.flying = [] →
      let y := sat32 (asr (((c.toNat : Int) - sx 16 (fld (s.hvReg k 0x18) 0 16)) * s32 (s.hvReg k 0x14)) 12)
      let duty := (clampI 0 (s.hvMaxd k) (s.hvCh k).u).toNat
      (y.natAbs ≤ (s.hvReg k 0x10).toNat →
        ∃ t, Does (.hvPwmPeriod k c) s t ∧ (t.hvCh k).duty = duty ∧ (t.hvCh k).sum = (s.hvCh k).sum + y ∧
          (t.hvCh k).num = (s.hvCh k).num + 1 ∧ (t.hvCh k).overLim = false ∧ (t.hvCh k).trip = (s.hvCh k).trip) ∧
      ((s.hvReg k 0x10).toNat < y.natAbs → (s.hvCh k).overLim = true → (s.hvCh k).trip = false →
        ∃ t, Does (.hvPwmPeriod k c) s t ∧ (t.hvCh k).trip = true ∧ (t.hvCh k).inWindow = false ∧
          t.evt = (s.raise 192).evt)) ∧
    (s.on .eng = true →
      (∀ k : Fin 16, s.shaped = true → s.mayWrite .setp = true →
        ∃ t, Does (.hvTripClear k) s t ∧ (t.hvCh k).trip = false ∧ (t.hvCh k).fbFault = false ∧
          (t.hvCh k).r = (s.hvCh k).y ∧ (t.hvCh k).settle = s.hvSettle k ∧ t.hv.cmdStatus = 1) ∧
      (∀ k : Fin 16, s.mayWrite .setp = false →
        ∃ t, Does (.hvTripClear k) s t ∧ t.hv.chans = s.hv.chans ∧ t.hv.cmdStatus = 3) ∧
      (s.mayWrite .shadow = true → s.hv.apply ≠ 1 → (∀ k < 16, s.hvEn k = true → s.hvAc k = false) →
        ∃ t, Does .hvTableArm s t ∧ t.hv.apply = 2 ∧ t.hv.cmdStatus = 1 ∧ ∀ c ∈ t.hv.chans, c.sine = s.shadowSine) ∧
      (s.hv.apply = 1 → ∃ t, Does .hvTableArm s t ∧ t.hv.apply = 1 ∧ t.hv.cmdStatus = 3 ∧ t.hv.chans = s.hv.chans) ∧
      (s.mayWrite .shadow = true → s.hv.apply = 1 →
        ∃ t, Does .hvTableCancel s t ∧ t.hv.apply = 3 ∧ t.hv.cmdStatus = 1 ∧ ∀ c ∈ t.hv.chans, c.sineWait = false)) ∧
    (s.on .eng = true → s.shaped = true →
      (∀ inst : BitVec 5, s.mayWrite .shadow = true → inst.toNat < s.calCount 5 →
        (s.calPre 5 inst.toNat = false →
          ∃ t, Does (.calCommand 5 inst) s t ∧ t.cal.cmdStatus = 4 ∧ t.cal.chans = s.cal.chans) ∧
        (s.calPre 5 inst.toNat = true → s.calBusy 5 inst.toNat = true →
          ∃ t, Does (.calCommand 5 inst) s t ∧ t.cal.cmdStatus = 5 ∧ t.cal.chans = s.cal.chans) ∧
        (s.calPre 5 inst.toNat = true → s.calBusy 5 inst.toNat = false →
          ∃ t, Does (.calCommand 5 inst) s t ∧ t.cal.cmdStatus = 1 ∧ t.cal.cmdId = 5 ∧
            (t.calCh 5).run.map (·.inst) = some inst.toNat ∧ (t.calCh 5).pending = none)) ∧
      ((s.calCh 5).run = none → (s.calCh 5).pending = none → (s.calRec 5).outcome ≠ 0 → fld (s.calInt 5) 0 16 ≠ 0 →
        (s.calRec 5).time.toNat + fld (s.calInt 5) 0 16 * 60 * 10 ^ 9 ≤ s.time.now.toNat →
        let inst := (s.calRec 5).inst
        (s.calPre 5 inst = true → s.calBusy 5 inst = false → ∃ t, Does (.calInterval 5) s t ∧
          (t.calCh 5).run.map (·.inst) = some inst ∧ (t.calCh 5).pending = none) ∧
        (s.calPre 5 inst = false ∨ s.calBusy 5 inst = true → ∃ t, Does (.calInterval 5) s t ∧
          (t.calCh 5).run = none ∧ (t.calCh 5).pending = some (inst, 2))) ∧
      (∀ inst trig : Nat, (s.calCh 5).pending = some (inst, trig) → trig ≠ 3 →
        (s.calPre 5 inst = false ∨ s.calBusy 5 inst = true → Does (.calPendingStart 5) s s) ∧
        (s.calPre 5 inst = true → s.calBusy 5 inst = false → ∃ t, Does (.calPendingStart 5) s t ∧
          (t.calCh 5).pending = none ∧ (t.calCh 5).run.map (·.inst) = some inst)) ∧
      ((s.calCh 5).pending.isSome = true → fld (s.calInt 5) 16 16 ≠ 0 →
        Does (.calPendTimeout 5) s (s.onCalCh 5 fun c => { c with pendHold := true })) ∧
      (∀ id : Fin 10, ((s.calCh id).run = none → Does (.calSwitchoverTimeout id) s s) ∧
        ∀ (ms : List Int) (r : CalRun), (s.calCh id).run = some r → r.accepted = some ms → (s.calCh id).turn = [] →
          ∃ t, Does (.calSwitchoverTimeout id) s t ∧ (t.calCh id).run = none ∧ (t.calRec id).outcome = 1) ∧
      (∀ (l : List (List Int)) (rb : Bool) (r : CalRun), (s.calCh 5).run = some r → r.accepted = none →
        (s.calCh 5).turn = [] →
        let m := s.calMeasured 5 r l
        let tol := fld (s.calCfg 5) 12 12
        let agree : Bool := (decide (0 < r.made) &&
          (List.range m.length).all fun i => decide ((nth 0 m i - nth 0 r.last i).natAbs ≤ tol))
        (agree = true → ∃ t, Does (.calMeasurementDone 5 l rb) s t ∧ (t.calCh 5).run = none ∧
          (t.calRec 5).outcome = 1 ∧ t.regs = (s.setReg (0x780118 + 0x40 * r.inst) (putFld (s.hvReg r.inst 0x18) 0 16
            (code 16 (((List.range m.length).map fun i => (nth 0 m i + nth 0 r.last i).tdiv 2).headD 0)))).regs) ∧
        (agree = false → fld (s.calCfg 5) 24 3 ≤ r.made + 1 → ∃ t, Does (.calMeasurementDone 5 l rb) s t ∧
          (t.calCh 5).run = none ∧ (t.calRec 5).outcome = 2 ∧ t.regs = s.regs)))

/-- The fuser. A conversion of an enabled thermistor gives its temperature by the table in force, and an invalid reading
makes it invalid (R814 to R816). The third comparison in a row below CUT_CODE sets the cut latch with cause OVER_TEMP,
above OPEN_CODE with cause OPEN (R817). The forced cut is legal in SERVICE and SAFE only, and so is the clear, which
asks too that no comparator is active (R821, R822). The INV and LIN tables come into force at once without mains, and
wait for the mains axis with it (R834, R835). A trigger pulse ends at its time (R828). Temperatures of the controller. A
housekeeping round takes every die sensor, whose code of 0 or 4,095 or failed conversion makes its reading invalid, and
with one invalid the print window is left (R1015 to R1017, R1020); a thermal shutdown latches its sensor and raises
source 224 (R1024); the apply of the LIN tables is armed, or refused (R1019). -/
def Obligations.TheFuserIsWatched : Prop :=
  ∀ s : State, s.aonOn = true →
    (∀ (j : Fin 8) (c : BitVec 12), s.on .eng = true → s.shaped = true → bitOf (s.thReg j 0) 31 = true →
      (s.th j).valid = true → s.flying = [] →
      ∃ t, Does (.thConversion j c) s t ∧ (t.th j).code = c.toNat ∧ (t.th j).t = thTemp (s.th j).lin c.toNat ∧
        (fld (s.thReg j 0) 0 12 < c.toNat → (t.th j).valid = false ∧ t.evt = (s.raise 199).evt)) ∧
    (∀ (j : Fin 8) (c : BitVec 12), bitOf (s.thReg j 0) 31 = false → Does (.thConversion j c) s s) ∧
    (∀ (codes : List (BitVec 12)) (j : Fin 8), nth 0 s.cut.lowRow j = 2 → bitOf (s.thReg j 0) 30 = true →
      (codes.getD j 0).toNat < fld (s.thReg j 0) 16 12 →
      ∃ t, Does (.cutCompare codes) s t ∧ t.cut.set = true ∧ t.cut.cause = 2) ∧
    (∀ codes : List (BitVec 12), (∀ i < 8, bitOf (s.thReg i 0) 30 = false ∧ bitOf (s.thReg i 0) 29 = false) →
      ∃ t, Does (.cutCompare codes) s t ∧ t.cut.set = s.cut.set ∧ t.cut.active = 0#8 ∧ t.evt = s.evt) ∧
    (s.on .eng = true →
      (s.mayWrite .test = true →
        ∃ t, Does .cutForce s t ∧ t.cut.set = true ∧ t.cut.cause = 4 ∧ t.fus.cmdStatus = 1) ∧
      (s.mayWrite .test = false → ∃ t, Does .cutForce s t ∧ t.cut = s.cut ∧ t.fus.cmdStatus = 3) ∧
      (s.mayWrite .test = true → s.cut.set = true → s.cut.active = 0#8 →
        ∃ t, Does .cutClear s t ∧ t.cut = { s.cut with set := false, cause := 0 } ∧ t.fus.cmdStatus = 1 ∧
          t.evt = (s.raise 202).evt) ∧
      (s.mayWrite .test = false ∨ s.cut.active ≠ 0#8 → ∃ t, Does .cutClear s t ∧ t.cut = s.cut ∧ t.fus.cmdStatus = 3) ∧
      (s.mayWrite .shadow = true → s.fus.apply ≠ 1 →
        (s.fus.mainsOk = true →
          ∃ t, Does .fusTableArm s t ∧ t.fus.apply = 1 ∧ t.fus.cmdStatus = 1 ∧ t.fus.inv = s.fus.inv) ∧
        (s.fus.mainsOk = false → ∃ t, Does .fusTableArm s t ∧ t.fus.apply = 2 ∧
          t.fus.inv = (List.range 65).map (fun i => fld (s.reg (0x7C0C00 + 4 * i)) 0 16) ∧ t.evt = (s.raise 204).evt)) ∧
      (s.fus.apply = 1 → ∃ t, Does .fusTableArm s t ∧ t.fus.apply = 1 ∧ t.fus.cmdStatus = 3 ∧ t.fus.inv = s.fus.inv) ∧
      (s.mayWrite .shadow = true → s.fus.apply = 1 →
        ∃ t, Does .fusTableCancel s t ∧ t.fus.apply = 3 ∧ t.fus.cmdStatus = 1) ∧
      ∀ k : Fin 4, s.shaped = true →
        ∃ t, Does (.triggerPulseEnd k) s t ∧ (nth {} t.fus.chans k).pulse = false ∧
          ∀ j, j ≠ k.val → nth {} t.fus.chans j = nth {} s.fus.chans j) ∧
    (∀ (codes : List (BitVec 12)) (dies supplies : List Int) (failed : BitVec 12), s.shaped = true →
      ∃ t, Does (.hkRound codes dies supplies failed) s t ∧ t.thm.round = s.thm.round + 1 ∧
        (∀ c < 12, (t.hk c).val = dies.getD c 0 ∧ (t.hk c).code = (codes.getD c 0).toNat ∧
          ((t.hk c).valid = true ↔ failed.getLsbD c = false ∧ codes.getD c 0 ≠ 0#12 ∧ codes.getD c 0 ≠ 4095#12)) ∧
        ((∃ c < 12, failed.getLsbD c = true) → t.thm.printOk = false)) ∧
    (∀ i : Fin 12, Does (.thermalShutdown i) s
      ((s.onThm fun t => { t with tsd := true, tsdCause := t.tsdCause ||| BitVec.ofNat 12 (2 ^ i.val) }).raise 224)) ∧
    (s.served .service = true →
      (s.mayWrite .shadow = true →
        Does .hkLinApply s (((s.onThm fun t => { t with linApply := 1 }).replied .none).checkpoints)) ∧
      (s.mayWrite .shadow = false → Does .hkLinApply s ((s.replied .stateConflict).checkpoints)))

/-- A calibration command. An ID or an instance out of range, an unmet precondition and a running calibration are told
apart, in that order (R1059, R1069); otherwise the run begins, with its held slots and its method (R1040, R1054), and
later triggers begin it or make it pending (R1058, R1060, R1061). A run takes measurements until two in a row agree
within the tolerance; half the sum of the two is the correction. That of the feedback offset of an HV channel (ID 5)
comes into force at once, and the run ends accepted; that of a trimmed element, where its read-back and its range are
good, waits for its point, or comes into force at once as the trim 512 + C (R1039, R1047, R1050, R1054). A run whose
measurements are used up is rejected and changes no correction (R1048). A correction that still waits for its point
after one second comes into force then (R1051). The clear of TRIM_FAULT is legal in SERVICE and SAFE only (R1073). -/
def Obligations.CalibrationsStartAndAreJudged : Prop :=
  (∀ s : State, s.aonOn = true → s.on .eng = true → s.shaped = true →
     let begun (id inst trig : Nat) : Option CalRun :=
       some { inst := inst, trig := trig, tap := s.calTap id trig, slots := (s.heldSet id inst).slots }
     (∀ (id : BitVec 4) (inst : BitVec 5), s.mayWrite .shadow = true →
       let n := if id.toNat ∈ [6, 7, 9] then 0 else inst.toNat
       let first := if id.toNat = 9 then s.scanners.headD 24 else n
       (9 < id.toNat ∨ s.calCount id.toNat ≤ n →
         ∃ t, Does (.calCommand id inst) s t ∧ t.cal.cmdStatus = 6 ∧ t.cal.chans = s.cal.chans) ∧
       (id.toNat ≤ 9 → n < s.calCount id.toNat →
         (s.calPre id.toNat first = false →
           ∃ t, Does (.calCommand id inst) s t ∧ t.cal.cmdStatus = 4 ∧ t.cal.chans = s.cal.chans) ∧
         (s.calPre id.toNat first = true → s.calBusy id.toNat first = true →
           ∃ t, Does (.calCommand id inst) s t ∧ t.cal.cmdStatus = 5 ∧ t.cal.chans = s.cal.chans) ∧
         (s.calPre id.toNat first = true → s.calBusy id.toNat first = false →
           (id.toNat = 9 → s.calRuns 0 first = false) →
           ∃ t, Does (.calCommand id inst) s t ∧ t.cal.cmdStatus = 1 ∧ t.cal.cmdId = id.toNat ∧
             (t.calCh id.toNat).run = begun id.toNat first 0 ∧ (t.calCh id.toNat).pending = none))) ∧
     (∀ id : Fin 10, id ≠ 9 → (s.calCh id).run = none → (s.calCh id).pending = none → (s.calRec id).outcome ≠ 0 →
       fld (s.calInt id) 0 16 ≠ 0 →
       (s.calRec id).time.toNat + fld (s.calInt id) 0 16 * 60 * 10 ^ 9 ≤ s.time.now.toNat →
       (id = 0 → s.calOn 9 (s.calRec id).inst = false) →
       let inst := (s.calRec id).inst
       (s.calPre id inst = true → s.calBusy id inst = false → ∃ t, Does (.calInterval id) s t ∧
         (t.calCh id).run = begun id inst 2 ∧ (t.calCh id).pending = none) ∧
       (s.calPre id inst = false ∨ s.calBusy id inst = true → ∃ t, Does (.calInterval id) s t ∧
         (t.calCh id).run = none ∧ (t.calCh id).pending = some (inst, 2))) ∧
     (∀ k rest, (s.calCh 9).run = none → (s.calRec 9).outcome ≠ 0 → fld (s.calInt 9) 0 16 ≠ 0 →
       (s.calRec 9).time.toNat + fld (s.calInt 9) 0 16 * 60 * 10 ^ 9 ≤ s.time.now.toNat → s.scanners = k :: rest →
       s.calRuns 0 k = false → s.calPre 9 k = true → s.calBusy 9 k = false →
       ∃ t, Does (.calInterval 9) s t ∧ (t.calCh 9).run = begun 9 k 2 ∧ (t.calCh 9).pending = none) ∧
     (∀ id : Fin 10, s.time.now.toNat < (s.calRec id).time.toNat + fld (s.calInt id) 0 16 * 60 * 10 ^ 9 →
       Does (.calInterval id) s s) ∧
     (∀ (id : Fin 10) (inst trig : Nat), (s.calCh id).pending = some (inst, trig) → trig ≠ 3 →
       (s.calPre id inst = false ∨ s.calBusy id inst = true → Does (.calPendingStart id) s s) ∧
       (s.calPre id inst = true → s.calBusy id inst = false → ∃ t, Does (.calPendingStart id) s t ∧
         (t.calCh id).pending = none ∧ (t.calCh id).run = begun id inst trig)) ∧
     (∀ id : Fin 10, (s.calCh id).pending.isSome = true → fld (s.calInt id) 16 16 ≠ 0 →
       Does (.calPendTimeout id) s (s.onCalCh id fun c => { c with pendHold := true }))) ∧
  ((∀ (id : Fin 10) (l : List (List Int)) (rb : Bool) (r : CalRun) (s : State), s.aonOn = true → s.on .eng = true →
     s.shaped = true → id ≠ 8 → (s.calCh id).run = some r → r.accepted = none → (s.calCh id).turn = [] →
     let m := s.calMeasured id r l
     let tol := fld (s.calCfg id) 12 12
     let agree : Bool := (decide (0 < r.made) &&
       (List.range m.length).all fun i => decide ((nth 0 m i - nth 0 r.last i).natAbs ≤ tol))
     let c := (List.range m.length).map fun i => (nth 0 m i + nth 0 r.last i).tdiv 2
     (agree = false → r.made + 1 < fld (s.calCfg id) 24 3 → ∃ t, Does (.calMeasurementDone id l rb) s t ∧
       t.regs = s.regs ∧ t.die = s.die ∧ ∃ r', (t.calCh id).run = some r' ∧ r'.made = r.made + 1 ∧ r'.last = m ∧
         r'.accepted = none ∧ r'.inst = r.inst) ∧
     (agree = false → fld (s.calCfg id) 24 3 ≤ r.made + 1 → ∃ t, Does (.calMeasurementDone id l rb) s t ∧
       (t.calCh id).run = none ∧ (t.calRec id).outcome = 2 ∧ t.regs = s.regs ∧ t.cal.trims = s.cal.trims ∧
       t.cal.ofs = s.cal.ofs ∧ (t.calRec id).rejects = satInc 0xFFFFFFFF (s.calRec id).rejects) ∧
     (agree = true → id = 5 → ∃ t, Does (.calMeasurementDone id l rb) s t ∧ (t.calCh id).run = none ∧
       (t.calRec id).outcome = 1 ∧ (t.calRec id).count = satInc 0xFFFFFFFF (s.calRec id).count ∧
       t.regs = (s.setReg (0x780118 + 0x40 * r.inst)
         (putFld (s.hvReg r.inst 0x18) 0 16 (code 16 (nth 0 c 0)))).regs) ∧
     (agree = true → id = 3 → r.tap = false → rb = true → trimsFit false c = true →
       ∃ t, Does (.calMeasurementDone id l rb) s t ∧ (t.calCh id).run = none ∧ (t.calRec id).outcome = 1 ∧
         t.cal.trims = sput {} { trim := (512 - nth 0 c 0).toNat, tap := 16, method := 0 } (3 * 65536 + r.inst * 64)
           s.cal.trims) ∧
     (agree = true → id = 4 ∨ ((id = 1 ∨ id = 6 ∨ id = 7) ∧ r.tap = false ∧ rb = true ∧ trimsFit false c = true) →
       ∃ t, Does (.calMeasurementDone id l rb) s t ∧ t.regs = s.regs ∧ t.cal.trims = s.cal.trims ∧
         t.cal.ofs = s.cal.ofs ∧ ∃ r', (t.calCh id).run = some r' ∧ r'.accepted = some c ∧ r'.inst = r.inst) ∧
     (agree = true → (id = 1 ∨ id = 2 ∨ id = 3 ∨ id = 6 ∨ id = 7) → r.tap = false →
       rb = false ∨ trimsFit false c = false →
       ∃ t, Does (.calMeasurementDone id l rb) s t ∧ (t.calCh id).trimFault = true ∧ t.cal.trims = s.cal.trims ∧
         (s.busySrc 15 = false → t.statusSrc 15 = true) ∧
         ∃ r', (t.calCh id).run = some r' ∧ r'.tap = true ∧ r'.trig = 4 ∧ r'.made = 0 ∧ r'.inst = r.inst)) ∧
   (∀ (id : Fin 10) (ms : List Int) (r : CalRun) (s : State), s.aonOn = true → s.on .eng = true → s.shaped = true →
     (s.calCh id).run = some r → r.accepted = some ms → (s.calCh id).turn = [] →
     ∃ t, Does (.calSwitchoverTimeout id) s t ∧ (t.calCh id).run = none ∧ (t.calRec id).outcome = 1 ∧
       (∀ m : Int, (id = 1 ∨ id = 6 ∨ id = 7) → ms = [m] → r.tap = false → t.cal.trims =
         sput {} { trim := (512 - m).toNat, tap := 16, method := 0 } (id.val * 65536 + r.inst * 64) s.cal.trims)) ∧
   (∀ (id : Fin 10) (s : State), s.aonOn = true → (s.calCh id).run = none → Does (.calSwitchoverTimeout id) s s) ∧
   ∀ (id : Fin 10) (s : State), s.aonOn = true → s.on .eng = true → s.served .service = true →
     (s.mayWrite .test = true → Does (.trimFaultClear id) s
       (((s.onCalCh id fun c => { c with trimFault := false }).replied .none).checkpoints)) ∧
     (s.mayWrite .test = false → Does (.trimFaultClear id) s ((s.replied .stateConflict).checkpoints)))

/-! ## Events, power and start -/

/-- A raise. A reserved source, and one that is busy, is not raised: nothing changes (R1075, R1077). Any other sets
its status bit and is busy (R1076, R1077); with ERRN or GRAVE it drives ERR_N low (R1091), and with GRAVE it locks
SAFE and holds ERR_N (R1087). A force write raises the source as though its block had (R1081), in SERVICE and SAFE
only: elsewhere it is discarded, or refused (R1082, R1109). Writing 1 to a status bit clears it, and leaves every
other source's bit. A source whose reactions are complete stops being busy with it; one with a reaction still to
complete stays as it was (R1076, R1077). ERR_N goes high once nothing drives it and its minimum low time has passed
(R1091). -/
def Obligations.SourcesAreRaisedAndCleared : Prop :=
  ((∀ (n : Nat) (s : State), reservedSource n = true ∨ s.busySrc n = true → s.raise n = s) ∧
   (∀ (n : Nat) (s : State), reservedSource n = false → s.busySrc n = false →
     (s.raise n).statusSrc n = true ∧ (s.raise n).busySrc n = true ∧
     (bitOf (s.reaction n) 4 = true ∨ bitOf (s.reaction n) 7 = true → (s.raise n).evt.errLow = true) ∧
     (bitOf (s.reaction n) 7 = true → (s.raise n).sys.safeLocked = true ∧ (s.raise n).evt.graveHold = true) ∧
     (bitOf (s.reaction n) 6 = true → s.cannotSafe = false → (s.raise n).evt.safeReq.isSome = true) ∧
     ∀ j, s.statusSrc j = true → (s.raise n).statusSrc j = true) ∧
   (∀ (n : Fin 256) (s : State), s.aonOn = true → s.served .service = true → s.mayWrite .test = true →
     s.on (evBank n).dom = true → reservedSource n = false → s.busySrc n = false →
     ∃ t, Does (.eventForce true n 1) s t ∧ t.statusSrc n = true ∧ t.busySrc n = true ∧ t.zop.reply = .none) ∧
   (∀ (n : Fin 256) (s : State), s.aonOn = true → s.served .service = true → s.mayWrite .test = false →
     Does (.eventForce true n 1) s ((s.replied .stateConflict).checkpoints)) ∧
   (∀ (n : Fin 256) (v : Word) (s : State), s.aonOn = true → s.served .service = true → v.toNat ≠ 1 →
     Does (.eventForce true n v) s ((s.replied .range).checkpoints)) ∧
   ∀ (k : Fin 256) (b : EvBank) (v : Word) (s : State), s.aonOn = true → evBanks[k.val]? = some b →
     s.badReason (b.stat + 8) 0xF#4 true = 0 →
     (s.mayWrite .test = false → Does (.eventForce false k v) s s) ∧
     (s.mayWrite .test = true → ∃ t, Does (.eventForce false k v) s t ∧
       ∀ i < b.count, bitOf v i = true → reservedSource (b.first + i) = false → s.busySrc (b.first + i) = false →
         t.statusSrc (b.first + i) = true)) ∧
  ((∀ (k : Fin 24) (b : EvBank) (v : Word) (s : State), s.aonOn = true → evBanks[k.val]? = some b →
     s.badReason b.stat 0xF#4 true = 0 →
     ∃ t, Does (.eventStatusClear k v) s t ∧
       (∀ i < b.count, t.statusSrc (b.first + i) = (s.statusSrc (b.first + i) && !bitOf v i) ∧
         (bitOf v i = true → s.reacting (b.first + i) = false → t.busySrc (b.first + i) = false) ∧
         (bitOf v i = false ∨ s.reacting (b.first + i) = true → t.busySrc (b.first + i) = s.busySrc (b.first + i))) ∧
       ∀ j, j < b.first ∨ b.first + b.count ≤ j → t.statusSrc j = s.statusSrc j ∧ t.busySrc j = s.busySrc j) ∧
   (∀ s : State, s.aonOn = true → s.errDriven = false →
     Does .errNMinwExpiry s (s.onEvt fun e => { e with errMin := false, errLow := false })) ∧
   ∀ s : State, s.aonOn = true → s.errDriven = true → s.evt.errLow = true →
     Does .errNMinwExpiry s (s.onEvt fun e => { e with errMin := false }))

/-- The reset of a block completes: of a station, its line stops with GATE_HOLD set while its registers stay (R1085).
A chip reset waits for its own Glume entry, and then has the effect of RST_IN_N (R1084, R1086). The record. The entry
at the head of the queue is committed to its region with the next SEQ and leaves the queue (R1094, R1095). An entry
that fails its read-back is spent and is written again; after its second failure its record is abandoned, with source
248 (R1099). While the link has failed the entries wait (R1103). The protected region is emptied only by an
administrator or the mailbox, in SERVICE (R1102); a note is 40 bytes (R1096, R1109). -/
def Obligations.ResetsAndTheRecord : Prop :=
  ((∀ (src : Fin 256) (s : State), s.aonOn = true → 48 ≤ src.val → src.val < 80 → s.on .img = true →
     s.evt.blockResets.contains src.val = true → s.shaped = true →
     ∃ t, Does (.blockResetDone src) s t ∧ t.evt.blockResets.contains src.val = false ∧ t.regs = s.regs ∧
       (t.st ((src.val - 48) / 8)).gateHold = true ∧ (t.st ((src.val - 48) / 8)).lineOn = false) ∧
   (∀ (src : Fin 256) (s : State), s.aonOn = true → s.evt.blockResets.contains src.val = false →
     Does (.blockResetDone src) s s) ∧
   (∀ s : State, s.aonOn = true → s.evt.chipReset = none → Does .chipReset s s) ∧
   (∀ (src : Nat) (s : State), s.aonOn = true → s.evt.chipReset = some src → s.resetEntryDue src = true →
     Does .chipReset s s) ∧
   ∀ (src : Nat) (s : State), s.aonOn = true → s.evt.chipReset = some src → s.resetEntryDue src = false →
     s.pwr.losing = false →
     Does .chipReset s (((s.onEvt fun e => { e with chipReset := none }).onPwr fun p =>
       { p with chipReset := true, resetIn := false }).forceOff none)) ∧
  ((∀ (i : GItem) (l : List GItem) (s : State), s.aonOn = true → s.evt.linkFault = false → s.evt.queue = i :: l →
     s.evt.waiting = [] → i.prot = false → i.react = false →
     (∃ t, Does (.glumeEntryCommit true) s t ∧ t.evt = { s.evt with queue := l } ∧ t.die.nextSeq = s.die.nextSeq + 1 ∧
       t.die.prot = s.die.prot ∧ t.die.gen.getLast? = some { seq := s.die.nextSeq, item := i, state := 0 }) ∧
     (i.retried = false → ∃ t, Does (.glumeEntryCommit false) s t ∧ t.die.nextSeq = s.die.nextSeq + 1 ∧
       t.evt = { s.evt with queue := { i with retried := true } :: l }) ∧
     (i.retried = true → Does (.glumeEntryCommit false) s
       ((({ s with die := s.die.write i 3 } : State).raise 248).dequeue i (1 + i.rest)))) ∧
   (∀ (good : Bool) (s : State), s.aonOn = true → s.evt.linkFault = true → Does (.glumeEntryCommit good) s s) ∧
   (∀ s : State, s.aonOn = true →
     Does .recordDieFault s ((s.onEvt fun e => { e with linkFault := true }).raise 254) ∧
     Does (.glumeLinkRetry false) s s ∧
     (∀ (i : GItem) (l : List GItem), s.evt.linkFault = true → s.evt.queue = i :: l → s.evt.waiting = [] →
       i.prot = false → i.react = false → ∃ t, Does (.glumeLinkRetry true) s t ∧ t.evt.linkFault = false ∧
         t.evt.queue = l ∧ t.die.nextSeq = s.die.nextSeq + 1)) ∧
   (∀ s : State, s.aonOn = true → s.served .service = true →
     Does (.clearProtected false) s ((s.replied .access).checkpoints) ∧
     (s.sys.mode ≠ .service → Does (.clearProtected true) s ((s.replied .stateConflict).checkpoints)) ∧
     (s.sys.mode = .service → s.sys.transit = false →
       ∃ t, Does (.clearProtected true) s t ∧ t.die.prot = [] ∧ t.die.gen = s.die.gen ∧ t.zop.reply = .none)) ∧
   ∀ (b : List Byte) (s : State), s.aonOn = true → s.served .service = true →
     (s.mayWrite .mgmt = true → b.length ≠ 40 → Does (.note b) s ((s.replied .length).checkpoints)) ∧
     (s.mayWrite .mgmt = false → Does (.note b) s ((s.replied .stateConflict).checkpoints)) ∧
     (s.mayWrite .mgmt = true → b.length = 40 → s.evt.queue.length < 224 →
       ∃ t, Does (.note b) s t ∧ t.zop.reply = .none ∧ ∃ g, t.evt.queue = s.evt.queue ++ [g] ∧ g.kind = 15 ∧
         g.payload = b ∧ g.prot = false ∧ g.time = s.time.now))

/-- Domains. A request is judged in the order RANGE, BUSY, STATE_CONFLICT: it is legal in SERVICE alone, and only
with what the domain needs on (R982). A domain change goes on step by step, and its last step brings the domain to
its goal (R976, R977). A step that times out is a domain fault: FAULT of the domain is set, `PWR_LAST_FAIL` names
it, and the domain goes to OFF from the step where it stands (R979); a request ends with STATUS 5. Rails. The slot
whose turn it is gets enabled after its delay (R987), and its qualification ends its turn (R988). A drop restarts
the qualification; past RESTART_MAX, or past PG_TIMEOUT, or at the third failed transaction, the slot fails, with
its cause in `PWR_LAST_FAIL`, and what was raised is taken down (R989, R990, R1013). A disabled slot that has fallen
ends its turn, and so does one that does not fall in time, with cause STUCK (R993, R994). The loss of a qualified
rail outside a sequence raises source 214 (R995); a PMBus alert is recorded, with source 217 (R1014). -/
def Obligations.DomainsAndRailsAreSequenced : Prop :=
  ((∀ (d : Fin 8) (s : State), s.aonOn = true →
     (∃ t, Does (.domainRequest d 3) s t ∧ t.pwr.reqStatus = 6 ∧ t.pwr.doms = s.pwr.doms ∧ t.pwr.seq = s.pwr.seq) ∧
     (∀ st : Fin 4, st ≠ 3 → s.sys.transit = true →
       ∃ t, Does (.domainRequest d st) s t ∧ t.pwr.reqStatus = 4 ∧ t.pwr.doms = s.pwr.doms ∧ t.pwr.seq = s.pwr.seq) ∧
     (∀ st : Fin 4, st ≠ 3 → s.sys.transit = false → (∀ k < 8, s.dom (Dom.ofCode k) ≠ .transit) →
       s.sys.mode ≠ .service ∨ d.val ≤ 2 →
       ∃ t, Does (.domainRequest d st) s t ∧ t.pwr.reqStatus = 3 ∧ t.pwr.doms = s.pwr.doms ∧ t.pwr.seq = s.pwr.seq) ∧
     (s.sys.transit = false → (∀ k < 8, s.dom (Dom.ofCode k) ≠ .transit) → s.sys.mode = .service → 2 < d.val →
       s.dom (Dom.ofCode d) = .off →
       ((∀ x ∈ (Dom.ofCode d).needs, s.on x = true) → ∃ t, Does (.domainRequest d 2) s t ∧ t.pwr.reqStatus = 1 ∧
         t.pwr.seq = [.dom (Dom.ofCode d) .on] ∧ t.pwr.doms = s.pwr.doms) ∧
       ((∃ x ∈ (Dom.ofCode d).needs, s.on x = false) → ∃ t, Does (.domainRequest d 2) s t ∧ t.pwr.reqStatus = 3 ∧
         t.pwr.seq = s.pwr.seq)) ∧
     (s.sys.transit = false → (∀ k < 8, s.dom (Dom.ofCode k) ≠ .transit) → s.sys.mode = .service → 2 < d.val →
       ((∃ x ∈ domOrder, s.on x = true ∧ Dom.ofCode d ∈ x.needs) → ∃ t, Does (.domainRequest d 0) s t ∧
         t.pwr.reqStatus = 3 ∧ t.pwr.doms = s.pwr.doms ∧ t.pwr.seq = s.pwr.seq) ∧
       ((∀ x ∈ domOrder, s.on x = true → Dom.ofCode d ∉ x.needs) →
         (s.dom (Dom.ofCode d) = .on → ∃ t, Does (.domainRequest d 0) s t ∧ t.pwr.reqStatus = 1 ∧
           t.pwr.seq = [.dom (Dom.ofCode d) .off] ∧ t.pwr.doms = s.pwr.doms) ∧
         (s.dom (Dom.ofCode d) = .off → ∃ t, Does (.domainRequest d 0) s t ∧ t.pwr.reqStatus = 2 ∧
           t.pwr.doms = s.pwr.doms ∧ t.pwr.seq = s.pwr.seq)))) ∧
   ∀ (d : Dom) (goal : DState) (rest : List SeqTask) (s : State), s.aonOn = true → d ≠ .aon →
     s.shaped = true → s.pwr.seq = .dom d goal :: rest → s.dom d = .transit →
     (s.pwr.seqStep < 3 → s.sys.latched = none →
       Does .domainStepReady s (s.onPwr fun p => { p with seqStep := p.seqStep + 1 })) ∧
     (3 ≤ s.pwr.seqStep → ∃ t, Does .domainStepReady s t ∧ t.dom d = goal ∧ t.pwr.seq = rest) ∧
     (goal ≠ .on → (goal = .ret → s.sys.target ≠ .standby) → ∃ t, Does .domainStepTimeout s t ∧
        t.pwr.domFault.getLsbD d.code = true ∧
       bitOf t.pwr.lastFail 31 = true ∧ fld t.pwr.lastFail 20 3 = 5 ∧ fld t.pwr.lastFail 16 3 = d.code ∧
       (s.pwr.seqStep < 3 → t.dom d = .transit ∧ t.pwr.seq = .dom d .off :: rest ∧
         t.pwr.seqStep = s.pwr.seqStep + 1) ∧
       (3 ≤ s.pwr.seqStep → t.dom d = .off ∧ t.pwr.seq = rest)) ∧
     (goal = .on → s.pwr.seqFor = .request → ∃ t, Does .domainStepTimeout s t ∧ t.dom d = .transit ∧
       t.pwr.seq = [.dom d .off] ∧ t.pwr.seqStep = 3 - s.pwr.seqStep ∧ t.pwr.reqStatus = 5 ∧
       t.pwr.domFault.getLsbD d.code = true ∧ fld t.pwr.lastFail 20 3 = 5)) ∧
  ((∀ (k : Fin 16) (rest : List SeqTask) (s : State), s.aonOn = true → s.shaped = true →
     s.pwr.seq = .up k :: rest →
     (s.pwr.slotActive = false → s.monitor k = false → s.pwr.afterOff = none →
       ∃ t, Does .railEnable s t ∧ (t.slot k).enabled = true ∧ (t.slot k).pg = false ∧ (t.slot k).restarts = 0 ∧
         t.pwr.slotActive = true ∧ t.pwr.seq = s.pwr.seq) ∧
     (s.pwr.slotActive = true → s.slotLevel k ≠ 0 →
       ∃ t, Does (.railQualified k) s t ∧ (t.slot k).qualified = true ∧ (t.slot k).pg = true ∧ t.pwr.seq = rest) ∧
     (s.pwr.slotActive = true → (s.slot k).restarts + 1 ≤ s.restartMax k →
       ∃ t, Does (.railPgDrop k) s t ∧ (t.slot k).restarts = (s.slot k).restarts + 1 ∧ (t.slot k).pg = false ∧
         t.pwr.seq = s.pwr.seq) ∧
     (s.pwr.slotActive = true → s.sys.target ≠ .safe → s.sys.latched = none →
       (s.restartMax k < (s.slot k).restarts + 1 → ∃ t, Does (.railPgDrop k) s t ∧ t.pwr.seqFor = .undo ∧
         t.pwr.retries = s.pwr.retries ∧ fld t.pwr.lastFail 20 3 = 2 ∧ fld t.pwr.lastFail 24 4 = k) ∧
       (∃ t, Does (.railPgTimeout k) s t ∧ t.pwr.seqFor = .undo ∧ fld t.pwr.lastFail 20 3 = 1 ∧
         fld t.pwr.lastFail 24 4 = k) ∧
       (s.pwr.pmbTries = 2 → ∃ t, Does (.pmbusTransactionDone k false) s t ∧ t.pwr.seqFor = .undo ∧ t.pwr.pmbTries = 0 ∧
         fld t.pwr.lastFail 20 3 = 3 ∧ fld t.pwr.lastFail 24 4 = k))) ∧
   (∀ (k : Fin 16) (rest : List SeqTask) (s : State), s.aonOn = true → s.shaped = true →
     s.pwr.seq = .down k :: rest → s.pwr.slotActive = true →
     (∃ t, Does (.railFallen k) s t ∧ (t.slot k).pg = false ∧ t.pwr.seq = rest) ∧
     ∃ t, Does (.railFallTimeout k) s t ∧ t.pwr.seq = rest ∧ fld t.pwr.lastFail 20 3 = 4 ∧ fld t.pwr.lastFail 24 4 = k) ∧
   ∀ (k : Fin 16) (s : State), s.aonOn = true →
     (s.pwr.seq = [] → (s.slot k).qualified = true → s.monitor k = false →
       Does (.railLost k) s (((s.onSlot k fun x => { x with pg := false }).raise 214).faultRecord 214 [k])) ∧
     Does (.pmbusTransactionDone k true) s (s.onPwr fun p => { p with pmbTries := 0 }) ∧
     (s.pwr.pmbTries < 2 → Does (.pmbusTransactionDone k false) s
       ((s.onPwr fun p => { p with pmbTries := s.pwr.pmbTries + 1 }).raise 218)) ∧
     (s.pwr.pmbTries = 2 → s.pwr.seq = [] → Does (.pmbusTransactionDone k false) s
       (((s.onPwr fun p => { p with pmbTries := 0 }).raise 218).faultRecord 218 [k])) ∧
     ∀ (a : BitVec 7) (w : BitVec 16), Does (.pmbusAlert a w) s ((s.faultRecord 217 [a.toNat, w.toNat]).raise 217))

/-- Power loss. The loss of a monitored supply latches PFAIL and is counted; a running sequence is dropped; in a
mode that can enter SAFE, SAFE is entered; and the POWER_LOSS record goes ahead of every queued record (R1002,
R1003, R1098). Rail by rail the slots are disabled, with every domain off, and the last step ends in OFF (R1002).
RST_IN_N does the same (R1009). The stretch of a reset output that has run out lets it go with its domain. After
OFFMIN, OFF waits for the supply, or a retry counts (R990, R1006). -/
def Obligations.PowerLossTakesEverythingDown : Prop :=
  (∀ (k : Fin 16) (s : State), s.aonOn = true →
    (s.monitor k = false → Does (.powerLoss k) s s) ∧
    (s.monitor k = true → s.slotLevel k ≠ 0 → s.pwr.losing = false →
      ∃ t, Does (.powerLoss k) s t ∧ t.pwr.losing = true ∧ t.pwr.pfail = true ∧ t.pwr.seq = [] ∧
        t.pwr.cntPfail = satInc 0xFFFFFFFF s.pwr.cntPfail ∧ (∃ g l, t.evt.queue = g :: l ∧ g.kind = 3 ∧ g.prot = true) ∧
        (s.cannotSafe = false → t.sys.mode = .safe))) ∧
  (∀ s : State, s.aonOn = true →
    (s.pwr.losing = false → Does .powerLossRailStep s s) ∧
    (s.pwr.losing = true → s.shaped = true →
      (∀ k, s.lossSlot = some k → ∃ t, Does .powerLossRailStep s t ∧ (t.slot k).enabled = false ∧
        (t.slot k).qualified = false ∧ t.pwr.losing = true ∧ ∀ d : Dom, d ≠ .aon → t.dom d = .off) ∧
      (s.lossSlot = none → s.pwr.resetIn = false → s.pwr.chipReset = false →
        ∃ t, Does .powerLossRailStep s t ∧ t.sys.mode = .off ∧ t.sys.transit = false ∧ t.pwr.losing = false ∧
          t.pwr.afterOff = (if s.pwr.forced then none else some .restored))) ∧
    (s.pwr.losing = false → ∃ t, Does .rstIn s t ∧ t.pwr.losing = true ∧ t.pwr.resetIn = true ∧ t.pwr.forced = true) ∧
    (s.pwr.losing = true → Does .rstIn s (s.onPwr fun p => { p with resetIn := true, chipReset := false }))) ∧
  (∀ (k : Fin 4) (s : State), s.aonOn = true → s.rstoUpdate = s →
    (nth false s.pwr.rstoStretch k = true → Does (.rstoStretchExpiry k) s (s.onPwr fun p =>
      { p with rsto := modAt p.rsto k fun _ => false, rstoStretch := modAt p.rstoStretch k fun _ => false })) ∧
    (nth false s.pwr.rstoStretch k = false → Does (.rstoStretchExpiry k) s s)) ∧
  ∀ s : State, s.aonOn = true →
    (∀ b, s.pwr.afterOff = none → Does (.offminExpiry b) s s) ∧
    (∀ b, s.pwr.afterOff = some .retry → ∃ t, Does (.offminExpiry b) s t ∧ t.pwr.afterOff = none ∧
      t.pwr.retries = s.pwr.retries + 1 ∧ t.pwr.cntRetry = satInc 0xFFFFFFFF s.pwr.cntRetry) ∧
    (s.pwr.afterOff = some .restored → s.sys.mode = .off → s.sys.transit = false → s.pwr.losing = false →
      Does (.offminExpiry false) s (s.onPwr fun p => { p with afterOff := none, onPend := false }))

/-- Housekeeping. A round takes every channel: a die sensor as it measures, an HK pin in mV by its SCALE, and nothing
for a pin with MODE 0; a code of 0 or 4,095 and a failed conversion make a reading invalid (R1015 to R1017). With a
die sensor invalid the print window is left (R1020). A thermal shutdown latches its sensor, and raises source 224
(R1024). The apply of the LIN tables is armed (R1019). -/
def Obligations.TemperaturesAreWatched : Prop :=
  (∀ (codes : List (BitVec 12)) (dies supplies : List Int) (failed : BitVec 12) (s : State), s.aonOn = true →
    s.shaped = true →
    ∃ t, Does (.hkRound codes dies supplies failed) s t ∧ t.thm.round = s.thm.round + 1 ∧
      (∀ c < 12, (t.hk c).val = dies.getD c 0 ∧ (t.hk c).code = (codes.getD c 0).toNat ∧
        ((t.hk c).valid = true ↔ failed.getLsbD c = false ∧ codes.getD c 0 ≠ 0#12 ∧ codes.getD c 0 ≠ 4095#12)) ∧
      (∀ k < 32, fld (s.hkCfg k) 30 2 = 1 →
        (t.hk (12 + k)).val = ((codes.getD (12 + k) 0).toNat * fld (s.hkCfg k) 0 16 : Nat) / 4096) ∧
      (∀ k < 32, fld (s.hkCfg k) 30 2 = 0 → (t.hk (12 + k)).valid = false) ∧
      ((∃ c < 12, failed.getLsbD c = true) → t.thm.printOk = false)) ∧
  (∀ (i : Fin 12) (s : State), s.aonOn = true → Does (.thermalShutdown i) s
    ((s.onThm fun t => { t with tsd := true, tsdCause := t.tsdCause ||| BitVec.ofNat 12 (2 ^ i.val) }).raise 224)) ∧
  ∀ s : State, s.aonOn = true → s.served .service = true →
    (s.mayWrite .shadow = true →
      Does .hkLinApply s (((s.onThm fun t => { t with linApply := 1 }).replied .none).checkpoints)) ∧
    (s.mayWrite .shadow = false → Does .hkLinApply s ((s.replied .stateConflict).checkpoints))

/-- The steps of a start. A step that succeeds ends, with its method and its time logged, and leaves the marks alone
(R1111, R1149); one that goes on by itself has not ended. A mandatory step that fails is marked in the record die and
run again by its alternate method (R1116, R1118), and when that fails too the start halts and goes down to OFF (R1121).
An optional step that fails is marked and skipped, with source 8, the self-test with source 252 besides (R1113, R1116,
R1118). In service, a step is run in READY only, with no token in flight, a token armed with a plan against step 9, and
an enabled station for steps 10 to 13 (R1126); another step gives RANGE, and a second run BUSY; its success clears its
mark, and its failure keeps it and raises source 8 (R1125). Marks are cleared by the host in SERVICE and SAFE only
(R1120, R1147). -/
def Obligations.StartsGoStepByStep : Prop :=
  (∀ (n : Fin 16) (ok : Bool) (inst cause us arg : Nat) (s : State), s.aonOn = true → s.boot.serviceStep = 0 →
    let m := if s.boot.byAlt.getLsbD n then 1 else 0
    (s.boot.running.getLsbD n = false → Does (.bootStepDone n ok inst cause us arg) s s) ∧
    (s.boot.running.getLsbD n = true → s.stepEnds n ok = none → Does (.bootStepDone n ok inst cause us arg) s s) ∧
    (0 < n.val → n.val ≤ s.boot.lastStart.length → s.boot.running.getLsbD n = true → s.stepEnds n ok = some true →
      ∃ t, Does (.bootStepDone n ok inst cause us arg) s t ∧ t.boot.running = s.boot.running &&& ~~~(stepBit n) ∧
        t.boot.ended = s.boot.ended ||| stepBit n ∧ t.die.marks = s.die.marks ∧
        nth {} t.boot.lastStart (n.val - 1) = { method := m, outcome := 0, duration := us }) ∧
    (n ∈ [1, 2, 4, 8] → s.boot.running.getLsbD n = true → s.boot.byAlt.getLsbD n = false → s.stepEnds n ok = some true →
      Does (.bootStepDone n ok inst cause us arg) s (s.onBoot fun b =>
        { b with running := b.running &&& ~~~(stepBit n), ended := b.ended ||| stepBit n,
                 lastStart := modAt b.lastStart (n.val - 1) fun _ => { method := 0, outcome := 0, duration := us } })) ∧
    (n ∈ [1, 2, 4, 5, 6, 7] → s.boot.running.getLsbD n = true → s.stepEnds n ok = some false →
      (s.boot.byAlt.getLsbD n = false →
        ∃ t, Does (.bootStepDone n ok inst cause us arg) s t ∧ t.die.marks = s.die.marks ||| stepBit n ∧
          t.boot.byAlt = s.boot.byAlt ||| stepBit n ∧ t.boot.alt = s.boot.alt ||| stepBit n ∧
          t.boot.running = s.boot.running ∧ t.boot.ended = s.boot.ended) ∧
      (s.boot.byAlt.getLsbD n = true →
        ∃ t, Does (.bootStepDone n ok inst cause us arg) s t ∧ t.die.marks = s.die.marks ||| stepBit n ∧
          t.boot.halted = true ∧ t.boot.starting = false ∧ t.sys.target = .off ∧ t.sys.transit = true)) ∧
    (8 ≤ n.val → s.boot.running.getLsbD n = true → s.stepEnds n ok = some false →
      ∃ t, Does (.bootStepDone n ok inst cause us arg) s t ∧ t.die.marks = s.die.marks ||| stepBit n ∧
        t.boot.alt = s.boot.alt ||| stepBit n ∧ t.boot.ended = s.boot.ended ||| stepBit n ∧
        (n = 8 → s.busySrc 252 = false → t.statusSrc 252 = true) ∧ (s.busySrc 8 = false → t.statusSrc 8 = true))) ∧
  (∀ (od : Bool) (n : BitVec 8) (s : State), s.aonOn = true → (od = true → s.served .service = true) →
    (od = false → n.toNat < 16) →
    let ends (a : Abort) (code : Nat) (t : State) : Prop :=
      (t.boot.serviceStep = s.boot.serviceStep ∧ (od = true → t.zop.reply = a) ∧
        (s.boot.serviceStep = 0 → t.boot.cmdStatus = code))
    (¬ (9 ≤ n.toNat ∧ n.toNat ≤ 13 ∨ n.toNat = 15) → ∃ t, Does (.runStep od n) s t ∧ ends .range 5 t) ∧
    (9 ≤ n.toNat ∧ n.toNat ≤ 13 ∨ n.toNat = 15 →
      (s.sys.mode ≠ .ready ∨ s.sys.transit = true ∨ s.flying ≠ [] →
        ∃ t, Does (.runStep od n) s t ∧ ends .stateConflict 3 t) ∧
      (s.mayWrite .setp = true → s.sys.mode = .ready → s.sys.transit = false → s.flying = [] →
        (n.toNat = 9 → ∀ k ∈ s.waitingSlots, (s.tok k).state ≠ .armed ∨ (s.tok k).plan = []) →
        (10 ≤ n.toNat ∧ n.toNat ≤ 13 → bitOf (s.lsReg (n.toNat - 10) 0) 31 = true) →
        (s.boot.serviceStep = 0 → s.boot.running = 0 → ∃ t, Does (.runStep od n) s t ∧ (od = true → t.zop.reply = .none) ∧
          t.boot.serviceStep = n.toNat ∧ t.boot.cmdStatus = 1 ∧ t.die.marks = s.die.marks) ∧
        (s.boot.serviceStep ≠ 0 → ∃ t, Does (.runStep od n) s t ∧ (od = true → t.zop.reply = .busy) ∧
          t.boot = s.boot)))) ∧
  (∀ (n : Fin 16) (ok : Bool) (inst cause us arg : Nat) (s : State), s.aonOn = true → n.val ≠ 0 →
    s.boot.serviceStep = n.val →
    (s.stepEnds n ok = none → Does (.bootStepDone n ok inst cause us arg) s s) ∧
    (s.stepEnds n ok = some true → ∃ t, Does (.bootStepDone n ok inst cause us arg) s t ∧
      t.die.marks = s.die.marks &&& ~~~(stepBit n) ∧ t.boot.serviceStep = 0 ∧ t.boot.cmdStatus = 2) ∧
    (s.stepEnds n ok = some false → ∃ t, Does (.bootStepDone n ok inst cause us arg) s t ∧
      t.die.marks = s.die.marks ∧ t.boot.serviceStep = 0 ∧ t.boot.cmdStatus = 6 ∧
      (s.busySrc 8 = false → t.statusSrc 8 = true))) ∧
  ∀ (od : Bool) (mask : BitVec 16) (s : State), s.aonOn = true → (od = true → s.served .service = true) →
    (s.mayWrite .test = true → mask.toNat % 2 = 0 →
      ∃ t, Does (.clearMarks od mask) s t ∧ t.die.marks = s.die.marks &&& ~~~mask ∧ (od = true → t.zop.reply = .none)) ∧
    (s.mayWrite .test = false →
      ∃ t, Does (.clearMarks od mask) s t ∧ t.die = s.die ∧ (od = true → t.zop.reply = .stateConflict)) ∧
    (s.mayWrite .test = true → mask.toNat % 2 = 1 →
      ∃ t, Does (.clearMarks od mask) s t ∧ t.die = s.die ∧ (od = true → t.zop.reply = .range))

/-- The in-service update. Activation asks for a staged set and two pairs in service; with the same checkpoint format
it is a hot switch, with another a cold switch, legal in SERVICE alone (R1132, R1135). A hot switch goes through its
handovers and reloads, and ends in the trial, with source 10 (R1133). A confirmed trial makes the staged bank the
active one and may raise SVN_MIN (R1131, R1137); a reverted one goes back by another hot switch (R1138). Outside a
trial neither is legal (R1150). A load is handed back at the next checkpoint, with source 7 (R1140, R1141). -/
def Obligations.UpdatesSwitchAndRevert : Prop :=
  (∀ s : State, s.aonOn = true → s.served .service = true → s.mayWrite .mgmt = true →
    let n := s.die.img s.spare
    (n.state ≠ 1 ∨ n.rejected = true ∨ s.pairOut .a = true ∨ s.pairOut .b = true ∨ s.sys.transit = true →
      Does .activate s ((s.replied .stateConflict).checkpoints)) ∧
    (n.state = 1 → n.rejected = false → s.pairOut .a = false → s.pairOut .b = false → s.sys.transit = false →
      s.boot.updState ≠ 2 → s.boot.trial = false →
      (n.ckpt = (s.die.img s.die.imgActive).ckpt → Does .activate s (((s.onBoot fun b =>
        { b with cold := false, updStep := 1, updState := 2, updP1 := s.sys.serviceOn }).replied .none).checkpoints)) ∧
      (n.ckpt ≠ (s.die.img s.die.imgActive).ckpt → s.sys.mode ≠ .service →
        Does .activate s ((s.replied .stateConflict).checkpoints)) ∧
      (n.ckpt ≠ (s.die.img s.die.imgActive).ckpt → s.sys.mode = .service → ∃ t, Does .activate s t ∧
        t.sys.pairA = .inReset ∧ t.sys.pairB = .inReset ∧ t.zop.sessions = [] ∧ t.zop.reply = .none ∧ t.boot.updState = 2)) ∧
    (s.boot.trial = false → Does .confirm s ((s.replied .stateConflict).checkpoints) ∧
      Does .revert s ((s.replied .stateConflict).checkpoints)) ∧
    (s.boot.trial = true →
      (∀ i ∈ [Instr.confirm, Instr.trialTimeout], ∃ t, Does i s t ∧ t.die.imgActive = s.spare ∧
        (t.die.img s.spare).state = 2 ∧ t.boot.trial = false ∧ t.boot.updState = 4 ∧
        t.die.svnMin = (if s.die.svnMin < n.svn ∧ s.die.svnSteps < 64 then n.svn else s.die.svnMin)) ∧
      ((s.die.img 0).ckpt = (s.die.img 1).ckpt → ∃ t, Does .revert s t ∧ t.boot.reverting = true ∧ t.boot.trial = false ∧
        t.boot.updState = 2 ∧ t.boot.updStep = 1 ∧ t.die.imgActive = s.die.imgActive))) ∧
  (∀ s : State, s.aonOn = true → s.boot.trial = false → Does .trialTimeout s s) ∧
  (∀ s : State, s.aonOn = true → s.on .mgt = true → s.boot.updState = 2 → s.boot.cold = false → s.boot.updP1 = .b →
    (s.boot.updStep = 1 → ∃ t, Does .handoverDone s t ∧ t.sys.engineOn = .a ∧ t.sys.serviceOn = .a ∧
      t.sys.pairA = .active ∧ t.sys.pairB = .inReset ∧ t.boot.updStep = 2) ∧
    (s.boot.updStep = 2 → s.sys.pairB = .inReset → Does (.pairReloadDone true) s
      ((s.onSys fun y => { y with pairB := .standby }).onBoot fun b => { b with updStep := 3 })) ∧
    (s.boot.updStep = 3 → ∃ t, Does .handoverDone s t ∧ t.sys.engineOn = .b ∧ t.sys.serviceOn = .b ∧
      t.sys.pairB = .active ∧ t.sys.pairA = .inReset ∧ t.boot.updStep = 4) ∧
    (s.boot.updStep = 4 → s.sys.pairA = .inReset → Does (.pairReloadDone false) s
      ((s.onSys fun y => { y with pairA := .standby }).onBoot fun b => { b with updStep := 5 })) ∧
    (s.boot.updStep = 5 → s.boot.reverting = false → s.sys.serviceOn = .b → s.sys.pairB = .active →
      ∃ t, Does .handoverDone s t ∧ t.sys.engineOn = .a ∧ t.sys.serviceOn = .b ∧ t.boot.trial = true ∧
        t.boot.updState = 3 ∧ (s.busySrc 10 = false → t.statusSrc 10 = true))) ∧
  ∀ (v : BitVec 8) (s : State), s.aonOn = true → s.served .service = true → s.mayWrite .mgmt = true →
    let l : Load := if v.toNat < 2 then .engine else .service
    let p : Pair := if v.toNat % 2 = 0 then .a else .b
    (3 < v.toNat → Does (.handback v) s ((s.replied .range).checkpoints)) ∧
    (v.toNat ≤ 3 → s.boot.updState = 2 →
      ∃ t, Does (.handback v) s t ∧ t.zop.reply = .busy ∧ t.boot.handback = s.boot.handback ∧ t.carrier l = s.carrier l) ∧
    (v.toNat ≤ 3 → s.boot.updState ≠ 2 → s.pairOut p = true →
      ∃ t, Does (.handback v) s t ∧ t.zop.reply = .stateConflict ∧ t.boot.handback = s.boot.handback ∧
        t.carrier l = s.carrier l) ∧
    (v.toNat ≤ 3 → s.boot.updState ≠ 2 → s.pairOut p = false → s.carrier l ≠ p →
      ∃ t, Does (.handback v) s t ∧ t.zop.reply = .none ∧ t.boot.handback = some (l, p) ∧ t.carrier l = s.carrier l) ∧
    (s.boot.updState ≠ 2 → s.boot.handback = some (l, p) → s.pairOut p = false →
      ∃ t, Does .handoverDone s t ∧ t.carrier l = p ∧ t.pair p = .active ∧ t.boot.handback = none ∧
        t.boot.handbackStatus = 1 ∧ (s.busySrc 7 = false → t.statusSrc 7 = true))

/-! ## The host and the dictionary -/

/-- Queues. EN = 1 with aligned bases and a SIZE_M1 of at least 1 starts a queue, with its rings at 0, and with a
bad configuration it goes to ERROR with ERRCODE 1 (R912); a write of an active queue's CFG with EN = 1 changes
nothing and raises source 234 (R911). EN = 0 stops the queue, at once when nothing is in flight (R918). A doorbell
within the ring is taken, and one above SIZE_M1 is an error with ERRCODE 2 and source 234 (R913, R914, R916); the
doorbell registers keep the last value written (R969). The reserved KIND 3 discards a write of CFG whole (R1174). -/
def Obligations.QueuesAreWorked : Prop :=
  ∀ s : State, s.aonOn = true → s.on .mgt = true →
    (∀ (i : Fin 16) (cfg : Word), s.shaped = true →
      ((s.qp i).active = false → fld cfg 29 2 = 3 → Does (.queueEnable false i cfg) s s) ∧
      ((s.qp i).active = false → fld cfg 29 2 ≠ 3 → 1 ≤ fld cfg 16 12 → (s.reg (0xA01000 + 0x40 * i)).toNat % 4096 = 0 →
        (s.reg (0xA01008 + 0x40 * i)).toNat % 4096 = 0 →
        ∃ t, Does (.queueEnable false i cfg) s t ∧ t.qp i = { active := true } ∧
          t.reg (0xA01010 + 0x40 * i) = (cfg ||| 0x80000000#32) &&& 0xEFFF3F00#32) ∧
      ((s.qp i).active = false → fld cfg 29 2 ≠ 3 → fld cfg 16 12 = 0 →
        ∃ t, Does (.queueEnable false i cfg) s t ∧ (t.qp i).active = false ∧ (t.qp i).error = true ∧
          (t.qp i).errcode = 1) ∧
      ((s.qp i).active = true → Does (.queueEnable false i cfg) s (s.raise 234)) ∧
      ((s.qp i).active = true → (s.qp i).inflight = [] → (s.qp i).due = [] →
        ∃ t, Does (.queueDisable false i cfg) s t ∧ (t.qp i).active = false ∧ (t.qp i).stopping = false) ∧
      ((s.qp i).active = true → (s.qp i).inflight ≠ [] →
        ∃ t, Does (.queueDisable false i cfg) s t ∧ (t.qp i).active = true ∧ (t.qp i).stopping = true ∧
          (t.qp i).inflight = (s.qp i).inflight)) ∧
    (∀ (q : Fin 16) (v : BitVec 12), s.shaped = true → (s.qp q).active = true →
      (v.toNat < s.qSize q → (s.qp q).stopping = false →
        Does (.sqDoorbell q v) s (s.onQp q fun x => { x with sqTail := v.toNat, sqWord := v.toNat })) ∧
      (v.toNat < s.qSize q → (s.qp q).stopping = true →
        Does (.sqDoorbell q v) s (s.onQp q fun x => { x with sqWord := v.toNat })) ∧
      (s.qSize q ≤ v.toNat →
        Does (.sqDoorbell q v) s (((s.onQp q fun x => { x with sqWord := v.toNat }).qError q 2).raise 234)) ∧
      (v.toNat < s.qSize q →
        ∃ t, Does (.cqDoorbell q v) s t ∧ (t.qp q).cqHead = v.toNat ∧ (t.qp q).cqWord = v.toNat) ∧
      (s.qSize q ≤ v.toNat →
        Does (.cqDoorbell q v) s (((s.onQp q fun x => { x with cqWord := v.toNat }).qError q 2).raise 234))) ∧
    ∀ (e : Fin 4) (v : BitVec 12) (cfg : Word), s.shaped = true →
      let x : EvQueue := nth {} s.hq.evqs e
      (∀ i : Fin 16, i.val = e.val → x.active = false → 1 ≤ fld cfg 16 12 →
        (s.reg (0xA01800 + 0x20 * e)).toNat % 4096 = 0 →
        ∃ t, Does (.queueEnable true i cfg) s t ∧
          nth {} t.hq.evqs e = { active := true, dropped := x.dropped, lost := x.lost }) ∧
      (∀ i : Fin 16, i.val = e.val → x.active = true →
        ∃ t, Does (.queueDisable true i cfg) s t ∧ (nth {} t.hq.evqs e : EvQueue).active = false) ∧
      (x.active = true → v.toNat ≤ fld (s.evqCfg e) 16 12 →
        ∃ t, Does (.evqDoorbell e v) s t ∧ (nth {} t.hq.evqs e : EvQueue).head = v.toNat) ∧
      (x.active = true → fld (s.evqCfg e) 16 12 < v.toNat →
        ∃ u : State, Does (.evqDoorbell e v) s (u.raise 234) ∧ (nth {} u.hq.evqs e : EvQueue).error = true)

/-- Descriptors of pages. A fetch takes the next descriptor of the queue whose turn it is, moves its head, and
completes an ill-formed one with FORMAT; one that fails puts the queue in ERROR (R916, R920, R926). A SUBMIT_PAGE
outside READY and PRINT completes STATE_CONFLICT (R939), with an entry for a plane that the page does not have
FORMAT, with segments that do not agree LENGTH (R925), without a free slot BUSY (R311), and on a failure of host
memory HOST_ERROR (R938); with a sound header the page becomes a token SUBMITTED with the next number, and the
partner of the front token that it follows (R310, R929), and with another one a token REJECTED, for the reason of
R310. When its last byte is read the command completes GOOD; a failure of host memory before that completes
HOST_ERROR, and the token is rejected with reason POLICY (R929, R938). CANCEL_PAGE rejects a waiting token with
reason CANCELLED, stops the reading of its page, and completes GOOD; any other token gives STATE_CONFLICT, and a
number that no slot holds RANGE (R930). A submission that finds no free slot creates no token, and counts in no
counter of tokens. -/
def Obligations.PagesAreSubmitted : Prop :=
  ((∀ s : State, s.aonOn = true →
     (∀ b, s.nextQueue = none → Does (.descriptorFetch b) s s) ∧
     ∀ q : Nat, s.nextQueue = some q → q < s.hq.qs.length →
       let head := ((s.qp q).sqHead + 1) % s.qSize q
       (∃ t, Does (.descriptorFetch none) s t ∧ (t.qp q).error = true ∧ (t.qp q).errcode = 3 ∧
         (t.qp q).sqHead = (s.qp q).sqHead) ∧
       ∀ b : List Byte, b.length = 64 →
         (descFits (s.qKind q) b = true → ∃ t, Does (.descriptorFetch (some b)) s t ∧ (t.qp q).sqHead = head ∧
           t.hq.lastQ = q ∧ (t.qp q).inflight = (s.qp q).inflight ++ [{ bytes := b, sqHead := head }]) ∧
         (descFits (s.qKind q) b = false → ∃ t, Does (.descriptorFetch (some b)) s t ∧ (t.qp q).sqHead = head ∧
           (t.qp q).inflight = (s.qp q).inflight ∧
           Posts s t q (leAt b 2 2) 11 (if leAt b 0 1 = 1 ∧ s.qKind q = 0 then 0xFFFFFFFF else 0))) ∧
   (∀ (q : Fin 16) (i : Nat) (d : Desc) (s : State), s.aonOn = true → s.CanPost q → s.headOp q 1 = some (i, d) →
     (∀ tb, s.legalIn pageModes = false → ∃ t, Does (.submitPage q tb) s t ∧ Posts s t q d.cid 8 0xFFFFFFFF) ∧
     (s.legalIn pageModes = true → s.on .pix = true → s.on .mem = true →
       (∃ t, Does (.submitPage q none) s t ∧ Posts s t q d.cid 10 0xFFFFFFFF) ∧
       ∀ tb : List (Nat × Nat × List Nat),
         let h := headerOf d.bytes
         let ent (p : Nat) : Nat × Nat × List Nat := tb.getD p (0, 0, [])
         let used (p : Nat) : Bool := if p = 4 then h.tags && !h.precoded else h.has p
         let lens := (List.range 5).map fun p => if (ent p).2.1 = 0 then 0 else (ent p).1
         let front := if h.pair = 2 then s.frontOf q else none
         ((∃ p < 5, used p = false ∧ (ent p).2.1 ≠ 0) →
           ∃ t, Does (.submitPage q (some tb)) s t ∧ Posts s t q d.cid 11 0xFFFFFFFF) ∧
         ((∀ p < 5, used p = false → (ent p).2.1 = 0) →
           (∃ p < 5, used p = true ∧ bufferOk (ent p).2.1 (ent p).1 (ent p).2.2 0 = false) →
           ∃ t, Does (.submitPage q (some tb)) s t ∧ Posts s t q d.cid 6 0xFFFFFFFF) ∧
         ((∀ p < 5, if used p then bufferOk (ent p).2.1 (ent p).1 (ent p).2.2 0 else (ent p).2.1 = 0) →
           (s.freeSlot = none →
             ∃ t, Does (.submitPage q (some tb)) s t ∧ Posts s t q d.cid 9 0xFFFFFFFF ∧ t.pgf = s.pgf) ∧
           (∀ k, s.freeSlot = some k → s.headerReason h lens front.isSome = 0 →
             ∃ t, Does (.submitPage q (some tb)) s t ∧ (t.tok k).state = .submitted ∧ (t.tok k).num = s.pgf.nextNum ∧
               (t.tok k).hdr = h ∧ (t.tok k).reading = true ∧ (t.tok k).partner = front ∧
               t.pgf.nextNum = (s.pgf.nextNum + 1) % 2 ^ 32) ∧
           (∀ k, s.freeSlot = some k → s.headerReason h lens front.isSome ≠ 0 → front = none →
             ∃ t, Does (.submitPage q (some tb)) s t ∧ (t.tok k).state = .rejected ∧
               (t.tok k).reason = s.headerReason h lens false ∧ (t.tok k).num = s.pgf.nextNum ∧
               Posts s t q d.cid (if s.headerReason h lens false = 2 then 6 else 12) s.pgf.nextNum)))) ∧
   (∀ (q : Fin 16) (s : State), s.aonOn = true →
     (∀ data, s.readingOn q = none → Does (.pageDataReadDone q data) s s) ∧
     ∀ (d : Desc) (rest : List Desc) (k : Nat), s.CanPost q → (s.qp q).inflight = d :: rest →
       s.readingOn q = some (0, k) →
       (∀ l : List (List Byte), (s.tok k).creditWait ≠ 0 → Does (.pageDataReadDone q (some l)) s s) ∧
       (∀ l : List (List Byte), (s.tok k).creditWait = 0 → s.on .mem = true →
         ∃ t, Does (.pageDataReadDone q (some l)) s t ∧ (t.tok k).reading = false ∧ (t.qp q).inflight = rest ∧
           Posts s t q d.cid 0 (s.tok k).num) ∧
       ((s.tok k).queue = q → (s.tok k).waits = true → (s.tok k).partner = none →
         ∃ t, Does (.pageDataReadDone q none) s t ∧ (t.tok k).state = .rejected ∧ (t.tok k).reason = 8 ∧
           (t.tok k).reading = false ∧ (t.qp q).inflight = rest ∧ Posts s t q d.cid 10 (s.tok k).num)) ∧
   ∀ (q : Fin 16) (i : Nat) (d : Desc) (s : State), s.aonOn = true → s.CanPost q → s.headOp q 2 = some (i, d) →
     s.legalIn anyModes = true →
     ((∀ x ∈ s.pgf.tokens, x.2.isFree = true ∨ x.2.num ≠ leAt d.bytes 4 4) →
       ∃ t, Does (.cancelPage q) s t ∧ Posts s t q d.cid 7 0) ∧
     ∀ (k : Nat) (x : Token), s.pgf.tokens.find? (fun t => !t.2.isFree && decide (t.2.num = leAt d.bytes 4 4)) = some (k, x) →
       (x.waits = false ∨ s.underGate k = true → ∃ t, Does (.cancelPage q) s t ∧ Posts s t q d.cid 8 0) ∧
       (x.waits = true → s.underGate k = false → s.tok k = x → x.partner = none →
         (∃ t, Does (.cancelPage q) s t ∧ (t.tok k).state = .rejected ∧ (t.tok k).reason = 5 ∧
           (t.tok k).time = s.time.now ∧ (t.tok k).reading = false) ∧
         (x.reading = false ∨ x.queue ≠ q → ∃ t, Does (.cancelPage q) s t ∧ Posts s t q d.cid 0 0))) ∧
  (∀ (q : Fin 16) (i : Nat) (d : Desc) (tb : List (Nat × Nat × List Nat)) (s : State), s.aonOn = true → s.CanPost q →
     s.headOp q 1 = some (i, d) → s.legalIn pageModes = true → s.on .pix = true → s.on .mem = true → s.freeSlot = none →
     let h := headerOf d.bytes
     let ent (p : Nat) : Nat × Nat × List Nat := tb.getD p (0, 0, [])
     let used (p : Nat) : Bool := if p = 4 then h.tags && !h.precoded else h.has p
     (∀ p < 5, if used p then bufferOk (ent p).2.1 (ent p).1 (ent p).2.2 0 else (ent p).2.1 = 0) →
     ∃ t, Does (.submitPage q (some tb)) s t ∧ Posts s t q d.cid 9 0xFFFFFFFF ∧ t.pgf = s.pgf)

/-- Block commands. A count of 0 completes GOOD; a range beyond the host's region completes LENGTH (R932); outside
READY and PRINT both complete STATE_CONFLICT (R939); an earlier command of the queue with common LBAs goes first
(R921); a segment list that does not agree with the buffer completes LENGTH (R925), and with DSK off a command is
NOT_READY (R477). Otherwise the transfer is put among the disk's work, at the LBA within the host's region (R941), and
when it has ended the command completes with its status and its sectors (R933, R936). A failure of host memory
completes HOST_ERROR, with the sectors moved before it (R938). A read of one journal record delivers it (R949), and with
every condition of a write met the unwritten records of the journal go to the medium (R946). -/
def Obligations.BlockCommandsAreCarriedOut : Prop :=
  (∀ (write : Bool) (q : Fin 16) (i : Nat) (d : Desc) (l : List Nat) (s : State), s.aonOn = true → s.CanPost q →
    s.headOp q (if write then 0x11 else 0x10) = some (i, d) →
    let c (x : Option (List Nat)) : Instr := if write then .write q x else .read q x
    let n := leAt d.bytes 4 4
    let lba := leAt d.bytes 8 8
    ((∃ e ∈ (s.qp q).inflight.take i, e.overlaps d = true) → ∀ x, Does (c x) s s) ∧
    ((∀ e ∈ (s.qp q).inflight.take i, e.overlaps d = false) →
      (s.legalIn pageModes = false → ∀ x, ∃ t, Does (c x) s t ∧ Posts s t q d.cid 8 0) ∧
      (s.legalIn pageModes = true → n = 0 → ∀ x, ∃ t, Does (c x) s t ∧ Posts s t q d.cid 0 0) ∧
      (s.legalIn pageModes = true → n ≠ 0 → s.hostSectors < lba + n →
        ∀ x, ∃ t, Does (c x) s t ∧ Posts s t q d.cid 6 0 ∧ t.rch = s.rch) ∧
      (s.legalIn pageModes = true → n ≠ 0 → lba + n ≤ s.hostSectors →
        (∃ t, Does (c none) s t ∧ Posts s t q d.cid 10 0) ∧
        (bufferOk (leAt d.bytes 28 2) (leAt d.bytes 24 4) l (n * 4096) = false →
          ∃ t, Does (c (some l)) s t ∧ Posts s t q d.cid 6 0) ∧
        (bufferOk (leAt d.bytes 28 2) (leAt d.bytes 24 4) l (n * 4096) = true → s.on .dsk = false →
          ∃ t, Does (c (some l)) s t ∧ Posts s t q d.cid 4 0) ∧
        (bufferOk (leAt d.bytes 28 2) (leAt d.bytes 24 4) l (n * 4096) = true → s.on .dsk = true →
          ∃ t, Does (c (some l)) s t ∧ t.rch.waiting = s.rch.waiting ++
            [{ kind := if write then .hostWrite q d.cid else .hostRead q d.cid, lba := s.jrn.printSectors + lba,
               count := n }])))) ∧
  (∀ (q : Fin 16) (i : Nat) (d : Desc) (r : JRec) (l : List Nat) (s : State), s.aonOn = true → s.CanPost q →
    s.headOp q 0x20 = some (i, d) → s.legalIn anyModes = true → leAt d.bytes 4 4 = 1 → leAt d.bytes 8 8 = r.seq →
    s.jrn.pool = [r] → s.jrn.oldest ≤ r.seq → r.seq < s.jrn.next →
    bufferOk (leAt d.bytes 28 2) (leAt d.bytes 24 4) l 128 = true →
    ∃ t, Does (.readJournal q (some l) none) s t ∧ Posts s t q d.cid 0 1 ∧ t.hq.delivered = r.bytes ∧ t.jrn = s.jrn) ∧
  (∀ (r : JRec) (s : State), s.aonOn = true → s.on .dsk = true → s.on .mem = true → s.diskReady = true →
    s.rch.cur = none → s.rch.plans = [] → s.srv.winh = 0 → s.rch.paFault = false → s.rch.paCur = none → s.rch.paDue = [] →
    s.rch.fhCal = none → s.rch.heatWrite = true → s.leadOver = true → s.jrn.pool = [r] →
    r.seq < s.jrn.acked + s.jrn.cap → 0 < s.jrn.cap →
    ∃ t, Does .journalSectorWrite s t ∧ t.jrn.pool = [] ∧ r ∈ t.jrn.medium) ∧
  ∀ (q : Fin 16) (s : State), s.aonOn = true → s.on .mgt = true →
    ((∀ e ∈ (s.qp q).inflight, e.phase ≠ 2) → Does (.blockCommandDone q none) s s) ∧
    ∀ (pre rest : List Desc) (d : Desc), s.CanPost q → (s.qp q).inflight = pre ++ d :: rest →
      ((∀ e ∈ pre, e.phase ≠ 2) → d.phase = 2 →
        ∃ t, Does (.blockCommandDone q none) s t ∧ (t.qp q).inflight = pre ++ rest ∧ Posts s t q d.cid d.status d.done) ∧
      ((∀ e ∈ pre, e.phase = 0) → 1 ≤ d.phase → d.op = 0x10 ∨ d.op = 0x11 →
        ∀ n : Nat, ∃ t, Does (.blockCommandDone q (some n)) s t ∧ Posts s t q d.cid 10 n)

/-- The endpoint. A change of the link is shown and raises source 232 (R960). PERST_N, hot reset and FLR disable every
queue and clear the mailbox, and leave the journal, the tokens in flight and the counters (R906, R969). In D3hot
nothing is posted (R908). BAR2 reaches the scratch pool's frames at `HQ_B2_BASE`, byte by byte, and nothing else: a
bad access reads zeros, writes nothing, counts and raises source 238 (R909, R910). A completion timeout is counted
(R968). -/
def Obligations.TheEndpointBehaves : Prop :=
  ∀ s : State, s.aonOn = true → s.on .mgt = true →
    (∀ (up : Bool) (sp w : Nat), s.hq.linkUp ≠ up → Does (.pcieLink up sp w) s
      ((s.onHq fun h => { h with linkUp := up, speed := if up then sp % 8 else 0,
                                 width := if up then w % 16 else 0 }).raise 232)) ∧
    (∀ flr : Bool, ∃ u : State, Does (.pcieReset flr) s (u.raise 232) ∧ u.hq.qs = List.replicate 16 {} ∧
      u.hq.evqs = List.replicate 4 {} ∧ u.hq.b2Base = 0 ∧ u.hq.d3 = false ∧ u.hq.linkUp = (flr && s.hq.linkUp) ∧
      u.hq.cntCto = s.hq.cntCto ∧ u.zop.mbxStatus = 0 ∧ u.jrn.next ≥ s.jrn.next ∧ u.jrn.medium = s.jrn.medium ∧
      ∀ k, (s.tok k).flies = true → u.tok k = s.tok k) ∧
    Does (.d3hotChange true) s (s.onHq fun h => { h with d3 := true }) ∧
    (∃ t, Does (.d3hotChange false) s t ∧ t.hq.d3 = false ∧ t.hq.held = []) ∧
    (∀ v : Word, Does (.b2BaseWrite v) s (s.onHq fun h => { h with b2Base := fld v 0 19, b2Pending := false })) ∧
    (∀ (off : BitVec 32) (n : Nat), n ≤ 4096 →
      let a := 65536 * s.hq.b2Base + off.toNat
      let good := s.on .mem = true ∧ ∀ i < n, (a + i) / 65536 < s.shf.total ∧ s.heldBy ((a + i) / 65536) 6 = true
      (good → ∃ t, Does (.bar2Access off n none) s t ∧
        t = { s with zop := { s.zop with replyData := (List.range n).map fun i => s.dramByte (a + i) } }) ∧
      (good → Memory.wf s.dram = true → ∀ l : List (Option Byte), l.length = n →
        ∃ t, Does (.bar2Access off n (some l)) s t ∧ Memory.wf t.dram = true ∧
          (∀ i < n, t.dramByte (a + i) = (nth none l i).getD (s.dramByte (a + i))) ∧
          ∀ j, j < a ∨ a + n ≤ j → t.dramByte j = s.dramByte j) ∧
      (¬ good → ∀ l : Option (List (Option Byte)), ∃ u : State, Does (.bar2Access off n l) s (u.raise 238) ∧
        u.dram = s.dram ∧ u.hq = { s.hq with cntB2bad := satInc 0xFFFFFFFF s.hq.cntB2bad } ∧
        (l = none → u.zop.replyData = List.replicate n 0))) ∧
    (s.nextQueue = none → ∀ q : Fin 16, ∃ t, Does (.completionTimeout true q) s t ∧
      t.hq.cntCto = satInc 0xFFFFFFFF s.hq.cntCto ∧ t.hq.cntUncorr = satInc 0xFFFFFFFF s.hq.cntUncorr) ∧
    (∀ (k : Nat) (q : Fin 16), s.nextQueue = some k → k < s.hq.qs.length →
      ∃ t, Does (.completionTimeout true q) s t ∧ t.hq.cntCto = satInc 0xFFFFFFFF s.hq.cntCto ∧
        (t.qp k).error = true ∧ (t.qp k).errcode = 3)

/-- The journal. READ_JOURNAL gives LENGTH past NEXT_SEQ and RANGE before OLDEST, reads records from DRAM or from the
medium, and is NOT_READY for records on a medium that cannot be read (R949); a failure of host memory gives HOST_ERROR
(R938), with the records delivered before it. ACK_JOURNAL moves ACKED on only, and gives RANGE past NEXT_SEQ (R950).
Unwritten records go to the medium as far as ACKED lets them (R946, R947), under the conditions of every write of the
disk: while a cause of inhibition stands, or before the heater has led, nothing is written (R524, R581, R582).
The format is legal in SERVICE with everything acknowledged, and leaves one genesis record, whose seal chains from
zeros (R944, R951). -/
def Obligations.TheJournalIsKept : Prop :=
  (∀ (q : Fin 16) (i : Nat) (d : Desc) (s : State), s.aonOn = true → s.CanPost q → s.headOp q 0x20 = some (i, d) →
    s.legalIn anyModes = true →
    let n := leAt d.bytes 4 4
    let first := leAt d.bytes 8 8
    let fits (l : List Nat) := bufferOk (leAt d.bytes 28 2) (leAt d.bytes 24 4) l (n * 128) = true
    let here := n ≤ s.jrn.pool.length ∧ ∀ k < n, ∃ r ∈ s.jrn.pool, r.seq = first + k
    (n = 0 → ∀ l m, ∃ t, Does (.readJournal q l m) s t ∧ Posts s t q d.cid 0 0) ∧
    (n ≠ 0 → s.jrn.next < first + n → ∀ l m, ∃ t, Does (.readJournal q l m) s t ∧ Posts s t q d.cid 6 0) ∧
    (n ≠ 0 → first + n ≤ s.jrn.next → first < s.jrn.oldest → ∀ l m, fits l →
      ∃ t, Does (.readJournal q (some l) m) s t ∧ Posts s t q d.cid 7 0) ∧
    (n ≠ 0 → first + n ≤ s.jrn.next → ∀ m, ∃ t, Does (.readJournal q none m) s t ∧ Posts s t q d.cid 10 0) ∧
    (n ≠ 0 → first + n ≤ s.jrn.next → ∀ l m, ¬ fits l →
      ∃ t, Does (.readJournal q (some l) m) s t ∧ Posts s t q d.cid 6 0) ∧
    (n ≠ 0 → first + n ≤ s.jrn.next → s.jrn.oldest ≤ first → ∀ l, fits l →
      (here ∨ (s.on .dsk = true ∧ s.diskReady = true) →
        (∃ t, Does (.readJournal q (some l) none) s t ∧ Posts s t q d.cid 0 n) ∧
        (∀ m : Nat, ∃ t, Does (.readJournal q (some l) (some m)) s t ∧ Posts s t q d.cid 10 (min m n)) ∧
        ∀ rs : List JRec, rs.map (fun r => r.seq) = (List.range n).map (fun k => first + k) →
          (∀ r ∈ rs, (s.jrn.pool ++ s.jrn.medium).find? (fun y => decide (y.seq = r.seq)) = some r) →
          ∃ t, Does (.readJournal q (some l) none) s t ∧ Posts s t q d.cid 0 n ∧
            t.hq.delivered = rs.flatMap (fun r => r.bytes)) ∧
      (¬ here → s.on .dsk = false ∨ s.diskReady = false → ∀ m,
        ∃ t, Does (.readJournal q (some l) m) s t ∧ Posts s t q d.cid 4 0))) ∧
  (∀ (v : BitVec 64) (s : State), s.aonOn = true → s.served .service = true → s.mayWrite .mgmt = true →
    (s.jrn.next < v.toNat → Does (.ackJournal none v) s ((s.replied .range).checkpoints)) ∧
    (v.toNat ≤ s.jrn.acked → v.toNat ≤ s.jrn.next →
      Does (.ackJournal none v) s ((s.replied .none).checkpoints)) ∧
    (s.jrn.acked < v.toNat → v.toNat ≤ s.jrn.next → Does (.ackJournal none v) s
      (((s.onJrn fun j => { j with acked := v.toNat, fullSeen := false }).replied .none).checkpoints))) ∧
  (∀ (q : Fin 16) (i : Nat) (d : Desc) (v : BitVec 64) (s : State), s.aonOn = true → s.CanPost q →
    s.headOp q 0x21 = some (i, d) → s.legalIn anyModes = true →
    (s.jrn.next < leAt d.bytes 8 8 →
      ∃ t, Does (.ackJournal (some q) v) s t ∧ Posts s t q d.cid 7 0 ∧ t.jrn.acked = s.jrn.acked) ∧
    (leAt d.bytes 8 8 ≤ s.jrn.next → ∃ t, Does (.ackJournal (some q) v) s t ∧ Posts s t q d.cid 0 0 ∧
      t.jrn.acked = max s.jrn.acked (leAt d.bytes 8 8))) ∧
  ∀ s : State, s.aonOn = true →
    (s.jrn.pool = [] → Does .journalSectorWrite s s) ∧
    (s.on .dsk = true → s.on .mem = true → s.diskReady = true → s.rch.cur = none → s.rch.plans = [] → s.srv.winh = 0 →
      s.rch.paFault = false → s.rch.paCur = none → s.rch.paDue = [] → s.rch.fhCal = none → s.rch.heatWrite = true →
      s.leadOver = true → s.jrn.pool ≠ [] → (∀ r ∈ s.jrn.pool, r.seq < s.jrn.acked + s.jrn.cap) →
      ∃ t, Does .journalSectorWrite s t ∧ t.jrn.pool = [] ∧ t.jrn.next = s.jrn.next ∧ t.jrn.acked = s.jrn.acked ∧
        (∀ r ∈ t.jrn.medium, r ∈ s.jrn.medium ∨ r ∈ s.jrn.pool) ∧
        ∀ r ∈ s.jrn.pool, (∀ y ∈ s.jrn.pool, y.seq < r.seq + s.jrn.cap) → r ∈ t.jrn.medium) ∧
    (s.srv.winh ≠ 0 ∨ s.rch.paFault = true ∨ s.rch.heatWrite = false ∨ s.rch.cur.isSome = true →
      Does .journalSectorWrite s s) ∧
    (s.served .service = true → s.sys.mode ≠ .service ∨ s.on .dsk = false ∨ s.jrn.acked ≠ s.jrn.next →
      Does .journalFormat s ((s.replied .stateConflict).checkpoints)) ∧
    (s.served .service = true → s.sys.mode = .service → s.sys.transit = false → s.on .dsk = true → s.jrn.acked = s.jrn.next →
      ∃ t, Does .journalFormat s t ∧ t.zop.reply = .none ∧ t.jrn.acked = 0 ∧ t.jrn.medium = [] ∧
        (t.jrn.next = 1 ∧ t.jrn.headSeal = sealOf (List.replicate 32 0)
            (u64le 0 ++ padTo 88 (genesisBody s.time.now s.time.stat.code)) ∨
          t.jrn.next = 0 ∧ t.jrn.pool = []))

/-- Datagrams. A port takes at most OD 1100:05 datagrams in a second, and discards and counts the rest (R866); a
malformed one is discarded and counted (R869). One with a session that is unknown or a MAC that is wrong is discarded,
counted and raises source 240 (R874). In a session the next SEQ is executed and answered, the last one is answered
again from the cache and not executed, and any other is discarded and counted (R876); the last SEQ of all ends the
session (R875). Without a session a request is answered without a MAC (R870). -/
def Obligations.DatagramsAreServed : Prop :=
  ∀ (p : Fin 2) (u : List Byte) (s : State) (x : Nat × Instr), s.aonOn = true → s.served .service = true →
    s.shaped = true →
    x ∈ [(1, Instr.zopRead p u), (2, .zopWrite p u), (3, .zopReadInit p u), (4, .zopReadSeg p u), (5, .zopWriteInit p u),
      (6, .zopWriteSeg p u), (7, .zopXferAbort p u), (8, .zopAtomic p u), (0x10, .zopOpen p u), (0x11, .zopClose p u),
      (0x12, .zopPing p u)] → zopOp u = x.1 →
    let port (t : State) : PortCounts := nth {} t.zop.ports p
    let sec := s.time.now.toNat / 1000000000
    let n := if (port s).second = sec then (port s).inSecond else 0
    let limit := leNat (s.odGet 0x110005 (leBytes 2 2000))
    let s1 := s.onPort p fun c => { c with received := inc32 c.received, second := sec, inSecond := n + 1 }
    let seq := leAt u 12 4
    (limit ≤ n → ∃ t, Does x.2 s (if n = limit then t.raise 243 else t) ∧
      t = s1.onPort p fun c => { c with rateDiscarded := inc32 c.rateDiscarded }) ∧
    (n < limit →
      (zopFormed u = false → Does x.2 s (s1.onPort p fun c => { c with discarded := inc32 c.discarded })) ∧
      (zopFormed u = true → zopAuth u = true →
        ((∀ y ∈ s.zop.sessions, y.id ≠ leAt u 8 4 ∨ u.drop (16 + leAt u 6 2) ≠ hmac256 y.key (u.take (16 + leAt u 6 2))) →
          Does x.2 s ((s1.onPort p fun c => { c with authFailed := inc32 c.authFailed }).raise 240)) ∧
        ∀ y : Session, (∀ z ∈ s.zop.sessions, z.id = y.id → z = y) → y ∈ s.zop.sessions → y.id = leAt u 8 4 →
          u.drop (16 + leAt u 6 2) = hmac256 y.key (u.take (16 + leAt u 6 2)) →
          let s2 := s1.onZop fun z => { z with sessions := z.sessions.map fun w =>
            if w.id = y.id then { w with seen := s.time.now } else w }
          (seq = y.lastSeq → y.cached ≠ [] → ∃ t, Does x.2 s t ∧ t = { s2 with zop := t.zop } ∧
            t.zop.sent = modAt s.zop.sent p (fun _ => y.cached) ∧
            t.zop.sessions = s2.zop.sessions ∧ t.zop.xfers = s.zop.xfers) ∧
          (seq ≠ y.lastSeq → seq ≠ y.lastSeq + 1 →
            Does x.2 s (s2.onPort p fun c => { c with seqDiscarded := inc32 c.seqDiscarded })) ∧
          (seq = y.lastSeq + 1 →
            let r := zServe (.session y.role) y.id (zopParse x.1 (zopPay u)) s2
            let bs := zopMessage true x.1 r.1.abort ((r.1.opened.map (·.1)).getD y.id) seq
              (some ((r.1.opened.map (·.2)).getD y.key)) r.1.pay
            (seq ≠ 0xFFFFFFFF → ∃ t, Does x.2 s t ∧ t = { r.2 with zop := t.zop } ∧ t.zop.xfers = r.2.zop.xfers ∧
              t.zop.offWrites = r.2.zop.offWrites ∧ t.zop.stored = r.2.zop.stored ∧
              t.zop.sent = modAt r.2.zop.sent p (fun _ => bs) ∧
              ∀ z ∈ t.zop.sessions, z.id = y.id → z.lastSeq = seq ∧ z.cached = bs) ∧
            (seq = 0xFFFFFFFF → ∃ t, Does x.2 s t ∧ ∀ z ∈ t.zop.sessions, z.id ≠ y.id))) ∧
      (zopFormed u = true → zopAuth u = false →
        let r := zServe .anonymous 0 (zopParse x.1 (zopPay u)) s1
        ∃ t, Does x.2 s t ∧ t = { r.2 with zop := t.zop } ∧ t.zop.xfers = r.2.zop.xfers ∧
          t.zop.sessions = r.2.zop.sessions ∧
          t.zop.sent = modAt r.2.zop.sent p (fun _ => zopMessage true x.1 r.1.abort ((r.1.opened.map (·.1)).getD 0) seq
            (r.1.opened.map (·.2)) r.1.pay)))

/-- The operations of ZOP, as a session or the mailbox asks for them. A read and a read transfer give the object's
value as it is at the request (R868, R879); segments follow each other, and the last one writes the whole value (R881,
R882); an atomic set is applied whole or not at all (R886); at most 4 transfers are open (R884); OPEN derives the
session's key from a key slot that is enabled (R872); CLOSE ends the session (R875); PING shows the time and the mode
(R868). Without a session nothing is written (R870). -/
def Obligations.ZopOperationsAct : Prop :=
  ∀ (via : Via) (id : Nat) (s : State),
    let done (t : State) : State := t.checkpoints
    (∀ key : Nat, objOf key = none → s.oemObj key = none → ∀ ty v total,
      (zServe via id (.read key) s).1.abort = .unknownObject ∧ (zServe via id (.read key) s).2 = done s ∧
      zServe via id (.write key ty v) s = ({ abort := .unknownObject }, done s) ∧
      zServe via id (.readInit key) s = ({ abort := .unknownObject }, done s) ∧
      zServe via id (.writeInit key total) s = ({ abort := .unknownObject }, done s)) ∧
    (∀ (key : Nat) (d : OemDecl), objOf key = none → s.oemObj key = some d → d.ty ≤ 9 ∨ d.size ≤ 1024 →
      (d.acc ≠ 2 → s.mayRead via key = .none →
        (let bs := [BitVec.ofNat 8 d.ty, 0] ++ leBytes 2 (s.oemValue d).length ++ s.oemValue d
         zServe via id (.read key) s = ({ abort := .none, pay := bs }, done s)) ∧
        (s.zop.xfers.length < 4 → (s.oemValue d).length ≤ 65536 → ∃ x : Xfer,
          (∀ y ∈ s.zop.xfers, y.id ≠ x.id) ∧ x.object = key ∧ x.write = false ∧ x.data = s.oemValue d ∧
          x.total = x.data.length ∧ x.session = id ∧
          (zServe via id (.readInit key) s).1.abort = .none ∧
          (zServe via id (.readInit key) s).2.zop.xfers = s.zop.xfers ++ [x]) ∧
        (4 ≤ s.zop.xfers.length → zServe via id (.readInit key) s = ({ abort := .busy }, done s))) ∧
      (∀ ty v, d.acc ≠ 0 → via = .anonymous → zServe via id (.write key ty v) s = ({ abort := .auth }, done s)) ∧
      (∀ v : List Byte, s.writeJudge via key d.ty v.length = .none → v.length ≤ d.size → v.length ≤ 1024 →
        (s.transferOn key = true → zServe via id (.write key d.ty v) s = ({ abort := .busy }, done s)) ∧
        (s.transferOn key = false → zServe via id (.write key d.ty v) s = ({ abort := .none }, done (s.odPut key d.dflt v))))) ∧
    (∀ n off count : Nat, via ≠ .anonymous →
      ((∀ x ∈ s.zop.xfers, x.id ≠ n ∨ x.write = true) →
        (zServe via id (.readSeg n off count) s).1.abort = if s.zop.abandoned.contains n then .timeout else .xfer) ∧
      ∀ x : Xfer, s.zop.xfers.find? (fun y => decide (y.id = n) && (y.write == false)) = some x →
        (x.total < off + count ∨ 1024 < count → zServe via id (.readSeg n off count) s = ({ abort := .length }, done s)) ∧
        (off + count ≤ x.total → count ≤ 1024 →
          zServe via id (.readSeg n off count) s = ({ abort := .none, pay := u32le off ++ slice x.data off count }, done s))) ∧
    (∀ (n off : Nat) (v : List Byte) (x : Xfer), via ≠ .anonymous → v.length ≤ 1024 →
      s.zop.xfers.find? (fun y => decide (y.id = n) && (y.write == true)) = some x →
      (off ≠ x.data.length → zServe via id (.writeSeg n off v) s = ({ abort := .xfer }, done s)) ∧
      (off = x.data.length → off + v.length < x.total →
        zServe via id (.writeSeg n off v) s = ({ abort := .none, pay := u32le (off + v.length) },
          done (s.onZop fun z =>
            { z with xfers := z.xfers.map fun y => if y.id = n then { y with data := y.data ++ v } else y }))) ∧
      (off = x.data.length → off + v.length = x.total →
        let t := s.closeXfer x
        let w := odWrite via x.object (s.typeOf x.object).1 (x.data ++ v) t
        (w.1 ≠ .none → zServe via id (.writeSeg n off v) s = ({ abort := w.1 }, done t)) ∧
        (w.1 = .none → zServe via id (.writeSeg n off v) s = ({ abort := .none, pay := u32le x.total }, done w.2)))) ∧
    (∀ (n : Nat) (x : Xfer), via ≠ .anonymous → s.zop.xfers.find? (fun y => decide (y.id = n)) = some x →
      (zServe via id (.xferAbort n) s).1.abort = .none ∧
      ∀ y ∈ (zServe via id (.xferAbort n) s).2.zop.xfers, y.id ≠ n ∧ y ∈ s.zop.xfers) ∧
    (∀ l : List Item, (zServe via id (.atomic l) s).1.abort ≠ .none → via ≠ .anonymous →
      l.dropLast.any (fun x => isCommand x.key) = false → (zServe via id (.atomic l) s).2 = done s) ∧
    (∀ a b : Item, via ≠ .anonymous → isCommand a.key = false →
      let ra := writeShort via a.key a.ty a.val s
      let rb := writeShort via b.key b.ty b.val ra.2
      (ra.1 = .none → rb.1 = .none →
        zServe via id (.atomic [a, b]) s = ({ abort := .none, pay := [0xFF, 0, 0, 0] }, done rb.2)) ∧
      (ra.1 ≠ .none → zServe via id (.atomic [a, b]) s = ({ abort := ra.1, pay := [0, 0, 0, 0] }, done s)) ∧
      (ra.1 = .none → rb.1 ≠ .none → zServe via id (.atomic [a, b]) s = ({ abort := rb.1, pay := [1, 0, 0, 0] }, done s))) ∧
    (∀ (slot : Nat) (nonce : List Byte),
      ((nth none s.die.keys slot = none ∨ ∃ k, nth none s.die.keys slot = some k ∧ k.role = 0) →
        zServe via id (.opens slot nonce) s = ({ abort := .access }, done (s.raise 241))) ∧
      ∀ k, nth none s.die.keys slot = some k → k.role ≠ 0 →
        (8 ≤ s.zop.sessions.length → zServe via id (.opens slot nonce) s = ({ abort := .busy }, done (s.raise 241))) ∧
        (s.zop.sessions.length < 8 → ∃ (y : Session) (mine : List Byte), mine.length = 16 ∧ y.id ≠ 0 ∧
          (∀ z ∈ s.zop.sessions, z.id ≠ y.id) ∧ y.slot = slot ∧ y.role = k.role ∧ y.lastSeq = 0 ∧
          y.key = hmac256 k.key ([0x5A, 0x4F, 0x50, 0x31] ++ nonce ++ mine ++ u32le y.id) ∧
          (zServe via id (.opens slot nonce) s).1 =
            { abort := .none, pay := u32le y.id ++ mine, opened := some (y.id, y.key) } ∧
          (zServe via id (.opens slot nonce) s).2.zop.sessions = s.zop.sessions ++ [y])) ∧
    (via ≠ .anonymous → (zServe via id .close s).1.abort = .none ∧
      ∀ y, y ∈ (zServe via id .close s).2.zop.sessions ↔ y ∈ s.zop.sessions ∧ y.id ≠ id) ∧
    (let bs := u64le s.time.now.toNat ++ [BitVec.ofNat 8 s.time.stat.code, BitVec.ofNat 8 s.sys.mode.code, 0, 0]
     zServe via id .ping s = ({ abort := .none, pay := bs }, done s)) ∧
    zServe via id .bad s = ({ abort := .protocol }, done s)

/-- Sessions and transfers end by time (R875, R883); a link's change raises source 244 and ends no session (R900); a
write of a key slot needs an administrator, ends the slot's sessions and raises source 247 (R871, R899). A store
writes the bank not in use, and is in force in one step when it is complete (R856, R858, R859); a void marks both
banks void and leaves the values in force (R857). -/
def Obligations.SessionsKeysAndStores : Prop :=
  ∀ s : State, s.aonOn = true → s.on .mgt = true →
    (∀ id : BitVec 32, ∃ t, Does (.sessionIdleTimeout id) s t ∧
      (∀ y, y ∈ t.zop.sessions ↔ y ∈ s.zop.sessions ∧ y.id ≠ id.toNat) ∧
      ∀ x, x ∈ t.zop.xfers ↔ x ∈ s.zop.xfers ∧
        ∀ y ∈ s.zop.sessions, y.id = id.toNat → x.session ≠ id.toNat) ∧
    (∀ id : BitVec 16, ((∀ x ∈ s.zop.xfers, x.id ≠ id.toNat) → Does (.xferTimeout id) s s) ∧
      ((∃ x ∈ s.zop.xfers, x.id = id.toNat) → ∃ u : State, Does (.xferTimeout id) s (u.raise 242) ∧
        (∀ x, x ∈ u.zop.xfers ↔ x ∈ s.zop.xfers ∧ x.id ≠ id.toNat) ∧ id.toNat ∈ u.zop.abandoned ∧
        u.zop.offWrites = s.zop.offWrites)) ∧
    (∀ (p : Fin 2) (up : Bool), s.shaped = true →
      (nth false s.hq.eth p = up → Does (.linkChange p up) s s) ∧
      (nth false s.hq.eth p ≠ up → ∃ u : State, Does (.linkChange p up) s (u.raise 244) ∧ nth false u.hq.eth p = up ∧
        u.zop = s.zop)) ∧
    (s.served .service = true → s.mayWrite .mgmt = true →
      (∀ (n : Fin 4) (bs : List Byte), s.shaped = true → s.zop.xfers.all (fun x => !x.write) = true →
        Does (.keyWrite false n bs) s ((s.replied .access).checkpoints) ∧
        (bs.length = 33 → 2 < leAt bs 32 1 → Does (.keyWrite true n bs) s ((s.replied .range).checkpoints)) ∧
        (bs.length = 33 → leAt bs 32 1 ≤ 2 →
          ∃ u : State, Does (.keyWrite true n bs) s (((u.raise 247).replied .none).checkpoints) ∧
          (∃ k, nth none u.die.keys n = some k ∧ k.key = bs.take 32 ∧ k.role = leAt bs 32 1) ∧
          ∀ y, y ∈ u.zop.sessions ↔ y ∈ s.zop.sessions ∧ y.slot ≠ n.val)) ∧
      (s.zop.xfers.all (fun x => !x.write) = true →
        (s.die.cfgWriting.isSome = true → Does .store s ((s.replied .busy).checkpoints) ∧
          Does .storeVoid s ((s.replied .busy).checkpoints)) ∧
        (s.die.cfgWriting = none →
          (if 524288 < bankBytesOf s.storeItems then ∃ t, Does .store s t ∧ t.zop.reply = .length ∧ t.zop.storeStatus = 3 ∧
            t.zop.storeNeed = bankBytesOf s.storeItems ∧ t.die = s.die
          else ∃ t b, Does .store s t ∧ t.zop.reply = .none ∧ t.zop.storeStatus = 1 ∧
            t.die.cfgWriting = some b ∧ b.items = s.storeItems ∧ t.die.cfg0 = s.die.cfg0 ∧ t.die.cfg1 = s.die.cfg1) ∧
          ∃ t, Does .storeVoid s t ∧ t.zop.reply = .none ∧ t.die.cfg0.complete = false ∧ t.die.cfg1.complete = false ∧
            t.zop.storeStatus = 4 ∧ t.zop.stored = s.zop.stored ∧ t.zop.offWrites = s.zop.offWrites))) ∧
    (s.die.cfgWriting = none → Does .storeComplete s s) ∧
    ∀ b, s.die.cfgWriting = some b → ∃ t, Does .storeComplete s t ∧ t.die.cfgWriting = none ∧ t.zop.storeStatus = 2 ∧
      t.zop.stored = b.items ∧
      (s.die.inUse = some 0 → t.die.cfg1 = b ∧ t.die.cfg0 = s.die.cfg0) ∧
      (s.die.inUse = some 1 ∨ s.die.inUse = none → t.die.cfg0 = b ∧ t.die.cfg1 = s.die.cfg1)

/-- The mailbox and SMBus. GO with a length above 1,384, or other than 16 + LEN of the header, gives STATUS 3, and GO
with no pair in service STATUS 4 (R891); otherwise the request waits, and it is answered with an administrator's
rights, with source 246 where IEN is 1 (R889, R890). SMBus returns a read with its type and its value, with LENGTH
beyond 32 bytes (R894); an OD_WRITE with a wrong PEC is not executed, RESULT reports PROTOCOL and source 245 is raised
(R895); what is not in the subset gives ACCESS (R896); a transaction that is not answered in time gives BUSY (R897).
-/
def Obligations.MailboxAndSmbusAreServed : Prop :=
  ∀ s : State, s.aonOn = true → s.on .mgt = true →
    (∀ ien : Bool,
      let n := s.zop.mbxReqLen
      (s.zop.mbxStatus = 1 → Does (.mailboxGo ien) s (s.onZop fun z => { z with mbxIen := ien })) ∧
      (s.zop.mbxStatus ≠ 1 →
        (1384 < n ∨ n ≠ 16 + leAt s.mbxRequest 6 2 →
          Does (.mailboxGo ien) s (s.onZop fun z => { z with mbxIen := ien, mbxStatus := 3 })) ∧
        (n ≤ 1384 → n = 16 + leAt s.mbxRequest 6 2 →
          (s.sys.pairA ≠ .active → s.sys.pairB ≠ .active →
            Does (.mailboxGo ien) s (s.onZop fun z => { z with mbxIen := ien, mbxStatus := 4 })) ∧
          (s.sys.pairA = .active ∨ s.sys.pairB = .active →
            Does (.mailboxGo ien) s (s.onZop fun z => { z with mbxIen := ien, mbxStatus := 1 }))))) ∧
    (s.zop.mbxStatus ≠ 1 → Does .mailboxResponse s s) ∧
    (s.zop.mbxStatus = 1 → s.anyPair = true → zopFormed s.mbxRequest = true → zopAuth s.mbxRequest = false →
      let op := zopOp s.mbxRequest
      let r := zServe .mailbox 0 (zopParse op (zopPay s.mbxRequest)) s
      ∃ t, Does .mailboxResponse s (if r.2.zop.mbxIen then t.raise 246 else t) ∧ t = { r.2 with zop := t.zop } ∧
        t.zop.xfers = r.2.zop.xfers ∧ t.zop.mbxStatus = 2 ∧ t.zop.mbxRspLen = t.zop.mbxRsp.length ∧
        t.zop.mbxRsp = zopMessage true op r.1.abort ((r.1.opened.map (·.1)).getD 0) (leAt s.mbxRequest 12 4)
          (r.1.opened.map (·.2)) r.1.pay) ∧
    (s.served .service = true →
      (∀ (i : BitVec 16) (j : BitVec 8),
        let r := odRead .smbus (keyOf i j) s
        (r.1 = .none → ∃ t, Does (.odRead i j) s t ∧ if 32 < r.2.2.1.length then t.zop.smbSent.dropLast = [5]
          else t = { r.2.2.2.checkpoints with zop := t.zop } ∧ t.zop.smbSent.dropLast = [0, BitVec.ofNat 8 r.2.1] ++ r.2.2.1) ∧
        (r.1 ≠ .none → ∃ t, Does (.odRead i j) s t ∧ t.zop.smbSent.dropLast = [BitVec.ofNat 8 r.1.code]) ∧
        ((objOf (keyOf i j)).isSome = true → (∀ o, objOf (keyOf i j) = some o → o.row.acc ≠ .wo) →
          keyOf i j ∉ smbReads → ∃ t, Does (.odRead i j) s t ∧ t.zop.smbSent.dropLast = [2])) ∧
      (∀ (i : BitVec 16) (j ty : BitVec 8) (bs : List Byte) (m : Option Byte),
        let good := pec (s.writeHead (keyOf i j) ty.toNat bs)
        (m ≠ some good → ∃ u : State, Does (.odWrite i j ty bs m) s ((u.raise 245).checkpoints) ∧
          u = { s with zop := u.zop } ∧ u.zop.smbResult = .protocol ∧ u.zop.smbObject = keyOf i j ∧
          u.zop.smbPec = (s.zop.smbPec + 1) % 2 ^ 32) ∧
        (m = some good → bs.length ≤ 32 →
          let r := odWrite .smbus (keyOf i j) ty.toNat bs s
          ∃ t, Does (.odWrite i j ty bs m) s t ∧ t = { r.2.checkpoints with zop := t.zop } ∧ t.zop.smbResult = r.1 ∧
            t.zop.smbObject = keyOf i j ∧ t.zop.offWrites = r.2.zop.offWrites) ∧
        (keyOf i j ∉ smbWrites ∨ s.odGet 0x111002 [1] ≠ [1] → ∀ ty n, s.writeJudge .smbus (keyOf i j) ty n ≠ .none)) ∧
      (∃ t, Does .smbusPing s t ∧ t.zop.smbSent.dropLast = [BitVec.ofNat 8 s.sys.mode.code] ++ u64le s.time.now.toNat) ∧
      (∃ t, Does .result s t ∧
        t.zop.smbSent.dropLast = [BitVec.ofNat 8 s.zop.smbResult.code] ++ leBytes 2 (s.zop.smbObject / 256) ++
          [BitVec.ofNat 8 s.zop.smbObject])) ∧
    ∀ (i : BitVec 16) (j : BitVec 8),
      (∃ t, Does (.smbusStretchTimeout false i j) s t ∧ t.zop.smbSent.dropLast = [7] ∧
        t.zop.smbBusy = (s.zop.smbBusy + 1) % 2 ^ 32) ∧
      ∃ t, Does (.smbusStretchTimeout true i j) s t ∧ t = { s with zop := t.zop } ∧ t.zop.smbResult = .busy ∧
        t.zop.smbObject = keyOf i j ∧ t.zop.smbBusy = (s.zop.smbBusy + 1) % 2 ^ 32

/-! ## Frames -/

/-- What a command's own effect leaves unchanged. Beside the parts that `only` names, nothing changes: no register,
no dictionary value, no buffer, no byte of DRAM and no other block. A command that may raise a source reaches SYS,
EVT and the host's entries by that (`rep`). What the controller then does by itself is not part of a command's own
effect. -/
def Obligations.CommandsLeaveTheRestAlone : Prop :=
  let rep (s t : State) : State := { s with sys := t.sys, evt := t.evt, hq := t.hq }
  (let only : State → State → State := rep
   (∀ b : Bool, Within (.pairRejoin b) only) ∧ (∀ (p : Fin 2) (up : Bool), Within (.linkChange p up) only) ∧
   (∀ d3 : Bool, Within (.d3hotChange d3) only) ∧ (∀ v : Word, Within (.b2BaseWrite v) only) ∧
   (∀ (q : Fin 16) (v : BitVec 12), Within (.sqDoorbell q v) only ∧ Within (.cqDoorbell q v) only) ∧
   (∀ (e : Fin 4) (v : BitVec 12), Within (.evqDoorbell e v) only) ∧
   (∀ (bytes : Option (List Byte)), Within (.descriptorFetch bytes) only) ∧
   (∀ (q : Fin 16) (segs : Option (List Nat)) (moved : Option Nat), Within (.readJournal q segs moved) only) ∧
   (∀ (k : Fin 24) (v : Word), Within (.eventStatusClear k v) only) ∧
   (∀ (up : Bool) (speed width : Nat), Within (.pcieLink up speed width) only) ∧ Within .recordDieFault only) ∧
  (let only : State → State → State := fun s t => { rep s t with culm := t.culm }
   (∀ (k : Fin 24), Within (.axisFracRead k) only) ∧
   (∀ (axis : BitVec 5) (atTurn : Bool), Within (.swapArm axis atTurn) only) ∧ Within .swapCancel only ∧
   (∀ (bank : Fin 2) (index : BitVec 12) (w0 w1 w2 w3 : Word), Within (.entryWrite bank index w0 w1 w2 w3) only) ∧
   (∀ (bank : Fin 2) (index : BitVec 12), Within (.entryRead bank index) only) ∧
   (∀ hold : Bool, Within (.snapReq hold) only)) ∧
  (let only : State → State → State := fun s t => { rep s t with die := t.die }
   (∀ good : Bool, Within (.glumeEntryCommit good) only) ∧ (∀ works : Bool, Within (.glumeLinkRetry works) only)) ∧
  (let only : State → State → State := fun s t => { rep s t with drv := t.drv }
   Within .printLingerExpiry only ∧ Within .safeSettled only ∧ Within .chopFaultClear only ∧
   Within .hardCutClear only ∧
   (∀ (u : Fin 24), Within (.unitStart u) only ∧ Within (.unitStop u) only ∧ Within (.unitCoast u) only ∧
   Within (.unitFaultClear u) only ∧ Within (.advanceTableApply u) only ∧ Within (.catchTimeout u) only) ∧
   (∀ (u : Fin 24) (tick : Nat), Within (.zeroCrossing u tick) only)) ∧
  (let only : State → State → State := fun s t => { rep s t with fus := t.fus }
   Within .fusTableArm only ∧ Within .fusTableCancel only) ∧
  (let only : State → State → State := fun s t => { rep s t with hv := t.hv }
   Within .hvTableArm only ∧ Within .hvTableCancel only) ∧
  (let only : State → State → State := fun s t => { rep s t with latched := t.latched }
   (∀ (off : BitVec 26), Within (.latchedLoRead off) only)) ∧
  (let only : State → State → State := fun s t => { rep s t with ls := t.ls }
   (∀ (n whn : Fin 4), Within (.tableGo n whn) only) ∧ (∀ (n : Fin 4), Within (.tableCancel n) only)) ∧
  (let only : State → State → State := fun s t => { rep s t with mot := t.mot }
   (∀ (k : Fin 12), Within (.stop k) only ∧ Within (.quickStop k) only ∧ Within (.setPos k) only ∧
   Within (.axisFaultClear k) only)) ∧
  (let only : State → State → State := fun s t => { rep s t with pgf := t.pgf }
   (∀ (k : Fin 1024), Within (.tokenAccept k) only) ∧ Within .pgfSnapshot only) ∧
  (let only : State → State → State := fun s t => { rep s t with pwr := t.pwr }
   (∀ (k : Fin 16), Within (.railPgDrop k) only ∧ Within (.railPgTimeout k) only ∧
   Within (.railFallTimeout k) only ∧ Within (.railLost k) only) ∧
   (∀ (k : Fin 16) (ok : Bool), Within (.pmbusTransactionDone k ok) only) ∧
   (∀ (addr : BitVec 7) (word : BitVec 16), Within (.pmbusAlert addr word) only)) ∧
  (let only : State → State → State := fun s t => { rep s t with rch := t.rch }
   (∀ (read : Bool) (addr : BitVec 7) (data : BitVec 8), Within (.preampManualFrame read addr data) only)) ∧
  (let only : State → State → State := fun s t => { rep s t with regs := t.regs }
   (∀ (ev : Bool) (i : Fin 16) (cfg : Word), Within (.queueEnable ev i cfg) only ∧
   Within (.queueDisable ev i cfg) only)) ∧
  (let only : State → State → State := fun s t => { rep s t with shf := t.shf }
   (∀ f : Nat, Within (.transitArrive f) only) ∧ Within .shfSnapshot only ∧
   (∀ f o : Nat, Within (.dramUncorrectable f o) only) ∧
   (∀ (pool : Fin 8), Within (.shfCredit pool) only ∧ Within (.shfReturn pool) only ∧
   Within (.shfAllocate pool) only) ∧ (∀ (p : Fin 8) (v : Word), Within (.poolBudgetWrite p v) only)) ∧
  (let only : State → State → State := fun s t => { rep s t with teff := t.teff }
   (∀ (ok : Bool) (slots : List (Fin 256)), Within (.sampleLinkPacket ok slots) only) ∧
   (∀ (n : Fin 256) (y : Int), Within (.slotTimer n y) only) ∧ Within .relocationDone only ∧
   Within .coefApplyCancel only ∧ Within .coefApplied only ∧ (∀ (w : Fin 4), Within (.coefApplyArm w) only) ∧
   (∀ (l : Fin 4), Within (.laneEvacuate l) only ∧ Within (.laneReturn l) only ∧ Within (.laneSelfTest l) only) ∧
   (∀ (n : Fin 256) (l : Fin 4), Within (.slotMove n l) only)) ∧
  (let only : State → State → State := fun s t => { rep s t with thm := t.thm }
   (∀ (i : Fin 12), Within (.thermalShutdown i) only)) ∧
  (let only : State → State → State := fun s t => { rep s t with time := t.time }
   Within .syncTimeout only ∧ Within .holdoverLimit only) ∧
  (let only : State → State → State := fun s t => { rep s t with zop := t.zop }
   (∀ ien : Bool, Within (.mailboxGo ien) only) ∧
   (∀ (od : Bool) (n : Fin 256) (v : Word), Within (.eventForce od n v) only) ∧
   (∀ bs : List Byte, Within (.note bs) only)) ∧
  (let only : State → State → State := fun s t => { rep s t with boot := t.boot, die := t.die }
   Within .handoverDone only ∧ (∀ b : Bool, Within (.pairReloadDone b) only)) ∧
  (let only : State → State → State := fun s t => { rep s t with culm := t.culm, ls := t.ls }
   (∀ (k : Fin 24), Within (.indexMiss k) only)) ∧
  (let only : State → State → State := fun s t => { rep s t with regs := t.regs, culm := t.culm }
   (∀ (k : Fin 24) (v : Word), Within (.gainCommit k v) only)) ∧
  (let only : State → State → State := fun s t => { rep s t with fus := t.fus, cut := t.cut }
   Within .cutClear only) ∧
  (let only : State → State → State := fun s t => { rep s t with time := t.time, die := t.die }
   (∀ (offset : Int) (rate : Word), Within (.ptpSync offset rate) only) ∧ (∀ hi : Word, Within (.timeStep hi) only)) ∧
  (let only : State → State → State := fun s t => { rep s t with die := t.die, zop := t.zop }
   (∀ admin : Bool, Within (.clearProtected admin) only)) ∧
  (let only : State → State → State := fun s t => { rep s t with zop := t.zop, dram := t.dram }
   (∀ (off : BitVec 32) (n : Nat) (wr : Option (List (Option Byte))), Within (.bar2Access off n wr) only)) ∧
  (let only : State → State → State := fun s t => { rep s t with free := t.free, drv := t.drv }
   (∀ (u : Fin 24), Within (.commutation u) only)) ∧
  (let only : State → State → State := fun s t => { rep s t with mot := t.mot, drv := t.drv }
   Within .safeRunoutLimit only) ∧
  (let only : State → State → State := fun s t => { rep s t with ls := t.ls, husk := t.husk }
   (∀ (n : Fin 4), Within (.bandDecode n) only)) ∧
  (let only : State → State → State := fun s t => { rep s t with teff := t.teff, hv := t.hv }
   (∀ (k : Fin 16), Within (.hvTripClear k) only)) ∧
  (let only : State → State → State := fun s t => { rep s t with jrn := t.jrn, zop := t.zop }
   (∀ (q : Option (Fin 16)) (v : BitVec 64), Within (.ackJournal q v) only)) ∧
  (let only : State → State → State := fun s t => { rep s t with latched := t.latched, pgf := t.pgf }
   (∀ (k : Fin 1024), Within (.tokenRecordRead k) only)) ∧
  (let only : State → State → State := fun s t => { rep s t with ls := t.ls, teff := t.teff }
   (∀ (n : Fin 4) (codes : List (BitVec 12)), Within (.apcSample n codes) only)) ∧
  (let only : State → State → State := fun s t => { rep s t with zop := t.zop, mot := t.mot }
   (∀ byRead : Bool, Within (.motSnapshot byRead) only) ∧ Within .microstepTableApply only) ∧
  (let only : State → State → State := fun s t => { rep s t with regs := t.regs, mov := t.mov }
   (∀ (k : Fin 16) (ctrl : Word), Within (.movStart k ctrl) only)) ∧
  (let only : State → State → State := fun s t => { rep s t with shf := t.shf, rch := t.rch }
   (∀ (q : Fin 16) (segs : Option (List Nat)), Within (.read q segs) only ∧ Within (.write q segs) only)) ∧
  (let only : State → State → State := fun s t => { rep s t with spn := t.spn, ret := t.ret }
   Within .retractFlagClear only) ∧
  (let only : State → State → State := fun s t => { rep s t with spn := t.spn, teff := t.teff }
   (∀ (n : Fin 256) (y : Int) (stale late : Bool), Within (.slotTrigger n y stale late) only)) ∧
  (let only : State → State → State := fun s t => { rep s t with shf := t.shf, rch := t.rch, dram := t.dram }
   (∀ (f : Nat) (ok : Bool), Within (.pageoutWriteComplete f ok) only)) ∧
  (let only : State → State → State := fun s t => { rep s t with zop := t.zop, shf := t.shf, dram := t.dram }
   (∀ (pool : Fin 8), Within (.shfFree pool) only ∧ Within (.shfRetire pool) only) ∧
   (∀ (id : BitVec 32), Within (.sessionIdleTimeout id) only) ∧ (∀ (id : BitVec 16), Within (.xferTimeout id) only)) ∧
  (let only : State → State → State := fun s t => { rep s t with free := t.free, shf := t.shf, mov := t.mov }
   Within .movChannelRun only) ∧
  (let only : State → State → State := fun s t => { rep s t with jrn := t.jrn, shf := t.shf, rch := t.rch, dram := t.dram }
   Within .journalSectorWrite only) ∧
  (let only : State → State → State := fun s t => { rep s t with jrn := t.jrn, die := t.die, zop := t.zop, pgf := t.pgf, shf := t.shf }
   Within .allocComplete only) ∧
  (let only : State → State → State := fun s t =>
       { rep s t with ls := t.ls, pgf := t.pgf, shf := t.shf, rch := t.rch, srv := t.srv, dram := t.dram }
   (∀ (n : Fin 4), Within (.lineEnd n) only)) ∧
  (let only : State → State → State := fun s t =>
       { rep s t with
         jrn := t.jrn, die := t.die, ls := t.ls, pgf := t.pgf, husk := t.husk
         shf := t.shf, rch := t.rch, srv := t.srv, mot := t.mot, dram := t.dram }
   Within .clearJam only) ∧
  (let only : State → State → State := fun s t => { s with cal := t.cal }
   (∀ (id : Fin 10), Within (.calPendTimeout id) only)) ∧
  (let only : State → State → State := fun s t => { s with drv := t.drv }
   Within .gateSupplyRestored only) ∧
  (let only : State → State → State := fun s t => { s with evt := t.evt }
   Within .errNMinwExpiry only) ∧
  (let only : State → State → State := fun s t => { s with fus := t.fus }
   (∀ (k : Fin 4), Within (.triggerPulseEnd k) only)) ∧
  (let only : State → State → State := fun s t => { s with ls := t.ls }
   (∀ (n : Fin 4) (fits : Nat), Within (.apcSequenceStart n fits) only) ∧
   (∀ (n : Fin 4) (opens : Bool), Within (.bdWindow n opens) only) ∧ (∀ (n : Fin 4), Within (.pllLock n) only)) ∧
  (let only : State → State → State := fun s t => { s with mot := t.mot }
   (∀ (k : Fin 12), Within (.holdDelayExpiry k) only)) ∧
  (let only : State → State → State := fun s t => { s with pgf := t.pgf }
   (∀ (k : Fin 1024) (front back : List (Option (Nat × Nat))), Within (.pickRequest k front back) only)) ∧
  (let only : State → State → State := fun s t => { s with pwr := t.pwr }
   Within .railEnable only ∧ (∀ (k : Fin 16), Within (.railQualified k) only ∧ Within (.railFallen k) only) ∧
   (∀ (k : Fin 4), Within (.rstoStretchExpiry k) only)) ∧
  (let only : State → State → State := fun s t => { s with sys := t.sys }
   Within .engineFirmwareCycle only) ∧
  (let only : State → State → State := fun s t => { s with teff := t.teff }
   (∀ (l : Fin 4) (pass : Bool), Within (.laneSelfTestDone l pass) only)) ∧
  (let only : State → State → State := fun s t => { s with time := t.time }
   Within .ptpPortFailover only ∧
   (∀ (domain priority1 clockClass accuracy : BitVec 8) (variance : BitVec 16) (priority2 : BitVec 8) (identity :
     BitVec 64), Within (.ptpAnnounce domain priority1 clockClass accuracy variance priority2 identity) only)) ∧
  (let only : State → State → State := fun s t => { s with zop := t.zop }
   (∀ (write : Bool) (index : BitVec 16) (sub : BitVec 8), Within (.smbusStretchTimeout write index sub) only)) ∧
  (let only : State → State → State := fun s t => { s with boot := t.boot, die := t.die }
   Within .trialTimeout only) ∧
  (let only : State → State → State := fun s t => { s with time := t.time, die := t.die }
   Within .deviceTimeTick only) ∧
  (let only : State → State → State := fun s t => { s with die := t.die, zop := t.zop }
   Within .storeComplete only) ∧
  (let only : State → State → State := fun s t => { s with sys := t.sys, ls := t.ls }
   (∀ (line : Fin 5), Within (.interlockReassert line) only)) ∧
  (let only : State → State → State := fun s t => { s with regs := t.regs, pwr := t.pwr }
   (∀ (d : Fin 8) (st : Fin 4), Within (.domainRequest d st) only)) ∧
  (let only : State → State → State := fun s t => { s with sys := t.sys, zop := t.zop }
   (∀ od : Bool, Within (.safeAck od) only) ∧ Within .smbusPing only ∧ Within .result only) ∧
  (let only : State → State → State := fun s t => { s with sys := t.sys, boot := t.boot, zop := t.zop }
   (∀ (v : BitVec 8), Within (.handback v) only)) ∧
  (let only : State → State → State := fun s t => { s with sys := t.sys, zop := t.zop, cal := t.cal }
   (∀ (id : Fin 10), Within (.trimFaultClear id) only)) ∧
  (let only : State → State → State := fun s t => { s with sys := t.sys, culm := t.culm, zop := t.zop }
   (∀ (bank : Fin 2) (bs : List Byte), Within (.bankWrite bank bs) only) ∧ Within .snapshotRead only) ∧
  (let only : State → State → State := fun s t => { s with sys := t.sys, die := t.die, zop := t.zop }
   Within .glistClear only) ∧
  (let only : State → State → State := fun s t => { s with sys := t.sys, zop := t.zop, ls := t.ls }
   (∀ (n : Fin 4) (i : Fin 8) (bs : List Byte), Within (.screenWrite n i bs) only) ∧
   (∀ (n : Fin 4), Within (.screenArm n) only ∧ Within (.screenCancel n) only)) ∧
  (let only : State → State → State := fun s t => { s with sys := t.sys, zop := t.zop, pgf := t.pgf }
   Within .tokenCountsRead only) ∧
  (let only : State → State → State := fun s t => { s with sys := t.sys, zop := t.zop, shf := t.shf }
   Within .booksRead only) ∧
  (let only : State → State → State := fun s t => { s with sys := t.sys, thm := t.thm, zop := t.zop }
   Within .hkLinApply only) ∧
  (let only : State → State → State := fun s t => { s with ls := t.ls, rch := t.rch, srv := t.srv, teff := t.teff, cal := t.cal }
   (∀ (id : Fin 10), Within (.calInterval id) only ∧ Within (.calPendingStart id) only))
end

