-- ==== Sys2Proof/Laws/State.lean ====
section
/-! SUPPORT. Laws/State.lean: what each update of the state leaves alone, one lemma for each field. -/
namespace Sys2Proof.Machine

@[simp] theorem State.onBoot_pending (f : Boot → Boot) (s : State) : (s.onBoot f).pending = s.pending := rfl
@[simp] theorem State.onBoot_aonOn (f : Boot → Boot) (s : State) : (s.onBoot f).aonOn = s.aonOn := rfl
@[simp] theorem State.onBoot_free (f : Boot → Boot) (s : State) : (s.onBoot f).free = s.free := rfl
@[simp] theorem State.onBoot_regs (f : Boot → Boot) (s : State) : (s.onBoot f).regs = s.regs := rfl
@[simp] theorem State.onBoot_latched (f : Boot → Boot) (s : State) : (s.onBoot f).latched = s.latched := rfl
@[simp] theorem State.onBoot_od (f : Boot → Boot) (s : State) : (s.onBoot f).od = s.od := rfl
@[simp] theorem State.onBoot_sys (f : Boot → Boot) (s : State) : (s.onBoot f).sys = s.sys := rfl
@[simp] theorem State.onBoot_evt (f : Boot → Boot) (s : State) : (s.onBoot f).evt = s.evt := rfl
@[simp] theorem State.onBoot_pwr (f : Boot → Boot) (s : State) : (s.onBoot f).pwr = s.pwr := rfl
@[simp] theorem State.onBoot_tap (f : Boot → Boot) (s : State) : (s.onBoot f).tap = s.tap := rfl
@[simp] theorem State.onBoot_thm (f : Boot → Boot) (s : State) : (s.onBoot f).thm = s.thm := rfl
@[simp] theorem State.onBoot_boot (f : Boot → Boot) (s : State) : (s.onBoot f).boot = f s.boot := rfl
@[simp] theorem State.onBoot_hq (f : Boot → Boot) (s : State) : (s.onBoot f).hq = s.hq := rfl
@[simp] theorem State.onBoot_jrn (f : Boot → Boot) (s : State) : (s.onBoot f).jrn = s.jrn := rfl
@[simp] theorem State.onBoot_culm (f : Boot → Boot) (s : State) : (s.onBoot f).culm = s.culm := rfl
@[simp] theorem State.onBoot_time (f : Boot → Boot) (s : State) : (s.onBoot f).time = s.time := rfl
@[simp] theorem State.onBoot_die (f : Boot → Boot) (s : State) : (s.onBoot f).die = s.die := rfl
@[simp] theorem State.onBoot_zop (f : Boot → Boot) (s : State) : (s.onBoot f).zop = s.zop := rfl
@[simp] theorem State.onBoot_ls (f : Boot → Boot) (s : State) : (s.onBoot f).ls = s.ls := rfl
@[simp] theorem State.onBoot_pgf (f : Boot → Boot) (s : State) : (s.onBoot f).pgf = s.pgf := rfl
@[simp] theorem State.onBoot_husk (f : Boot → Boot) (s : State) : (s.onBoot f).husk = s.husk := rfl
@[simp] theorem State.onBoot_shf (f : Boot → Boot) (s : State) : (s.onBoot f).shf = s.shf := rfl
@[simp] theorem State.onBoot_mov (f : Boot → Boot) (s : State) : (s.onBoot f).mov = s.mov := rfl
@[simp] theorem State.onBoot_rch (f : Boot → Boot) (s : State) : (s.onBoot f).rch = s.rch := rfl
@[simp] theorem State.onBoot_srv (f : Boot → Boot) (s : State) : (s.onBoot f).srv = s.srv := rfl
@[simp] theorem State.onBoot_spn (f : Boot → Boot) (s : State) : (s.onBoot f).spn = s.spn := rfl
@[simp] theorem State.onBoot_ret (f : Boot → Boot) (s : State) : (s.onBoot f).ret = s.ret := rfl
@[simp] theorem State.onBoot_mot (f : Boot → Boot) (s : State) : (s.onBoot f).mot = s.mot := rfl
@[simp] theorem State.onBoot_drv (f : Boot → Boot) (s : State) : (s.onBoot f).drv = s.drv := rfl
@[simp] theorem State.onBoot_teff (f : Boot → Boot) (s : State) : (s.onBoot f).teff = s.teff := rfl
@[simp] theorem State.onBoot_hv (f : Boot → Boot) (s : State) : (s.onBoot f).hv = s.hv := rfl
@[simp] theorem State.onBoot_fus (f : Boot → Boot) (s : State) : (s.onBoot f).fus = s.fus := rfl
@[simp] theorem State.onBoot_cut (f : Boot → Boot) (s : State) : (s.onBoot f).cut = s.cut := rfl
@[simp] theorem State.onBoot_cal (f : Boot → Boot) (s : State) : (s.onBoot f).cal = s.cal := rfl
@[simp] theorem State.onBoot_dram (f : Boot → Boot) (s : State) : (s.onBoot f).dram = s.dram := rfl

@[simp] theorem State.onSys_pending (f : Sys → Sys) (s : State) : (s.onSys f).pending = s.pending := rfl
@[simp] theorem State.onSys_aonOn (f : Sys → Sys) (s : State) : (s.onSys f).aonOn = s.aonOn := rfl
@[simp] theorem State.onSys_free (f : Sys → Sys) (s : State) : (s.onSys f).free = s.free := rfl
@[simp] theorem State.onSys_regs (f : Sys → Sys) (s : State) : (s.onSys f).regs = s.regs := rfl
@[simp] theorem State.onSys_latched (f : Sys → Sys) (s : State) : (s.onSys f).latched = s.latched := rfl
@[simp] theorem State.onSys_od (f : Sys → Sys) (s : State) : (s.onSys f).od = s.od := rfl
@[simp] theorem State.onSys_sys (f : Sys → Sys) (s : State) : (s.onSys f).sys = f s.sys := rfl
@[simp] theorem State.onSys_evt (f : Sys → Sys) (s : State) : (s.onSys f).evt = s.evt := rfl
@[simp] theorem State.onSys_pwr (f : Sys → Sys) (s : State) : (s.onSys f).pwr = s.pwr := rfl
@[simp] theorem State.onSys_tap (f : Sys → Sys) (s : State) : (s.onSys f).tap = s.tap := rfl
@[simp] theorem State.onSys_thm (f : Sys → Sys) (s : State) : (s.onSys f).thm = s.thm := rfl
@[simp] theorem State.onSys_boot (f : Sys → Sys) (s : State) : (s.onSys f).boot = s.boot := rfl
@[simp] theorem State.onSys_hq (f : Sys → Sys) (s : State) : (s.onSys f).hq = s.hq := rfl
@[simp] theorem State.onSys_jrn (f : Sys → Sys) (s : State) : (s.onSys f).jrn = s.jrn := rfl
@[simp] theorem State.onSys_culm (f : Sys → Sys) (s : State) : (s.onSys f).culm = s.culm := rfl
@[simp] theorem State.onSys_time (f : Sys → Sys) (s : State) : (s.onSys f).time = s.time := rfl
@[simp] theorem State.onSys_die (f : Sys → Sys) (s : State) : (s.onSys f).die = s.die := rfl
@[simp] theorem State.onSys_zop (f : Sys → Sys) (s : State) : (s.onSys f).zop = s.zop := rfl
@[simp] theorem State.onSys_ls (f : Sys → Sys) (s : State) : (s.onSys f).ls = s.ls := rfl
@[simp] theorem State.onSys_pgf (f : Sys → Sys) (s : State) : (s.onSys f).pgf = s.pgf := rfl
@[simp] theorem State.onSys_husk (f : Sys → Sys) (s : State) : (s.onSys f).husk = s.husk := rfl
@[simp] theorem State.onSys_shf (f : Sys → Sys) (s : State) : (s.onSys f).shf = s.shf := rfl
@[simp] theorem State.onSys_mov (f : Sys → Sys) (s : State) : (s.onSys f).mov = s.mov := rfl
@[simp] theorem State.onSys_rch (f : Sys → Sys) (s : State) : (s.onSys f).rch = s.rch := rfl
@[simp] theorem State.onSys_srv (f : Sys → Sys) (s : State) : (s.onSys f).srv = s.srv := rfl
@[simp] theorem State.onSys_spn (f : Sys → Sys) (s : State) : (s.onSys f).spn = s.spn := rfl
@[simp] theorem State.onSys_ret (f : Sys → Sys) (s : State) : (s.onSys f).ret = s.ret := rfl
@[simp] theorem State.onSys_mot (f : Sys → Sys) (s : State) : (s.onSys f).mot = s.mot := rfl
@[simp] theorem State.onSys_drv (f : Sys → Sys) (s : State) : (s.onSys f).drv = s.drv := rfl
@[simp] theorem State.onSys_teff (f : Sys → Sys) (s : State) : (s.onSys f).teff = s.teff := rfl
@[simp] theorem State.onSys_hv (f : Sys → Sys) (s : State) : (s.onSys f).hv = s.hv := rfl
@[simp] theorem State.onSys_fus (f : Sys → Sys) (s : State) : (s.onSys f).fus = s.fus := rfl
@[simp] theorem State.onSys_cut (f : Sys → Sys) (s : State) : (s.onSys f).cut = s.cut := rfl
@[simp] theorem State.onSys_cal (f : Sys → Sys) (s : State) : (s.onSys f).cal = s.cal := rfl
@[simp] theorem State.onSys_dram (f : Sys → Sys) (s : State) : (s.onSys f).dram = s.dram := rfl

@[simp] theorem State.onDie_pending (f : Rec → Rec) (s : State) : (s.onDie f).pending = s.pending := rfl
@[simp] theorem State.onDie_aonOn (f : Rec → Rec) (s : State) : (s.onDie f).aonOn = s.aonOn := rfl
@[simp] theorem State.onDie_free (f : Rec → Rec) (s : State) : (s.onDie f).free = s.free := rfl
@[simp] theorem State.onDie_regs (f : Rec → Rec) (s : State) : (s.onDie f).regs = s.regs := rfl
@[simp] theorem State.onDie_latched (f : Rec → Rec) (s : State) : (s.onDie f).latched = s.latched := rfl
@[simp] theorem State.onDie_od (f : Rec → Rec) (s : State) : (s.onDie f).od = s.od := rfl
@[simp] theorem State.onDie_sys (f : Rec → Rec) (s : State) : (s.onDie f).sys = s.sys := rfl
@[simp] theorem State.onDie_evt (f : Rec → Rec) (s : State) : (s.onDie f).evt = s.evt := rfl
@[simp] theorem State.onDie_pwr (f : Rec → Rec) (s : State) : (s.onDie f).pwr = s.pwr := rfl
@[simp] theorem State.onDie_tap (f : Rec → Rec) (s : State) : (s.onDie f).tap = s.tap := rfl
@[simp] theorem State.onDie_thm (f : Rec → Rec) (s : State) : (s.onDie f).thm = s.thm := rfl
@[simp] theorem State.onDie_boot (f : Rec → Rec) (s : State) : (s.onDie f).boot = s.boot := rfl
@[simp] theorem State.onDie_hq (f : Rec → Rec) (s : State) : (s.onDie f).hq = s.hq := rfl
@[simp] theorem State.onDie_jrn (f : Rec → Rec) (s : State) : (s.onDie f).jrn = s.jrn := rfl
@[simp] theorem State.onDie_culm (f : Rec → Rec) (s : State) : (s.onDie f).culm = s.culm := rfl
@[simp] theorem State.onDie_time (f : Rec → Rec) (s : State) : (s.onDie f).time = s.time := rfl
@[simp] theorem State.onDie_die (f : Rec → Rec) (s : State) : (s.onDie f).die = f s.die := rfl
@[simp] theorem State.onDie_zop (f : Rec → Rec) (s : State) : (s.onDie f).zop = s.zop := rfl
@[simp] theorem State.onDie_ls (f : Rec → Rec) (s : State) : (s.onDie f).ls = s.ls := rfl
@[simp] theorem State.onDie_pgf (f : Rec → Rec) (s : State) : (s.onDie f).pgf = s.pgf := rfl
@[simp] theorem State.onDie_husk (f : Rec → Rec) (s : State) : (s.onDie f).husk = s.husk := rfl
@[simp] theorem State.onDie_shf (f : Rec → Rec) (s : State) : (s.onDie f).shf = s.shf := rfl
@[simp] theorem State.onDie_mov (f : Rec → Rec) (s : State) : (s.onDie f).mov = s.mov := rfl
@[simp] theorem State.onDie_rch (f : Rec → Rec) (s : State) : (s.onDie f).rch = s.rch := rfl
@[simp] theorem State.onDie_srv (f : Rec → Rec) (s : State) : (s.onDie f).srv = s.srv := rfl
@[simp] theorem State.onDie_spn (f : Rec → Rec) (s : State) : (s.onDie f).spn = s.spn := rfl
@[simp] theorem State.onDie_ret (f : Rec → Rec) (s : State) : (s.onDie f).ret = s.ret := rfl
@[simp] theorem State.onDie_mot (f : Rec → Rec) (s : State) : (s.onDie f).mot = s.mot := rfl
@[simp] theorem State.onDie_drv (f : Rec → Rec) (s : State) : (s.onDie f).drv = s.drv := rfl
@[simp] theorem State.onDie_teff (f : Rec → Rec) (s : State) : (s.onDie f).teff = s.teff := rfl
@[simp] theorem State.onDie_hv (f : Rec → Rec) (s : State) : (s.onDie f).hv = s.hv := rfl
@[simp] theorem State.onDie_fus (f : Rec → Rec) (s : State) : (s.onDie f).fus = s.fus := rfl
@[simp] theorem State.onDie_cut (f : Rec → Rec) (s : State) : (s.onDie f).cut = s.cut := rfl
@[simp] theorem State.onDie_cal (f : Rec → Rec) (s : State) : (s.onDie f).cal = s.cal := rfl
@[simp] theorem State.onDie_dram (f : Rec → Rec) (s : State) : (s.onDie f).dram = s.dram := rfl

@[simp] theorem State.onCal_pending (f : Cal → Cal) (s : State) : (s.onCal f).pending = s.pending := rfl
@[simp] theorem State.onCal_aonOn (f : Cal → Cal) (s : State) : (s.onCal f).aonOn = s.aonOn := rfl
@[simp] theorem State.onCal_free (f : Cal → Cal) (s : State) : (s.onCal f).free = s.free := rfl
@[simp] theorem State.onCal_regs (f : Cal → Cal) (s : State) : (s.onCal f).regs = s.regs := rfl
@[simp] theorem State.onCal_latched (f : Cal → Cal) (s : State) : (s.onCal f).latched = s.latched := rfl
@[simp] theorem State.onCal_od (f : Cal → Cal) (s : State) : (s.onCal f).od = s.od := rfl
@[simp] theorem State.onCal_sys (f : Cal → Cal) (s : State) : (s.onCal f).sys = s.sys := rfl
@[simp] theorem State.onCal_evt (f : Cal → Cal) (s : State) : (s.onCal f).evt = s.evt := rfl
@[simp] theorem State.onCal_pwr (f : Cal → Cal) (s : State) : (s.onCal f).pwr = s.pwr := rfl
@[simp] theorem State.onCal_tap (f : Cal → Cal) (s : State) : (s.onCal f).tap = s.tap := rfl
@[simp] theorem State.onCal_thm (f : Cal → Cal) (s : State) : (s.onCal f).thm = s.thm := rfl
@[simp] theorem State.onCal_boot (f : Cal → Cal) (s : State) : (s.onCal f).boot = s.boot := rfl
@[simp] theorem State.onCal_hq (f : Cal → Cal) (s : State) : (s.onCal f).hq = s.hq := rfl
@[simp] theorem State.onCal_jrn (f : Cal → Cal) (s : State) : (s.onCal f).jrn = s.jrn := rfl
@[simp] theorem State.onCal_culm (f : Cal → Cal) (s : State) : (s.onCal f).culm = s.culm := rfl
@[simp] theorem State.onCal_time (f : Cal → Cal) (s : State) : (s.onCal f).time = s.time := rfl
@[simp] theorem State.onCal_die (f : Cal → Cal) (s : State) : (s.onCal f).die = s.die := rfl
@[simp] theorem State.onCal_zop (f : Cal → Cal) (s : State) : (s.onCal f).zop = s.zop := rfl
@[simp] theorem State.onCal_ls (f : Cal → Cal) (s : State) : (s.onCal f).ls = s.ls := rfl
@[simp] theorem State.onCal_pgf (f : Cal → Cal) (s : State) : (s.onCal f).pgf = s.pgf := rfl
@[simp] theorem State.onCal_husk (f : Cal → Cal) (s : State) : (s.onCal f).husk = s.husk := rfl
@[simp] theorem State.onCal_shf (f : Cal → Cal) (s : State) : (s.onCal f).shf = s.shf := rfl
@[simp] theorem State.onCal_mov (f : Cal → Cal) (s : State) : (s.onCal f).mov = s.mov := rfl
@[simp] theorem State.onCal_rch (f : Cal → Cal) (s : State) : (s.onCal f).rch = s.rch := rfl
@[simp] theorem State.onCal_srv (f : Cal → Cal) (s : State) : (s.onCal f).srv = s.srv := rfl
@[simp] theorem State.onCal_spn (f : Cal → Cal) (s : State) : (s.onCal f).spn = s.spn := rfl
@[simp] theorem State.onCal_ret (f : Cal → Cal) (s : State) : (s.onCal f).ret = s.ret := rfl
@[simp] theorem State.onCal_mot (f : Cal → Cal) (s : State) : (s.onCal f).mot = s.mot := rfl
@[simp] theorem State.onCal_drv (f : Cal → Cal) (s : State) : (s.onCal f).drv = s.drv := rfl
@[simp] theorem State.onCal_teff (f : Cal → Cal) (s : State) : (s.onCal f).teff = s.teff := rfl
@[simp] theorem State.onCal_hv (f : Cal → Cal) (s : State) : (s.onCal f).hv = s.hv := rfl
@[simp] theorem State.onCal_fus (f : Cal → Cal) (s : State) : (s.onCal f).fus = s.fus := rfl
@[simp] theorem State.onCal_cut (f : Cal → Cal) (s : State) : (s.onCal f).cut = s.cut := rfl
@[simp] theorem State.onCal_cal (f : Cal → Cal) (s : State) : (s.onCal f).cal = f s.cal := rfl
@[simp] theorem State.onCal_dram (f : Cal → Cal) (s : State) : (s.onCal f).dram = s.dram := rfl

@[simp] theorem State.onCalCh_pending (id : Nat) (f : CalCh → CalCh) (s : State) : (s.onCalCh id f).pending = s.pending := rfl
@[simp] theorem State.onCalCh_aonOn (id : Nat) (f : CalCh → CalCh) (s : State) : (s.onCalCh id f).aonOn = s.aonOn := rfl
@[simp] theorem State.onCalCh_free (id : Nat) (f : CalCh → CalCh) (s : State) : (s.onCalCh id f).free = s.free := rfl
@[simp] theorem State.onCalCh_regs (id : Nat) (f : CalCh → CalCh) (s : State) : (s.onCalCh id f).regs = s.regs := rfl
@[simp] theorem State.onCalCh_latched (id : Nat) (f : CalCh → CalCh) (s : State) : (s.onCalCh id f).latched = s.latched := rfl
@[simp] theorem State.onCalCh_od (id : Nat) (f : CalCh → CalCh) (s : State) : (s.onCalCh id f).od = s.od := rfl
@[simp] theorem State.onCalCh_sys (id : Nat) (f : CalCh → CalCh) (s : State) : (s.onCalCh id f).sys = s.sys := rfl
@[simp] theorem State.onCalCh_evt (id : Nat) (f : CalCh → CalCh) (s : State) : (s.onCalCh id f).evt = s.evt := rfl
@[simp] theorem State.onCalCh_pwr (id : Nat) (f : CalCh → CalCh) (s : State) : (s.onCalCh id f).pwr = s.pwr := rfl
@[simp] theorem State.onCalCh_tap (id : Nat) (f : CalCh → CalCh) (s : State) : (s.onCalCh id f).tap = s.tap := rfl
@[simp] theorem State.onCalCh_thm (id : Nat) (f : CalCh → CalCh) (s : State) : (s.onCalCh id f).thm = s.thm := rfl
@[simp] theorem State.onCalCh_boot (id : Nat) (f : CalCh → CalCh) (s : State) : (s.onCalCh id f).boot = s.boot := rfl
@[simp] theorem State.onCalCh_hq (id : Nat) (f : CalCh → CalCh) (s : State) : (s.onCalCh id f).hq = s.hq := rfl
@[simp] theorem State.onCalCh_jrn (id : Nat) (f : CalCh → CalCh) (s : State) : (s.onCalCh id f).jrn = s.jrn := rfl
@[simp] theorem State.onCalCh_culm (id : Nat) (f : CalCh → CalCh) (s : State) : (s.onCalCh id f).culm = s.culm := rfl
@[simp] theorem State.onCalCh_time (id : Nat) (f : CalCh → CalCh) (s : State) : (s.onCalCh id f).time = s.time := rfl
@[simp] theorem State.onCalCh_die (id : Nat) (f : CalCh → CalCh) (s : State) : (s.onCalCh id f).die = s.die := rfl
@[simp] theorem State.onCalCh_zop (id : Nat) (f : CalCh → CalCh) (s : State) : (s.onCalCh id f).zop = s.zop := rfl
@[simp] theorem State.onCalCh_ls (id : Nat) (f : CalCh → CalCh) (s : State) : (s.onCalCh id f).ls = s.ls := rfl
@[simp] theorem State.onCalCh_pgf (id : Nat) (f : CalCh → CalCh) (s : State) : (s.onCalCh id f).pgf = s.pgf := rfl
@[simp] theorem State.onCalCh_husk (id : Nat) (f : CalCh → CalCh) (s : State) : (s.onCalCh id f).husk = s.husk := rfl
@[simp] theorem State.onCalCh_shf (id : Nat) (f : CalCh → CalCh) (s : State) : (s.onCalCh id f).shf = s.shf := rfl
@[simp] theorem State.onCalCh_mov (id : Nat) (f : CalCh → CalCh) (s : State) : (s.onCalCh id f).mov = s.mov := rfl
@[simp] theorem State.onCalCh_rch (id : Nat) (f : CalCh → CalCh) (s : State) : (s.onCalCh id f).rch = s.rch := rfl
@[simp] theorem State.onCalCh_srv (id : Nat) (f : CalCh → CalCh) (s : State) : (s.onCalCh id f).srv = s.srv := rfl
@[simp] theorem State.onCalCh_spn (id : Nat) (f : CalCh → CalCh) (s : State) : (s.onCalCh id f).spn = s.spn := rfl
@[simp] theorem State.onCalCh_ret (id : Nat) (f : CalCh → CalCh) (s : State) : (s.onCalCh id f).ret = s.ret := rfl
@[simp] theorem State.onCalCh_mot (id : Nat) (f : CalCh → CalCh) (s : State) : (s.onCalCh id f).mot = s.mot := rfl
@[simp] theorem State.onCalCh_drv (id : Nat) (f : CalCh → CalCh) (s : State) : (s.onCalCh id f).drv = s.drv := rfl
@[simp] theorem State.onCalCh_teff (id : Nat) (f : CalCh → CalCh) (s : State) : (s.onCalCh id f).teff = s.teff := rfl
@[simp] theorem State.onCalCh_hv (id : Nat) (f : CalCh → CalCh) (s : State) : (s.onCalCh id f).hv = s.hv := rfl
@[simp] theorem State.onCalCh_fus (id : Nat) (f : CalCh → CalCh) (s : State) : (s.onCalCh id f).fus = s.fus := rfl
@[simp] theorem State.onCalCh_cut (id : Nat) (f : CalCh → CalCh) (s : State) : (s.onCalCh id f).cut = s.cut := rfl
@[simp] theorem State.onCalCh_dram (id : Nat) (f : CalCh → CalCh) (s : State) : (s.onCalCh id f).dram = s.dram := rfl

@[simp] theorem State.onCalRec_pending (id : Nat) (f : CalRec → CalRec) (s : State) : (s.onCalRec id f).pending = s.pending := rfl
@[simp] theorem State.onCalRec_aonOn (id : Nat) (f : CalRec → CalRec) (s : State) : (s.onCalRec id f).aonOn = s.aonOn := rfl
@[simp] theorem State.onCalRec_free (id : Nat) (f : CalRec → CalRec) (s : State) : (s.onCalRec id f).free = s.free := rfl
@[simp] theorem State.onCalRec_regs (id : Nat) (f : CalRec → CalRec) (s : State) : (s.onCalRec id f).regs = s.regs := rfl
@[simp] theorem State.onCalRec_latched (id : Nat) (f : CalRec → CalRec) (s : State) : (s.onCalRec id f).latched = s.latched := rfl
@[simp] theorem State.onCalRec_od (id : Nat) (f : CalRec → CalRec) (s : State) : (s.onCalRec id f).od = s.od := rfl
@[simp] theorem State.onCalRec_sys (id : Nat) (f : CalRec → CalRec) (s : State) : (s.onCalRec id f).sys = s.sys := rfl
@[simp] theorem State.onCalRec_evt (id : Nat) (f : CalRec → CalRec) (s : State) : (s.onCalRec id f).evt = s.evt := rfl
@[simp] theorem State.onCalRec_pwr (id : Nat) (f : CalRec → CalRec) (s : State) : (s.onCalRec id f).pwr = s.pwr := rfl
@[simp] theorem State.onCalRec_tap (id : Nat) (f : CalRec → CalRec) (s : State) : (s.onCalRec id f).tap = s.tap := rfl
@[simp] theorem State.onCalRec_thm (id : Nat) (f : CalRec → CalRec) (s : State) : (s.onCalRec id f).thm = s.thm := rfl
@[simp] theorem State.onCalRec_boot (id : Nat) (f : CalRec → CalRec) (s : State) : (s.onCalRec id f).boot = s.boot := rfl
@[simp] theorem State.onCalRec_hq (id : Nat) (f : CalRec → CalRec) (s : State) : (s.onCalRec id f).hq = s.hq := rfl
@[simp] theorem State.onCalRec_jrn (id : Nat) (f : CalRec → CalRec) (s : State) : (s.onCalRec id f).jrn = s.jrn := rfl
@[simp] theorem State.onCalRec_culm (id : Nat) (f : CalRec → CalRec) (s : State) : (s.onCalRec id f).culm = s.culm := rfl
@[simp] theorem State.onCalRec_time (id : Nat) (f : CalRec → CalRec) (s : State) : (s.onCalRec id f).time = s.time := rfl
@[simp] theorem State.onCalRec_zop (id : Nat) (f : CalRec → CalRec) (s : State) : (s.onCalRec id f).zop = s.zop := rfl
@[simp] theorem State.onCalRec_ls (id : Nat) (f : CalRec → CalRec) (s : State) : (s.onCalRec id f).ls = s.ls := rfl
@[simp] theorem State.onCalRec_pgf (id : Nat) (f : CalRec → CalRec) (s : State) : (s.onCalRec id f).pgf = s.pgf := rfl
@[simp] theorem State.onCalRec_husk (id : Nat) (f : CalRec → CalRec) (s : State) : (s.onCalRec id f).husk = s.husk := rfl
@[simp] theorem State.onCalRec_shf (id : Nat) (f : CalRec → CalRec) (s : State) : (s.onCalRec id f).shf = s.shf := rfl
@[simp] theorem State.onCalRec_mov (id : Nat) (f : CalRec → CalRec) (s : State) : (s.onCalRec id f).mov = s.mov := rfl
@[simp] theorem State.onCalRec_rch (id : Nat) (f : CalRec → CalRec) (s : State) : (s.onCalRec id f).rch = s.rch := rfl
@[simp] theorem State.onCalRec_srv (id : Nat) (f : CalRec → CalRec) (s : State) : (s.onCalRec id f).srv = s.srv := rfl
@[simp] theorem State.onCalRec_spn (id : Nat) (f : CalRec → CalRec) (s : State) : (s.onCalRec id f).spn = s.spn := rfl
@[simp] theorem State.onCalRec_ret (id : Nat) (f : CalRec → CalRec) (s : State) : (s.onCalRec id f).ret = s.ret := rfl
@[simp] theorem State.onCalRec_mot (id : Nat) (f : CalRec → CalRec) (s : State) : (s.onCalRec id f).mot = s.mot := rfl
@[simp] theorem State.onCalRec_drv (id : Nat) (f : CalRec → CalRec) (s : State) : (s.onCalRec id f).drv = s.drv := rfl
@[simp] theorem State.onCalRec_teff (id : Nat) (f : CalRec → CalRec) (s : State) : (s.onCalRec id f).teff = s.teff := rfl
@[simp] theorem State.onCalRec_hv (id : Nat) (f : CalRec → CalRec) (s : State) : (s.onCalRec id f).hv = s.hv := rfl
@[simp] theorem State.onCalRec_fus (id : Nat) (f : CalRec → CalRec) (s : State) : (s.onCalRec id f).fus = s.fus := rfl
@[simp] theorem State.onCalRec_cut (id : Nat) (f : CalRec → CalRec) (s : State) : (s.onCalRec id f).cut = s.cut := rfl
@[simp] theorem State.onCalRec_cal (id : Nat) (f : CalRec → CalRec) (s : State) : (s.onCalRec id f).cal = s.cal := rfl
@[simp] theorem State.onCalRec_dram (id : Nat) (f : CalRec → CalRec) (s : State) : (s.onCalRec id f).dram = s.dram := rfl

@[simp] theorem State.onCulm_pending (f : Culm → Culm) (s : State) : (s.onCulm f).pending = s.pending := rfl
@[simp] theorem State.onCulm_aonOn (f : Culm → Culm) (s : State) : (s.onCulm f).aonOn = s.aonOn := rfl
@[simp] theorem State.onCulm_free (f : Culm → Culm) (s : State) : (s.onCulm f).free = s.free := rfl
@[simp] theorem State.onCulm_regs (f : Culm → Culm) (s : State) : (s.onCulm f).regs = s.regs := rfl
@[simp] theorem State.onCulm_latched (f : Culm → Culm) (s : State) : (s.onCulm f).latched = s.latched := rfl
@[simp] theorem State.onCulm_od (f : Culm → Culm) (s : State) : (s.onCulm f).od = s.od := rfl
@[simp] theorem State.onCulm_sys (f : Culm → Culm) (s : State) : (s.onCulm f).sys = s.sys := rfl
@[simp] theorem State.onCulm_evt (f : Culm → Culm) (s : State) : (s.onCulm f).evt = s.evt := rfl
@[simp] theorem State.onCulm_pwr (f : Culm → Culm) (s : State) : (s.onCulm f).pwr = s.pwr := rfl
@[simp] theorem State.onCulm_tap (f : Culm → Culm) (s : State) : (s.onCulm f).tap = s.tap := rfl
@[simp] theorem State.onCulm_thm (f : Culm → Culm) (s : State) : (s.onCulm f).thm = s.thm := rfl
@[simp] theorem State.onCulm_boot (f : Culm → Culm) (s : State) : (s.onCulm f).boot = s.boot := rfl
@[simp] theorem State.onCulm_hq (f : Culm → Culm) (s : State) : (s.onCulm f).hq = s.hq := rfl
@[simp] theorem State.onCulm_jrn (f : Culm → Culm) (s : State) : (s.onCulm f).jrn = s.jrn := rfl
@[simp] theorem State.onCulm_culm (f : Culm → Culm) (s : State) : (s.onCulm f).culm = f s.culm := rfl
@[simp] theorem State.onCulm_time (f : Culm → Culm) (s : State) : (s.onCulm f).time = s.time := rfl
@[simp] theorem State.onCulm_die (f : Culm → Culm) (s : State) : (s.onCulm f).die = s.die := rfl
@[simp] theorem State.onCulm_zop (f : Culm → Culm) (s : State) : (s.onCulm f).zop = s.zop := rfl
@[simp] theorem State.onCulm_ls (f : Culm → Culm) (s : State) : (s.onCulm f).ls = s.ls := rfl
@[simp] theorem State.onCulm_pgf (f : Culm → Culm) (s : State) : (s.onCulm f).pgf = s.pgf := rfl
@[simp] theorem State.onCulm_husk (f : Culm → Culm) (s : State) : (s.onCulm f).husk = s.husk := rfl
@[simp] theorem State.onCulm_shf (f : Culm → Culm) (s : State) : (s.onCulm f).shf = s.shf := rfl
@[simp] theorem State.onCulm_mov (f : Culm → Culm) (s : State) : (s.onCulm f).mov = s.mov := rfl
@[simp] theorem State.onCulm_rch (f : Culm → Culm) (s : State) : (s.onCulm f).rch = s.rch := rfl
@[simp] theorem State.onCulm_srv (f : Culm → Culm) (s : State) : (s.onCulm f).srv = s.srv := rfl
@[simp] theorem State.onCulm_spn (f : Culm → Culm) (s : State) : (s.onCulm f).spn = s.spn := rfl
@[simp] theorem State.onCulm_ret (f : Culm → Culm) (s : State) : (s.onCulm f).ret = s.ret := rfl
@[simp] theorem State.onCulm_mot (f : Culm → Culm) (s : State) : (s.onCulm f).mot = s.mot := rfl
@[simp] theorem State.onCulm_drv (f : Culm → Culm) (s : State) : (s.onCulm f).drv = s.drv := rfl
@[simp] theorem State.onCulm_teff (f : Culm → Culm) (s : State) : (s.onCulm f).teff = s.teff := rfl
@[simp] theorem State.onCulm_hv (f : Culm → Culm) (s : State) : (s.onCulm f).hv = s.hv := rfl
@[simp] theorem State.onCulm_fus (f : Culm → Culm) (s : State) : (s.onCulm f).fus = s.fus := rfl
@[simp] theorem State.onCulm_cut (f : Culm → Culm) (s : State) : (s.onCulm f).cut = s.cut := rfl
@[simp] theorem State.onCulm_cal (f : Culm → Culm) (s : State) : (s.onCulm f).cal = s.cal := rfl
@[simp] theorem State.onCulm_dram (f : Culm → Culm) (s : State) : (s.onCulm f).dram = s.dram := rfl

@[simp] theorem State.onTime_pending (f : DevTime → DevTime) (s : State) : (s.onTime f).pending = s.pending := rfl
@[simp] theorem State.onTime_aonOn (f : DevTime → DevTime) (s : State) : (s.onTime f).aonOn = s.aonOn := rfl
@[simp] theorem State.onTime_free (f : DevTime → DevTime) (s : State) : (s.onTime f).free = s.free := rfl
@[simp] theorem State.onTime_regs (f : DevTime → DevTime) (s : State) : (s.onTime f).regs = s.regs := rfl
@[simp] theorem State.onTime_latched (f : DevTime → DevTime) (s : State) : (s.onTime f).latched = s.latched := rfl
@[simp] theorem State.onTime_od (f : DevTime → DevTime) (s : State) : (s.onTime f).od = s.od := rfl
@[simp] theorem State.onTime_sys (f : DevTime → DevTime) (s : State) : (s.onTime f).sys = s.sys := rfl
@[simp] theorem State.onTime_evt (f : DevTime → DevTime) (s : State) : (s.onTime f).evt = s.evt := rfl
@[simp] theorem State.onTime_pwr (f : DevTime → DevTime) (s : State) : (s.onTime f).pwr = s.pwr := rfl
@[simp] theorem State.onTime_tap (f : DevTime → DevTime) (s : State) : (s.onTime f).tap = s.tap := rfl
@[simp] theorem State.onTime_thm (f : DevTime → DevTime) (s : State) : (s.onTime f).thm = s.thm := rfl
@[simp] theorem State.onTime_boot (f : DevTime → DevTime) (s : State) : (s.onTime f).boot = s.boot := rfl
@[simp] theorem State.onTime_hq (f : DevTime → DevTime) (s : State) : (s.onTime f).hq = s.hq := rfl
@[simp] theorem State.onTime_jrn (f : DevTime → DevTime) (s : State) : (s.onTime f).jrn = s.jrn := rfl
@[simp] theorem State.onTime_culm (f : DevTime → DevTime) (s : State) : (s.onTime f).culm = s.culm := rfl
@[simp] theorem State.onTime_time (f : DevTime → DevTime) (s : State) : (s.onTime f).time = f s.time := rfl
@[simp] theorem State.onTime_die (f : DevTime → DevTime) (s : State) : (s.onTime f).die = s.die := rfl
@[simp] theorem State.onTime_zop (f : DevTime → DevTime) (s : State) : (s.onTime f).zop = s.zop := rfl
@[simp] theorem State.onTime_ls (f : DevTime → DevTime) (s : State) : (s.onTime f).ls = s.ls := rfl
@[simp] theorem State.onTime_pgf (f : DevTime → DevTime) (s : State) : (s.onTime f).pgf = s.pgf := rfl
@[simp] theorem State.onTime_husk (f : DevTime → DevTime) (s : State) : (s.onTime f).husk = s.husk := rfl
@[simp] theorem State.onTime_shf (f : DevTime → DevTime) (s : State) : (s.onTime f).shf = s.shf := rfl
@[simp] theorem State.onTime_mov (f : DevTime → DevTime) (s : State) : (s.onTime f).mov = s.mov := rfl
@[simp] theorem State.onTime_rch (f : DevTime → DevTime) (s : State) : (s.onTime f).rch = s.rch := rfl
@[simp] theorem State.onTime_srv (f : DevTime → DevTime) (s : State) : (s.onTime f).srv = s.srv := rfl
@[simp] theorem State.onTime_spn (f : DevTime → DevTime) (s : State) : (s.onTime f).spn = s.spn := rfl
@[simp] theorem State.onTime_ret (f : DevTime → DevTime) (s : State) : (s.onTime f).ret = s.ret := rfl
@[simp] theorem State.onTime_mot (f : DevTime → DevTime) (s : State) : (s.onTime f).mot = s.mot := rfl
@[simp] theorem State.onTime_drv (f : DevTime → DevTime) (s : State) : (s.onTime f).drv = s.drv := rfl
@[simp] theorem State.onTime_teff (f : DevTime → DevTime) (s : State) : (s.onTime f).teff = s.teff := rfl
@[simp] theorem State.onTime_hv (f : DevTime → DevTime) (s : State) : (s.onTime f).hv = s.hv := rfl
@[simp] theorem State.onTime_fus (f : DevTime → DevTime) (s : State) : (s.onTime f).fus = s.fus := rfl
@[simp] theorem State.onTime_cut (f : DevTime → DevTime) (s : State) : (s.onTime f).cut = s.cut := rfl
@[simp] theorem State.onTime_cal (f : DevTime → DevTime) (s : State) : (s.onTime f).cal = s.cal := rfl
@[simp] theorem State.onTime_dram (f : DevTime → DevTime) (s : State) : (s.onTime f).dram = s.dram := rfl

@[simp] theorem State.onRch_pending (f : Rch → Rch) (s : State) : (s.onRch f).pending = s.pending := rfl
@[simp] theorem State.onRch_aonOn (f : Rch → Rch) (s : State) : (s.onRch f).aonOn = s.aonOn := rfl
@[simp] theorem State.onRch_free (f : Rch → Rch) (s : State) : (s.onRch f).free = s.free := rfl
@[simp] theorem State.onRch_regs (f : Rch → Rch) (s : State) : (s.onRch f).regs = s.regs := rfl
@[simp] theorem State.onRch_latched (f : Rch → Rch) (s : State) : (s.onRch f).latched = s.latched := rfl
@[simp] theorem State.onRch_od (f : Rch → Rch) (s : State) : (s.onRch f).od = s.od := rfl
@[simp] theorem State.onRch_sys (f : Rch → Rch) (s : State) : (s.onRch f).sys = s.sys := rfl
@[simp] theorem State.onRch_evt (f : Rch → Rch) (s : State) : (s.onRch f).evt = s.evt := rfl
@[simp] theorem State.onRch_pwr (f : Rch → Rch) (s : State) : (s.onRch f).pwr = s.pwr := rfl
@[simp] theorem State.onRch_tap (f : Rch → Rch) (s : State) : (s.onRch f).tap = s.tap := rfl
@[simp] theorem State.onRch_thm (f : Rch → Rch) (s : State) : (s.onRch f).thm = s.thm := rfl
@[simp] theorem State.onRch_boot (f : Rch → Rch) (s : State) : (s.onRch f).boot = s.boot := rfl
@[simp] theorem State.onRch_hq (f : Rch → Rch) (s : State) : (s.onRch f).hq = s.hq := rfl
@[simp] theorem State.onRch_jrn (f : Rch → Rch) (s : State) : (s.onRch f).jrn = s.jrn := rfl
@[simp] theorem State.onRch_culm (f : Rch → Rch) (s : State) : (s.onRch f).culm = s.culm := rfl
@[simp] theorem State.onRch_time (f : Rch → Rch) (s : State) : (s.onRch f).time = s.time := rfl
@[simp] theorem State.onRch_die (f : Rch → Rch) (s : State) : (s.onRch f).die = s.die := rfl
@[simp] theorem State.onRch_zop (f : Rch → Rch) (s : State) : (s.onRch f).zop = s.zop := rfl
@[simp] theorem State.onRch_ls (f : Rch → Rch) (s : State) : (s.onRch f).ls = s.ls := rfl
@[simp] theorem State.onRch_pgf (f : Rch → Rch) (s : State) : (s.onRch f).pgf = s.pgf := rfl
@[simp] theorem State.onRch_husk (f : Rch → Rch) (s : State) : (s.onRch f).husk = s.husk := rfl
@[simp] theorem State.onRch_shf (f : Rch → Rch) (s : State) : (s.onRch f).shf = s.shf := rfl
@[simp] theorem State.onRch_mov (f : Rch → Rch) (s : State) : (s.onRch f).mov = s.mov := rfl
@[simp] theorem State.onRch_rch (f : Rch → Rch) (s : State) : (s.onRch f).rch = f s.rch := rfl
@[simp] theorem State.onRch_srv (f : Rch → Rch) (s : State) : (s.onRch f).srv = s.srv := rfl
@[simp] theorem State.onRch_spn (f : Rch → Rch) (s : State) : (s.onRch f).spn = s.spn := rfl
@[simp] theorem State.onRch_ret (f : Rch → Rch) (s : State) : (s.onRch f).ret = s.ret := rfl
@[simp] theorem State.onRch_mot (f : Rch → Rch) (s : State) : (s.onRch f).mot = s.mot := rfl
@[simp] theorem State.onRch_drv (f : Rch → Rch) (s : State) : (s.onRch f).drv = s.drv := rfl
@[simp] theorem State.onRch_teff (f : Rch → Rch) (s : State) : (s.onRch f).teff = s.teff := rfl
@[simp] theorem State.onRch_hv (f : Rch → Rch) (s : State) : (s.onRch f).hv = s.hv := rfl
@[simp] theorem State.onRch_fus (f : Rch → Rch) (s : State) : (s.onRch f).fus = s.fus := rfl
@[simp] theorem State.onRch_cut (f : Rch → Rch) (s : State) : (s.onRch f).cut = s.cut := rfl
@[simp] theorem State.onRch_cal (f : Rch → Rch) (s : State) : (s.onRch f).cal = s.cal := rfl
@[simp] theorem State.onRch_dram (f : Rch → Rch) (s : State) : (s.onRch f).dram = s.dram := rfl

@[simp] theorem State.onSrv_pending (f : Srv → Srv) (s : State) : (s.onSrv f).pending = s.pending := rfl
@[simp] theorem State.onSrv_aonOn (f : Srv → Srv) (s : State) : (s.onSrv f).aonOn = s.aonOn := rfl
@[simp] theorem State.onSrv_free (f : Srv → Srv) (s : State) : (s.onSrv f).free = s.free := rfl
@[simp] theorem State.onSrv_regs (f : Srv → Srv) (s : State) : (s.onSrv f).regs = s.regs := rfl
@[simp] theorem State.onSrv_latched (f : Srv → Srv) (s : State) : (s.onSrv f).latched = s.latched := rfl
@[simp] theorem State.onSrv_od (f : Srv → Srv) (s : State) : (s.onSrv f).od = s.od := rfl
@[simp] theorem State.onSrv_sys (f : Srv → Srv) (s : State) : (s.onSrv f).sys = s.sys := rfl
@[simp] theorem State.onSrv_evt (f : Srv → Srv) (s : State) : (s.onSrv f).evt = s.evt := rfl
@[simp] theorem State.onSrv_pwr (f : Srv → Srv) (s : State) : (s.onSrv f).pwr = s.pwr := rfl
@[simp] theorem State.onSrv_tap (f : Srv → Srv) (s : State) : (s.onSrv f).tap = s.tap := rfl
@[simp] theorem State.onSrv_thm (f : Srv → Srv) (s : State) : (s.onSrv f).thm = s.thm := rfl
@[simp] theorem State.onSrv_boot (f : Srv → Srv) (s : State) : (s.onSrv f).boot = s.boot := rfl
@[simp] theorem State.onSrv_hq (f : Srv → Srv) (s : State) : (s.onSrv f).hq = s.hq := rfl
@[simp] theorem State.onSrv_jrn (f : Srv → Srv) (s : State) : (s.onSrv f).jrn = s.jrn := rfl
@[simp] theorem State.onSrv_culm (f : Srv → Srv) (s : State) : (s.onSrv f).culm = s.culm := rfl
@[simp] theorem State.onSrv_time (f : Srv → Srv) (s : State) : (s.onSrv f).time = s.time := rfl
@[simp] theorem State.onSrv_die (f : Srv → Srv) (s : State) : (s.onSrv f).die = s.die := rfl
@[simp] theorem State.onSrv_zop (f : Srv → Srv) (s : State) : (s.onSrv f).zop = s.zop := rfl
@[simp] theorem State.onSrv_ls (f : Srv → Srv) (s : State) : (s.onSrv f).ls = s.ls := rfl
@[simp] theorem State.onSrv_pgf (f : Srv → Srv) (s : State) : (s.onSrv f).pgf = s.pgf := rfl
@[simp] theorem State.onSrv_husk (f : Srv → Srv) (s : State) : (s.onSrv f).husk = s.husk := rfl
@[simp] theorem State.onSrv_shf (f : Srv → Srv) (s : State) : (s.onSrv f).shf = s.shf := rfl
@[simp] theorem State.onSrv_mov (f : Srv → Srv) (s : State) : (s.onSrv f).mov = s.mov := rfl
@[simp] theorem State.onSrv_rch (f : Srv → Srv) (s : State) : (s.onSrv f).rch = s.rch := rfl
@[simp] theorem State.onSrv_srv (f : Srv → Srv) (s : State) : (s.onSrv f).srv = f s.srv := rfl
@[simp] theorem State.onSrv_spn (f : Srv → Srv) (s : State) : (s.onSrv f).spn = s.spn := rfl
@[simp] theorem State.onSrv_ret (f : Srv → Srv) (s : State) : (s.onSrv f).ret = s.ret := rfl
@[simp] theorem State.onSrv_mot (f : Srv → Srv) (s : State) : (s.onSrv f).mot = s.mot := rfl
@[simp] theorem State.onSrv_drv (f : Srv → Srv) (s : State) : (s.onSrv f).drv = s.drv := rfl
@[simp] theorem State.onSrv_teff (f : Srv → Srv) (s : State) : (s.onSrv f).teff = s.teff := rfl
@[simp] theorem State.onSrv_hv (f : Srv → Srv) (s : State) : (s.onSrv f).hv = s.hv := rfl
@[simp] theorem State.onSrv_fus (f : Srv → Srv) (s : State) : (s.onSrv f).fus = s.fus := rfl
@[simp] theorem State.onSrv_cut (f : Srv → Srv) (s : State) : (s.onSrv f).cut = s.cut := rfl
@[simp] theorem State.onSrv_cal (f : Srv → Srv) (s : State) : (s.onSrv f).cal = s.cal := rfl
@[simp] theorem State.onSrv_dram (f : Srv → Srv) (s : State) : (s.onSrv f).dram = s.dram := rfl

@[simp] theorem State.onSpn_pending (f : Spn → Spn) (s : State) : (s.onSpn f).pending = s.pending := rfl
@[simp] theorem State.onSpn_aonOn (f : Spn → Spn) (s : State) : (s.onSpn f).aonOn = s.aonOn := rfl
@[simp] theorem State.onSpn_free (f : Spn → Spn) (s : State) : (s.onSpn f).free = s.free := rfl
@[simp] theorem State.onSpn_regs (f : Spn → Spn) (s : State) : (s.onSpn f).regs = s.regs := rfl
@[simp] theorem State.onSpn_latched (f : Spn → Spn) (s : State) : (s.onSpn f).latched = s.latched := rfl
@[simp] theorem State.onSpn_od (f : Spn → Spn) (s : State) : (s.onSpn f).od = s.od := rfl
@[simp] theorem State.onSpn_sys (f : Spn → Spn) (s : State) : (s.onSpn f).sys = s.sys := rfl
@[simp] theorem State.onSpn_evt (f : Spn → Spn) (s : State) : (s.onSpn f).evt = s.evt := rfl
@[simp] theorem State.onSpn_pwr (f : Spn → Spn) (s : State) : (s.onSpn f).pwr = s.pwr := rfl
@[simp] theorem State.onSpn_tap (f : Spn → Spn) (s : State) : (s.onSpn f).tap = s.tap := rfl
@[simp] theorem State.onSpn_thm (f : Spn → Spn) (s : State) : (s.onSpn f).thm = s.thm := rfl
@[simp] theorem State.onSpn_boot (f : Spn → Spn) (s : State) : (s.onSpn f).boot = s.boot := rfl
@[simp] theorem State.onSpn_hq (f : Spn → Spn) (s : State) : (s.onSpn f).hq = s.hq := rfl
@[simp] theorem State.onSpn_jrn (f : Spn → Spn) (s : State) : (s.onSpn f).jrn = s.jrn := rfl
@[simp] theorem State.onSpn_culm (f : Spn → Spn) (s : State) : (s.onSpn f).culm = s.culm := rfl
@[simp] theorem State.onSpn_time (f : Spn → Spn) (s : State) : (s.onSpn f).time = s.time := rfl
@[simp] theorem State.onSpn_die (f : Spn → Spn) (s : State) : (s.onSpn f).die = s.die := rfl
@[simp] theorem State.onSpn_zop (f : Spn → Spn) (s : State) : (s.onSpn f).zop = s.zop := rfl
@[simp] theorem State.onSpn_ls (f : Spn → Spn) (s : State) : (s.onSpn f).ls = s.ls := rfl
@[simp] theorem State.onSpn_pgf (f : Spn → Spn) (s : State) : (s.onSpn f).pgf = s.pgf := rfl
@[simp] theorem State.onSpn_husk (f : Spn → Spn) (s : State) : (s.onSpn f).husk = s.husk := rfl
@[simp] theorem State.onSpn_shf (f : Spn → Spn) (s : State) : (s.onSpn f).shf = s.shf := rfl
@[simp] theorem State.onSpn_mov (f : Spn → Spn) (s : State) : (s.onSpn f).mov = s.mov := rfl
@[simp] theorem State.onSpn_rch (f : Spn → Spn) (s : State) : (s.onSpn f).rch = s.rch := rfl
@[simp] theorem State.onSpn_srv (f : Spn → Spn) (s : State) : (s.onSpn f).srv = s.srv := rfl
@[simp] theorem State.onSpn_spn (f : Spn → Spn) (s : State) : (s.onSpn f).spn = f s.spn := rfl
@[simp] theorem State.onSpn_ret (f : Spn → Spn) (s : State) : (s.onSpn f).ret = s.ret := rfl
@[simp] theorem State.onSpn_mot (f : Spn → Spn) (s : State) : (s.onSpn f).mot = s.mot := rfl
@[simp] theorem State.onSpn_drv (f : Spn → Spn) (s : State) : (s.onSpn f).drv = s.drv := rfl
@[simp] theorem State.onSpn_teff (f : Spn → Spn) (s : State) : (s.onSpn f).teff = s.teff := rfl
@[simp] theorem State.onSpn_hv (f : Spn → Spn) (s : State) : (s.onSpn f).hv = s.hv := rfl
@[simp] theorem State.onSpn_fus (f : Spn → Spn) (s : State) : (s.onSpn f).fus = s.fus := rfl
@[simp] theorem State.onSpn_cut (f : Spn → Spn) (s : State) : (s.onSpn f).cut = s.cut := rfl
@[simp] theorem State.onSpn_cal (f : Spn → Spn) (s : State) : (s.onSpn f).cal = s.cal := rfl
@[simp] theorem State.onSpn_dram (f : Spn → Spn) (s : State) : (s.onSpn f).dram = s.dram := rfl

@[simp] theorem State.onRet_pending (f : Retract → Retract) (s : State) : (s.onRet f).pending = s.pending := rfl
@[simp] theorem State.onRet_aonOn (f : Retract → Retract) (s : State) : (s.onRet f).aonOn = s.aonOn := rfl
@[simp] theorem State.onRet_free (f : Retract → Retract) (s : State) : (s.onRet f).free = s.free := rfl
@[simp] theorem State.onRet_regs (f : Retract → Retract) (s : State) : (s.onRet f).regs = s.regs := rfl
@[simp] theorem State.onRet_latched (f : Retract → Retract) (s : State) : (s.onRet f).latched = s.latched := rfl
@[simp] theorem State.onRet_od (f : Retract → Retract) (s : State) : (s.onRet f).od = s.od := rfl
@[simp] theorem State.onRet_sys (f : Retract → Retract) (s : State) : (s.onRet f).sys = s.sys := rfl
@[simp] theorem State.onRet_evt (f : Retract → Retract) (s : State) : (s.onRet f).evt = s.evt := rfl
@[simp] theorem State.onRet_pwr (f : Retract → Retract) (s : State) : (s.onRet f).pwr = s.pwr := rfl
@[simp] theorem State.onRet_tap (f : Retract → Retract) (s : State) : (s.onRet f).tap = s.tap := rfl
@[simp] theorem State.onRet_thm (f : Retract → Retract) (s : State) : (s.onRet f).thm = s.thm := rfl
@[simp] theorem State.onRet_boot (f : Retract → Retract) (s : State) : (s.onRet f).boot = s.boot := rfl
@[simp] theorem State.onRet_hq (f : Retract → Retract) (s : State) : (s.onRet f).hq = s.hq := rfl
@[simp] theorem State.onRet_jrn (f : Retract → Retract) (s : State) : (s.onRet f).jrn = s.jrn := rfl
@[simp] theorem State.onRet_culm (f : Retract → Retract) (s : State) : (s.onRet f).culm = s.culm := rfl
@[simp] theorem State.onRet_time (f : Retract → Retract) (s : State) : (s.onRet f).time = s.time := rfl
@[simp] theorem State.onRet_die (f : Retract → Retract) (s : State) : (s.onRet f).die = s.die := rfl
@[simp] theorem State.onRet_zop (f : Retract → Retract) (s : State) : (s.onRet f).zop = s.zop := rfl
@[simp] theorem State.onRet_ls (f : Retract → Retract) (s : State) : (s.onRet f).ls = s.ls := rfl
@[simp] theorem State.onRet_pgf (f : Retract → Retract) (s : State) : (s.onRet f).pgf = s.pgf := rfl
@[simp] theorem State.onRet_husk (f : Retract → Retract) (s : State) : (s.onRet f).husk = s.husk := rfl
@[simp] theorem State.onRet_shf (f : Retract → Retract) (s : State) : (s.onRet f).shf = s.shf := rfl
@[simp] theorem State.onRet_mov (f : Retract → Retract) (s : State) : (s.onRet f).mov = s.mov := rfl
@[simp] theorem State.onRet_rch (f : Retract → Retract) (s : State) : (s.onRet f).rch = s.rch := rfl
@[simp] theorem State.onRet_srv (f : Retract → Retract) (s : State) : (s.onRet f).srv = s.srv := rfl
@[simp] theorem State.onRet_spn (f : Retract → Retract) (s : State) : (s.onRet f).spn = s.spn := rfl
@[simp] theorem State.onRet_ret (f : Retract → Retract) (s : State) : (s.onRet f).ret = f s.ret := rfl
@[simp] theorem State.onRet_mot (f : Retract → Retract) (s : State) : (s.onRet f).mot = s.mot := rfl
@[simp] theorem State.onRet_drv (f : Retract → Retract) (s : State) : (s.onRet f).drv = s.drv := rfl
@[simp] theorem State.onRet_teff (f : Retract → Retract) (s : State) : (s.onRet f).teff = s.teff := rfl
@[simp] theorem State.onRet_hv (f : Retract → Retract) (s : State) : (s.onRet f).hv = s.hv := rfl
@[simp] theorem State.onRet_fus (f : Retract → Retract) (s : State) : (s.onRet f).fus = s.fus := rfl
@[simp] theorem State.onRet_cut (f : Retract → Retract) (s : State) : (s.onRet f).cut = s.cut := rfl
@[simp] theorem State.onRet_cal (f : Retract → Retract) (s : State) : (s.onRet f).cal = s.cal := rfl
@[simp] theorem State.onRet_dram (f : Retract → Retract) (s : State) : (s.onRet f).dram = s.dram := rfl

@[simp] theorem State.onCmd_pending (q cid : Nat) (f : Desc → Desc) (s : State) : (s.onCmd q cid f).pending = s.pending := rfl
@[simp] theorem State.onCmd_aonOn (q cid : Nat) (f : Desc → Desc) (s : State) : (s.onCmd q cid f).aonOn = s.aonOn := rfl
@[simp] theorem State.onCmd_free (q cid : Nat) (f : Desc → Desc) (s : State) : (s.onCmd q cid f).free = s.free := rfl
@[simp] theorem State.onCmd_regs (q cid : Nat) (f : Desc → Desc) (s : State) : (s.onCmd q cid f).regs = s.regs := rfl
@[simp] theorem State.onCmd_latched (q cid : Nat) (f : Desc → Desc) (s : State) : (s.onCmd q cid f).latched = s.latched := rfl
@[simp] theorem State.onCmd_od (q cid : Nat) (f : Desc → Desc) (s : State) : (s.onCmd q cid f).od = s.od := rfl
@[simp] theorem State.onCmd_sys (q cid : Nat) (f : Desc → Desc) (s : State) : (s.onCmd q cid f).sys = s.sys := rfl
@[simp] theorem State.onCmd_evt (q cid : Nat) (f : Desc → Desc) (s : State) : (s.onCmd q cid f).evt = s.evt := rfl
@[simp] theorem State.onCmd_pwr (q cid : Nat) (f : Desc → Desc) (s : State) : (s.onCmd q cid f).pwr = s.pwr := rfl
@[simp] theorem State.onCmd_tap (q cid : Nat) (f : Desc → Desc) (s : State) : (s.onCmd q cid f).tap = s.tap := rfl
@[simp] theorem State.onCmd_thm (q cid : Nat) (f : Desc → Desc) (s : State) : (s.onCmd q cid f).thm = s.thm := rfl
@[simp] theorem State.onCmd_boot (q cid : Nat) (f : Desc → Desc) (s : State) : (s.onCmd q cid f).boot = s.boot := rfl
@[simp] theorem State.onCmd_jrn (q cid : Nat) (f : Desc → Desc) (s : State) : (s.onCmd q cid f).jrn = s.jrn := rfl
@[simp] theorem State.onCmd_culm (q cid : Nat) (f : Desc → Desc) (s : State) : (s.onCmd q cid f).culm = s.culm := rfl
@[simp] theorem State.onCmd_time (q cid : Nat) (f : Desc → Desc) (s : State) : (s.onCmd q cid f).time = s.time := rfl
@[simp] theorem State.onCmd_die (q cid : Nat) (f : Desc → Desc) (s : State) : (s.onCmd q cid f).die = s.die := rfl
@[simp] theorem State.onCmd_zop (q cid : Nat) (f : Desc → Desc) (s : State) : (s.onCmd q cid f).zop = s.zop := rfl
@[simp] theorem State.onCmd_ls (q cid : Nat) (f : Desc → Desc) (s : State) : (s.onCmd q cid f).ls = s.ls := rfl
@[simp] theorem State.onCmd_pgf (q cid : Nat) (f : Desc → Desc) (s : State) : (s.onCmd q cid f).pgf = s.pgf := rfl
@[simp] theorem State.onCmd_husk (q cid : Nat) (f : Desc → Desc) (s : State) : (s.onCmd q cid f).husk = s.husk := rfl
@[simp] theorem State.onCmd_shf (q cid : Nat) (f : Desc → Desc) (s : State) : (s.onCmd q cid f).shf = s.shf := rfl
@[simp] theorem State.onCmd_mov (q cid : Nat) (f : Desc → Desc) (s : State) : (s.onCmd q cid f).mov = s.mov := rfl
@[simp] theorem State.onCmd_rch (q cid : Nat) (f : Desc → Desc) (s : State) : (s.onCmd q cid f).rch = s.rch := rfl
@[simp] theorem State.onCmd_srv (q cid : Nat) (f : Desc → Desc) (s : State) : (s.onCmd q cid f).srv = s.srv := rfl
@[simp] theorem State.onCmd_spn (q cid : Nat) (f : Desc → Desc) (s : State) : (s.onCmd q cid f).spn = s.spn := rfl
@[simp] theorem State.onCmd_ret (q cid : Nat) (f : Desc → Desc) (s : State) : (s.onCmd q cid f).ret = s.ret := rfl
@[simp] theorem State.onCmd_mot (q cid : Nat) (f : Desc → Desc) (s : State) : (s.onCmd q cid f).mot = s.mot := rfl
@[simp] theorem State.onCmd_drv (q cid : Nat) (f : Desc → Desc) (s : State) : (s.onCmd q cid f).drv = s.drv := rfl
@[simp] theorem State.onCmd_teff (q cid : Nat) (f : Desc → Desc) (s : State) : (s.onCmd q cid f).teff = s.teff := rfl
@[simp] theorem State.onCmd_hv (q cid : Nat) (f : Desc → Desc) (s : State) : (s.onCmd q cid f).hv = s.hv := rfl
@[simp] theorem State.onCmd_fus (q cid : Nat) (f : Desc → Desc) (s : State) : (s.onCmd q cid f).fus = s.fus := rfl
@[simp] theorem State.onCmd_cut (q cid : Nat) (f : Desc → Desc) (s : State) : (s.onCmd q cid f).cut = s.cut := rfl
@[simp] theorem State.onCmd_cal (q cid : Nat) (f : Desc → Desc) (s : State) : (s.onCmd q cid f).cal = s.cal := rfl
@[simp] theorem State.onCmd_dram (q cid : Nat) (f : Desc → Desc) (s : State) : (s.onCmd q cid f).dram = s.dram := rfl

@[simp] theorem State.onPwr_pending (f : Pwr → Pwr) (s : State) : (s.onPwr f).pending = s.pending := rfl
@[simp] theorem State.onPwr_aonOn (f : Pwr → Pwr) (s : State) : (s.onPwr f).aonOn = s.aonOn := rfl
@[simp] theorem State.onPwr_free (f : Pwr → Pwr) (s : State) : (s.onPwr f).free = s.free := rfl
@[simp] theorem State.onPwr_regs (f : Pwr → Pwr) (s : State) : (s.onPwr f).regs = s.regs := rfl
@[simp] theorem State.onPwr_latched (f : Pwr → Pwr) (s : State) : (s.onPwr f).latched = s.latched := rfl
@[simp] theorem State.onPwr_od (f : Pwr → Pwr) (s : State) : (s.onPwr f).od = s.od := rfl
@[simp] theorem State.onPwr_sys (f : Pwr → Pwr) (s : State) : (s.onPwr f).sys = s.sys := rfl
@[simp] theorem State.onPwr_evt (f : Pwr → Pwr) (s : State) : (s.onPwr f).evt = s.evt := rfl
@[simp] theorem State.onPwr_pwr (f : Pwr → Pwr) (s : State) : (s.onPwr f).pwr = f s.pwr := rfl
@[simp] theorem State.onPwr_thm (f : Pwr → Pwr) (s : State) : (s.onPwr f).thm = s.thm := rfl
@[simp] theorem State.onPwr_boot (f : Pwr → Pwr) (s : State) : (s.onPwr f).boot = s.boot := rfl
@[simp] theorem State.onPwr_hq (f : Pwr → Pwr) (s : State) : (s.onPwr f).hq = s.hq := rfl
@[simp] theorem State.onPwr_jrn (f : Pwr → Pwr) (s : State) : (s.onPwr f).jrn = s.jrn := rfl
@[simp] theorem State.onPwr_culm (f : Pwr → Pwr) (s : State) : (s.onPwr f).culm = s.culm := rfl
@[simp] theorem State.onPwr_time (f : Pwr → Pwr) (s : State) : (s.onPwr f).time = s.time := rfl
@[simp] theorem State.onPwr_die (f : Pwr → Pwr) (s : State) : (s.onPwr f).die = s.die := rfl
@[simp] theorem State.onPwr_zop (f : Pwr → Pwr) (s : State) : (s.onPwr f).zop = s.zop := rfl
@[simp] theorem State.onPwr_ls (f : Pwr → Pwr) (s : State) : (s.onPwr f).ls = s.ls := rfl
@[simp] theorem State.onPwr_pgf (f : Pwr → Pwr) (s : State) : (s.onPwr f).pgf = s.pgf := rfl
@[simp] theorem State.onPwr_husk (f : Pwr → Pwr) (s : State) : (s.onPwr f).husk = s.husk := rfl
@[simp] theorem State.onPwr_shf (f : Pwr → Pwr) (s : State) : (s.onPwr f).shf = s.shf := rfl
@[simp] theorem State.onPwr_mov (f : Pwr → Pwr) (s : State) : (s.onPwr f).mov = s.mov := rfl
@[simp] theorem State.onPwr_rch (f : Pwr → Pwr) (s : State) : (s.onPwr f).rch = s.rch := rfl
@[simp] theorem State.onPwr_srv (f : Pwr → Pwr) (s : State) : (s.onPwr f).srv = s.srv := rfl
@[simp] theorem State.onPwr_spn (f : Pwr → Pwr) (s : State) : (s.onPwr f).spn = s.spn := rfl
@[simp] theorem State.onPwr_ret (f : Pwr → Pwr) (s : State) : (s.onPwr f).ret = s.ret := rfl
@[simp] theorem State.onPwr_mot (f : Pwr → Pwr) (s : State) : (s.onPwr f).mot = s.mot := rfl
@[simp] theorem State.onPwr_drv (f : Pwr → Pwr) (s : State) : (s.onPwr f).drv = s.drv := rfl
@[simp] theorem State.onPwr_teff (f : Pwr → Pwr) (s : State) : (s.onPwr f).teff = s.teff := rfl
@[simp] theorem State.onPwr_hv (f : Pwr → Pwr) (s : State) : (s.onPwr f).hv = s.hv := rfl
@[simp] theorem State.onPwr_fus (f : Pwr → Pwr) (s : State) : (s.onPwr f).fus = s.fus := rfl
@[simp] theorem State.onPwr_cut (f : Pwr → Pwr) (s : State) : (s.onPwr f).cut = s.cut := rfl
@[simp] theorem State.onPwr_cal (f : Pwr → Pwr) (s : State) : (s.onPwr f).cal = s.cal := rfl
@[simp] theorem State.onPwr_dram (f : Pwr → Pwr) (s : State) : (s.onPwr f).dram = s.dram := rfl
@[simp] theorem State.onPwr_tap (f : Pwr → Pwr) (s : State) : (s.onPwr f).tap = s.tap := rfl

@[simp] theorem State.onTap_pending (f : Tap → Tap) (s : State) : (s.onTap f).pending = s.pending := rfl
@[simp] theorem State.onTap_aonOn (f : Tap → Tap) (s : State) : (s.onTap f).aonOn = s.aonOn := rfl
@[simp] theorem State.onTap_free (f : Tap → Tap) (s : State) : (s.onTap f).free = s.free := rfl
@[simp] theorem State.onTap_regs (f : Tap → Tap) (s : State) : (s.onTap f).regs = s.regs := rfl
@[simp] theorem State.onTap_latched (f : Tap → Tap) (s : State) : (s.onTap f).latched = s.latched := rfl
@[simp] theorem State.onTap_od (f : Tap → Tap) (s : State) : (s.onTap f).od = s.od := rfl
@[simp] theorem State.onTap_sys (f : Tap → Tap) (s : State) : (s.onTap f).sys = s.sys := rfl
@[simp] theorem State.onTap_evt (f : Tap → Tap) (s : State) : (s.onTap f).evt = s.evt := rfl
@[simp] theorem State.onTap_pwr (f : Tap → Tap) (s : State) : (s.onTap f).pwr = s.pwr := rfl
@[simp] theorem State.onTap_thm (f : Tap → Tap) (s : State) : (s.onTap f).thm = s.thm := rfl
@[simp] theorem State.onTap_boot (f : Tap → Tap) (s : State) : (s.onTap f).boot = s.boot := rfl
@[simp] theorem State.onTap_hq (f : Tap → Tap) (s : State) : (s.onTap f).hq = s.hq := rfl
@[simp] theorem State.onTap_jrn (f : Tap → Tap) (s : State) : (s.onTap f).jrn = s.jrn := rfl
@[simp] theorem State.onTap_culm (f : Tap → Tap) (s : State) : (s.onTap f).culm = s.culm := rfl
@[simp] theorem State.onTap_time (f : Tap → Tap) (s : State) : (s.onTap f).time = s.time := rfl
@[simp] theorem State.onTap_die (f : Tap → Tap) (s : State) : (s.onTap f).die = s.die := rfl
@[simp] theorem State.onTap_zop (f : Tap → Tap) (s : State) : (s.onTap f).zop = s.zop := rfl
@[simp] theorem State.onTap_ls (f : Tap → Tap) (s : State) : (s.onTap f).ls = s.ls := rfl
@[simp] theorem State.onTap_pgf (f : Tap → Tap) (s : State) : (s.onTap f).pgf = s.pgf := rfl
@[simp] theorem State.onTap_husk (f : Tap → Tap) (s : State) : (s.onTap f).husk = s.husk := rfl
@[simp] theorem State.onTap_shf (f : Tap → Tap) (s : State) : (s.onTap f).shf = s.shf := rfl
@[simp] theorem State.onTap_mov (f : Tap → Tap) (s : State) : (s.onTap f).mov = s.mov := rfl
@[simp] theorem State.onTap_rch (f : Tap → Tap) (s : State) : (s.onTap f).rch = s.rch := rfl
@[simp] theorem State.onTap_srv (f : Tap → Tap) (s : State) : (s.onTap f).srv = s.srv := rfl
@[simp] theorem State.onTap_spn (f : Tap → Tap) (s : State) : (s.onTap f).spn = s.spn := rfl
@[simp] theorem State.onTap_ret (f : Tap → Tap) (s : State) : (s.onTap f).ret = s.ret := rfl
@[simp] theorem State.onTap_mot (f : Tap → Tap) (s : State) : (s.onTap f).mot = s.mot := rfl
@[simp] theorem State.onTap_drv (f : Tap → Tap) (s : State) : (s.onTap f).drv = s.drv := rfl
@[simp] theorem State.onTap_teff (f : Tap → Tap) (s : State) : (s.onTap f).teff = s.teff := rfl
@[simp] theorem State.onTap_hv (f : Tap → Tap) (s : State) : (s.onTap f).hv = s.hv := rfl
@[simp] theorem State.onTap_fus (f : Tap → Tap) (s : State) : (s.onTap f).fus = s.fus := rfl
@[simp] theorem State.onTap_cut (f : Tap → Tap) (s : State) : (s.onTap f).cut = s.cut := rfl
@[simp] theorem State.onTap_cal (f : Tap → Tap) (s : State) : (s.onTap f).cal = s.cal := rfl
@[simp] theorem State.onTap_dram (f : Tap → Tap) (s : State) : (s.onTap f).dram = s.dram := rfl
@[simp] theorem State.onTap_tap (f : Tap → Tap) (s : State) : (s.onTap f).tap = f s.tap := rfl

@[simp] theorem State.onSlot_pending (k : Nat) (f : Slot → Slot) (s : State) : (s.onSlot k f).pending = s.pending := rfl
@[simp] theorem State.onSlot_aonOn (k : Nat) (f : Slot → Slot) (s : State) : (s.onSlot k f).aonOn = s.aonOn := rfl
@[simp] theorem State.onSlot_free (k : Nat) (f : Slot → Slot) (s : State) : (s.onSlot k f).free = s.free := rfl
@[simp] theorem State.onSlot_regs (k : Nat) (f : Slot → Slot) (s : State) : (s.onSlot k f).regs = s.regs := rfl
@[simp] theorem State.onSlot_latched (k : Nat) (f : Slot → Slot) (s : State) : (s.onSlot k f).latched = s.latched := rfl
@[simp] theorem State.onSlot_od (k : Nat) (f : Slot → Slot) (s : State) : (s.onSlot k f).od = s.od := rfl
@[simp] theorem State.onSlot_sys (k : Nat) (f : Slot → Slot) (s : State) : (s.onSlot k f).sys = s.sys := rfl
@[simp] theorem State.onSlot_evt (k : Nat) (f : Slot → Slot) (s : State) : (s.onSlot k f).evt = s.evt := rfl
@[simp] theorem State.onSlot_thm (k : Nat) (f : Slot → Slot) (s : State) : (s.onSlot k f).thm = s.thm := rfl
@[simp] theorem State.onSlot_boot (k : Nat) (f : Slot → Slot) (s : State) : (s.onSlot k f).boot = s.boot := rfl
@[simp] theorem State.onSlot_hq (k : Nat) (f : Slot → Slot) (s : State) : (s.onSlot k f).hq = s.hq := rfl
@[simp] theorem State.onSlot_jrn (k : Nat) (f : Slot → Slot) (s : State) : (s.onSlot k f).jrn = s.jrn := rfl
@[simp] theorem State.onSlot_culm (k : Nat) (f : Slot → Slot) (s : State) : (s.onSlot k f).culm = s.culm := rfl
@[simp] theorem State.onSlot_time (k : Nat) (f : Slot → Slot) (s : State) : (s.onSlot k f).time = s.time := rfl
@[simp] theorem State.onSlot_die (k : Nat) (f : Slot → Slot) (s : State) : (s.onSlot k f).die = s.die := rfl
@[simp] theorem State.onSlot_zop (k : Nat) (f : Slot → Slot) (s : State) : (s.onSlot k f).zop = s.zop := rfl
@[simp] theorem State.onSlot_ls (k : Nat) (f : Slot → Slot) (s : State) : (s.onSlot k f).ls = s.ls := rfl
@[simp] theorem State.onSlot_pgf (k : Nat) (f : Slot → Slot) (s : State) : (s.onSlot k f).pgf = s.pgf := rfl
@[simp] theorem State.onSlot_husk (k : Nat) (f : Slot → Slot) (s : State) : (s.onSlot k f).husk = s.husk := rfl
@[simp] theorem State.onSlot_shf (k : Nat) (f : Slot → Slot) (s : State) : (s.onSlot k f).shf = s.shf := rfl
@[simp] theorem State.onSlot_mov (k : Nat) (f : Slot → Slot) (s : State) : (s.onSlot k f).mov = s.mov := rfl
@[simp] theorem State.onSlot_rch (k : Nat) (f : Slot → Slot) (s : State) : (s.onSlot k f).rch = s.rch := rfl
@[simp] theorem State.onSlot_srv (k : Nat) (f : Slot → Slot) (s : State) : (s.onSlot k f).srv = s.srv := rfl
@[simp] theorem State.onSlot_spn (k : Nat) (f : Slot → Slot) (s : State) : (s.onSlot k f).spn = s.spn := rfl
@[simp] theorem State.onSlot_ret (k : Nat) (f : Slot → Slot) (s : State) : (s.onSlot k f).ret = s.ret := rfl
@[simp] theorem State.onSlot_mot (k : Nat) (f : Slot → Slot) (s : State) : (s.onSlot k f).mot = s.mot := rfl
@[simp] theorem State.onSlot_drv (k : Nat) (f : Slot → Slot) (s : State) : (s.onSlot k f).drv = s.drv := rfl
@[simp] theorem State.onSlot_teff (k : Nat) (f : Slot → Slot) (s : State) : (s.onSlot k f).teff = s.teff := rfl
@[simp] theorem State.onSlot_hv (k : Nat) (f : Slot → Slot) (s : State) : (s.onSlot k f).hv = s.hv := rfl
@[simp] theorem State.onSlot_fus (k : Nat) (f : Slot → Slot) (s : State) : (s.onSlot k f).fus = s.fus := rfl
@[simp] theorem State.onSlot_cut (k : Nat) (f : Slot → Slot) (s : State) : (s.onSlot k f).cut = s.cut := rfl
@[simp] theorem State.onSlot_cal (k : Nat) (f : Slot → Slot) (s : State) : (s.onSlot k f).cal = s.cal := rfl
@[simp] theorem State.onSlot_dram (k : Nat) (f : Slot → Slot) (s : State) : (s.onSlot k f).dram = s.dram := rfl

@[simp] theorem State.onDrv_pending (f : Drv → Drv) (s : State) : (s.onDrv f).pending = s.pending := rfl
@[simp] theorem State.onDrv_aonOn (f : Drv → Drv) (s : State) : (s.onDrv f).aonOn = s.aonOn := rfl
@[simp] theorem State.onDrv_free (f : Drv → Drv) (s : State) : (s.onDrv f).free = s.free := rfl
@[simp] theorem State.onDrv_regs (f : Drv → Drv) (s : State) : (s.onDrv f).regs = s.regs := rfl
@[simp] theorem State.onDrv_latched (f : Drv → Drv) (s : State) : (s.onDrv f).latched = s.latched := rfl
@[simp] theorem State.onDrv_od (f : Drv → Drv) (s : State) : (s.onDrv f).od = s.od := rfl
@[simp] theorem State.onDrv_sys (f : Drv → Drv) (s : State) : (s.onDrv f).sys = s.sys := rfl
@[simp] theorem State.onDrv_evt (f : Drv → Drv) (s : State) : (s.onDrv f).evt = s.evt := rfl
@[simp] theorem State.onDrv_pwr (f : Drv → Drv) (s : State) : (s.onDrv f).pwr = s.pwr := rfl
@[simp] theorem State.onDrv_tap (f : Drv → Drv) (s : State) : (s.onDrv f).tap = s.tap := rfl
@[simp] theorem State.onDrv_thm (f : Drv → Drv) (s : State) : (s.onDrv f).thm = s.thm := rfl
@[simp] theorem State.onDrv_boot (f : Drv → Drv) (s : State) : (s.onDrv f).boot = s.boot := rfl
@[simp] theorem State.onDrv_hq (f : Drv → Drv) (s : State) : (s.onDrv f).hq = s.hq := rfl
@[simp] theorem State.onDrv_jrn (f : Drv → Drv) (s : State) : (s.onDrv f).jrn = s.jrn := rfl
@[simp] theorem State.onDrv_culm (f : Drv → Drv) (s : State) : (s.onDrv f).culm = s.culm := rfl
@[simp] theorem State.onDrv_time (f : Drv → Drv) (s : State) : (s.onDrv f).time = s.time := rfl
@[simp] theorem State.onDrv_die (f : Drv → Drv) (s : State) : (s.onDrv f).die = s.die := rfl
@[simp] theorem State.onDrv_zop (f : Drv → Drv) (s : State) : (s.onDrv f).zop = s.zop := rfl
@[simp] theorem State.onDrv_ls (f : Drv → Drv) (s : State) : (s.onDrv f).ls = s.ls := rfl
@[simp] theorem State.onDrv_pgf (f : Drv → Drv) (s : State) : (s.onDrv f).pgf = s.pgf := rfl
@[simp] theorem State.onDrv_husk (f : Drv → Drv) (s : State) : (s.onDrv f).husk = s.husk := rfl
@[simp] theorem State.onDrv_shf (f : Drv → Drv) (s : State) : (s.onDrv f).shf = s.shf := rfl
@[simp] theorem State.onDrv_mov (f : Drv → Drv) (s : State) : (s.onDrv f).mov = s.mov := rfl
@[simp] theorem State.onDrv_rch (f : Drv → Drv) (s : State) : (s.onDrv f).rch = s.rch := rfl
@[simp] theorem State.onDrv_srv (f : Drv → Drv) (s : State) : (s.onDrv f).srv = s.srv := rfl
@[simp] theorem State.onDrv_spn (f : Drv → Drv) (s : State) : (s.onDrv f).spn = s.spn := rfl
@[simp] theorem State.onDrv_ret (f : Drv → Drv) (s : State) : (s.onDrv f).ret = s.ret := rfl
@[simp] theorem State.onDrv_mot (f : Drv → Drv) (s : State) : (s.onDrv f).mot = s.mot := rfl
@[simp] theorem State.onDrv_drv (f : Drv → Drv) (s : State) : (s.onDrv f).drv = f s.drv := rfl
@[simp] theorem State.onDrv_teff (f : Drv → Drv) (s : State) : (s.onDrv f).teff = s.teff := rfl
@[simp] theorem State.onDrv_hv (f : Drv → Drv) (s : State) : (s.onDrv f).hv = s.hv := rfl
@[simp] theorem State.onDrv_fus (f : Drv → Drv) (s : State) : (s.onDrv f).fus = s.fus := rfl
@[simp] theorem State.onDrv_cut (f : Drv → Drv) (s : State) : (s.onDrv f).cut = s.cut := rfl
@[simp] theorem State.onDrv_cal (f : Drv → Drv) (s : State) : (s.onDrv f).cal = s.cal := rfl
@[simp] theorem State.onDrv_dram (f : Drv → Drv) (s : State) : (s.onDrv f).dram = s.dram := rfl

@[simp] theorem State.onLs_pending (n : Nat) (f : Station → Station) (s : State) : (s.onLs n f).pending = s.pending := rfl
@[simp] theorem State.onLs_aonOn (n : Nat) (f : Station → Station) (s : State) : (s.onLs n f).aonOn = s.aonOn := rfl
@[simp] theorem State.onLs_free (n : Nat) (f : Station → Station) (s : State) : (s.onLs n f).free = s.free := rfl
@[simp] theorem State.onLs_regs (n : Nat) (f : Station → Station) (s : State) : (s.onLs n f).regs = s.regs := rfl
@[simp] theorem State.onLs_latched (n : Nat) (f : Station → Station) (s : State) : (s.onLs n f).latched = s.latched := rfl
@[simp] theorem State.onLs_od (n : Nat) (f : Station → Station) (s : State) : (s.onLs n f).od = s.od := rfl
@[simp] theorem State.onLs_sys (n : Nat) (f : Station → Station) (s : State) : (s.onLs n f).sys = s.sys := rfl
@[simp] theorem State.onLs_evt (n : Nat) (f : Station → Station) (s : State) : (s.onLs n f).evt = s.evt := rfl
@[simp] theorem State.onLs_pwr (n : Nat) (f : Station → Station) (s : State) : (s.onLs n f).pwr = s.pwr := rfl
@[simp] theorem State.onLs_tap (n : Nat) (f : Station → Station) (s : State) : (s.onLs n f).tap = s.tap := rfl
@[simp] theorem State.onLs_thm (n : Nat) (f : Station → Station) (s : State) : (s.onLs n f).thm = s.thm := rfl
@[simp] theorem State.onLs_boot (n : Nat) (f : Station → Station) (s : State) : (s.onLs n f).boot = s.boot := rfl
@[simp] theorem State.onLs_hq (n : Nat) (f : Station → Station) (s : State) : (s.onLs n f).hq = s.hq := rfl
@[simp] theorem State.onLs_jrn (n : Nat) (f : Station → Station) (s : State) : (s.onLs n f).jrn = s.jrn := rfl
@[simp] theorem State.onLs_culm (n : Nat) (f : Station → Station) (s : State) : (s.onLs n f).culm = s.culm := rfl
@[simp] theorem State.onLs_time (n : Nat) (f : Station → Station) (s : State) : (s.onLs n f).time = s.time := rfl
@[simp] theorem State.onLs_die (n : Nat) (f : Station → Station) (s : State) : (s.onLs n f).die = s.die := rfl
@[simp] theorem State.onLs_zop (n : Nat) (f : Station → Station) (s : State) : (s.onLs n f).zop = s.zop := rfl
@[simp] theorem State.onLs_pgf (n : Nat) (f : Station → Station) (s : State) : (s.onLs n f).pgf = s.pgf := rfl
@[simp] theorem State.onLs_husk (n : Nat) (f : Station → Station) (s : State) : (s.onLs n f).husk = s.husk := rfl
@[simp] theorem State.onLs_shf (n : Nat) (f : Station → Station) (s : State) : (s.onLs n f).shf = s.shf := rfl
@[simp] theorem State.onLs_mov (n : Nat) (f : Station → Station) (s : State) : (s.onLs n f).mov = s.mov := rfl
@[simp] theorem State.onLs_rch (n : Nat) (f : Station → Station) (s : State) : (s.onLs n f).rch = s.rch := rfl
@[simp] theorem State.onLs_srv (n : Nat) (f : Station → Station) (s : State) : (s.onLs n f).srv = s.srv := rfl
@[simp] theorem State.onLs_spn (n : Nat) (f : Station → Station) (s : State) : (s.onLs n f).spn = s.spn := rfl
@[simp] theorem State.onLs_ret (n : Nat) (f : Station → Station) (s : State) : (s.onLs n f).ret = s.ret := rfl
@[simp] theorem State.onLs_mot (n : Nat) (f : Station → Station) (s : State) : (s.onLs n f).mot = s.mot := rfl
@[simp] theorem State.onLs_drv (n : Nat) (f : Station → Station) (s : State) : (s.onLs n f).drv = s.drv := rfl
@[simp] theorem State.onLs_teff (n : Nat) (f : Station → Station) (s : State) : (s.onLs n f).teff = s.teff := rfl
@[simp] theorem State.onLs_hv (n : Nat) (f : Station → Station) (s : State) : (s.onLs n f).hv = s.hv := rfl
@[simp] theorem State.onLs_fus (n : Nat) (f : Station → Station) (s : State) : (s.onLs n f).fus = s.fus := rfl
@[simp] theorem State.onLs_cut (n : Nat) (f : Station → Station) (s : State) : (s.onLs n f).cut = s.cut := rfl
@[simp] theorem State.onLs_cal (n : Nat) (f : Station → Station) (s : State) : (s.onLs n f).cal = s.cal := rfl
@[simp] theorem State.onLs_dram (n : Nat) (f : Station → Station) (s : State) : (s.onLs n f).dram = s.dram := rfl

@[simp] theorem State.onHv_pending (k : Nat) (f : HvCh → HvCh) (s : State) : (s.onHv k f).pending = s.pending := rfl
@[simp] theorem State.onHv_aonOn (k : Nat) (f : HvCh → HvCh) (s : State) : (s.onHv k f).aonOn = s.aonOn := rfl
@[simp] theorem State.onHv_free (k : Nat) (f : HvCh → HvCh) (s : State) : (s.onHv k f).free = s.free := rfl
@[simp] theorem State.onHv_regs (k : Nat) (f : HvCh → HvCh) (s : State) : (s.onHv k f).regs = s.regs := rfl
@[simp] theorem State.onHv_latched (k : Nat) (f : HvCh → HvCh) (s : State) : (s.onHv k f).latched = s.latched := rfl
@[simp] theorem State.onHv_od (k : Nat) (f : HvCh → HvCh) (s : State) : (s.onHv k f).od = s.od := rfl
@[simp] theorem State.onHv_sys (k : Nat) (f : HvCh → HvCh) (s : State) : (s.onHv k f).sys = s.sys := rfl
@[simp] theorem State.onHv_evt (k : Nat) (f : HvCh → HvCh) (s : State) : (s.onHv k f).evt = s.evt := rfl
@[simp] theorem State.onHv_pwr (k : Nat) (f : HvCh → HvCh) (s : State) : (s.onHv k f).pwr = s.pwr := rfl
@[simp] theorem State.onHv_tap (k : Nat) (f : HvCh → HvCh) (s : State) : (s.onHv k f).tap = s.tap := rfl
@[simp] theorem State.onHv_thm (k : Nat) (f : HvCh → HvCh) (s : State) : (s.onHv k f).thm = s.thm := rfl
@[simp] theorem State.onHv_boot (k : Nat) (f : HvCh → HvCh) (s : State) : (s.onHv k f).boot = s.boot := rfl
@[simp] theorem State.onHv_hq (k : Nat) (f : HvCh → HvCh) (s : State) : (s.onHv k f).hq = s.hq := rfl
@[simp] theorem State.onHv_jrn (k : Nat) (f : HvCh → HvCh) (s : State) : (s.onHv k f).jrn = s.jrn := rfl
@[simp] theorem State.onHv_culm (k : Nat) (f : HvCh → HvCh) (s : State) : (s.onHv k f).culm = s.culm := rfl
@[simp] theorem State.onHv_time (k : Nat) (f : HvCh → HvCh) (s : State) : (s.onHv k f).time = s.time := rfl
@[simp] theorem State.onHv_die (k : Nat) (f : HvCh → HvCh) (s : State) : (s.onHv k f).die = s.die := rfl
@[simp] theorem State.onHv_zop (k : Nat) (f : HvCh → HvCh) (s : State) : (s.onHv k f).zop = s.zop := rfl
@[simp] theorem State.onHv_ls (k : Nat) (f : HvCh → HvCh) (s : State) : (s.onHv k f).ls = s.ls := rfl
@[simp] theorem State.onHv_pgf (k : Nat) (f : HvCh → HvCh) (s : State) : (s.onHv k f).pgf = s.pgf := rfl
@[simp] theorem State.onHv_husk (k : Nat) (f : HvCh → HvCh) (s : State) : (s.onHv k f).husk = s.husk := rfl
@[simp] theorem State.onHv_shf (k : Nat) (f : HvCh → HvCh) (s : State) : (s.onHv k f).shf = s.shf := rfl
@[simp] theorem State.onHv_mov (k : Nat) (f : HvCh → HvCh) (s : State) : (s.onHv k f).mov = s.mov := rfl
@[simp] theorem State.onHv_rch (k : Nat) (f : HvCh → HvCh) (s : State) : (s.onHv k f).rch = s.rch := rfl
@[simp] theorem State.onHv_srv (k : Nat) (f : HvCh → HvCh) (s : State) : (s.onHv k f).srv = s.srv := rfl
@[simp] theorem State.onHv_spn (k : Nat) (f : HvCh → HvCh) (s : State) : (s.onHv k f).spn = s.spn := rfl
@[simp] theorem State.onHv_ret (k : Nat) (f : HvCh → HvCh) (s : State) : (s.onHv k f).ret = s.ret := rfl
@[simp] theorem State.onHv_mot (k : Nat) (f : HvCh → HvCh) (s : State) : (s.onHv k f).mot = s.mot := rfl
@[simp] theorem State.onHv_drv (k : Nat) (f : HvCh → HvCh) (s : State) : (s.onHv k f).drv = s.drv := rfl
@[simp] theorem State.onHv_teff (k : Nat) (f : HvCh → HvCh) (s : State) : (s.onHv k f).teff = s.teff := rfl
@[simp] theorem State.onHv_fus (k : Nat) (f : HvCh → HvCh) (s : State) : (s.onHv k f).fus = s.fus := rfl
@[simp] theorem State.onHv_cut (k : Nat) (f : HvCh → HvCh) (s : State) : (s.onHv k f).cut = s.cut := rfl
@[simp] theorem State.onHv_cal (k : Nat) (f : HvCh → HvCh) (s : State) : (s.onHv k f).cal = s.cal := rfl
@[simp] theorem State.onHv_dram (k : Nat) (f : HvCh → HvCh) (s : State) : (s.onHv k f).dram = s.dram := rfl

@[simp] theorem State.onFus_pending (k : Nat) (f : FusCh → FusCh) (s : State) : (s.onFus k f).pending = s.pending := rfl
@[simp] theorem State.onFus_aonOn (k : Nat) (f : FusCh → FusCh) (s : State) : (s.onFus k f).aonOn = s.aonOn := rfl
@[simp] theorem State.onFus_free (k : Nat) (f : FusCh → FusCh) (s : State) : (s.onFus k f).free = s.free := rfl
@[simp] theorem State.onFus_regs (k : Nat) (f : FusCh → FusCh) (s : State) : (s.onFus k f).regs = s.regs := rfl
@[simp] theorem State.onFus_latched (k : Nat) (f : FusCh → FusCh) (s : State) : (s.onFus k f).latched = s.latched := rfl
@[simp] theorem State.onFus_od (k : Nat) (f : FusCh → FusCh) (s : State) : (s.onFus k f).od = s.od := rfl
@[simp] theorem State.onFus_sys (k : Nat) (f : FusCh → FusCh) (s : State) : (s.onFus k f).sys = s.sys := rfl
@[simp] theorem State.onFus_evt (k : Nat) (f : FusCh → FusCh) (s : State) : (s.onFus k f).evt = s.evt := rfl
@[simp] theorem State.onFus_pwr (k : Nat) (f : FusCh → FusCh) (s : State) : (s.onFus k f).pwr = s.pwr := rfl
@[simp] theorem State.onFus_tap (k : Nat) (f : FusCh → FusCh) (s : State) : (s.onFus k f).tap = s.tap := rfl
@[simp] theorem State.onFus_thm (k : Nat) (f : FusCh → FusCh) (s : State) : (s.onFus k f).thm = s.thm := rfl
@[simp] theorem State.onFus_boot (k : Nat) (f : FusCh → FusCh) (s : State) : (s.onFus k f).boot = s.boot := rfl
@[simp] theorem State.onFus_hq (k : Nat) (f : FusCh → FusCh) (s : State) : (s.onFus k f).hq = s.hq := rfl
@[simp] theorem State.onFus_jrn (k : Nat) (f : FusCh → FusCh) (s : State) : (s.onFus k f).jrn = s.jrn := rfl
@[simp] theorem State.onFus_culm (k : Nat) (f : FusCh → FusCh) (s : State) : (s.onFus k f).culm = s.culm := rfl
@[simp] theorem State.onFus_time (k : Nat) (f : FusCh → FusCh) (s : State) : (s.onFus k f).time = s.time := rfl
@[simp] theorem State.onFus_die (k : Nat) (f : FusCh → FusCh) (s : State) : (s.onFus k f).die = s.die := rfl
@[simp] theorem State.onFus_zop (k : Nat) (f : FusCh → FusCh) (s : State) : (s.onFus k f).zop = s.zop := rfl
@[simp] theorem State.onFus_ls (k : Nat) (f : FusCh → FusCh) (s : State) : (s.onFus k f).ls = s.ls := rfl
@[simp] theorem State.onFus_pgf (k : Nat) (f : FusCh → FusCh) (s : State) : (s.onFus k f).pgf = s.pgf := rfl
@[simp] theorem State.onFus_husk (k : Nat) (f : FusCh → FusCh) (s : State) : (s.onFus k f).husk = s.husk := rfl
@[simp] theorem State.onFus_shf (k : Nat) (f : FusCh → FusCh) (s : State) : (s.onFus k f).shf = s.shf := rfl
@[simp] theorem State.onFus_mov (k : Nat) (f : FusCh → FusCh) (s : State) : (s.onFus k f).mov = s.mov := rfl
@[simp] theorem State.onFus_rch (k : Nat) (f : FusCh → FusCh) (s : State) : (s.onFus k f).rch = s.rch := rfl
@[simp] theorem State.onFus_srv (k : Nat) (f : FusCh → FusCh) (s : State) : (s.onFus k f).srv = s.srv := rfl
@[simp] theorem State.onFus_spn (k : Nat) (f : FusCh → FusCh) (s : State) : (s.onFus k f).spn = s.spn := rfl
@[simp] theorem State.onFus_ret (k : Nat) (f : FusCh → FusCh) (s : State) : (s.onFus k f).ret = s.ret := rfl
@[simp] theorem State.onFus_mot (k : Nat) (f : FusCh → FusCh) (s : State) : (s.onFus k f).mot = s.mot := rfl
@[simp] theorem State.onFus_drv (k : Nat) (f : FusCh → FusCh) (s : State) : (s.onFus k f).drv = s.drv := rfl
@[simp] theorem State.onFus_teff (k : Nat) (f : FusCh → FusCh) (s : State) : (s.onFus k f).teff = s.teff := rfl
@[simp] theorem State.onFus_hv (k : Nat) (f : FusCh → FusCh) (s : State) : (s.onFus k f).hv = s.hv := rfl
@[simp] theorem State.onFus_cut (k : Nat) (f : FusCh → FusCh) (s : State) : (s.onFus k f).cut = s.cut := rfl
@[simp] theorem State.onFus_cal (k : Nat) (f : FusCh → FusCh) (s : State) : (s.onFus k f).cal = s.cal := rfl
@[simp] theorem State.onFus_dram (k : Nat) (f : FusCh → FusCh) (s : State) : (s.onFus k f).dram = s.dram := rfl

@[simp] theorem State.onDu_pending (u : Nat) (f : DUnit → DUnit) (s : State) : (s.onDu u f).pending = s.pending := rfl
@[simp] theorem State.onDu_aonOn (u : Nat) (f : DUnit → DUnit) (s : State) : (s.onDu u f).aonOn = s.aonOn := rfl
@[simp] theorem State.onDu_free (u : Nat) (f : DUnit → DUnit) (s : State) : (s.onDu u f).free = s.free := rfl
@[simp] theorem State.onDu_regs (u : Nat) (f : DUnit → DUnit) (s : State) : (s.onDu u f).regs = s.regs := rfl
@[simp] theorem State.onDu_latched (u : Nat) (f : DUnit → DUnit) (s : State) : (s.onDu u f).latched = s.latched := rfl
@[simp] theorem State.onDu_od (u : Nat) (f : DUnit → DUnit) (s : State) : (s.onDu u f).od = s.od := rfl
@[simp] theorem State.onDu_sys (u : Nat) (f : DUnit → DUnit) (s : State) : (s.onDu u f).sys = s.sys := rfl
@[simp] theorem State.onDu_evt (u : Nat) (f : DUnit → DUnit) (s : State) : (s.onDu u f).evt = s.evt := rfl
@[simp] theorem State.onDu_pwr (u : Nat) (f : DUnit → DUnit) (s : State) : (s.onDu u f).pwr = s.pwr := rfl
@[simp] theorem State.onDu_tap (u : Nat) (f : DUnit → DUnit) (s : State) : (s.onDu u f).tap = s.tap := rfl
@[simp] theorem State.onDu_thm (u : Nat) (f : DUnit → DUnit) (s : State) : (s.onDu u f).thm = s.thm := rfl
@[simp] theorem State.onDu_boot (u : Nat) (f : DUnit → DUnit) (s : State) : (s.onDu u f).boot = s.boot := rfl
@[simp] theorem State.onDu_hq (u : Nat) (f : DUnit → DUnit) (s : State) : (s.onDu u f).hq = s.hq := rfl
@[simp] theorem State.onDu_jrn (u : Nat) (f : DUnit → DUnit) (s : State) : (s.onDu u f).jrn = s.jrn := rfl
@[simp] theorem State.onDu_culm (u : Nat) (f : DUnit → DUnit) (s : State) : (s.onDu u f).culm = s.culm := rfl
@[simp] theorem State.onDu_time (u : Nat) (f : DUnit → DUnit) (s : State) : (s.onDu u f).time = s.time := rfl
@[simp] theorem State.onDu_die (u : Nat) (f : DUnit → DUnit) (s : State) : (s.onDu u f).die = s.die := rfl
@[simp] theorem State.onDu_zop (u : Nat) (f : DUnit → DUnit) (s : State) : (s.onDu u f).zop = s.zop := rfl
@[simp] theorem State.onDu_ls (u : Nat) (f : DUnit → DUnit) (s : State) : (s.onDu u f).ls = s.ls := rfl
@[simp] theorem State.onDu_pgf (u : Nat) (f : DUnit → DUnit) (s : State) : (s.onDu u f).pgf = s.pgf := rfl
@[simp] theorem State.onDu_husk (u : Nat) (f : DUnit → DUnit) (s : State) : (s.onDu u f).husk = s.husk := rfl
@[simp] theorem State.onDu_shf (u : Nat) (f : DUnit → DUnit) (s : State) : (s.onDu u f).shf = s.shf := rfl
@[simp] theorem State.onDu_mov (u : Nat) (f : DUnit → DUnit) (s : State) : (s.onDu u f).mov = s.mov := rfl
@[simp] theorem State.onDu_rch (u : Nat) (f : DUnit → DUnit) (s : State) : (s.onDu u f).rch = s.rch := rfl
@[simp] theorem State.onDu_srv (u : Nat) (f : DUnit → DUnit) (s : State) : (s.onDu u f).srv = s.srv := rfl
@[simp] theorem State.onDu_spn (u : Nat) (f : DUnit → DUnit) (s : State) : (s.onDu u f).spn = s.spn := rfl
@[simp] theorem State.onDu_ret (u : Nat) (f : DUnit → DUnit) (s : State) : (s.onDu u f).ret = s.ret := rfl
@[simp] theorem State.onDu_mot (u : Nat) (f : DUnit → DUnit) (s : State) : (s.onDu u f).mot = s.mot := rfl
@[simp] theorem State.onDu_teff (u : Nat) (f : DUnit → DUnit) (s : State) : (s.onDu u f).teff = s.teff := rfl
@[simp] theorem State.onDu_hv (u : Nat) (f : DUnit → DUnit) (s : State) : (s.onDu u f).hv = s.hv := rfl
@[simp] theorem State.onDu_fus (u : Nat) (f : DUnit → DUnit) (s : State) : (s.onDu u f).fus = s.fus := rfl
@[simp] theorem State.onDu_cut (u : Nat) (f : DUnit → DUnit) (s : State) : (s.onDu u f).cut = s.cut := rfl
@[simp] theorem State.onDu_cal (u : Nat) (f : DUnit → DUnit) (s : State) : (s.onDu u f).cal = s.cal := rfl
@[simp] theorem State.onDu_dram (u : Nat) (f : DUnit → DUnit) (s : State) : (s.onDu u f).dram = s.dram := rfl

@[simp] theorem State.onMx_pending (k : Nat) (f : MAxis → MAxis) (s : State) : (s.onMx k f).pending = s.pending := rfl
@[simp] theorem State.onMx_aonOn (k : Nat) (f : MAxis → MAxis) (s : State) : (s.onMx k f).aonOn = s.aonOn := rfl
@[simp] theorem State.onMx_free (k : Nat) (f : MAxis → MAxis) (s : State) : (s.onMx k f).free = s.free := rfl
@[simp] theorem State.onMx_regs (k : Nat) (f : MAxis → MAxis) (s : State) : (s.onMx k f).regs = s.regs := rfl
@[simp] theorem State.onMx_latched (k : Nat) (f : MAxis → MAxis) (s : State) : (s.onMx k f).latched = s.latched := rfl
@[simp] theorem State.onMx_od (k : Nat) (f : MAxis → MAxis) (s : State) : (s.onMx k f).od = s.od := rfl
@[simp] theorem State.onMx_sys (k : Nat) (f : MAxis → MAxis) (s : State) : (s.onMx k f).sys = s.sys := rfl
@[simp] theorem State.onMx_evt (k : Nat) (f : MAxis → MAxis) (s : State) : (s.onMx k f).evt = s.evt := rfl
@[simp] theorem State.onMx_pwr (k : Nat) (f : MAxis → MAxis) (s : State) : (s.onMx k f).pwr = s.pwr := rfl
@[simp] theorem State.onMx_tap (k : Nat) (f : MAxis → MAxis) (s : State) : (s.onMx k f).tap = s.tap := rfl
@[simp] theorem State.onMx_thm (k : Nat) (f : MAxis → MAxis) (s : State) : (s.onMx k f).thm = s.thm := rfl
@[simp] theorem State.onMx_boot (k : Nat) (f : MAxis → MAxis) (s : State) : (s.onMx k f).boot = s.boot := rfl
@[simp] theorem State.onMx_hq (k : Nat) (f : MAxis → MAxis) (s : State) : (s.onMx k f).hq = s.hq := rfl
@[simp] theorem State.onMx_jrn (k : Nat) (f : MAxis → MAxis) (s : State) : (s.onMx k f).jrn = s.jrn := rfl
@[simp] theorem State.onMx_culm (k : Nat) (f : MAxis → MAxis) (s : State) : (s.onMx k f).culm = s.culm := rfl
@[simp] theorem State.onMx_time (k : Nat) (f : MAxis → MAxis) (s : State) : (s.onMx k f).time = s.time := rfl
@[simp] theorem State.onMx_die (k : Nat) (f : MAxis → MAxis) (s : State) : (s.onMx k f).die = s.die := rfl
@[simp] theorem State.onMx_zop (k : Nat) (f : MAxis → MAxis) (s : State) : (s.onMx k f).zop = s.zop := rfl
@[simp] theorem State.onMx_ls (k : Nat) (f : MAxis → MAxis) (s : State) : (s.onMx k f).ls = s.ls := rfl
@[simp] theorem State.onMx_pgf (k : Nat) (f : MAxis → MAxis) (s : State) : (s.onMx k f).pgf = s.pgf := rfl
@[simp] theorem State.onMx_husk (k : Nat) (f : MAxis → MAxis) (s : State) : (s.onMx k f).husk = s.husk := rfl
@[simp] theorem State.onMx_shf (k : Nat) (f : MAxis → MAxis) (s : State) : (s.onMx k f).shf = s.shf := rfl
@[simp] theorem State.onMx_mov (k : Nat) (f : MAxis → MAxis) (s : State) : (s.onMx k f).mov = s.mov := rfl
@[simp] theorem State.onMx_rch (k : Nat) (f : MAxis → MAxis) (s : State) : (s.onMx k f).rch = s.rch := rfl
@[simp] theorem State.onMx_srv (k : Nat) (f : MAxis → MAxis) (s : State) : (s.onMx k f).srv = s.srv := rfl
@[simp] theorem State.onMx_spn (k : Nat) (f : MAxis → MAxis) (s : State) : (s.onMx k f).spn = s.spn := rfl
@[simp] theorem State.onMx_ret (k : Nat) (f : MAxis → MAxis) (s : State) : (s.onMx k f).ret = s.ret := rfl
@[simp] theorem State.onMx_drv (k : Nat) (f : MAxis → MAxis) (s : State) : (s.onMx k f).drv = s.drv := rfl
@[simp] theorem State.onMx_teff (k : Nat) (f : MAxis → MAxis) (s : State) : (s.onMx k f).teff = s.teff := rfl
@[simp] theorem State.onMx_hv (k : Nat) (f : MAxis → MAxis) (s : State) : (s.onMx k f).hv = s.hv := rfl
@[simp] theorem State.onMx_fus (k : Nat) (f : MAxis → MAxis) (s : State) : (s.onMx k f).fus = s.fus := rfl
@[simp] theorem State.onMx_cut (k : Nat) (f : MAxis → MAxis) (s : State) : (s.onMx k f).cut = s.cut := rfl
@[simp] theorem State.onMx_cal (k : Nat) (f : MAxis → MAxis) (s : State) : (s.onMx k f).cal = s.cal := rfl
@[simp] theorem State.onMx_dram (k : Nat) (f : MAxis → MAxis) (s : State) : (s.onMx k f).dram = s.dram := rfl

@[simp] theorem State.onEvt_pending (f : Evt → Evt) (s : State) : (s.onEvt f).pending = s.pending := rfl
@[simp] theorem State.onEvt_aonOn (f : Evt → Evt) (s : State) : (s.onEvt f).aonOn = s.aonOn := rfl
@[simp] theorem State.onEvt_free (f : Evt → Evt) (s : State) : (s.onEvt f).free = s.free := rfl
@[simp] theorem State.onEvt_regs (f : Evt → Evt) (s : State) : (s.onEvt f).regs = s.regs := rfl
@[simp] theorem State.onEvt_latched (f : Evt → Evt) (s : State) : (s.onEvt f).latched = s.latched := rfl
@[simp] theorem State.onEvt_od (f : Evt → Evt) (s : State) : (s.onEvt f).od = s.od := rfl
@[simp] theorem State.onEvt_sys (f : Evt → Evt) (s : State) : (s.onEvt f).sys = s.sys := rfl
@[simp] theorem State.onEvt_evt (f : Evt → Evt) (s : State) : (s.onEvt f).evt = f s.evt := rfl
@[simp] theorem State.onEvt_pwr (f : Evt → Evt) (s : State) : (s.onEvt f).pwr = s.pwr := rfl
@[simp] theorem State.onEvt_tap (f : Evt → Evt) (s : State) : (s.onEvt f).tap = s.tap := rfl
@[simp] theorem State.onEvt_thm (f : Evt → Evt) (s : State) : (s.onEvt f).thm = s.thm := rfl
@[simp] theorem State.onEvt_boot (f : Evt → Evt) (s : State) : (s.onEvt f).boot = s.boot := rfl
@[simp] theorem State.onEvt_hq (f : Evt → Evt) (s : State) : (s.onEvt f).hq = s.hq := rfl
@[simp] theorem State.onEvt_jrn (f : Evt → Evt) (s : State) : (s.onEvt f).jrn = s.jrn := rfl
@[simp] theorem State.onEvt_culm (f : Evt → Evt) (s : State) : (s.onEvt f).culm = s.culm := rfl
@[simp] theorem State.onEvt_time (f : Evt → Evt) (s : State) : (s.onEvt f).time = s.time := rfl
@[simp] theorem State.onEvt_die (f : Evt → Evt) (s : State) : (s.onEvt f).die = s.die := rfl
@[simp] theorem State.onEvt_zop (f : Evt → Evt) (s : State) : (s.onEvt f).zop = s.zop := rfl
@[simp] theorem State.onEvt_ls (f : Evt → Evt) (s : State) : (s.onEvt f).ls = s.ls := rfl
@[simp] theorem State.onEvt_pgf (f : Evt → Evt) (s : State) : (s.onEvt f).pgf = s.pgf := rfl
@[simp] theorem State.onEvt_husk (f : Evt → Evt) (s : State) : (s.onEvt f).husk = s.husk := rfl
@[simp] theorem State.onEvt_shf (f : Evt → Evt) (s : State) : (s.onEvt f).shf = s.shf := rfl
@[simp] theorem State.onEvt_mov (f : Evt → Evt) (s : State) : (s.onEvt f).mov = s.mov := rfl
@[simp] theorem State.onEvt_rch (f : Evt → Evt) (s : State) : (s.onEvt f).rch = s.rch := rfl
@[simp] theorem State.onEvt_srv (f : Evt → Evt) (s : State) : (s.onEvt f).srv = s.srv := rfl
@[simp] theorem State.onEvt_spn (f : Evt → Evt) (s : State) : (s.onEvt f).spn = s.spn := rfl
@[simp] theorem State.onEvt_ret (f : Evt → Evt) (s : State) : (s.onEvt f).ret = s.ret := rfl
@[simp] theorem State.onEvt_mot (f : Evt → Evt) (s : State) : (s.onEvt f).mot = s.mot := rfl
@[simp] theorem State.onEvt_drv (f : Evt → Evt) (s : State) : (s.onEvt f).drv = s.drv := rfl
@[simp] theorem State.onEvt_teff (f : Evt → Evt) (s : State) : (s.onEvt f).teff = s.teff := rfl
@[simp] theorem State.onEvt_hv (f : Evt → Evt) (s : State) : (s.onEvt f).hv = s.hv := rfl
@[simp] theorem State.onEvt_fus (f : Evt → Evt) (s : State) : (s.onEvt f).fus = s.fus := rfl
@[simp] theorem State.onEvt_cut (f : Evt → Evt) (s : State) : (s.onEvt f).cut = s.cut := rfl
@[simp] theorem State.onEvt_cal (f : Evt → Evt) (s : State) : (s.onEvt f).cal = s.cal := rfl
@[simp] theorem State.onEvt_dram (f : Evt → Evt) (s : State) : (s.onEvt f).dram = s.dram := rfl

@[simp] theorem State.onDesc_pending (q i : Nat) (f : Desc → Desc) (s : State) : (s.onDesc q i f).pending = s.pending := rfl
@[simp] theorem State.onDesc_aonOn (q i : Nat) (f : Desc → Desc) (s : State) : (s.onDesc q i f).aonOn = s.aonOn := rfl
@[simp] theorem State.onDesc_free (q i : Nat) (f : Desc → Desc) (s : State) : (s.onDesc q i f).free = s.free := rfl
@[simp] theorem State.onDesc_regs (q i : Nat) (f : Desc → Desc) (s : State) : (s.onDesc q i f).regs = s.regs := rfl
@[simp] theorem State.onDesc_latched (q i : Nat) (f : Desc → Desc) (s : State) : (s.onDesc q i f).latched = s.latched := rfl
@[simp] theorem State.onDesc_od (q i : Nat) (f : Desc → Desc) (s : State) : (s.onDesc q i f).od = s.od := rfl
@[simp] theorem State.onDesc_sys (q i : Nat) (f : Desc → Desc) (s : State) : (s.onDesc q i f).sys = s.sys := rfl
@[simp] theorem State.onDesc_evt (q i : Nat) (f : Desc → Desc) (s : State) : (s.onDesc q i f).evt = s.evt := rfl
@[simp] theorem State.onDesc_pwr (q i : Nat) (f : Desc → Desc) (s : State) : (s.onDesc q i f).pwr = s.pwr := rfl
@[simp] theorem State.onDesc_tap (q i : Nat) (f : Desc → Desc) (s : State) : (s.onDesc q i f).tap = s.tap := rfl
@[simp] theorem State.onDesc_thm (q i : Nat) (f : Desc → Desc) (s : State) : (s.onDesc q i f).thm = s.thm := rfl
@[simp] theorem State.onDesc_boot (q i : Nat) (f : Desc → Desc) (s : State) : (s.onDesc q i f).boot = s.boot := rfl
@[simp] theorem State.onDesc_jrn (q i : Nat) (f : Desc → Desc) (s : State) : (s.onDesc q i f).jrn = s.jrn := rfl
@[simp] theorem State.onDesc_culm (q i : Nat) (f : Desc → Desc) (s : State) : (s.onDesc q i f).culm = s.culm := rfl
@[simp] theorem State.onDesc_time (q i : Nat) (f : Desc → Desc) (s : State) : (s.onDesc q i f).time = s.time := rfl
@[simp] theorem State.onDesc_die (q i : Nat) (f : Desc → Desc) (s : State) : (s.onDesc q i f).die = s.die := rfl
@[simp] theorem State.onDesc_zop (q i : Nat) (f : Desc → Desc) (s : State) : (s.onDesc q i f).zop = s.zop := rfl
@[simp] theorem State.onDesc_ls (q i : Nat) (f : Desc → Desc) (s : State) : (s.onDesc q i f).ls = s.ls := rfl
@[simp] theorem State.onDesc_pgf (q i : Nat) (f : Desc → Desc) (s : State) : (s.onDesc q i f).pgf = s.pgf := rfl
@[simp] theorem State.onDesc_husk (q i : Nat) (f : Desc → Desc) (s : State) : (s.onDesc q i f).husk = s.husk := rfl
@[simp] theorem State.onDesc_shf (q i : Nat) (f : Desc → Desc) (s : State) : (s.onDesc q i f).shf = s.shf := rfl
@[simp] theorem State.onDesc_mov (q i : Nat) (f : Desc → Desc) (s : State) : (s.onDesc q i f).mov = s.mov := rfl
@[simp] theorem State.onDesc_rch (q i : Nat) (f : Desc → Desc) (s : State) : (s.onDesc q i f).rch = s.rch := rfl
@[simp] theorem State.onDesc_srv (q i : Nat) (f : Desc → Desc) (s : State) : (s.onDesc q i f).srv = s.srv := rfl
@[simp] theorem State.onDesc_spn (q i : Nat) (f : Desc → Desc) (s : State) : (s.onDesc q i f).spn = s.spn := rfl
@[simp] theorem State.onDesc_ret (q i : Nat) (f : Desc → Desc) (s : State) : (s.onDesc q i f).ret = s.ret := rfl
@[simp] theorem State.onDesc_mot (q i : Nat) (f : Desc → Desc) (s : State) : (s.onDesc q i f).mot = s.mot := rfl
@[simp] theorem State.onDesc_drv (q i : Nat) (f : Desc → Desc) (s : State) : (s.onDesc q i f).drv = s.drv := rfl
@[simp] theorem State.onDesc_teff (q i : Nat) (f : Desc → Desc) (s : State) : (s.onDesc q i f).teff = s.teff := rfl
@[simp] theorem State.onDesc_hv (q i : Nat) (f : Desc → Desc) (s : State) : (s.onDesc q i f).hv = s.hv := rfl
@[simp] theorem State.onDesc_fus (q i : Nat) (f : Desc → Desc) (s : State) : (s.onDesc q i f).fus = s.fus := rfl
@[simp] theorem State.onDesc_cut (q i : Nat) (f : Desc → Desc) (s : State) : (s.onDesc q i f).cut = s.cut := rfl
@[simp] theorem State.onDesc_cal (q i : Nat) (f : Desc → Desc) (s : State) : (s.onDesc q i f).cal = s.cal := rfl
@[simp] theorem State.onDesc_dram (q i : Nat) (f : Desc → Desc) (s : State) : (s.onDesc q i f).dram = s.dram := rfl

@[simp] theorem State.onHq_pending (f : Hq → Hq) (s : State) : (s.onHq f).pending = s.pending := rfl
@[simp] theorem State.onHq_aonOn (f : Hq → Hq) (s : State) : (s.onHq f).aonOn = s.aonOn := rfl
@[simp] theorem State.onHq_free (f : Hq → Hq) (s : State) : (s.onHq f).free = s.free := rfl
@[simp] theorem State.onHq_regs (f : Hq → Hq) (s : State) : (s.onHq f).regs = s.regs := rfl
@[simp] theorem State.onHq_latched (f : Hq → Hq) (s : State) : (s.onHq f).latched = s.latched := rfl
@[simp] theorem State.onHq_od (f : Hq → Hq) (s : State) : (s.onHq f).od = s.od := rfl
@[simp] theorem State.onHq_sys (f : Hq → Hq) (s : State) : (s.onHq f).sys = s.sys := rfl
@[simp] theorem State.onHq_evt (f : Hq → Hq) (s : State) : (s.onHq f).evt = s.evt := rfl
@[simp] theorem State.onHq_pwr (f : Hq → Hq) (s : State) : (s.onHq f).pwr = s.pwr := rfl
@[simp] theorem State.onHq_tap (f : Hq → Hq) (s : State) : (s.onHq f).tap = s.tap := rfl
@[simp] theorem State.onHq_thm (f : Hq → Hq) (s : State) : (s.onHq f).thm = s.thm := rfl
@[simp] theorem State.onHq_boot (f : Hq → Hq) (s : State) : (s.onHq f).boot = s.boot := rfl
@[simp] theorem State.onHq_hq (f : Hq → Hq) (s : State) : (s.onHq f).hq = f s.hq := rfl
@[simp] theorem State.onHq_jrn (f : Hq → Hq) (s : State) : (s.onHq f).jrn = s.jrn := rfl
@[simp] theorem State.onHq_culm (f : Hq → Hq) (s : State) : (s.onHq f).culm = s.culm := rfl
@[simp] theorem State.onHq_time (f : Hq → Hq) (s : State) : (s.onHq f).time = s.time := rfl
@[simp] theorem State.onHq_die (f : Hq → Hq) (s : State) : (s.onHq f).die = s.die := rfl
@[simp] theorem State.onHq_zop (f : Hq → Hq) (s : State) : (s.onHq f).zop = s.zop := rfl
@[simp] theorem State.onHq_ls (f : Hq → Hq) (s : State) : (s.onHq f).ls = s.ls := rfl
@[simp] theorem State.onHq_pgf (f : Hq → Hq) (s : State) : (s.onHq f).pgf = s.pgf := rfl
@[simp] theorem State.onHq_husk (f : Hq → Hq) (s : State) : (s.onHq f).husk = s.husk := rfl
@[simp] theorem State.onHq_shf (f : Hq → Hq) (s : State) : (s.onHq f).shf = s.shf := rfl
@[simp] theorem State.onHq_mov (f : Hq → Hq) (s : State) : (s.onHq f).mov = s.mov := rfl
@[simp] theorem State.onHq_rch (f : Hq → Hq) (s : State) : (s.onHq f).rch = s.rch := rfl
@[simp] theorem State.onHq_srv (f : Hq → Hq) (s : State) : (s.onHq f).srv = s.srv := rfl
@[simp] theorem State.onHq_spn (f : Hq → Hq) (s : State) : (s.onHq f).spn = s.spn := rfl
@[simp] theorem State.onHq_ret (f : Hq → Hq) (s : State) : (s.onHq f).ret = s.ret := rfl
@[simp] theorem State.onHq_mot (f : Hq → Hq) (s : State) : (s.onHq f).mot = s.mot := rfl
@[simp] theorem State.onHq_drv (f : Hq → Hq) (s : State) : (s.onHq f).drv = s.drv := rfl
@[simp] theorem State.onHq_teff (f : Hq → Hq) (s : State) : (s.onHq f).teff = s.teff := rfl
@[simp] theorem State.onHq_hv (f : Hq → Hq) (s : State) : (s.onHq f).hv = s.hv := rfl
@[simp] theorem State.onHq_fus (f : Hq → Hq) (s : State) : (s.onHq f).fus = s.fus := rfl
@[simp] theorem State.onHq_cut (f : Hq → Hq) (s : State) : (s.onHq f).cut = s.cut := rfl
@[simp] theorem State.onHq_cal (f : Hq → Hq) (s : State) : (s.onHq f).cal = s.cal := rfl
@[simp] theorem State.onHq_dram (f : Hq → Hq) (s : State) : (s.onHq f).dram = s.dram := rfl

@[simp] theorem State.onQp_pending (q : Nat) (f : QPair → QPair) (s : State) : (s.onQp q f).pending = s.pending := rfl
@[simp] theorem State.onQp_aonOn (q : Nat) (f : QPair → QPair) (s : State) : (s.onQp q f).aonOn = s.aonOn := rfl
@[simp] theorem State.onQp_free (q : Nat) (f : QPair → QPair) (s : State) : (s.onQp q f).free = s.free := rfl
@[simp] theorem State.onQp_regs (q : Nat) (f : QPair → QPair) (s : State) : (s.onQp q f).regs = s.regs := rfl
@[simp] theorem State.onQp_latched (q : Nat) (f : QPair → QPair) (s : State) : (s.onQp q f).latched = s.latched := rfl
@[simp] theorem State.onQp_od (q : Nat) (f : QPair → QPair) (s : State) : (s.onQp q f).od = s.od := rfl
@[simp] theorem State.onQp_sys (q : Nat) (f : QPair → QPair) (s : State) : (s.onQp q f).sys = s.sys := rfl
@[simp] theorem State.onQp_evt (q : Nat) (f : QPair → QPair) (s : State) : (s.onQp q f).evt = s.evt := rfl
@[simp] theorem State.onQp_pwr (q : Nat) (f : QPair → QPair) (s : State) : (s.onQp q f).pwr = s.pwr := rfl
@[simp] theorem State.onQp_tap (q : Nat) (f : QPair → QPair) (s : State) : (s.onQp q f).tap = s.tap := rfl
@[simp] theorem State.onQp_thm (q : Nat) (f : QPair → QPair) (s : State) : (s.onQp q f).thm = s.thm := rfl
@[simp] theorem State.onQp_boot (q : Nat) (f : QPair → QPair) (s : State) : (s.onQp q f).boot = s.boot := rfl
@[simp] theorem State.onQp_jrn (q : Nat) (f : QPair → QPair) (s : State) : (s.onQp q f).jrn = s.jrn := rfl
@[simp] theorem State.onQp_culm (q : Nat) (f : QPair → QPair) (s : State) : (s.onQp q f).culm = s.culm := rfl
@[simp] theorem State.onQp_time (q : Nat) (f : QPair → QPair) (s : State) : (s.onQp q f).time = s.time := rfl
@[simp] theorem State.onQp_die (q : Nat) (f : QPair → QPair) (s : State) : (s.onQp q f).die = s.die := rfl
@[simp] theorem State.onQp_zop (q : Nat) (f : QPair → QPair) (s : State) : (s.onQp q f).zop = s.zop := rfl
@[simp] theorem State.onQp_ls (q : Nat) (f : QPair → QPair) (s : State) : (s.onQp q f).ls = s.ls := rfl
@[simp] theorem State.onQp_pgf (q : Nat) (f : QPair → QPair) (s : State) : (s.onQp q f).pgf = s.pgf := rfl
@[simp] theorem State.onQp_husk (q : Nat) (f : QPair → QPair) (s : State) : (s.onQp q f).husk = s.husk := rfl
@[simp] theorem State.onQp_shf (q : Nat) (f : QPair → QPair) (s : State) : (s.onQp q f).shf = s.shf := rfl
@[simp] theorem State.onQp_mov (q : Nat) (f : QPair → QPair) (s : State) : (s.onQp q f).mov = s.mov := rfl
@[simp] theorem State.onQp_rch (q : Nat) (f : QPair → QPair) (s : State) : (s.onQp q f).rch = s.rch := rfl
@[simp] theorem State.onQp_srv (q : Nat) (f : QPair → QPair) (s : State) : (s.onQp q f).srv = s.srv := rfl
@[simp] theorem State.onQp_spn (q : Nat) (f : QPair → QPair) (s : State) : (s.onQp q f).spn = s.spn := rfl
@[simp] theorem State.onQp_ret (q : Nat) (f : QPair → QPair) (s : State) : (s.onQp q f).ret = s.ret := rfl
@[simp] theorem State.onQp_mot (q : Nat) (f : QPair → QPair) (s : State) : (s.onQp q f).mot = s.mot := rfl
@[simp] theorem State.onQp_drv (q : Nat) (f : QPair → QPair) (s : State) : (s.onQp q f).drv = s.drv := rfl
@[simp] theorem State.onQp_teff (q : Nat) (f : QPair → QPair) (s : State) : (s.onQp q f).teff = s.teff := rfl
@[simp] theorem State.onQp_hv (q : Nat) (f : QPair → QPair) (s : State) : (s.onQp q f).hv = s.hv := rfl
@[simp] theorem State.onQp_fus (q : Nat) (f : QPair → QPair) (s : State) : (s.onQp q f).fus = s.fus := rfl
@[simp] theorem State.onQp_cut (q : Nat) (f : QPair → QPair) (s : State) : (s.onQp q f).cut = s.cut := rfl
@[simp] theorem State.onQp_cal (q : Nat) (f : QPair → QPair) (s : State) : (s.onQp q f).cal = s.cal := rfl
@[simp] theorem State.onQp_dram (q : Nat) (f : QPair → QPair) (s : State) : (s.onQp q f).dram = s.dram := rfl

@[simp] theorem State.onJrn_pending (f : Journal → Journal) (s : State) : (s.onJrn f).pending = s.pending := rfl
@[simp] theorem State.onJrn_aonOn (f : Journal → Journal) (s : State) : (s.onJrn f).aonOn = s.aonOn := rfl
@[simp] theorem State.onJrn_free (f : Journal → Journal) (s : State) : (s.onJrn f).free = s.free := rfl
@[simp] theorem State.onJrn_regs (f : Journal → Journal) (s : State) : (s.onJrn f).regs = s.regs := rfl
@[simp] theorem State.onJrn_latched (f : Journal → Journal) (s : State) : (s.onJrn f).latched = s.latched := rfl
@[simp] theorem State.onJrn_od (f : Journal → Journal) (s : State) : (s.onJrn f).od = s.od := rfl
@[simp] theorem State.onJrn_sys (f : Journal → Journal) (s : State) : (s.onJrn f).sys = s.sys := rfl
@[simp] theorem State.onJrn_evt (f : Journal → Journal) (s : State) : (s.onJrn f).evt = s.evt := rfl
@[simp] theorem State.onJrn_pwr (f : Journal → Journal) (s : State) : (s.onJrn f).pwr = s.pwr := rfl
@[simp] theorem State.onJrn_tap (f : Journal → Journal) (s : State) : (s.onJrn f).tap = s.tap := rfl
@[simp] theorem State.onJrn_thm (f : Journal → Journal) (s : State) : (s.onJrn f).thm = s.thm := rfl
@[simp] theorem State.onJrn_boot (f : Journal → Journal) (s : State) : (s.onJrn f).boot = s.boot := rfl
@[simp] theorem State.onJrn_hq (f : Journal → Journal) (s : State) : (s.onJrn f).hq = s.hq := rfl
@[simp] theorem State.onJrn_jrn (f : Journal → Journal) (s : State) : (s.onJrn f).jrn = f s.jrn := rfl
@[simp] theorem State.onJrn_culm (f : Journal → Journal) (s : State) : (s.onJrn f).culm = s.culm := rfl
@[simp] theorem State.onJrn_time (f : Journal → Journal) (s : State) : (s.onJrn f).time = s.time := rfl
@[simp] theorem State.onJrn_die (f : Journal → Journal) (s : State) : (s.onJrn f).die = s.die := rfl
@[simp] theorem State.onJrn_zop (f : Journal → Journal) (s : State) : (s.onJrn f).zop = s.zop := rfl
@[simp] theorem State.onJrn_ls (f : Journal → Journal) (s : State) : (s.onJrn f).ls = s.ls := rfl
@[simp] theorem State.onJrn_pgf (f : Journal → Journal) (s : State) : (s.onJrn f).pgf = s.pgf := rfl
@[simp] theorem State.onJrn_husk (f : Journal → Journal) (s : State) : (s.onJrn f).husk = s.husk := rfl
@[simp] theorem State.onJrn_shf (f : Journal → Journal) (s : State) : (s.onJrn f).shf = s.shf := rfl
@[simp] theorem State.onJrn_mov (f : Journal → Journal) (s : State) : (s.onJrn f).mov = s.mov := rfl
@[simp] theorem State.onJrn_rch (f : Journal → Journal) (s : State) : (s.onJrn f).rch = s.rch := rfl
@[simp] theorem State.onJrn_srv (f : Journal → Journal) (s : State) : (s.onJrn f).srv = s.srv := rfl
@[simp] theorem State.onJrn_spn (f : Journal → Journal) (s : State) : (s.onJrn f).spn = s.spn := rfl
@[simp] theorem State.onJrn_ret (f : Journal → Journal) (s : State) : (s.onJrn f).ret = s.ret := rfl
@[simp] theorem State.onJrn_mot (f : Journal → Journal) (s : State) : (s.onJrn f).mot = s.mot := rfl
@[simp] theorem State.onJrn_drv (f : Journal → Journal) (s : State) : (s.onJrn f).drv = s.drv := rfl
@[simp] theorem State.onJrn_teff (f : Journal → Journal) (s : State) : (s.onJrn f).teff = s.teff := rfl
@[simp] theorem State.onJrn_hv (f : Journal → Journal) (s : State) : (s.onJrn f).hv = s.hv := rfl
@[simp] theorem State.onJrn_fus (f : Journal → Journal) (s : State) : (s.onJrn f).fus = s.fus := rfl
@[simp] theorem State.onJrn_cut (f : Journal → Journal) (s : State) : (s.onJrn f).cut = s.cut := rfl
@[simp] theorem State.onJrn_cal (f : Journal → Journal) (s : State) : (s.onJrn f).cal = s.cal := rfl
@[simp] theorem State.onJrn_dram (f : Journal → Journal) (s : State) : (s.onJrn f).dram = s.dram := rfl

@[simp] theorem State.onHvB_pending (f : Hv → Hv) (s : State) : (s.onHvB f).pending = s.pending := rfl
@[simp] theorem State.onHvB_aonOn (f : Hv → Hv) (s : State) : (s.onHvB f).aonOn = s.aonOn := rfl
@[simp] theorem State.onHvB_free (f : Hv → Hv) (s : State) : (s.onHvB f).free = s.free := rfl
@[simp] theorem State.onHvB_regs (f : Hv → Hv) (s : State) : (s.onHvB f).regs = s.regs := rfl
@[simp] theorem State.onHvB_latched (f : Hv → Hv) (s : State) : (s.onHvB f).latched = s.latched := rfl
@[simp] theorem State.onHvB_od (f : Hv → Hv) (s : State) : (s.onHvB f).od = s.od := rfl
@[simp] theorem State.onHvB_sys (f : Hv → Hv) (s : State) : (s.onHvB f).sys = s.sys := rfl
@[simp] theorem State.onHvB_evt (f : Hv → Hv) (s : State) : (s.onHvB f).evt = s.evt := rfl
@[simp] theorem State.onHvB_pwr (f : Hv → Hv) (s : State) : (s.onHvB f).pwr = s.pwr := rfl
@[simp] theorem State.onHvB_tap (f : Hv → Hv) (s : State) : (s.onHvB f).tap = s.tap := rfl
@[simp] theorem State.onHvB_thm (f : Hv → Hv) (s : State) : (s.onHvB f).thm = s.thm := rfl
@[simp] theorem State.onHvB_boot (f : Hv → Hv) (s : State) : (s.onHvB f).boot = s.boot := rfl
@[simp] theorem State.onHvB_hq (f : Hv → Hv) (s : State) : (s.onHvB f).hq = s.hq := rfl
@[simp] theorem State.onHvB_jrn (f : Hv → Hv) (s : State) : (s.onHvB f).jrn = s.jrn := rfl
@[simp] theorem State.onHvB_culm (f : Hv → Hv) (s : State) : (s.onHvB f).culm = s.culm := rfl
@[simp] theorem State.onHvB_time (f : Hv → Hv) (s : State) : (s.onHvB f).time = s.time := rfl
@[simp] theorem State.onHvB_die (f : Hv → Hv) (s : State) : (s.onHvB f).die = s.die := rfl
@[simp] theorem State.onHvB_zop (f : Hv → Hv) (s : State) : (s.onHvB f).zop = s.zop := rfl
@[simp] theorem State.onHvB_ls (f : Hv → Hv) (s : State) : (s.onHvB f).ls = s.ls := rfl
@[simp] theorem State.onHvB_pgf (f : Hv → Hv) (s : State) : (s.onHvB f).pgf = s.pgf := rfl
@[simp] theorem State.onHvB_husk (f : Hv → Hv) (s : State) : (s.onHvB f).husk = s.husk := rfl
@[simp] theorem State.onHvB_shf (f : Hv → Hv) (s : State) : (s.onHvB f).shf = s.shf := rfl
@[simp] theorem State.onHvB_mov (f : Hv → Hv) (s : State) : (s.onHvB f).mov = s.mov := rfl
@[simp] theorem State.onHvB_rch (f : Hv → Hv) (s : State) : (s.onHvB f).rch = s.rch := rfl
@[simp] theorem State.onHvB_srv (f : Hv → Hv) (s : State) : (s.onHvB f).srv = s.srv := rfl
@[simp] theorem State.onHvB_spn (f : Hv → Hv) (s : State) : (s.onHvB f).spn = s.spn := rfl
@[simp] theorem State.onHvB_ret (f : Hv → Hv) (s : State) : (s.onHvB f).ret = s.ret := rfl
@[simp] theorem State.onHvB_mot (f : Hv → Hv) (s : State) : (s.onHvB f).mot = s.mot := rfl
@[simp] theorem State.onHvB_drv (f : Hv → Hv) (s : State) : (s.onHvB f).drv = s.drv := rfl
@[simp] theorem State.onHvB_teff (f : Hv → Hv) (s : State) : (s.onHvB f).teff = s.teff := rfl
@[simp] theorem State.onHvB_hv (f : Hv → Hv) (s : State) : (s.onHvB f).hv = f s.hv := rfl
@[simp] theorem State.onHvB_fus (f : Hv → Hv) (s : State) : (s.onHvB f).fus = s.fus := rfl
@[simp] theorem State.onHvB_cut (f : Hv → Hv) (s : State) : (s.onHvB f).cut = s.cut := rfl
@[simp] theorem State.onHvB_cal (f : Hv → Hv) (s : State) : (s.onHvB f).cal = s.cal := rfl
@[simp] theorem State.onHvB_dram (f : Hv → Hv) (s : State) : (s.onHvB f).dram = s.dram := rfl

@[simp] theorem State.onFusB_pending (f : Fus → Fus) (s : State) : (s.onFusB f).pending = s.pending := rfl
@[simp] theorem State.onFusB_aonOn (f : Fus → Fus) (s : State) : (s.onFusB f).aonOn = s.aonOn := rfl
@[simp] theorem State.onFusB_free (f : Fus → Fus) (s : State) : (s.onFusB f).free = s.free := rfl
@[simp] theorem State.onFusB_regs (f : Fus → Fus) (s : State) : (s.onFusB f).regs = s.regs := rfl
@[simp] theorem State.onFusB_latched (f : Fus → Fus) (s : State) : (s.onFusB f).latched = s.latched := rfl
@[simp] theorem State.onFusB_od (f : Fus → Fus) (s : State) : (s.onFusB f).od = s.od := rfl
@[simp] theorem State.onFusB_sys (f : Fus → Fus) (s : State) : (s.onFusB f).sys = s.sys := rfl
@[simp] theorem State.onFusB_evt (f : Fus → Fus) (s : State) : (s.onFusB f).evt = s.evt := rfl
@[simp] theorem State.onFusB_pwr (f : Fus → Fus) (s : State) : (s.onFusB f).pwr = s.pwr := rfl
@[simp] theorem State.onFusB_tap (f : Fus → Fus) (s : State) : (s.onFusB f).tap = s.tap := rfl
@[simp] theorem State.onFusB_thm (f : Fus → Fus) (s : State) : (s.onFusB f).thm = s.thm := rfl
@[simp] theorem State.onFusB_boot (f : Fus → Fus) (s : State) : (s.onFusB f).boot = s.boot := rfl
@[simp] theorem State.onFusB_hq (f : Fus → Fus) (s : State) : (s.onFusB f).hq = s.hq := rfl
@[simp] theorem State.onFusB_jrn (f : Fus → Fus) (s : State) : (s.onFusB f).jrn = s.jrn := rfl
@[simp] theorem State.onFusB_culm (f : Fus → Fus) (s : State) : (s.onFusB f).culm = s.culm := rfl
@[simp] theorem State.onFusB_time (f : Fus → Fus) (s : State) : (s.onFusB f).time = s.time := rfl
@[simp] theorem State.onFusB_die (f : Fus → Fus) (s : State) : (s.onFusB f).die = s.die := rfl
@[simp] theorem State.onFusB_zop (f : Fus → Fus) (s : State) : (s.onFusB f).zop = s.zop := rfl
@[simp] theorem State.onFusB_ls (f : Fus → Fus) (s : State) : (s.onFusB f).ls = s.ls := rfl
@[simp] theorem State.onFusB_pgf (f : Fus → Fus) (s : State) : (s.onFusB f).pgf = s.pgf := rfl
@[simp] theorem State.onFusB_husk (f : Fus → Fus) (s : State) : (s.onFusB f).husk = s.husk := rfl
@[simp] theorem State.onFusB_shf (f : Fus → Fus) (s : State) : (s.onFusB f).shf = s.shf := rfl
@[simp] theorem State.onFusB_mov (f : Fus → Fus) (s : State) : (s.onFusB f).mov = s.mov := rfl
@[simp] theorem State.onFusB_rch (f : Fus → Fus) (s : State) : (s.onFusB f).rch = s.rch := rfl
@[simp] theorem State.onFusB_srv (f : Fus → Fus) (s : State) : (s.onFusB f).srv = s.srv := rfl
@[simp] theorem State.onFusB_spn (f : Fus → Fus) (s : State) : (s.onFusB f).spn = s.spn := rfl
@[simp] theorem State.onFusB_ret (f : Fus → Fus) (s : State) : (s.onFusB f).ret = s.ret := rfl
@[simp] theorem State.onFusB_mot (f : Fus → Fus) (s : State) : (s.onFusB f).mot = s.mot := rfl
@[simp] theorem State.onFusB_drv (f : Fus → Fus) (s : State) : (s.onFusB f).drv = s.drv := rfl
@[simp] theorem State.onFusB_teff (f : Fus → Fus) (s : State) : (s.onFusB f).teff = s.teff := rfl
@[simp] theorem State.onFusB_hv (f : Fus → Fus) (s : State) : (s.onFusB f).hv = s.hv := rfl
@[simp] theorem State.onFusB_fus (f : Fus → Fus) (s : State) : (s.onFusB f).fus = f s.fus := rfl
@[simp] theorem State.onFusB_cut (f : Fus → Fus) (s : State) : (s.onFusB f).cut = s.cut := rfl
@[simp] theorem State.onFusB_cal (f : Fus → Fus) (s : State) : (s.onFusB f).cal = s.cal := rfl
@[simp] theorem State.onFusB_dram (f : Fus → Fus) (s : State) : (s.onFusB f).dram = s.dram := rfl

@[simp] theorem State.onCut_pending (f : Cut → Cut) (s : State) : (s.onCut f).pending = s.pending := rfl
@[simp] theorem State.onCut_aonOn (f : Cut → Cut) (s : State) : (s.onCut f).aonOn = s.aonOn := rfl
@[simp] theorem State.onCut_free (f : Cut → Cut) (s : State) : (s.onCut f).free = s.free := rfl
@[simp] theorem State.onCut_regs (f : Cut → Cut) (s : State) : (s.onCut f).regs = s.regs := rfl
@[simp] theorem State.onCut_latched (f : Cut → Cut) (s : State) : (s.onCut f).latched = s.latched := rfl
@[simp] theorem State.onCut_od (f : Cut → Cut) (s : State) : (s.onCut f).od = s.od := rfl
@[simp] theorem State.onCut_sys (f : Cut → Cut) (s : State) : (s.onCut f).sys = s.sys := rfl
@[simp] theorem State.onCut_evt (f : Cut → Cut) (s : State) : (s.onCut f).evt = s.evt := rfl
@[simp] theorem State.onCut_pwr (f : Cut → Cut) (s : State) : (s.onCut f).pwr = s.pwr := rfl
@[simp] theorem State.onCut_tap (f : Cut → Cut) (s : State) : (s.onCut f).tap = s.tap := rfl
@[simp] theorem State.onCut_thm (f : Cut → Cut) (s : State) : (s.onCut f).thm = s.thm := rfl
@[simp] theorem State.onCut_boot (f : Cut → Cut) (s : State) : (s.onCut f).boot = s.boot := rfl
@[simp] theorem State.onCut_hq (f : Cut → Cut) (s : State) : (s.onCut f).hq = s.hq := rfl
@[simp] theorem State.onCut_jrn (f : Cut → Cut) (s : State) : (s.onCut f).jrn = s.jrn := rfl
@[simp] theorem State.onCut_culm (f : Cut → Cut) (s : State) : (s.onCut f).culm = s.culm := rfl
@[simp] theorem State.onCut_time (f : Cut → Cut) (s : State) : (s.onCut f).time = s.time := rfl
@[simp] theorem State.onCut_die (f : Cut → Cut) (s : State) : (s.onCut f).die = s.die := rfl
@[simp] theorem State.onCut_zop (f : Cut → Cut) (s : State) : (s.onCut f).zop = s.zop := rfl
@[simp] theorem State.onCut_ls (f : Cut → Cut) (s : State) : (s.onCut f).ls = s.ls := rfl
@[simp] theorem State.onCut_pgf (f : Cut → Cut) (s : State) : (s.onCut f).pgf = s.pgf := rfl
@[simp] theorem State.onCut_husk (f : Cut → Cut) (s : State) : (s.onCut f).husk = s.husk := rfl
@[simp] theorem State.onCut_shf (f : Cut → Cut) (s : State) : (s.onCut f).shf = s.shf := rfl
@[simp] theorem State.onCut_mov (f : Cut → Cut) (s : State) : (s.onCut f).mov = s.mov := rfl
@[simp] theorem State.onCut_rch (f : Cut → Cut) (s : State) : (s.onCut f).rch = s.rch := rfl
@[simp] theorem State.onCut_srv (f : Cut → Cut) (s : State) : (s.onCut f).srv = s.srv := rfl
@[simp] theorem State.onCut_spn (f : Cut → Cut) (s : State) : (s.onCut f).spn = s.spn := rfl
@[simp] theorem State.onCut_ret (f : Cut → Cut) (s : State) : (s.onCut f).ret = s.ret := rfl
@[simp] theorem State.onCut_mot (f : Cut → Cut) (s : State) : (s.onCut f).mot = s.mot := rfl
@[simp] theorem State.onCut_drv (f : Cut → Cut) (s : State) : (s.onCut f).drv = s.drv := rfl
@[simp] theorem State.onCut_teff (f : Cut → Cut) (s : State) : (s.onCut f).teff = s.teff := rfl
@[simp] theorem State.onCut_hv (f : Cut → Cut) (s : State) : (s.onCut f).hv = s.hv := rfl
@[simp] theorem State.onCut_fus (f : Cut → Cut) (s : State) : (s.onCut f).fus = s.fus := rfl
@[simp] theorem State.onCut_cut (f : Cut → Cut) (s : State) : (s.onCut f).cut = f s.cut := rfl
@[simp] theorem State.onCut_cal (f : Cut → Cut) (s : State) : (s.onCut f).cal = s.cal := rfl
@[simp] theorem State.onCut_dram (f : Cut → Cut) (s : State) : (s.onCut f).dram = s.dram := rfl

@[simp] theorem State.onMot_pending (f : Mot → Mot) (s : State) : (s.onMot f).pending = s.pending := rfl
@[simp] theorem State.onMot_aonOn (f : Mot → Mot) (s : State) : (s.onMot f).aonOn = s.aonOn := rfl
@[simp] theorem State.onMot_free (f : Mot → Mot) (s : State) : (s.onMot f).free = s.free := rfl
@[simp] theorem State.onMot_regs (f : Mot → Mot) (s : State) : (s.onMot f).regs = s.regs := rfl
@[simp] theorem State.onMot_latched (f : Mot → Mot) (s : State) : (s.onMot f).latched = s.latched := rfl
@[simp] theorem State.onMot_od (f : Mot → Mot) (s : State) : (s.onMot f).od = s.od := rfl
@[simp] theorem State.onMot_sys (f : Mot → Mot) (s : State) : (s.onMot f).sys = s.sys := rfl
@[simp] theorem State.onMot_evt (f : Mot → Mot) (s : State) : (s.onMot f).evt = s.evt := rfl
@[simp] theorem State.onMot_pwr (f : Mot → Mot) (s : State) : (s.onMot f).pwr = s.pwr := rfl
@[simp] theorem State.onMot_tap (f : Mot → Mot) (s : State) : (s.onMot f).tap = s.tap := rfl
@[simp] theorem State.onMot_thm (f : Mot → Mot) (s : State) : (s.onMot f).thm = s.thm := rfl
@[simp] theorem State.onMot_boot (f : Mot → Mot) (s : State) : (s.onMot f).boot = s.boot := rfl
@[simp] theorem State.onMot_hq (f : Mot → Mot) (s : State) : (s.onMot f).hq = s.hq := rfl
@[simp] theorem State.onMot_jrn (f : Mot → Mot) (s : State) : (s.onMot f).jrn = s.jrn := rfl
@[simp] theorem State.onMot_culm (f : Mot → Mot) (s : State) : (s.onMot f).culm = s.culm := rfl
@[simp] theorem State.onMot_time (f : Mot → Mot) (s : State) : (s.onMot f).time = s.time := rfl
@[simp] theorem State.onMot_die (f : Mot → Mot) (s : State) : (s.onMot f).die = s.die := rfl
@[simp] theorem State.onMot_zop (f : Mot → Mot) (s : State) : (s.onMot f).zop = s.zop := rfl
@[simp] theorem State.onMot_ls (f : Mot → Mot) (s : State) : (s.onMot f).ls = s.ls := rfl
@[simp] theorem State.onMot_pgf (f : Mot → Mot) (s : State) : (s.onMot f).pgf = s.pgf := rfl
@[simp] theorem State.onMot_husk (f : Mot → Mot) (s : State) : (s.onMot f).husk = s.husk := rfl
@[simp] theorem State.onMot_shf (f : Mot → Mot) (s : State) : (s.onMot f).shf = s.shf := rfl
@[simp] theorem State.onMot_mov (f : Mot → Mot) (s : State) : (s.onMot f).mov = s.mov := rfl
@[simp] theorem State.onMot_rch (f : Mot → Mot) (s : State) : (s.onMot f).rch = s.rch := rfl
@[simp] theorem State.onMot_srv (f : Mot → Mot) (s : State) : (s.onMot f).srv = s.srv := rfl
@[simp] theorem State.onMot_spn (f : Mot → Mot) (s : State) : (s.onMot f).spn = s.spn := rfl
@[simp] theorem State.onMot_ret (f : Mot → Mot) (s : State) : (s.onMot f).ret = s.ret := rfl
@[simp] theorem State.onMot_mot (f : Mot → Mot) (s : State) : (s.onMot f).mot = f s.mot := rfl
@[simp] theorem State.onMot_drv (f : Mot → Mot) (s : State) : (s.onMot f).drv = s.drv := rfl
@[simp] theorem State.onMot_teff (f : Mot → Mot) (s : State) : (s.onMot f).teff = s.teff := rfl
@[simp] theorem State.onMot_hv (f : Mot → Mot) (s : State) : (s.onMot f).hv = s.hv := rfl
@[simp] theorem State.onMot_fus (f : Mot → Mot) (s : State) : (s.onMot f).fus = s.fus := rfl
@[simp] theorem State.onMot_cut (f : Mot → Mot) (s : State) : (s.onMot f).cut = s.cut := rfl
@[simp] theorem State.onMot_cal (f : Mot → Mot) (s : State) : (s.onMot f).cal = s.cal := rfl
@[simp] theorem State.onMot_dram (f : Mot → Mot) (s : State) : (s.onMot f).dram = s.dram := rfl

@[simp] theorem State.onSheet_pending (num : Nat) (f : Sheet → Sheet) (s : State) : (s.onSheet num f).pending = s.pending := rfl
@[simp] theorem State.onSheet_aonOn (num : Nat) (f : Sheet → Sheet) (s : State) : (s.onSheet num f).aonOn = s.aonOn := rfl
@[simp] theorem State.onSheet_free (num : Nat) (f : Sheet → Sheet) (s : State) : (s.onSheet num f).free = s.free := rfl
@[simp] theorem State.onSheet_regs (num : Nat) (f : Sheet → Sheet) (s : State) : (s.onSheet num f).regs = s.regs := rfl
@[simp] theorem State.onSheet_latched (num : Nat) (f : Sheet → Sheet) (s : State) : (s.onSheet num f).latched = s.latched := rfl
@[simp] theorem State.onSheet_od (num : Nat) (f : Sheet → Sheet) (s : State) : (s.onSheet num f).od = s.od := rfl
@[simp] theorem State.onSheet_sys (num : Nat) (f : Sheet → Sheet) (s : State) : (s.onSheet num f).sys = s.sys := rfl
@[simp] theorem State.onSheet_evt (num : Nat) (f : Sheet → Sheet) (s : State) : (s.onSheet num f).evt = s.evt := rfl
@[simp] theorem State.onSheet_pwr (num : Nat) (f : Sheet → Sheet) (s : State) : (s.onSheet num f).pwr = s.pwr := rfl
@[simp] theorem State.onSheet_tap (num : Nat) (f : Sheet → Sheet) (s : State) : (s.onSheet num f).tap = s.tap := rfl
@[simp] theorem State.onSheet_thm (num : Nat) (f : Sheet → Sheet) (s : State) : (s.onSheet num f).thm = s.thm := rfl
@[simp] theorem State.onSheet_boot (num : Nat) (f : Sheet → Sheet) (s : State) : (s.onSheet num f).boot = s.boot := rfl
@[simp] theorem State.onSheet_hq (num : Nat) (f : Sheet → Sheet) (s : State) : (s.onSheet num f).hq = s.hq := rfl
@[simp] theorem State.onSheet_jrn (num : Nat) (f : Sheet → Sheet) (s : State) : (s.onSheet num f).jrn = s.jrn := rfl
@[simp] theorem State.onSheet_culm (num : Nat) (f : Sheet → Sheet) (s : State) : (s.onSheet num f).culm = s.culm := rfl
@[simp] theorem State.onSheet_time (num : Nat) (f : Sheet → Sheet) (s : State) : (s.onSheet num f).time = s.time := rfl
@[simp] theorem State.onSheet_die (num : Nat) (f : Sheet → Sheet) (s : State) : (s.onSheet num f).die = s.die := rfl
@[simp] theorem State.onSheet_zop (num : Nat) (f : Sheet → Sheet) (s : State) : (s.onSheet num f).zop = s.zop := rfl
@[simp] theorem State.onSheet_ls (num : Nat) (f : Sheet → Sheet) (s : State) : (s.onSheet num f).ls = s.ls := rfl
@[simp] theorem State.onSheet_pgf (num : Nat) (f : Sheet → Sheet) (s : State) : (s.onSheet num f).pgf = s.pgf := rfl
@[simp] theorem State.onSheet_husk (num : Nat) (f : Sheet → Sheet) (s : State) : (s.onSheet num f).husk = s.husk := rfl
@[simp] theorem State.onSheet_shf (num : Nat) (f : Sheet → Sheet) (s : State) : (s.onSheet num f).shf = s.shf := rfl
@[simp] theorem State.onSheet_mov (num : Nat) (f : Sheet → Sheet) (s : State) : (s.onSheet num f).mov = s.mov := rfl
@[simp] theorem State.onSheet_rch (num : Nat) (f : Sheet → Sheet) (s : State) : (s.onSheet num f).rch = s.rch := rfl
@[simp] theorem State.onSheet_srv (num : Nat) (f : Sheet → Sheet) (s : State) : (s.onSheet num f).srv = s.srv := rfl
@[simp] theorem State.onSheet_spn (num : Nat) (f : Sheet → Sheet) (s : State) : (s.onSheet num f).spn = s.spn := rfl
@[simp] theorem State.onSheet_ret (num : Nat) (f : Sheet → Sheet) (s : State) : (s.onSheet num f).ret = s.ret := rfl
@[simp] theorem State.onSheet_drv (num : Nat) (f : Sheet → Sheet) (s : State) : (s.onSheet num f).drv = s.drv := rfl
@[simp] theorem State.onSheet_teff (num : Nat) (f : Sheet → Sheet) (s : State) : (s.onSheet num f).teff = s.teff := rfl
@[simp] theorem State.onSheet_hv (num : Nat) (f : Sheet → Sheet) (s : State) : (s.onSheet num f).hv = s.hv := rfl
@[simp] theorem State.onSheet_fus (num : Nat) (f : Sheet → Sheet) (s : State) : (s.onSheet num f).fus = s.fus := rfl
@[simp] theorem State.onSheet_cut (num : Nat) (f : Sheet → Sheet) (s : State) : (s.onSheet num f).cut = s.cut := rfl
@[simp] theorem State.onSheet_cal (num : Nat) (f : Sheet → Sheet) (s : State) : (s.onSheet num f).cal = s.cal := rfl
@[simp] theorem State.onSheet_dram (num : Nat) (f : Sheet → Sheet) (s : State) : (s.onSheet num f).dram = s.dram := rfl

@[simp] theorem State.onImg_pending (b : Nat) (f : ImgBank → ImgBank) (s : State) : (s.onImg b f).pending = s.pending := rfl
@[simp] theorem State.onImg_aonOn (b : Nat) (f : ImgBank → ImgBank) (s : State) : (s.onImg b f).aonOn = s.aonOn := rfl
@[simp] theorem State.onImg_free (b : Nat) (f : ImgBank → ImgBank) (s : State) : (s.onImg b f).free = s.free := rfl
@[simp] theorem State.onImg_regs (b : Nat) (f : ImgBank → ImgBank) (s : State) : (s.onImg b f).regs = s.regs := rfl
@[simp] theorem State.onImg_latched (b : Nat) (f : ImgBank → ImgBank) (s : State) : (s.onImg b f).latched = s.latched := rfl
@[simp] theorem State.onImg_od (b : Nat) (f : ImgBank → ImgBank) (s : State) : (s.onImg b f).od = s.od := rfl
@[simp] theorem State.onImg_sys (b : Nat) (f : ImgBank → ImgBank) (s : State) : (s.onImg b f).sys = s.sys := rfl
@[simp] theorem State.onImg_evt (b : Nat) (f : ImgBank → ImgBank) (s : State) : (s.onImg b f).evt = s.evt := rfl
@[simp] theorem State.onImg_pwr (b : Nat) (f : ImgBank → ImgBank) (s : State) : (s.onImg b f).pwr = s.pwr := rfl
@[simp] theorem State.onImg_tap (b : Nat) (f : ImgBank → ImgBank) (s : State) : (s.onImg b f).tap = s.tap := rfl
@[simp] theorem State.onImg_thm (b : Nat) (f : ImgBank → ImgBank) (s : State) : (s.onImg b f).thm = s.thm := rfl
@[simp] theorem State.onImg_boot (b : Nat) (f : ImgBank → ImgBank) (s : State) : (s.onImg b f).boot = s.boot := rfl
@[simp] theorem State.onImg_hq (b : Nat) (f : ImgBank → ImgBank) (s : State) : (s.onImg b f).hq = s.hq := rfl
@[simp] theorem State.onImg_jrn (b : Nat) (f : ImgBank → ImgBank) (s : State) : (s.onImg b f).jrn = s.jrn := rfl
@[simp] theorem State.onImg_culm (b : Nat) (f : ImgBank → ImgBank) (s : State) : (s.onImg b f).culm = s.culm := rfl
@[simp] theorem State.onImg_time (b : Nat) (f : ImgBank → ImgBank) (s : State) : (s.onImg b f).time = s.time := rfl
@[simp] theorem State.onImg_zop (b : Nat) (f : ImgBank → ImgBank) (s : State) : (s.onImg b f).zop = s.zop := rfl
@[simp] theorem State.onImg_ls (b : Nat) (f : ImgBank → ImgBank) (s : State) : (s.onImg b f).ls = s.ls := rfl
@[simp] theorem State.onImg_pgf (b : Nat) (f : ImgBank → ImgBank) (s : State) : (s.onImg b f).pgf = s.pgf := rfl
@[simp] theorem State.onImg_husk (b : Nat) (f : ImgBank → ImgBank) (s : State) : (s.onImg b f).husk = s.husk := rfl
@[simp] theorem State.onImg_shf (b : Nat) (f : ImgBank → ImgBank) (s : State) : (s.onImg b f).shf = s.shf := rfl
@[simp] theorem State.onImg_mov (b : Nat) (f : ImgBank → ImgBank) (s : State) : (s.onImg b f).mov = s.mov := rfl
@[simp] theorem State.onImg_rch (b : Nat) (f : ImgBank → ImgBank) (s : State) : (s.onImg b f).rch = s.rch := rfl
@[simp] theorem State.onImg_srv (b : Nat) (f : ImgBank → ImgBank) (s : State) : (s.onImg b f).srv = s.srv := rfl
@[simp] theorem State.onImg_spn (b : Nat) (f : ImgBank → ImgBank) (s : State) : (s.onImg b f).spn = s.spn := rfl
@[simp] theorem State.onImg_ret (b : Nat) (f : ImgBank → ImgBank) (s : State) : (s.onImg b f).ret = s.ret := rfl
@[simp] theorem State.onImg_mot (b : Nat) (f : ImgBank → ImgBank) (s : State) : (s.onImg b f).mot = s.mot := rfl
@[simp] theorem State.onImg_drv (b : Nat) (f : ImgBank → ImgBank) (s : State) : (s.onImg b f).drv = s.drv := rfl
@[simp] theorem State.onImg_teff (b : Nat) (f : ImgBank → ImgBank) (s : State) : (s.onImg b f).teff = s.teff := rfl
@[simp] theorem State.onImg_hv (b : Nat) (f : ImgBank → ImgBank) (s : State) : (s.onImg b f).hv = s.hv := rfl
@[simp] theorem State.onImg_fus (b : Nat) (f : ImgBank → ImgBank) (s : State) : (s.onImg b f).fus = s.fus := rfl
@[simp] theorem State.onImg_cut (b : Nat) (f : ImgBank → ImgBank) (s : State) : (s.onImg b f).cut = s.cut := rfl
@[simp] theorem State.onImg_cal (b : Nat) (f : ImgBank → ImgBank) (s : State) : (s.onImg b f).cal = s.cal := rfl
@[simp] theorem State.onImg_dram (b : Nat) (f : ImgBank → ImgBank) (s : State) : (s.onImg b f).dram = s.dram := rfl

@[simp] theorem State.onMov_pending (f : Mov → Mov) (s : State) : (s.onMov f).pending = s.pending := rfl
@[simp] theorem State.onMov_aonOn (f : Mov → Mov) (s : State) : (s.onMov f).aonOn = s.aonOn := rfl
@[simp] theorem State.onMov_free (f : Mov → Mov) (s : State) : (s.onMov f).free = s.free := rfl
@[simp] theorem State.onMov_regs (f : Mov → Mov) (s : State) : (s.onMov f).regs = s.regs := rfl
@[simp] theorem State.onMov_latched (f : Mov → Mov) (s : State) : (s.onMov f).latched = s.latched := rfl
@[simp] theorem State.onMov_od (f : Mov → Mov) (s : State) : (s.onMov f).od = s.od := rfl
@[simp] theorem State.onMov_sys (f : Mov → Mov) (s : State) : (s.onMov f).sys = s.sys := rfl
@[simp] theorem State.onMov_evt (f : Mov → Mov) (s : State) : (s.onMov f).evt = s.evt := rfl
@[simp] theorem State.onMov_pwr (f : Mov → Mov) (s : State) : (s.onMov f).pwr = s.pwr := rfl
@[simp] theorem State.onMov_tap (f : Mov → Mov) (s : State) : (s.onMov f).tap = s.tap := rfl
@[simp] theorem State.onMov_thm (f : Mov → Mov) (s : State) : (s.onMov f).thm = s.thm := rfl
@[simp] theorem State.onMov_boot (f : Mov → Mov) (s : State) : (s.onMov f).boot = s.boot := rfl
@[simp] theorem State.onMov_hq (f : Mov → Mov) (s : State) : (s.onMov f).hq = s.hq := rfl
@[simp] theorem State.onMov_jrn (f : Mov → Mov) (s : State) : (s.onMov f).jrn = s.jrn := rfl
@[simp] theorem State.onMov_culm (f : Mov → Mov) (s : State) : (s.onMov f).culm = s.culm := rfl
@[simp] theorem State.onMov_time (f : Mov → Mov) (s : State) : (s.onMov f).time = s.time := rfl
@[simp] theorem State.onMov_die (f : Mov → Mov) (s : State) : (s.onMov f).die = s.die := rfl
@[simp] theorem State.onMov_zop (f : Mov → Mov) (s : State) : (s.onMov f).zop = s.zop := rfl
@[simp] theorem State.onMov_ls (f : Mov → Mov) (s : State) : (s.onMov f).ls = s.ls := rfl
@[simp] theorem State.onMov_pgf (f : Mov → Mov) (s : State) : (s.onMov f).pgf = s.pgf := rfl
@[simp] theorem State.onMov_husk (f : Mov → Mov) (s : State) : (s.onMov f).husk = s.husk := rfl
@[simp] theorem State.onMov_shf (f : Mov → Mov) (s : State) : (s.onMov f).shf = s.shf := rfl
@[simp] theorem State.onMov_mov (f : Mov → Mov) (s : State) : (s.onMov f).mov = f s.mov := rfl
@[simp] theorem State.onMov_rch (f : Mov → Mov) (s : State) : (s.onMov f).rch = s.rch := rfl
@[simp] theorem State.onMov_srv (f : Mov → Mov) (s : State) : (s.onMov f).srv = s.srv := rfl
@[simp] theorem State.onMov_spn (f : Mov → Mov) (s : State) : (s.onMov f).spn = s.spn := rfl
@[simp] theorem State.onMov_ret (f : Mov → Mov) (s : State) : (s.onMov f).ret = s.ret := rfl
@[simp] theorem State.onMov_mot (f : Mov → Mov) (s : State) : (s.onMov f).mot = s.mot := rfl
@[simp] theorem State.onMov_drv (f : Mov → Mov) (s : State) : (s.onMov f).drv = s.drv := rfl
@[simp] theorem State.onMov_teff (f : Mov → Mov) (s : State) : (s.onMov f).teff = s.teff := rfl
@[simp] theorem State.onMov_hv (f : Mov → Mov) (s : State) : (s.onMov f).hv = s.hv := rfl
@[simp] theorem State.onMov_fus (f : Mov → Mov) (s : State) : (s.onMov f).fus = s.fus := rfl
@[simp] theorem State.onMov_cut (f : Mov → Mov) (s : State) : (s.onMov f).cut = s.cut := rfl
@[simp] theorem State.onMov_cal (f : Mov → Mov) (s : State) : (s.onMov f).cal = s.cal := rfl
@[simp] theorem State.onMov_dram (f : Mov → Mov) (s : State) : (s.onMov f).dram = s.dram := rfl

@[simp] theorem State.onMovCh_pending (k : Nat) (f : MovCh → MovCh) (s : State) : (s.onMovCh k f).pending = s.pending := rfl
@[simp] theorem State.onMovCh_aonOn (k : Nat) (f : MovCh → MovCh) (s : State) : (s.onMovCh k f).aonOn = s.aonOn := rfl
@[simp] theorem State.onMovCh_free (k : Nat) (f : MovCh → MovCh) (s : State) : (s.onMovCh k f).free = s.free := rfl
@[simp] theorem State.onMovCh_regs (k : Nat) (f : MovCh → MovCh) (s : State) : (s.onMovCh k f).regs = s.regs := rfl
@[simp] theorem State.onMovCh_latched (k : Nat) (f : MovCh → MovCh) (s : State) : (s.onMovCh k f).latched = s.latched := rfl
@[simp] theorem State.onMovCh_od (k : Nat) (f : MovCh → MovCh) (s : State) : (s.onMovCh k f).od = s.od := rfl
@[simp] theorem State.onMovCh_sys (k : Nat) (f : MovCh → MovCh) (s : State) : (s.onMovCh k f).sys = s.sys := rfl
@[simp] theorem State.onMovCh_evt (k : Nat) (f : MovCh → MovCh) (s : State) : (s.onMovCh k f).evt = s.evt := rfl
@[simp] theorem State.onMovCh_pwr (k : Nat) (f : MovCh → MovCh) (s : State) : (s.onMovCh k f).pwr = s.pwr := rfl
@[simp] theorem State.onMovCh_tap (k : Nat) (f : MovCh → MovCh) (s : State) : (s.onMovCh k f).tap = s.tap := rfl
@[simp] theorem State.onMovCh_thm (k : Nat) (f : MovCh → MovCh) (s : State) : (s.onMovCh k f).thm = s.thm := rfl
@[simp] theorem State.onMovCh_boot (k : Nat) (f : MovCh → MovCh) (s : State) : (s.onMovCh k f).boot = s.boot := rfl
@[simp] theorem State.onMovCh_hq (k : Nat) (f : MovCh → MovCh) (s : State) : (s.onMovCh k f).hq = s.hq := rfl
@[simp] theorem State.onMovCh_jrn (k : Nat) (f : MovCh → MovCh) (s : State) : (s.onMovCh k f).jrn = s.jrn := rfl
@[simp] theorem State.onMovCh_culm (k : Nat) (f : MovCh → MovCh) (s : State) : (s.onMovCh k f).culm = s.culm := rfl
@[simp] theorem State.onMovCh_time (k : Nat) (f : MovCh → MovCh) (s : State) : (s.onMovCh k f).time = s.time := rfl
@[simp] theorem State.onMovCh_die (k : Nat) (f : MovCh → MovCh) (s : State) : (s.onMovCh k f).die = s.die := rfl
@[simp] theorem State.onMovCh_zop (k : Nat) (f : MovCh → MovCh) (s : State) : (s.onMovCh k f).zop = s.zop := rfl
@[simp] theorem State.onMovCh_ls (k : Nat) (f : MovCh → MovCh) (s : State) : (s.onMovCh k f).ls = s.ls := rfl
@[simp] theorem State.onMovCh_pgf (k : Nat) (f : MovCh → MovCh) (s : State) : (s.onMovCh k f).pgf = s.pgf := rfl
@[simp] theorem State.onMovCh_husk (k : Nat) (f : MovCh → MovCh) (s : State) : (s.onMovCh k f).husk = s.husk := rfl
@[simp] theorem State.onMovCh_shf (k : Nat) (f : MovCh → MovCh) (s : State) : (s.onMovCh k f).shf = s.shf := rfl
@[simp] theorem State.onMovCh_rch (k : Nat) (f : MovCh → MovCh) (s : State) : (s.onMovCh k f).rch = s.rch := rfl
@[simp] theorem State.onMovCh_srv (k : Nat) (f : MovCh → MovCh) (s : State) : (s.onMovCh k f).srv = s.srv := rfl
@[simp] theorem State.onMovCh_spn (k : Nat) (f : MovCh → MovCh) (s : State) : (s.onMovCh k f).spn = s.spn := rfl
@[simp] theorem State.onMovCh_ret (k : Nat) (f : MovCh → MovCh) (s : State) : (s.onMovCh k f).ret = s.ret := rfl
@[simp] theorem State.onMovCh_mot (k : Nat) (f : MovCh → MovCh) (s : State) : (s.onMovCh k f).mot = s.mot := rfl
@[simp] theorem State.onMovCh_drv (k : Nat) (f : MovCh → MovCh) (s : State) : (s.onMovCh k f).drv = s.drv := rfl
@[simp] theorem State.onMovCh_teff (k : Nat) (f : MovCh → MovCh) (s : State) : (s.onMovCh k f).teff = s.teff := rfl
@[simp] theorem State.onMovCh_hv (k : Nat) (f : MovCh → MovCh) (s : State) : (s.onMovCh k f).hv = s.hv := rfl
@[simp] theorem State.onMovCh_fus (k : Nat) (f : MovCh → MovCh) (s : State) : (s.onMovCh k f).fus = s.fus := rfl
@[simp] theorem State.onMovCh_cut (k : Nat) (f : MovCh → MovCh) (s : State) : (s.onMovCh k f).cut = s.cut := rfl
@[simp] theorem State.onMovCh_cal (k : Nat) (f : MovCh → MovCh) (s : State) : (s.onMovCh k f).cal = s.cal := rfl
@[simp] theorem State.onMovCh_dram (k : Nat) (f : MovCh → MovCh) (s : State) : (s.onMovCh k f).dram = s.dram := rfl

@[simp] theorem State.onShf_pending (f : Shf → Shf) (s : State) : (s.onShf f).pending = s.pending := rfl
@[simp] theorem State.onShf_aonOn (f : Shf → Shf) (s : State) : (s.onShf f).aonOn = s.aonOn := rfl
@[simp] theorem State.onShf_free (f : Shf → Shf) (s : State) : (s.onShf f).free = s.free := rfl
@[simp] theorem State.onShf_regs (f : Shf → Shf) (s : State) : (s.onShf f).regs = s.regs := rfl
@[simp] theorem State.onShf_latched (f : Shf → Shf) (s : State) : (s.onShf f).latched = s.latched := rfl
@[simp] theorem State.onShf_od (f : Shf → Shf) (s : State) : (s.onShf f).od = s.od := rfl
@[simp] theorem State.onShf_sys (f : Shf → Shf) (s : State) : (s.onShf f).sys = s.sys := rfl
@[simp] theorem State.onShf_evt (f : Shf → Shf) (s : State) : (s.onShf f).evt = s.evt := rfl
@[simp] theorem State.onShf_pwr (f : Shf → Shf) (s : State) : (s.onShf f).pwr = s.pwr := rfl
@[simp] theorem State.onShf_tap (f : Shf → Shf) (s : State) : (s.onShf f).tap = s.tap := rfl
@[simp] theorem State.onShf_thm (f : Shf → Shf) (s : State) : (s.onShf f).thm = s.thm := rfl
@[simp] theorem State.onShf_boot (f : Shf → Shf) (s : State) : (s.onShf f).boot = s.boot := rfl
@[simp] theorem State.onShf_hq (f : Shf → Shf) (s : State) : (s.onShf f).hq = s.hq := rfl
@[simp] theorem State.onShf_jrn (f : Shf → Shf) (s : State) : (s.onShf f).jrn = s.jrn := rfl
@[simp] theorem State.onShf_culm (f : Shf → Shf) (s : State) : (s.onShf f).culm = s.culm := rfl
@[simp] theorem State.onShf_time (f : Shf → Shf) (s : State) : (s.onShf f).time = s.time := rfl
@[simp] theorem State.onShf_die (f : Shf → Shf) (s : State) : (s.onShf f).die = s.die := rfl
@[simp] theorem State.onShf_zop (f : Shf → Shf) (s : State) : (s.onShf f).zop = s.zop := rfl
@[simp] theorem State.onShf_ls (f : Shf → Shf) (s : State) : (s.onShf f).ls = s.ls := rfl
@[simp] theorem State.onShf_pgf (f : Shf → Shf) (s : State) : (s.onShf f).pgf = s.pgf := rfl
@[simp] theorem State.onShf_husk (f : Shf → Shf) (s : State) : (s.onShf f).husk = s.husk := rfl
@[simp] theorem State.onShf_shf (f : Shf → Shf) (s : State) : (s.onShf f).shf = f s.shf := rfl
@[simp] theorem State.onShf_mov (f : Shf → Shf) (s : State) : (s.onShf f).mov = s.mov := rfl
@[simp] theorem State.onShf_rch (f : Shf → Shf) (s : State) : (s.onShf f).rch = s.rch := rfl
@[simp] theorem State.onShf_srv (f : Shf → Shf) (s : State) : (s.onShf f).srv = s.srv := rfl
@[simp] theorem State.onShf_spn (f : Shf → Shf) (s : State) : (s.onShf f).spn = s.spn := rfl
@[simp] theorem State.onShf_ret (f : Shf → Shf) (s : State) : (s.onShf f).ret = s.ret := rfl
@[simp] theorem State.onShf_mot (f : Shf → Shf) (s : State) : (s.onShf f).mot = s.mot := rfl
@[simp] theorem State.onShf_drv (f : Shf → Shf) (s : State) : (s.onShf f).drv = s.drv := rfl
@[simp] theorem State.onShf_teff (f : Shf → Shf) (s : State) : (s.onShf f).teff = s.teff := rfl
@[simp] theorem State.onShf_hv (f : Shf → Shf) (s : State) : (s.onShf f).hv = s.hv := rfl
@[simp] theorem State.onShf_fus (f : Shf → Shf) (s : State) : (s.onShf f).fus = s.fus := rfl
@[simp] theorem State.onShf_cut (f : Shf → Shf) (s : State) : (s.onShf f).cut = s.cut := rfl
@[simp] theorem State.onShf_cal (f : Shf → Shf) (s : State) : (s.onShf f).cal = s.cal := rfl
@[simp] theorem State.onShf_dram (f : Shf → Shf) (s : State) : (s.onShf f).dram = s.dram := rfl

@[simp] theorem State.onPool_pending (p : Nat) (f : Pool → Pool) (s : State) : (s.onPool p f).pending = s.pending := rfl
@[simp] theorem State.onPool_aonOn (p : Nat) (f : Pool → Pool) (s : State) : (s.onPool p f).aonOn = s.aonOn := rfl
@[simp] theorem State.onPool_free (p : Nat) (f : Pool → Pool) (s : State) : (s.onPool p f).free = s.free := rfl
@[simp] theorem State.onPool_regs (p : Nat) (f : Pool → Pool) (s : State) : (s.onPool p f).regs = s.regs := rfl
@[simp] theorem State.onPool_latched (p : Nat) (f : Pool → Pool) (s : State) : (s.onPool p f).latched = s.latched := rfl
@[simp] theorem State.onPool_od (p : Nat) (f : Pool → Pool) (s : State) : (s.onPool p f).od = s.od := rfl
@[simp] theorem State.onPool_sys (p : Nat) (f : Pool → Pool) (s : State) : (s.onPool p f).sys = s.sys := rfl
@[simp] theorem State.onPool_evt (p : Nat) (f : Pool → Pool) (s : State) : (s.onPool p f).evt = s.evt := rfl
@[simp] theorem State.onPool_pwr (p : Nat) (f : Pool → Pool) (s : State) : (s.onPool p f).pwr = s.pwr := rfl
@[simp] theorem State.onPool_tap (p : Nat) (f : Pool → Pool) (s : State) : (s.onPool p f).tap = s.tap := rfl
@[simp] theorem State.onPool_thm (p : Nat) (f : Pool → Pool) (s : State) : (s.onPool p f).thm = s.thm := rfl
@[simp] theorem State.onPool_boot (p : Nat) (f : Pool → Pool) (s : State) : (s.onPool p f).boot = s.boot := rfl
@[simp] theorem State.onPool_hq (p : Nat) (f : Pool → Pool) (s : State) : (s.onPool p f).hq = s.hq := rfl
@[simp] theorem State.onPool_jrn (p : Nat) (f : Pool → Pool) (s : State) : (s.onPool p f).jrn = s.jrn := rfl
@[simp] theorem State.onPool_culm (p : Nat) (f : Pool → Pool) (s : State) : (s.onPool p f).culm = s.culm := rfl
@[simp] theorem State.onPool_time (p : Nat) (f : Pool → Pool) (s : State) : (s.onPool p f).time = s.time := rfl
@[simp] theorem State.onPool_die (p : Nat) (f : Pool → Pool) (s : State) : (s.onPool p f).die = s.die := rfl
@[simp] theorem State.onPool_zop (p : Nat) (f : Pool → Pool) (s : State) : (s.onPool p f).zop = s.zop := rfl
@[simp] theorem State.onPool_ls (p : Nat) (f : Pool → Pool) (s : State) : (s.onPool p f).ls = s.ls := rfl
@[simp] theorem State.onPool_pgf (p : Nat) (f : Pool → Pool) (s : State) : (s.onPool p f).pgf = s.pgf := rfl
@[simp] theorem State.onPool_husk (p : Nat) (f : Pool → Pool) (s : State) : (s.onPool p f).husk = s.husk := rfl
@[simp] theorem State.onPool_mov (p : Nat) (f : Pool → Pool) (s : State) : (s.onPool p f).mov = s.mov := rfl
@[simp] theorem State.onPool_rch (p : Nat) (f : Pool → Pool) (s : State) : (s.onPool p f).rch = s.rch := rfl
@[simp] theorem State.onPool_srv (p : Nat) (f : Pool → Pool) (s : State) : (s.onPool p f).srv = s.srv := rfl
@[simp] theorem State.onPool_spn (p : Nat) (f : Pool → Pool) (s : State) : (s.onPool p f).spn = s.spn := rfl
@[simp] theorem State.onPool_ret (p : Nat) (f : Pool → Pool) (s : State) : (s.onPool p f).ret = s.ret := rfl
@[simp] theorem State.onPool_mot (p : Nat) (f : Pool → Pool) (s : State) : (s.onPool p f).mot = s.mot := rfl
@[simp] theorem State.onPool_drv (p : Nat) (f : Pool → Pool) (s : State) : (s.onPool p f).drv = s.drv := rfl
@[simp] theorem State.onPool_teff (p : Nat) (f : Pool → Pool) (s : State) : (s.onPool p f).teff = s.teff := rfl
@[simp] theorem State.onPool_hv (p : Nat) (f : Pool → Pool) (s : State) : (s.onPool p f).hv = s.hv := rfl
@[simp] theorem State.onPool_fus (p : Nat) (f : Pool → Pool) (s : State) : (s.onPool p f).fus = s.fus := rfl
@[simp] theorem State.onPool_cut (p : Nat) (f : Pool → Pool) (s : State) : (s.onPool p f).cut = s.cut := rfl
@[simp] theorem State.onPool_cal (p : Nat) (f : Pool → Pool) (s : State) : (s.onPool p f).cal = s.cal := rfl
@[simp] theorem State.onPool_dram (p : Nat) (f : Pool → Pool) (s : State) : (s.onPool p f).dram = s.dram := rfl

@[simp] theorem State.onTeff_pending (f : Teff → Teff) (s : State) : (s.onTeff f).pending = s.pending := rfl
@[simp] theorem State.onTeff_aonOn (f : Teff → Teff) (s : State) : (s.onTeff f).aonOn = s.aonOn := rfl
@[simp] theorem State.onTeff_free (f : Teff → Teff) (s : State) : (s.onTeff f).free = s.free := rfl
@[simp] theorem State.onTeff_regs (f : Teff → Teff) (s : State) : (s.onTeff f).regs = s.regs := rfl
@[simp] theorem State.onTeff_latched (f : Teff → Teff) (s : State) : (s.onTeff f).latched = s.latched := rfl
@[simp] theorem State.onTeff_od (f : Teff → Teff) (s : State) : (s.onTeff f).od = s.od := rfl
@[simp] theorem State.onTeff_sys (f : Teff → Teff) (s : State) : (s.onTeff f).sys = s.sys := rfl
@[simp] theorem State.onTeff_evt (f : Teff → Teff) (s : State) : (s.onTeff f).evt = s.evt := rfl
@[simp] theorem State.onTeff_pwr (f : Teff → Teff) (s : State) : (s.onTeff f).pwr = s.pwr := rfl
@[simp] theorem State.onTeff_tap (f : Teff → Teff) (s : State) : (s.onTeff f).tap = s.tap := rfl
@[simp] theorem State.onTeff_thm (f : Teff → Teff) (s : State) : (s.onTeff f).thm = s.thm := rfl
@[simp] theorem State.onTeff_boot (f : Teff → Teff) (s : State) : (s.onTeff f).boot = s.boot := rfl
@[simp] theorem State.onTeff_hq (f : Teff → Teff) (s : State) : (s.onTeff f).hq = s.hq := rfl
@[simp] theorem State.onTeff_jrn (f : Teff → Teff) (s : State) : (s.onTeff f).jrn = s.jrn := rfl
@[simp] theorem State.onTeff_culm (f : Teff → Teff) (s : State) : (s.onTeff f).culm = s.culm := rfl
@[simp] theorem State.onTeff_time (f : Teff → Teff) (s : State) : (s.onTeff f).time = s.time := rfl
@[simp] theorem State.onTeff_die (f : Teff → Teff) (s : State) : (s.onTeff f).die = s.die := rfl
@[simp] theorem State.onTeff_zop (f : Teff → Teff) (s : State) : (s.onTeff f).zop = s.zop := rfl
@[simp] theorem State.onTeff_ls (f : Teff → Teff) (s : State) : (s.onTeff f).ls = s.ls := rfl
@[simp] theorem State.onTeff_pgf (f : Teff → Teff) (s : State) : (s.onTeff f).pgf = s.pgf := rfl
@[simp] theorem State.onTeff_husk (f : Teff → Teff) (s : State) : (s.onTeff f).husk = s.husk := rfl
@[simp] theorem State.onTeff_shf (f : Teff → Teff) (s : State) : (s.onTeff f).shf = s.shf := rfl
@[simp] theorem State.onTeff_mov (f : Teff → Teff) (s : State) : (s.onTeff f).mov = s.mov := rfl
@[simp] theorem State.onTeff_rch (f : Teff → Teff) (s : State) : (s.onTeff f).rch = s.rch := rfl
@[simp] theorem State.onTeff_srv (f : Teff → Teff) (s : State) : (s.onTeff f).srv = s.srv := rfl
@[simp] theorem State.onTeff_spn (f : Teff → Teff) (s : State) : (s.onTeff f).spn = s.spn := rfl
@[simp] theorem State.onTeff_ret (f : Teff → Teff) (s : State) : (s.onTeff f).ret = s.ret := rfl
@[simp] theorem State.onTeff_mot (f : Teff → Teff) (s : State) : (s.onTeff f).mot = s.mot := rfl
@[simp] theorem State.onTeff_drv (f : Teff → Teff) (s : State) : (s.onTeff f).drv = s.drv := rfl
@[simp] theorem State.onTeff_teff (f : Teff → Teff) (s : State) : (s.onTeff f).teff = f s.teff := rfl
@[simp] theorem State.onTeff_hv (f : Teff → Teff) (s : State) : (s.onTeff f).hv = s.hv := rfl
@[simp] theorem State.onTeff_fus (f : Teff → Teff) (s : State) : (s.onTeff f).fus = s.fus := rfl
@[simp] theorem State.onTeff_cut (f : Teff → Teff) (s : State) : (s.onTeff f).cut = s.cut := rfl
@[simp] theorem State.onTeff_cal (f : Teff → Teff) (s : State) : (s.onTeff f).cal = s.cal := rfl
@[simp] theorem State.onTeff_dram (f : Teff → Teff) (s : State) : (s.onTeff f).dram = s.dram := rfl

@[simp] theorem State.onTs_pending (n : Nat) (f : TSlot → TSlot) (s : State) : (s.onTs n f).pending = s.pending := rfl
@[simp] theorem State.onTs_aonOn (n : Nat) (f : TSlot → TSlot) (s : State) : (s.onTs n f).aonOn = s.aonOn := rfl
@[simp] theorem State.onTs_free (n : Nat) (f : TSlot → TSlot) (s : State) : (s.onTs n f).free = s.free := rfl
@[simp] theorem State.onTs_regs (n : Nat) (f : TSlot → TSlot) (s : State) : (s.onTs n f).regs = s.regs := rfl
@[simp] theorem State.onTs_latched (n : Nat) (f : TSlot → TSlot) (s : State) : (s.onTs n f).latched = s.latched := rfl
@[simp] theorem State.onTs_od (n : Nat) (f : TSlot → TSlot) (s : State) : (s.onTs n f).od = s.od := rfl
@[simp] theorem State.onTs_sys (n : Nat) (f : TSlot → TSlot) (s : State) : (s.onTs n f).sys = s.sys := rfl
@[simp] theorem State.onTs_evt (n : Nat) (f : TSlot → TSlot) (s : State) : (s.onTs n f).evt = s.evt := rfl
@[simp] theorem State.onTs_pwr (n : Nat) (f : TSlot → TSlot) (s : State) : (s.onTs n f).pwr = s.pwr := rfl
@[simp] theorem State.onTs_tap (n : Nat) (f : TSlot → TSlot) (s : State) : (s.onTs n f).tap = s.tap := rfl
@[simp] theorem State.onTs_thm (n : Nat) (f : TSlot → TSlot) (s : State) : (s.onTs n f).thm = s.thm := rfl
@[simp] theorem State.onTs_boot (n : Nat) (f : TSlot → TSlot) (s : State) : (s.onTs n f).boot = s.boot := rfl
@[simp] theorem State.onTs_hq (n : Nat) (f : TSlot → TSlot) (s : State) : (s.onTs n f).hq = s.hq := rfl
@[simp] theorem State.onTs_jrn (n : Nat) (f : TSlot → TSlot) (s : State) : (s.onTs n f).jrn = s.jrn := rfl
@[simp] theorem State.onTs_culm (n : Nat) (f : TSlot → TSlot) (s : State) : (s.onTs n f).culm = s.culm := rfl
@[simp] theorem State.onTs_time (n : Nat) (f : TSlot → TSlot) (s : State) : (s.onTs n f).time = s.time := rfl
@[simp] theorem State.onTs_die (n : Nat) (f : TSlot → TSlot) (s : State) : (s.onTs n f).die = s.die := rfl
@[simp] theorem State.onTs_zop (n : Nat) (f : TSlot → TSlot) (s : State) : (s.onTs n f).zop = s.zop := rfl
@[simp] theorem State.onTs_ls (n : Nat) (f : TSlot → TSlot) (s : State) : (s.onTs n f).ls = s.ls := rfl
@[simp] theorem State.onTs_pgf (n : Nat) (f : TSlot → TSlot) (s : State) : (s.onTs n f).pgf = s.pgf := rfl
@[simp] theorem State.onTs_husk (n : Nat) (f : TSlot → TSlot) (s : State) : (s.onTs n f).husk = s.husk := rfl
@[simp] theorem State.onTs_shf (n : Nat) (f : TSlot → TSlot) (s : State) : (s.onTs n f).shf = s.shf := rfl
@[simp] theorem State.onTs_mov (n : Nat) (f : TSlot → TSlot) (s : State) : (s.onTs n f).mov = s.mov := rfl
@[simp] theorem State.onTs_rch (n : Nat) (f : TSlot → TSlot) (s : State) : (s.onTs n f).rch = s.rch := rfl
@[simp] theorem State.onTs_srv (n : Nat) (f : TSlot → TSlot) (s : State) : (s.onTs n f).srv = s.srv := rfl
@[simp] theorem State.onTs_spn (n : Nat) (f : TSlot → TSlot) (s : State) : (s.onTs n f).spn = s.spn := rfl
@[simp] theorem State.onTs_ret (n : Nat) (f : TSlot → TSlot) (s : State) : (s.onTs n f).ret = s.ret := rfl
@[simp] theorem State.onTs_mot (n : Nat) (f : TSlot → TSlot) (s : State) : (s.onTs n f).mot = s.mot := rfl
@[simp] theorem State.onTs_drv (n : Nat) (f : TSlot → TSlot) (s : State) : (s.onTs n f).drv = s.drv := rfl
@[simp] theorem State.onTs_hv (n : Nat) (f : TSlot → TSlot) (s : State) : (s.onTs n f).hv = s.hv := rfl
@[simp] theorem State.onTs_fus (n : Nat) (f : TSlot → TSlot) (s : State) : (s.onTs n f).fus = s.fus := rfl
@[simp] theorem State.onTs_cut (n : Nat) (f : TSlot → TSlot) (s : State) : (s.onTs n f).cut = s.cut := rfl
@[simp] theorem State.onTs_cal (n : Nat) (f : TSlot → TSlot) (s : State) : (s.onTs n f).cal = s.cal := rfl
@[simp] theorem State.onTs_dram (n : Nat) (f : TSlot → TSlot) (s : State) : (s.onTs n f).dram = s.dram := rfl

@[simp] theorem State.onLane_pending (l : Nat) (f : Lane → Lane) (s : State) : (s.onLane l f).pending = s.pending := rfl
@[simp] theorem State.onLane_aonOn (l : Nat) (f : Lane → Lane) (s : State) : (s.onLane l f).aonOn = s.aonOn := rfl
@[simp] theorem State.onLane_free (l : Nat) (f : Lane → Lane) (s : State) : (s.onLane l f).free = s.free := rfl
@[simp] theorem State.onLane_regs (l : Nat) (f : Lane → Lane) (s : State) : (s.onLane l f).regs = s.regs := rfl
@[simp] theorem State.onLane_latched (l : Nat) (f : Lane → Lane) (s : State) : (s.onLane l f).latched = s.latched := rfl
@[simp] theorem State.onLane_od (l : Nat) (f : Lane → Lane) (s : State) : (s.onLane l f).od = s.od := rfl
@[simp] theorem State.onLane_sys (l : Nat) (f : Lane → Lane) (s : State) : (s.onLane l f).sys = s.sys := rfl
@[simp] theorem State.onLane_evt (l : Nat) (f : Lane → Lane) (s : State) : (s.onLane l f).evt = s.evt := rfl
@[simp] theorem State.onLane_pwr (l : Nat) (f : Lane → Lane) (s : State) : (s.onLane l f).pwr = s.pwr := rfl
@[simp] theorem State.onLane_tap (l : Nat) (f : Lane → Lane) (s : State) : (s.onLane l f).tap = s.tap := rfl
@[simp] theorem State.onLane_thm (l : Nat) (f : Lane → Lane) (s : State) : (s.onLane l f).thm = s.thm := rfl
@[simp] theorem State.onLane_boot (l : Nat) (f : Lane → Lane) (s : State) : (s.onLane l f).boot = s.boot := rfl
@[simp] theorem State.onLane_hq (l : Nat) (f : Lane → Lane) (s : State) : (s.onLane l f).hq = s.hq := rfl
@[simp] theorem State.onLane_jrn (l : Nat) (f : Lane → Lane) (s : State) : (s.onLane l f).jrn = s.jrn := rfl
@[simp] theorem State.onLane_culm (l : Nat) (f : Lane → Lane) (s : State) : (s.onLane l f).culm = s.culm := rfl
@[simp] theorem State.onLane_time (l : Nat) (f : Lane → Lane) (s : State) : (s.onLane l f).time = s.time := rfl
@[simp] theorem State.onLane_die (l : Nat) (f : Lane → Lane) (s : State) : (s.onLane l f).die = s.die := rfl
@[simp] theorem State.onLane_zop (l : Nat) (f : Lane → Lane) (s : State) : (s.onLane l f).zop = s.zop := rfl
@[simp] theorem State.onLane_ls (l : Nat) (f : Lane → Lane) (s : State) : (s.onLane l f).ls = s.ls := rfl
@[simp] theorem State.onLane_pgf (l : Nat) (f : Lane → Lane) (s : State) : (s.onLane l f).pgf = s.pgf := rfl
@[simp] theorem State.onLane_husk (l : Nat) (f : Lane → Lane) (s : State) : (s.onLane l f).husk = s.husk := rfl
@[simp] theorem State.onLane_shf (l : Nat) (f : Lane → Lane) (s : State) : (s.onLane l f).shf = s.shf := rfl
@[simp] theorem State.onLane_mov (l : Nat) (f : Lane → Lane) (s : State) : (s.onLane l f).mov = s.mov := rfl
@[simp] theorem State.onLane_rch (l : Nat) (f : Lane → Lane) (s : State) : (s.onLane l f).rch = s.rch := rfl
@[simp] theorem State.onLane_srv (l : Nat) (f : Lane → Lane) (s : State) : (s.onLane l f).srv = s.srv := rfl
@[simp] theorem State.onLane_spn (l : Nat) (f : Lane → Lane) (s : State) : (s.onLane l f).spn = s.spn := rfl
@[simp] theorem State.onLane_ret (l : Nat) (f : Lane → Lane) (s : State) : (s.onLane l f).ret = s.ret := rfl
@[simp] theorem State.onLane_mot (l : Nat) (f : Lane → Lane) (s : State) : (s.onLane l f).mot = s.mot := rfl
@[simp] theorem State.onLane_drv (l : Nat) (f : Lane → Lane) (s : State) : (s.onLane l f).drv = s.drv := rfl
@[simp] theorem State.onLane_hv (l : Nat) (f : Lane → Lane) (s : State) : (s.onLane l f).hv = s.hv := rfl
@[simp] theorem State.onLane_fus (l : Nat) (f : Lane → Lane) (s : State) : (s.onLane l f).fus = s.fus := rfl
@[simp] theorem State.onLane_cut (l : Nat) (f : Lane → Lane) (s : State) : (s.onLane l f).cut = s.cut := rfl
@[simp] theorem State.onLane_cal (l : Nat) (f : Lane → Lane) (s : State) : (s.onLane l f).cal = s.cal := rfl
@[simp] theorem State.onLane_dram (l : Nat) (f : Lane → Lane) (s : State) : (s.onLane l f).dram = s.dram := rfl

@[simp] theorem State.onThm_pending (f : Thm → Thm) (s : State) : (s.onThm f).pending = s.pending := rfl
@[simp] theorem State.onThm_aonOn (f : Thm → Thm) (s : State) : (s.onThm f).aonOn = s.aonOn := rfl
@[simp] theorem State.onThm_free (f : Thm → Thm) (s : State) : (s.onThm f).free = s.free := rfl
@[simp] theorem State.onThm_regs (f : Thm → Thm) (s : State) : (s.onThm f).regs = s.regs := rfl
@[simp] theorem State.onThm_latched (f : Thm → Thm) (s : State) : (s.onThm f).latched = s.latched := rfl
@[simp] theorem State.onThm_od (f : Thm → Thm) (s : State) : (s.onThm f).od = s.od := rfl
@[simp] theorem State.onThm_sys (f : Thm → Thm) (s : State) : (s.onThm f).sys = s.sys := rfl
@[simp] theorem State.onThm_evt (f : Thm → Thm) (s : State) : (s.onThm f).evt = s.evt := rfl
@[simp] theorem State.onThm_pwr (f : Thm → Thm) (s : State) : (s.onThm f).pwr = s.pwr := rfl
@[simp] theorem State.onThm_tap (f : Thm → Thm) (s : State) : (s.onThm f).tap = s.tap := rfl
@[simp] theorem State.onThm_thm (f : Thm → Thm) (s : State) : (s.onThm f).thm = f s.thm := rfl
@[simp] theorem State.onThm_boot (f : Thm → Thm) (s : State) : (s.onThm f).boot = s.boot := rfl
@[simp] theorem State.onThm_hq (f : Thm → Thm) (s : State) : (s.onThm f).hq = s.hq := rfl
@[simp] theorem State.onThm_jrn (f : Thm → Thm) (s : State) : (s.onThm f).jrn = s.jrn := rfl
@[simp] theorem State.onThm_culm (f : Thm → Thm) (s : State) : (s.onThm f).culm = s.culm := rfl
@[simp] theorem State.onThm_time (f : Thm → Thm) (s : State) : (s.onThm f).time = s.time := rfl
@[simp] theorem State.onThm_die (f : Thm → Thm) (s : State) : (s.onThm f).die = s.die := rfl
@[simp] theorem State.onThm_zop (f : Thm → Thm) (s : State) : (s.onThm f).zop = s.zop := rfl
@[simp] theorem State.onThm_ls (f : Thm → Thm) (s : State) : (s.onThm f).ls = s.ls := rfl
@[simp] theorem State.onThm_pgf (f : Thm → Thm) (s : State) : (s.onThm f).pgf = s.pgf := rfl
@[simp] theorem State.onThm_husk (f : Thm → Thm) (s : State) : (s.onThm f).husk = s.husk := rfl
@[simp] theorem State.onThm_shf (f : Thm → Thm) (s : State) : (s.onThm f).shf = s.shf := rfl
@[simp] theorem State.onThm_mov (f : Thm → Thm) (s : State) : (s.onThm f).mov = s.mov := rfl
@[simp] theorem State.onThm_rch (f : Thm → Thm) (s : State) : (s.onThm f).rch = s.rch := rfl
@[simp] theorem State.onThm_srv (f : Thm → Thm) (s : State) : (s.onThm f).srv = s.srv := rfl
@[simp] theorem State.onThm_spn (f : Thm → Thm) (s : State) : (s.onThm f).spn = s.spn := rfl
@[simp] theorem State.onThm_ret (f : Thm → Thm) (s : State) : (s.onThm f).ret = s.ret := rfl
@[simp] theorem State.onThm_mot (f : Thm → Thm) (s : State) : (s.onThm f).mot = s.mot := rfl
@[simp] theorem State.onThm_drv (f : Thm → Thm) (s : State) : (s.onThm f).drv = s.drv := rfl
@[simp] theorem State.onThm_teff (f : Thm → Thm) (s : State) : (s.onThm f).teff = s.teff := rfl
@[simp] theorem State.onThm_hv (f : Thm → Thm) (s : State) : (s.onThm f).hv = s.hv := rfl
@[simp] theorem State.onThm_fus (f : Thm → Thm) (s : State) : (s.onThm f).fus = s.fus := rfl
@[simp] theorem State.onThm_cut (f : Thm → Thm) (s : State) : (s.onThm f).cut = s.cut := rfl
@[simp] theorem State.onThm_cal (f : Thm → Thm) (s : State) : (s.onThm f).cal = s.cal := rfl
@[simp] theorem State.onThm_dram (f : Thm → Thm) (s : State) : (s.onThm f).dram = s.dram := rfl

@[simp] theorem State.onPgf_pending (f : Pgf → Pgf) (s : State) : (s.onPgf f).pending = s.pending := rfl
@[simp] theorem State.onPgf_aonOn (f : Pgf → Pgf) (s : State) : (s.onPgf f).aonOn = s.aonOn := rfl
@[simp] theorem State.onPgf_free (f : Pgf → Pgf) (s : State) : (s.onPgf f).free = s.free := rfl
@[simp] theorem State.onPgf_regs (f : Pgf → Pgf) (s : State) : (s.onPgf f).regs = s.regs := rfl
@[simp] theorem State.onPgf_latched (f : Pgf → Pgf) (s : State) : (s.onPgf f).latched = s.latched := rfl
@[simp] theorem State.onPgf_od (f : Pgf → Pgf) (s : State) : (s.onPgf f).od = s.od := rfl
@[simp] theorem State.onPgf_sys (f : Pgf → Pgf) (s : State) : (s.onPgf f).sys = s.sys := rfl
@[simp] theorem State.onPgf_evt (f : Pgf → Pgf) (s : State) : (s.onPgf f).evt = s.evt := rfl
@[simp] theorem State.onPgf_pwr (f : Pgf → Pgf) (s : State) : (s.onPgf f).pwr = s.pwr := rfl
@[simp] theorem State.onPgf_tap (f : Pgf → Pgf) (s : State) : (s.onPgf f).tap = s.tap := rfl
@[simp] theorem State.onPgf_thm (f : Pgf → Pgf) (s : State) : (s.onPgf f).thm = s.thm := rfl
@[simp] theorem State.onPgf_boot (f : Pgf → Pgf) (s : State) : (s.onPgf f).boot = s.boot := rfl
@[simp] theorem State.onPgf_hq (f : Pgf → Pgf) (s : State) : (s.onPgf f).hq = s.hq := rfl
@[simp] theorem State.onPgf_jrn (f : Pgf → Pgf) (s : State) : (s.onPgf f).jrn = s.jrn := rfl
@[simp] theorem State.onPgf_culm (f : Pgf → Pgf) (s : State) : (s.onPgf f).culm = s.culm := rfl
@[simp] theorem State.onPgf_time (f : Pgf → Pgf) (s : State) : (s.onPgf f).time = s.time := rfl
@[simp] theorem State.onPgf_die (f : Pgf → Pgf) (s : State) : (s.onPgf f).die = s.die := rfl
@[simp] theorem State.onPgf_zop (f : Pgf → Pgf) (s : State) : (s.onPgf f).zop = s.zop := rfl
@[simp] theorem State.onPgf_ls (f : Pgf → Pgf) (s : State) : (s.onPgf f).ls = s.ls := rfl
@[simp] theorem State.onPgf_pgf (f : Pgf → Pgf) (s : State) : (s.onPgf f).pgf = f s.pgf := rfl
@[simp] theorem State.onPgf_husk (f : Pgf → Pgf) (s : State) : (s.onPgf f).husk = s.husk := rfl
@[simp] theorem State.onPgf_shf (f : Pgf → Pgf) (s : State) : (s.onPgf f).shf = s.shf := rfl
@[simp] theorem State.onPgf_mov (f : Pgf → Pgf) (s : State) : (s.onPgf f).mov = s.mov := rfl
@[simp] theorem State.onPgf_rch (f : Pgf → Pgf) (s : State) : (s.onPgf f).rch = s.rch := rfl
@[simp] theorem State.onPgf_srv (f : Pgf → Pgf) (s : State) : (s.onPgf f).srv = s.srv := rfl
@[simp] theorem State.onPgf_spn (f : Pgf → Pgf) (s : State) : (s.onPgf f).spn = s.spn := rfl
@[simp] theorem State.onPgf_ret (f : Pgf → Pgf) (s : State) : (s.onPgf f).ret = s.ret := rfl
@[simp] theorem State.onPgf_mot (f : Pgf → Pgf) (s : State) : (s.onPgf f).mot = s.mot := rfl
@[simp] theorem State.onPgf_drv (f : Pgf → Pgf) (s : State) : (s.onPgf f).drv = s.drv := rfl
@[simp] theorem State.onPgf_teff (f : Pgf → Pgf) (s : State) : (s.onPgf f).teff = s.teff := rfl
@[simp] theorem State.onPgf_hv (f : Pgf → Pgf) (s : State) : (s.onPgf f).hv = s.hv := rfl
@[simp] theorem State.onPgf_fus (f : Pgf → Pgf) (s : State) : (s.onPgf f).fus = s.fus := rfl
@[simp] theorem State.onPgf_cut (f : Pgf → Pgf) (s : State) : (s.onPgf f).cut = s.cut := rfl
@[simp] theorem State.onPgf_cal (f : Pgf → Pgf) (s : State) : (s.onPgf f).cal = s.cal := rfl
@[simp] theorem State.onPgf_dram (f : Pgf → Pgf) (s : State) : (s.onPgf f).dram = s.dram := rfl

@[simp] theorem State.onTok_pending (k : Nat) (f : Token → Token) (s : State) : (s.onTok k f).pending = s.pending := rfl
@[simp] theorem State.onTok_aonOn (k : Nat) (f : Token → Token) (s : State) : (s.onTok k f).aonOn = s.aonOn := rfl
@[simp] theorem State.onTok_free (k : Nat) (f : Token → Token) (s : State) : (s.onTok k f).free = s.free := rfl
@[simp] theorem State.onTok_regs (k : Nat) (f : Token → Token) (s : State) : (s.onTok k f).regs = s.regs := rfl
@[simp] theorem State.onTok_latched (k : Nat) (f : Token → Token) (s : State) : (s.onTok k f).latched = s.latched := rfl
@[simp] theorem State.onTok_od (k : Nat) (f : Token → Token) (s : State) : (s.onTok k f).od = s.od := rfl
@[simp] theorem State.onTok_sys (k : Nat) (f : Token → Token) (s : State) : (s.onTok k f).sys = s.sys := rfl
@[simp] theorem State.onTok_evt (k : Nat) (f : Token → Token) (s : State) : (s.onTok k f).evt = s.evt := rfl
@[simp] theorem State.onTok_pwr (k : Nat) (f : Token → Token) (s : State) : (s.onTok k f).pwr = s.pwr := rfl
@[simp] theorem State.onTok_tap (k : Nat) (f : Token → Token) (s : State) : (s.onTok k f).tap = s.tap := rfl
@[simp] theorem State.onTok_thm (k : Nat) (f : Token → Token) (s : State) : (s.onTok k f).thm = s.thm := rfl
@[simp] theorem State.onTok_boot (k : Nat) (f : Token → Token) (s : State) : (s.onTok k f).boot = s.boot := rfl
@[simp] theorem State.onTok_hq (k : Nat) (f : Token → Token) (s : State) : (s.onTok k f).hq = s.hq := rfl
@[simp] theorem State.onTok_jrn (k : Nat) (f : Token → Token) (s : State) : (s.onTok k f).jrn = s.jrn := rfl
@[simp] theorem State.onTok_culm (k : Nat) (f : Token → Token) (s : State) : (s.onTok k f).culm = s.culm := rfl
@[simp] theorem State.onTok_time (k : Nat) (f : Token → Token) (s : State) : (s.onTok k f).time = s.time := rfl
@[simp] theorem State.onTok_die (k : Nat) (f : Token → Token) (s : State) : (s.onTok k f).die = s.die := rfl
@[simp] theorem State.onTok_zop (k : Nat) (f : Token → Token) (s : State) : (s.onTok k f).zop = s.zop := rfl
@[simp] theorem State.onTok_ls (k : Nat) (f : Token → Token) (s : State) : (s.onTok k f).ls = s.ls := rfl
@[simp] theorem State.onTok_husk (k : Nat) (f : Token → Token) (s : State) : (s.onTok k f).husk = s.husk := rfl
@[simp] theorem State.onTok_shf (k : Nat) (f : Token → Token) (s : State) : (s.onTok k f).shf = s.shf := rfl
@[simp] theorem State.onTok_mov (k : Nat) (f : Token → Token) (s : State) : (s.onTok k f).mov = s.mov := rfl
@[simp] theorem State.onTok_rch (k : Nat) (f : Token → Token) (s : State) : (s.onTok k f).rch = s.rch := rfl
@[simp] theorem State.onTok_srv (k : Nat) (f : Token → Token) (s : State) : (s.onTok k f).srv = s.srv := rfl
@[simp] theorem State.onTok_spn (k : Nat) (f : Token → Token) (s : State) : (s.onTok k f).spn = s.spn := rfl
@[simp] theorem State.onTok_ret (k : Nat) (f : Token → Token) (s : State) : (s.onTok k f).ret = s.ret := rfl
@[simp] theorem State.onTok_mot (k : Nat) (f : Token → Token) (s : State) : (s.onTok k f).mot = s.mot := rfl
@[simp] theorem State.onTok_drv (k : Nat) (f : Token → Token) (s : State) : (s.onTok k f).drv = s.drv := rfl
@[simp] theorem State.onTok_teff (k : Nat) (f : Token → Token) (s : State) : (s.onTok k f).teff = s.teff := rfl
@[simp] theorem State.onTok_hv (k : Nat) (f : Token → Token) (s : State) : (s.onTok k f).hv = s.hv := rfl
@[simp] theorem State.onTok_fus (k : Nat) (f : Token → Token) (s : State) : (s.onTok k f).fus = s.fus := rfl
@[simp] theorem State.onTok_cut (k : Nat) (f : Token → Token) (s : State) : (s.onTok k f).cut = s.cut := rfl
@[simp] theorem State.onTok_cal (k : Nat) (f : Token → Token) (s : State) : (s.onTok k f).cal = s.cal := rfl
@[simp] theorem State.onTok_dram (k : Nat) (f : Token → Token) (s : State) : (s.onTok k f).dram = s.dram := rfl

@[simp] theorem State.onZop_pending (f : Zop → Zop) (s : State) : (s.onZop f).pending = s.pending := rfl
@[simp] theorem State.onZop_aonOn (f : Zop → Zop) (s : State) : (s.onZop f).aonOn = s.aonOn := rfl
@[simp] theorem State.onZop_free (f : Zop → Zop) (s : State) : (s.onZop f).free = s.free := rfl
@[simp] theorem State.onZop_regs (f : Zop → Zop) (s : State) : (s.onZop f).regs = s.regs := rfl
@[simp] theorem State.onZop_latched (f : Zop → Zop) (s : State) : (s.onZop f).latched = s.latched := rfl
@[simp] theorem State.onZop_od (f : Zop → Zop) (s : State) : (s.onZop f).od = s.od := rfl
@[simp] theorem State.onZop_sys (f : Zop → Zop) (s : State) : (s.onZop f).sys = s.sys := rfl
@[simp] theorem State.onZop_evt (f : Zop → Zop) (s : State) : (s.onZop f).evt = s.evt := rfl
@[simp] theorem State.onZop_pwr (f : Zop → Zop) (s : State) : (s.onZop f).pwr = s.pwr := rfl
@[simp] theorem State.onZop_tap (f : Zop → Zop) (s : State) : (s.onZop f).tap = s.tap := rfl
@[simp] theorem State.onZop_thm (f : Zop → Zop) (s : State) : (s.onZop f).thm = s.thm := rfl
@[simp] theorem State.onZop_boot (f : Zop → Zop) (s : State) : (s.onZop f).boot = s.boot := rfl
@[simp] theorem State.onZop_hq (f : Zop → Zop) (s : State) : (s.onZop f).hq = s.hq := rfl
@[simp] theorem State.onZop_jrn (f : Zop → Zop) (s : State) : (s.onZop f).jrn = s.jrn := rfl
@[simp] theorem State.onZop_culm (f : Zop → Zop) (s : State) : (s.onZop f).culm = s.culm := rfl
@[simp] theorem State.onZop_time (f : Zop → Zop) (s : State) : (s.onZop f).time = s.time := rfl
@[simp] theorem State.onZop_die (f : Zop → Zop) (s : State) : (s.onZop f).die = s.die := rfl
@[simp] theorem State.onZop_zop (f : Zop → Zop) (s : State) : (s.onZop f).zop = f s.zop := rfl
@[simp] theorem State.onZop_ls (f : Zop → Zop) (s : State) : (s.onZop f).ls = s.ls := rfl
@[simp] theorem State.onZop_pgf (f : Zop → Zop) (s : State) : (s.onZop f).pgf = s.pgf := rfl
@[simp] theorem State.onZop_husk (f : Zop → Zop) (s : State) : (s.onZop f).husk = s.husk := rfl
@[simp] theorem State.onZop_shf (f : Zop → Zop) (s : State) : (s.onZop f).shf = s.shf := rfl
@[simp] theorem State.onZop_mov (f : Zop → Zop) (s : State) : (s.onZop f).mov = s.mov := rfl
@[simp] theorem State.onZop_rch (f : Zop → Zop) (s : State) : (s.onZop f).rch = s.rch := rfl
@[simp] theorem State.onZop_srv (f : Zop → Zop) (s : State) : (s.onZop f).srv = s.srv := rfl
@[simp] theorem State.onZop_spn (f : Zop → Zop) (s : State) : (s.onZop f).spn = s.spn := rfl
@[simp] theorem State.onZop_ret (f : Zop → Zop) (s : State) : (s.onZop f).ret = s.ret := rfl
@[simp] theorem State.onZop_mot (f : Zop → Zop) (s : State) : (s.onZop f).mot = s.mot := rfl
@[simp] theorem State.onZop_drv (f : Zop → Zop) (s : State) : (s.onZop f).drv = s.drv := rfl
@[simp] theorem State.onZop_teff (f : Zop → Zop) (s : State) : (s.onZop f).teff = s.teff := rfl
@[simp] theorem State.onZop_hv (f : Zop → Zop) (s : State) : (s.onZop f).hv = s.hv := rfl
@[simp] theorem State.onZop_fus (f : Zop → Zop) (s : State) : (s.onZop f).fus = s.fus := rfl
@[simp] theorem State.onZop_cut (f : Zop → Zop) (s : State) : (s.onZop f).cut = s.cut := rfl
@[simp] theorem State.onZop_cal (f : Zop → Zop) (s : State) : (s.onZop f).cal = s.cal := rfl
@[simp] theorem State.onZop_dram (f : Zop → Zop) (s : State) : (s.onZop f).dram = s.dram := rfl

@[simp] theorem State.onPort_pending (p : Nat) (f : PortCounts → PortCounts) (s : State) : (s.onPort p f).pending = s.pending := rfl
@[simp] theorem State.onPort_aonOn (p : Nat) (f : PortCounts → PortCounts) (s : State) : (s.onPort p f).aonOn = s.aonOn := rfl
@[simp] theorem State.onPort_free (p : Nat) (f : PortCounts → PortCounts) (s : State) : (s.onPort p f).free = s.free := rfl
@[simp] theorem State.onPort_regs (p : Nat) (f : PortCounts → PortCounts) (s : State) : (s.onPort p f).regs = s.regs := rfl
@[simp] theorem State.onPort_latched (p : Nat) (f : PortCounts → PortCounts) (s : State) : (s.onPort p f).latched = s.latched := rfl
@[simp] theorem State.onPort_od (p : Nat) (f : PortCounts → PortCounts) (s : State) : (s.onPort p f).od = s.od := rfl
@[simp] theorem State.onPort_sys (p : Nat) (f : PortCounts → PortCounts) (s : State) : (s.onPort p f).sys = s.sys := rfl
@[simp] theorem State.onPort_evt (p : Nat) (f : PortCounts → PortCounts) (s : State) : (s.onPort p f).evt = s.evt := rfl
@[simp] theorem State.onPort_pwr (p : Nat) (f : PortCounts → PortCounts) (s : State) : (s.onPort p f).pwr = s.pwr := rfl
@[simp] theorem State.onPort_tap (p : Nat) (f : PortCounts → PortCounts) (s : State) : (s.onPort p f).tap = s.tap := rfl
@[simp] theorem State.onPort_thm (p : Nat) (f : PortCounts → PortCounts) (s : State) : (s.onPort p f).thm = s.thm := rfl
@[simp] theorem State.onPort_boot (p : Nat) (f : PortCounts → PortCounts) (s : State) : (s.onPort p f).boot = s.boot := rfl
@[simp] theorem State.onPort_hq (p : Nat) (f : PortCounts → PortCounts) (s : State) : (s.onPort p f).hq = s.hq := rfl
@[simp] theorem State.onPort_jrn (p : Nat) (f : PortCounts → PortCounts) (s : State) : (s.onPort p f).jrn = s.jrn := rfl
@[simp] theorem State.onPort_culm (p : Nat) (f : PortCounts → PortCounts) (s : State) : (s.onPort p f).culm = s.culm := rfl
@[simp] theorem State.onPort_time (p : Nat) (f : PortCounts → PortCounts) (s : State) : (s.onPort p f).time = s.time := rfl
@[simp] theorem State.onPort_die (p : Nat) (f : PortCounts → PortCounts) (s : State) : (s.onPort p f).die = s.die := rfl
@[simp] theorem State.onPort_ls (p : Nat) (f : PortCounts → PortCounts) (s : State) : (s.onPort p f).ls = s.ls := rfl
@[simp] theorem State.onPort_pgf (p : Nat) (f : PortCounts → PortCounts) (s : State) : (s.onPort p f).pgf = s.pgf := rfl
@[simp] theorem State.onPort_husk (p : Nat) (f : PortCounts → PortCounts) (s : State) : (s.onPort p f).husk = s.husk := rfl
@[simp] theorem State.onPort_shf (p : Nat) (f : PortCounts → PortCounts) (s : State) : (s.onPort p f).shf = s.shf := rfl
@[simp] theorem State.onPort_mov (p : Nat) (f : PortCounts → PortCounts) (s : State) : (s.onPort p f).mov = s.mov := rfl
@[simp] theorem State.onPort_rch (p : Nat) (f : PortCounts → PortCounts) (s : State) : (s.onPort p f).rch = s.rch := rfl
@[simp] theorem State.onPort_srv (p : Nat) (f : PortCounts → PortCounts) (s : State) : (s.onPort p f).srv = s.srv := rfl
@[simp] theorem State.onPort_spn (p : Nat) (f : PortCounts → PortCounts) (s : State) : (s.onPort p f).spn = s.spn := rfl
@[simp] theorem State.onPort_ret (p : Nat) (f : PortCounts → PortCounts) (s : State) : (s.onPort p f).ret = s.ret := rfl
@[simp] theorem State.onPort_mot (p : Nat) (f : PortCounts → PortCounts) (s : State) : (s.onPort p f).mot = s.mot := rfl
@[simp] theorem State.onPort_drv (p : Nat) (f : PortCounts → PortCounts) (s : State) : (s.onPort p f).drv = s.drv := rfl
@[simp] theorem State.onPort_teff (p : Nat) (f : PortCounts → PortCounts) (s : State) : (s.onPort p f).teff = s.teff := rfl
@[simp] theorem State.onPort_hv (p : Nat) (f : PortCounts → PortCounts) (s : State) : (s.onPort p f).hv = s.hv := rfl
@[simp] theorem State.onPort_fus (p : Nat) (f : PortCounts → PortCounts) (s : State) : (s.onPort p f).fus = s.fus := rfl
@[simp] theorem State.onPort_cut (p : Nat) (f : PortCounts → PortCounts) (s : State) : (s.onPort p f).cut = s.cut := rfl
@[simp] theorem State.onPort_cal (p : Nat) (f : PortCounts → PortCounts) (s : State) : (s.onPort p f).cal = s.cal := rfl
@[simp] theorem State.onPort_dram (p : Nat) (f : PortCounts → PortCounts) (s : State) : (s.onPort p f).dram = s.dram := rfl

@[simp] theorem State.setReg_pending (off : Nat) (v : Word) (s : State) : (s.setReg off v).pending = s.pending := rfl
@[simp] theorem State.setReg_aonOn (off : Nat) (v : Word) (s : State) : (s.setReg off v).aonOn = s.aonOn := rfl
@[simp] theorem State.setReg_free (off : Nat) (v : Word) (s : State) : (s.setReg off v).free = s.free := rfl
@[simp] theorem State.setReg_latched (off : Nat) (v : Word) (s : State) : (s.setReg off v).latched = s.latched := rfl
@[simp] theorem State.setReg_od (off : Nat) (v : Word) (s : State) : (s.setReg off v).od = s.od := rfl
@[simp] theorem State.setReg_sys (off : Nat) (v : Word) (s : State) : (s.setReg off v).sys = s.sys := rfl
@[simp] theorem State.setReg_evt (off : Nat) (v : Word) (s : State) : (s.setReg off v).evt = s.evt := rfl
@[simp] theorem State.setReg_pwr (off : Nat) (v : Word) (s : State) : (s.setReg off v).pwr = s.pwr := rfl
@[simp] theorem State.setReg_tap (off : Nat) (v : Word) (s : State) : (s.setReg off v).tap = s.tap := rfl
@[simp] theorem State.setReg_thm (off : Nat) (v : Word) (s : State) : (s.setReg off v).thm = s.thm := rfl
@[simp] theorem State.setReg_boot (off : Nat) (v : Word) (s : State) : (s.setReg off v).boot = s.boot := rfl
@[simp] theorem State.setReg_hq (off : Nat) (v : Word) (s : State) : (s.setReg off v).hq = s.hq := rfl
@[simp] theorem State.setReg_jrn (off : Nat) (v : Word) (s : State) : (s.setReg off v).jrn = s.jrn := rfl
@[simp] theorem State.setReg_culm (off : Nat) (v : Word) (s : State) : (s.setReg off v).culm = s.culm := rfl
@[simp] theorem State.setReg_time (off : Nat) (v : Word) (s : State) : (s.setReg off v).time = s.time := rfl
@[simp] theorem State.setReg_die (off : Nat) (v : Word) (s : State) : (s.setReg off v).die = s.die := rfl
@[simp] theorem State.setReg_zop (off : Nat) (v : Word) (s : State) : (s.setReg off v).zop = s.zop := rfl
@[simp] theorem State.setReg_ls (off : Nat) (v : Word) (s : State) : (s.setReg off v).ls = s.ls := rfl
@[simp] theorem State.setReg_pgf (off : Nat) (v : Word) (s : State) : (s.setReg off v).pgf = s.pgf := rfl
@[simp] theorem State.setReg_husk (off : Nat) (v : Word) (s : State) : (s.setReg off v).husk = s.husk := rfl
@[simp] theorem State.setReg_shf (off : Nat) (v : Word) (s : State) : (s.setReg off v).shf = s.shf := rfl
@[simp] theorem State.setReg_mov (off : Nat) (v : Word) (s : State) : (s.setReg off v).mov = s.mov := rfl
@[simp] theorem State.setReg_rch (off : Nat) (v : Word) (s : State) : (s.setReg off v).rch = s.rch := rfl
@[simp] theorem State.setReg_srv (off : Nat) (v : Word) (s : State) : (s.setReg off v).srv = s.srv := rfl
@[simp] theorem State.setReg_spn (off : Nat) (v : Word) (s : State) : (s.setReg off v).spn = s.spn := rfl
@[simp] theorem State.setReg_ret (off : Nat) (v : Word) (s : State) : (s.setReg off v).ret = s.ret := rfl
@[simp] theorem State.setReg_mot (off : Nat) (v : Word) (s : State) : (s.setReg off v).mot = s.mot := rfl
@[simp] theorem State.setReg_drv (off : Nat) (v : Word) (s : State) : (s.setReg off v).drv = s.drv := rfl
@[simp] theorem State.setReg_teff (off : Nat) (v : Word) (s : State) : (s.setReg off v).teff = s.teff := rfl
@[simp] theorem State.setReg_hv (off : Nat) (v : Word) (s : State) : (s.setReg off v).hv = s.hv := rfl
@[simp] theorem State.setReg_fus (off : Nat) (v : Word) (s : State) : (s.setReg off v).fus = s.fus := rfl
@[simp] theorem State.setReg_cut (off : Nat) (v : Word) (s : State) : (s.setReg off v).cut = s.cut := rfl
@[simp] theorem State.setReg_cal (off : Nat) (v : Word) (s : State) : (s.setReg off v).cal = s.cal := rfl
@[simp] theorem State.setReg_dram (off : Nat) (v : Word) (s : State) : (s.setReg off v).dram = s.dram := rfl

@[simp] theorem State.odPut_pending (k : Nat) (d v : List Byte) (s : State) : (s.odPut k d v).pending = s.pending := rfl
@[simp] theorem State.odPut_aonOn (k : Nat) (d v : List Byte) (s : State) : (s.odPut k d v).aonOn = s.aonOn := rfl
@[simp] theorem State.odPut_free (k : Nat) (d v : List Byte) (s : State) : (s.odPut k d v).free = s.free := rfl
@[simp] theorem State.odPut_regs (k : Nat) (d v : List Byte) (s : State) : (s.odPut k d v).regs = s.regs := rfl
@[simp] theorem State.odPut_latched (k : Nat) (d v : List Byte) (s : State) : (s.odPut k d v).latched = s.latched := rfl
@[simp] theorem State.odPut_sys (k : Nat) (d v : List Byte) (s : State) : (s.odPut k d v).sys = s.sys := rfl
@[simp] theorem State.odPut_evt (k : Nat) (d v : List Byte) (s : State) : (s.odPut k d v).evt = s.evt := rfl
@[simp] theorem State.odPut_pwr (k : Nat) (d v : List Byte) (s : State) : (s.odPut k d v).pwr = s.pwr := rfl
@[simp] theorem State.odPut_tap (k : Nat) (d v : List Byte) (s : State) : (s.odPut k d v).tap = s.tap := rfl
@[simp] theorem State.odPut_thm (k : Nat) (d v : List Byte) (s : State) : (s.odPut k d v).thm = s.thm := rfl
@[simp] theorem State.odPut_boot (k : Nat) (d v : List Byte) (s : State) : (s.odPut k d v).boot = s.boot := rfl
@[simp] theorem State.odPut_hq (k : Nat) (d v : List Byte) (s : State) : (s.odPut k d v).hq = s.hq := rfl
@[simp] theorem State.odPut_jrn (k : Nat) (d v : List Byte) (s : State) : (s.odPut k d v).jrn = s.jrn := rfl
@[simp] theorem State.odPut_culm (k : Nat) (d v : List Byte) (s : State) : (s.odPut k d v).culm = s.culm := rfl
@[simp] theorem State.odPut_time (k : Nat) (d v : List Byte) (s : State) : (s.odPut k d v).time = s.time := rfl
@[simp] theorem State.odPut_die (k : Nat) (d v : List Byte) (s : State) : (s.odPut k d v).die = s.die := rfl
@[simp] theorem State.odPut_zop (k : Nat) (d v : List Byte) (s : State) : (s.odPut k d v).zop = s.zop := rfl
@[simp] theorem State.odPut_ls (k : Nat) (d v : List Byte) (s : State) : (s.odPut k d v).ls = s.ls := rfl
@[simp] theorem State.odPut_pgf (k : Nat) (d v : List Byte) (s : State) : (s.odPut k d v).pgf = s.pgf := rfl
@[simp] theorem State.odPut_husk (k : Nat) (d v : List Byte) (s : State) : (s.odPut k d v).husk = s.husk := rfl
@[simp] theorem State.odPut_shf (k : Nat) (d v : List Byte) (s : State) : (s.odPut k d v).shf = s.shf := rfl
@[simp] theorem State.odPut_mov (k : Nat) (d v : List Byte) (s : State) : (s.odPut k d v).mov = s.mov := rfl
@[simp] theorem State.odPut_rch (k : Nat) (d v : List Byte) (s : State) : (s.odPut k d v).rch = s.rch := rfl
@[simp] theorem State.odPut_srv (k : Nat) (d v : List Byte) (s : State) : (s.odPut k d v).srv = s.srv := rfl
@[simp] theorem State.odPut_spn (k : Nat) (d v : List Byte) (s : State) : (s.odPut k d v).spn = s.spn := rfl
@[simp] theorem State.odPut_ret (k : Nat) (d v : List Byte) (s : State) : (s.odPut k d v).ret = s.ret := rfl
@[simp] theorem State.odPut_mot (k : Nat) (d v : List Byte) (s : State) : (s.odPut k d v).mot = s.mot := rfl
@[simp] theorem State.odPut_drv (k : Nat) (d v : List Byte) (s : State) : (s.odPut k d v).drv = s.drv := rfl
@[simp] theorem State.odPut_teff (k : Nat) (d v : List Byte) (s : State) : (s.odPut k d v).teff = s.teff := rfl
@[simp] theorem State.odPut_hv (k : Nat) (d v : List Byte) (s : State) : (s.odPut k d v).hv = s.hv := rfl
@[simp] theorem State.odPut_fus (k : Nat) (d v : List Byte) (s : State) : (s.odPut k d v).fus = s.fus := rfl
@[simp] theorem State.odPut_cut (k : Nat) (d v : List Byte) (s : State) : (s.odPut k d v).cut = s.cut := rfl
@[simp] theorem State.odPut_cal (k : Nat) (d v : List Byte) (s : State) : (s.odPut k d v).cal = s.cal := rfl
@[simp] theorem State.odPut_dram (k : Nat) (d v : List Byte) (s : State) : (s.odPut k d v).dram = s.dram := rfl

@[simp] theorem State.setPair_pending (p : Pair) (v : PairState) (s : State) : (s.setPair p v).pending = s.pending := by cases p <;> rfl
@[simp] theorem State.setPair_aonOn (p : Pair) (v : PairState) (s : State) : (s.setPair p v).aonOn = s.aonOn := by cases p <;> rfl
@[simp] theorem State.setPair_free (p : Pair) (v : PairState) (s : State) : (s.setPair p v).free = s.free := by cases p <;> rfl
@[simp] theorem State.setPair_regs (p : Pair) (v : PairState) (s : State) : (s.setPair p v).regs = s.regs := by cases p <;> rfl
@[simp] theorem State.setPair_latched (p : Pair) (v : PairState) (s : State) : (s.setPair p v).latched = s.latched := by cases p <;> rfl
@[simp] theorem State.setPair_od (p : Pair) (v : PairState) (s : State) : (s.setPair p v).od = s.od := by cases p <;> rfl
@[simp] theorem State.setPair_evt (p : Pair) (v : PairState) (s : State) : (s.setPair p v).evt = s.evt := by cases p <;> rfl
@[simp] theorem State.setPair_pwr (p : Pair) (v : PairState) (s : State) : (s.setPair p v).pwr = s.pwr := by cases p <;> rfl
@[simp] theorem State.setPair_tap (p : Pair) (v : PairState) (s : State) : (s.setPair p v).tap = s.tap := by cases p <;> rfl
@[simp] theorem State.setPair_thm (p : Pair) (v : PairState) (s : State) : (s.setPair p v).thm = s.thm := by cases p <;> rfl
@[simp] theorem State.setPair_boot (p : Pair) (v : PairState) (s : State) : (s.setPair p v).boot = s.boot := by cases p <;> rfl
@[simp] theorem State.setPair_hq (p : Pair) (v : PairState) (s : State) : (s.setPair p v).hq = s.hq := by cases p <;> rfl
@[simp] theorem State.setPair_jrn (p : Pair) (v : PairState) (s : State) : (s.setPair p v).jrn = s.jrn := by cases p <;> rfl
@[simp] theorem State.setPair_culm (p : Pair) (v : PairState) (s : State) : (s.setPair p v).culm = s.culm := by cases p <;> rfl
@[simp] theorem State.setPair_time (p : Pair) (v : PairState) (s : State) : (s.setPair p v).time = s.time := by cases p <;> rfl
@[simp] theorem State.setPair_die (p : Pair) (v : PairState) (s : State) : (s.setPair p v).die = s.die := by cases p <;> rfl
@[simp] theorem State.setPair_zop (p : Pair) (v : PairState) (s : State) : (s.setPair p v).zop = s.zop := by cases p <;> rfl
@[simp] theorem State.setPair_ls (p : Pair) (v : PairState) (s : State) : (s.setPair p v).ls = s.ls := by cases p <;> rfl
@[simp] theorem State.setPair_pgf (p : Pair) (v : PairState) (s : State) : (s.setPair p v).pgf = s.pgf := by cases p <;> rfl
@[simp] theorem State.setPair_husk (p : Pair) (v : PairState) (s : State) : (s.setPair p v).husk = s.husk := by cases p <;> rfl
@[simp] theorem State.setPair_shf (p : Pair) (v : PairState) (s : State) : (s.setPair p v).shf = s.shf := by cases p <;> rfl
@[simp] theorem State.setPair_mov (p : Pair) (v : PairState) (s : State) : (s.setPair p v).mov = s.mov := by cases p <;> rfl
@[simp] theorem State.setPair_rch (p : Pair) (v : PairState) (s : State) : (s.setPair p v).rch = s.rch := by cases p <;> rfl
@[simp] theorem State.setPair_srv (p : Pair) (v : PairState) (s : State) : (s.setPair p v).srv = s.srv := by cases p <;> rfl
@[simp] theorem State.setPair_spn (p : Pair) (v : PairState) (s : State) : (s.setPair p v).spn = s.spn := by cases p <;> rfl
@[simp] theorem State.setPair_ret (p : Pair) (v : PairState) (s : State) : (s.setPair p v).ret = s.ret := by cases p <;> rfl
@[simp] theorem State.setPair_mot (p : Pair) (v : PairState) (s : State) : (s.setPair p v).mot = s.mot := by cases p <;> rfl
@[simp] theorem State.setPair_drv (p : Pair) (v : PairState) (s : State) : (s.setPair p v).drv = s.drv := by cases p <;> rfl
@[simp] theorem State.setPair_teff (p : Pair) (v : PairState) (s : State) : (s.setPair p v).teff = s.teff := by cases p <;> rfl
@[simp] theorem State.setPair_hv (p : Pair) (v : PairState) (s : State) : (s.setPair p v).hv = s.hv := by cases p <;> rfl
@[simp] theorem State.setPair_fus (p : Pair) (v : PairState) (s : State) : (s.setPair p v).fus = s.fus := by cases p <;> rfl
@[simp] theorem State.setPair_cut (p : Pair) (v : PairState) (s : State) : (s.setPair p v).cut = s.cut := by cases p <;> rfl
@[simp] theorem State.setPair_cal (p : Pair) (v : PairState) (s : State) : (s.setPair p v).cal = s.cal := by cases p <;> rfl
@[simp] theorem State.setPair_dram (p : Pair) (v : PairState) (s : State) : (s.setPair p v).dram = s.dram := by cases p <;> rfl

@[simp] theorem State.used_pending (s : State) : (s.used).pending = s.pending := rfl
@[simp] theorem State.used_aonOn (s : State) : (s.used).aonOn = s.aonOn := rfl
@[simp] theorem State.used_regs (s : State) : (s.used).regs = s.regs := rfl
@[simp] theorem State.used_latched (s : State) : (s.used).latched = s.latched := rfl
@[simp] theorem State.used_od (s : State) : (s.used).od = s.od := rfl
@[simp] theorem State.used_sys (s : State) : (s.used).sys = s.sys := rfl
@[simp] theorem State.used_evt (s : State) : (s.used).evt = s.evt := rfl
@[simp] theorem State.used_pwr (s : State) : (s.used).pwr = s.pwr := rfl
@[simp] theorem State.used_tap (s : State) : (s.used).tap = s.tap := rfl
@[simp] theorem State.used_thm (s : State) : (s.used).thm = s.thm := rfl
@[simp] theorem State.used_boot (s : State) : (s.used).boot = s.boot := rfl
@[simp] theorem State.used_hq (s : State) : (s.used).hq = s.hq := rfl
@[simp] theorem State.used_jrn (s : State) : (s.used).jrn = s.jrn := rfl
@[simp] theorem State.used_culm (s : State) : (s.used).culm = s.culm := rfl
@[simp] theorem State.used_time (s : State) : (s.used).time = s.time := rfl
@[simp] theorem State.used_die (s : State) : (s.used).die = s.die := rfl
@[simp] theorem State.used_zop (s : State) : (s.used).zop = s.zop := rfl
@[simp] theorem State.used_ls (s : State) : (s.used).ls = s.ls := rfl
@[simp] theorem State.used_pgf (s : State) : (s.used).pgf = s.pgf := rfl
@[simp] theorem State.used_husk (s : State) : (s.used).husk = s.husk := rfl
@[simp] theorem State.used_shf (s : State) : (s.used).shf = s.shf := rfl
@[simp] theorem State.used_mov (s : State) : (s.used).mov = s.mov := rfl
@[simp] theorem State.used_rch (s : State) : (s.used).rch = s.rch := rfl
@[simp] theorem State.used_srv (s : State) : (s.used).srv = s.srv := rfl
@[simp] theorem State.used_spn (s : State) : (s.used).spn = s.spn := rfl
@[simp] theorem State.used_ret (s : State) : (s.used).ret = s.ret := rfl
@[simp] theorem State.used_mot (s : State) : (s.used).mot = s.mot := rfl
@[simp] theorem State.used_drv (s : State) : (s.used).drv = s.drv := rfl
@[simp] theorem State.used_teff (s : State) : (s.used).teff = s.teff := rfl
@[simp] theorem State.used_hv (s : State) : (s.used).hv = s.hv := rfl
@[simp] theorem State.used_fus (s : State) : (s.used).fus = s.fus := rfl
@[simp] theorem State.used_cut (s : State) : (s.used).cut = s.cut := rfl
@[simp] theorem State.used_cal (s : State) : (s.used).cal = s.cal := rfl
@[simp] theorem State.used_dram (s : State) : (s.used).dram = s.dram := rfl

@[simp] theorem State.replied_pending (a : Abort) (s : State) : (s.replied a).pending = s.pending := rfl
@[simp] theorem State.replied_aonOn (a : Abort) (s : State) : (s.replied a).aonOn = s.aonOn := rfl
@[simp] theorem State.replied_free (a : Abort) (s : State) : (s.replied a).free = s.free := rfl
@[simp] theorem State.replied_regs (a : Abort) (s : State) : (s.replied a).regs = s.regs := rfl
@[simp] theorem State.replied_latched (a : Abort) (s : State) : (s.replied a).latched = s.latched := rfl
@[simp] theorem State.replied_od (a : Abort) (s : State) : (s.replied a).od = s.od := rfl
@[simp] theorem State.replied_sys (a : Abort) (s : State) : (s.replied a).sys = s.sys := rfl
@[simp] theorem State.replied_evt (a : Abort) (s : State) : (s.replied a).evt = s.evt := rfl
@[simp] theorem State.replied_pwr (a : Abort) (s : State) : (s.replied a).pwr = s.pwr := rfl
@[simp] theorem State.replied_tap (a : Abort) (s : State) : (s.replied a).tap = s.tap := rfl
@[simp] theorem State.replied_thm (a : Abort) (s : State) : (s.replied a).thm = s.thm := rfl
@[simp] theorem State.replied_boot (a : Abort) (s : State) : (s.replied a).boot = s.boot := rfl
@[simp] theorem State.replied_hq (a : Abort) (s : State) : (s.replied a).hq = s.hq := rfl
@[simp] theorem State.replied_jrn (a : Abort) (s : State) : (s.replied a).jrn = s.jrn := rfl
@[simp] theorem State.replied_culm (a : Abort) (s : State) : (s.replied a).culm = s.culm := rfl
@[simp] theorem State.replied_time (a : Abort) (s : State) : (s.replied a).time = s.time := rfl
@[simp] theorem State.replied_die (a : Abort) (s : State) : (s.replied a).die = s.die := rfl
@[simp] theorem State.replied_ls (a : Abort) (s : State) : (s.replied a).ls = s.ls := rfl
@[simp] theorem State.replied_pgf (a : Abort) (s : State) : (s.replied a).pgf = s.pgf := rfl
@[simp] theorem State.replied_husk (a : Abort) (s : State) : (s.replied a).husk = s.husk := rfl
@[simp] theorem State.replied_shf (a : Abort) (s : State) : (s.replied a).shf = s.shf := rfl
@[simp] theorem State.replied_mov (a : Abort) (s : State) : (s.replied a).mov = s.mov := rfl
@[simp] theorem State.replied_rch (a : Abort) (s : State) : (s.replied a).rch = s.rch := rfl
@[simp] theorem State.replied_srv (a : Abort) (s : State) : (s.replied a).srv = s.srv := rfl
@[simp] theorem State.replied_spn (a : Abort) (s : State) : (s.replied a).spn = s.spn := rfl
@[simp] theorem State.replied_ret (a : Abort) (s : State) : (s.replied a).ret = s.ret := rfl
@[simp] theorem State.replied_mot (a : Abort) (s : State) : (s.replied a).mot = s.mot := rfl
@[simp] theorem State.replied_drv (a : Abort) (s : State) : (s.replied a).drv = s.drv := rfl
@[simp] theorem State.replied_teff (a : Abort) (s : State) : (s.replied a).teff = s.teff := rfl
@[simp] theorem State.replied_hv (a : Abort) (s : State) : (s.replied a).hv = s.hv := rfl
@[simp] theorem State.replied_fus (a : Abort) (s : State) : (s.replied a).fus = s.fus := rfl
@[simp] theorem State.replied_cut (a : Abort) (s : State) : (s.replied a).cut = s.cut := rfl
@[simp] theorem State.replied_cal (a : Abort) (s : State) : (s.replied a).cal = s.cal := rfl
@[simp] theorem State.replied_dram (a : Abort) (s : State) : (s.replied a).dram = s.dram := rfl

end Sys2Proof.Machine
end

