-- ==== Sys2Proof/Laws/Raise.lean ====
section
/-! SUPPORT. Laws/Raise.lean: what raising a source and queueing a record can change: the events, the host queues, and
SAFE_LOCKED. -/
namespace Sys2Proof.Machine

theorem errUpdate_frame (s : State) : ∃ e, s.errUpdate = { s with evt := e } := by
  unfold State.errUpdate
  repeat' split
  all_goals first | exact ⟨s.evt, rfl⟩ | exact ⟨_, rfl⟩

theorem glmTry_frame (s : State) (r : List GItem) (b : Bool) : ∃ e, (s.glmTry r b).1 = { s with evt := e } := by
  unfold State.glmTry
  cases r <;> simp only <;> repeat' split
  all_goals exact ⟨_, rfl⟩

theorem overflow_frame (s : State) (e : Nat) : ∃ h, s.overflow e = { s with hq := h } := by
  unfold State.overflow
  simp only
  split
  · exact ⟨s.hq, rfl⟩
  · exact ⟨_, rfl⟩

theorem post_frame (s : State) (e : Nat) (x : EvEntry) : ∃ h, (s.post e x).1 = { s with hq := h } := by
  obtain ⟨g, hg⟩ := overflow_frame s e
  unfold State.post
  simp only [hg]
  repeat' split
  all_goals first | exact ⟨s.hq, rfl⟩ | exact ⟨_, rfl⟩

theorem markRaised_frame (s : State) (n : Nat) : ∃ e h, (s.markRaised n).1 = { s with evt := e, hq := h } := by
  unfold State.markRaised
  simp only
  split
  · obtain ⟨h, hh⟩ := post_frame { s with evt := { s.evt with status := s.evt.status ||| srcBit n,
                                                              busy := s.evt.busy ||| srcBit n } }
      (fld (s.reg (0xA04000 + 4 * n)) 8 2)
      { kind := 1, tstat := s.time.stat.code, code := n, reason := 0, arg := 0, time := s.time.now }
    exact ⟨_, h, hh⟩
  · exact ⟨_, s.hq, rfl⟩

theorem decideSafe_frame (s : State) (n : Nat) (r : Word) :
    ∃ y e, s.decideSafe n r = { s with sys := { s.sys with safeLocked := y }, evt := e } := by
  unfold State.decideSafe
  simp only
  generalize hx : ({ s with sys := _, evt := _ } : State) = x
  obtain ⟨e, he⟩ := errUpdate_frame x
  rw [he, ← hx]
  exact ⟨_, e, rfl⟩

theorem trap_frame (s : State) (n : Nat) : ∃ e, s.trap n = { s with evt := e } := by
  unfold State.trap
  repeat' split
  all_goals exact ⟨_, rfl⟩

theorem writeEntries_frame (s : State) (n : Nat) (r p : Word) (b : Bool) :
    ∃ e, (s.writeEntries n r p b).1 = { s with evt := e } := by
  have g : ∀ (t : State) (l : List GItem), (∃ e, t = { s with evt := e }) →
      ∃ e, (t.glmTry l).1 = { s with evt := e } := by
    rintro _ l ⟨e, rfl⟩
    obtain ⟨e', h⟩ := glmTry_frame { s with evt := e } l false
    exact ⟨e', h⟩
  have h0 : ∃ e, s = { s with evt := e } := ⟨s.evt, rfl⟩
  unfold State.writeEntries
  simp only
  have h1 : ∃ e, (if bitOf r 5 then s.glmTry (s.record 1 (decide (n = 8 ∨ n = 9)) b true n (u32le p.toNat))
      else (s, false)).1 = { s with evt := e } := by
    split
    · exact g _ _ h0
    · exact h0
  generalize (if bitOf r 5 then s.glmTry (s.record 1 (decide (n = 8 ∨ n = 9)) b true n (u32le p.toNat))
      else (s, false)) = a at h1 ⊢
  have h2 : ∃ e, (if bitOf r 7 then a.1.glmTry (a.1.record 2 true b true n (u32le p.toNat))
      else (a.1, false)).1 = { s with evt := e } := by
    split
    · exact g _ _ h1
    · exact h1
  generalize (if bitOf r 7 then a.1.glmTry (a.1.record 2 true b true n (u32le p.toNat))
      else (a.1, false)) = c at h2 ⊢
  split
  · obtain ⟨e, h3⟩ := g _ (c.1.record 11 true b true n (u32le n)) h2
    exact ⟨{ e with chipReset := some (e.chipReset.getD n) }, by simp only [h3]⟩
  · exact h2

theorem raise1_frame (s : State) (b : Bool) (n : Nat) :
    ∃ y e h, (s.raise1 b n).1 = { s with sys := { s.sys with safeLocked := y }, evt := e, hq := h } := by
  unfold State.raise1
  split
  · exact ⟨s.sys.safeLocked, s.evt, s.hq, rfl⟩
  · simp only
    obtain ⟨e1, h1, q1⟩ := markRaised_frame s n
    obtain ⟨y2, e2, q2⟩ := decideSafe_frame (s.markRaised n).1 n (s.reaction n)
    have q3 : ∃ e, (if bitOf (s.reaction n) 1 then ((s.markRaised n).1.decideSafe n (s.reaction n)).trap n
        else (s.markRaised n).1.decideSafe n (s.reaction n)) =
        { s with sys := { s.sys with safeLocked := y2 }, evt := e, hq := h1 } := by
      split
      · obtain ⟨e3, q⟩ := trap_frame ((s.markRaised n).1.decideSafe n (s.reaction n)) n
        exact ⟨e3, by rw [q, q2, q1]⟩
      · exact ⟨e2, by rw [q2, q1]⟩
    obtain ⟨e3, q3⟩ := q3
    rw [q3]
    have q4 : ∃ e, (if bitOf (s.reaction n) 2 then
        ({ s with sys := { s.sys with safeLocked := y2 },
                  evt := { e3 with blockResets := e3.blockResets ++ [n] }, hq := h1 } : State)
        else { s with sys := { s.sys with safeLocked := y2 }, evt := e3, hq := h1 }) =
        { s with sys := { s.sys with safeLocked := y2 }, evt := e, hq := h1 } := by
      split
      · exact ⟨_, rfl⟩
      · exact ⟨_, rfl⟩
    obtain ⟨e4, q4⟩ := q4
    rw [q4]
    obtain ⟨e5, q5⟩ := writeEntries_frame
      { s with sys := { s.sys with safeLocked := y2 }, evt := e4, hq := h1 } n (s.reaction n)
      (bankWord (evBank n) s.evt.status) b
    exact ⟨y2, e5, h1, q5⟩

/-- What a fold of raises keeps. -/
theorem raise1_fold (l : List Nat) (s t : State)
    (h : ∃ y e h, t = { s with sys := { s.sys with safeLocked := y }, evt := e, hq := h }) :
    ∃ y e h, l.foldl (fun t x => (t.raise1 false x).1) t =
      { s with sys := { s.sys with safeLocked := y }, evt := e, hq := h } := by
  induction l generalizing t with
  | nil => exact h
  | cons a l ih =>
    obtain ⟨y, e, q, rfl⟩ := h
    obtain ⟨y', e', q', h'⟩ := raise1_frame
      { s with sys := { s.sys with safeLocked := y }, evt := e, hq := q } false a
    exact ih _ ⟨y', e', q', h'⟩

theorem raise1_fold2 (l : List Nat) (s : State) (t : State × List Nat)
    (h : ∃ y e h, t.1 = { s with sys := { s.sys with safeLocked := y }, evt := e, hq := h }) :
    ∃ y e h, (l.foldl (fun (t : State × List Nat) x => let u := t.1.raise1 false x; (u.1, t.2 ++ u.2)) t).1 =
      { s with sys := { s.sys with safeLocked := y }, evt := e, hq := h } := by
  induction l generalizing t with
  | nil => exact h
  | cons a l ih =>
    obtain ⟨y, e, q, ht⟩ := h
    obtain ⟨y', e', q', h'⟩ := raise1_frame t.1 false a
    refine ih _ ⟨y', e', q', ?_⟩
    show (t.1.raise1 false a).1 = _
    rw [h', ht]

/-- Everything that raising a source can change. -/
theorem raise_frame (s : State) (n : Nat) :
    ∃ y e h, s.raise n = { s with sys := { s.sys with safeLocked := y }, evt := e, hq := h } :=
  raise1_fold _ s _ (raise1_fold2 _ s _ (raise1_frame s false n))

/-- Everything that raising a source by a force write can change. -/
theorem raiseForced_frame (s : State) (n : Nat) :
    ∃ y e h, s.raiseForced n = { s with sys := { s.sys with safeLocked := y }, evt := e, hq := h } :=
  raise1_fold _ s _ (raise1_fold2 _ s _ (raise1_frame s true n))

/-- Everything that writing a Glume record can change. -/
theorem glume_frame (s : State) (k : Nat) (p : Bool) (n : Nat) (l : List Byte) :
    ∃ y e h, s.glume k p n l = { s with sys := { s.sys with safeLocked := y }, evt := e, hq := h } := by
  unfold State.glume
  simp only
  obtain ⟨e, h⟩ := glmTry_frame s (s.record k p false false n l) false
  split
  · rw [h]
    obtain ⟨y', e', h', q⟩ := raise_frame { s with evt := e } 251
    exact ⟨y', e', h', q⟩
  · rw [h]; exact ⟨s.sys.safeLocked, e, s.hq, rfl⟩

/-- Everything that a FAULT record can change. -/
theorem faultRecord_frame (s : State) (n : Nat) (l : List Nat) :
    ∃ y e h, s.faultRecord n l = { s with sys := { s.sys with safeLocked := y }, evt := e, hq := h } :=
  glume_frame s 9 false n _

@[simp] theorem State.raise_pending (n : Nat) (s : State) : (s.raise n).pending = s.pending := by
  obtain ⟨_, _, _, h⟩ := raise_frame s n; rw [h]
@[simp] theorem State.raise_aonOn (n : Nat) (s : State) : (s.raise n).aonOn = s.aonOn := by
  obtain ⟨_, _, _, h⟩ := raise_frame s n; rw [h]
@[simp] theorem State.raise_free (n : Nat) (s : State) : (s.raise n).free = s.free := by
  obtain ⟨_, _, _, h⟩ := raise_frame s n; rw [h]
@[simp] theorem State.raise_regs (n : Nat) (s : State) : (s.raise n).regs = s.regs := by
  obtain ⟨_, _, _, h⟩ := raise_frame s n; rw [h]
@[simp] theorem State.raise_latched (n : Nat) (s : State) : (s.raise n).latched = s.latched := by
  obtain ⟨_, _, _, h⟩ := raise_frame s n; rw [h]
@[simp] theorem State.raise_od (n : Nat) (s : State) : (s.raise n).od = s.od := by
  obtain ⟨_, _, _, h⟩ := raise_frame s n; rw [h]
@[simp] theorem State.raise_pwr (n : Nat) (s : State) : (s.raise n).pwr = s.pwr := by
  obtain ⟨_, _, _, h⟩ := raise_frame s n; rw [h]
@[simp] theorem State.raise_thm (n : Nat) (s : State) : (s.raise n).thm = s.thm := by
  obtain ⟨_, _, _, h⟩ := raise_frame s n; rw [h]
@[simp] theorem State.raise_boot (n : Nat) (s : State) : (s.raise n).boot = s.boot := by
  obtain ⟨_, _, _, h⟩ := raise_frame s n; rw [h]
@[simp] theorem State.raise_jrn (n : Nat) (s : State) : (s.raise n).jrn = s.jrn := by
  obtain ⟨_, _, _, h⟩ := raise_frame s n; rw [h]
@[simp] theorem State.raise_culm (n : Nat) (s : State) : (s.raise n).culm = s.culm := by
  obtain ⟨_, _, _, h⟩ := raise_frame s n; rw [h]
@[simp] theorem State.raise_time (n : Nat) (s : State) : (s.raise n).time = s.time := by
  obtain ⟨_, _, _, h⟩ := raise_frame s n; rw [h]
@[simp] theorem State.raise_die (n : Nat) (s : State) : (s.raise n).die = s.die := by
  obtain ⟨_, _, _, h⟩ := raise_frame s n; rw [h]
@[simp] theorem State.raise_zop (n : Nat) (s : State) : (s.raise n).zop = s.zop := by
  obtain ⟨_, _, _, h⟩ := raise_frame s n; rw [h]
@[simp] theorem State.raise_ls (n : Nat) (s : State) : (s.raise n).ls = s.ls := by
  obtain ⟨_, _, _, h⟩ := raise_frame s n; rw [h]
@[simp] theorem State.raise_pgf (n : Nat) (s : State) : (s.raise n).pgf = s.pgf := by
  obtain ⟨_, _, _, h⟩ := raise_frame s n; rw [h]
@[simp] theorem State.raise_husk (n : Nat) (s : State) : (s.raise n).husk = s.husk := by
  obtain ⟨_, _, _, h⟩ := raise_frame s n; rw [h]
@[simp] theorem State.raise_shf (n : Nat) (s : State) : (s.raise n).shf = s.shf := by
  obtain ⟨_, _, _, h⟩ := raise_frame s n; rw [h]
@[simp] theorem State.raise_mov (n : Nat) (s : State) : (s.raise n).mov = s.mov := by
  obtain ⟨_, _, _, h⟩ := raise_frame s n; rw [h]
@[simp] theorem State.raise_rch (n : Nat) (s : State) : (s.raise n).rch = s.rch := by
  obtain ⟨_, _, _, h⟩ := raise_frame s n; rw [h]
@[simp] theorem State.raise_srv (n : Nat) (s : State) : (s.raise n).srv = s.srv := by
  obtain ⟨_, _, _, h⟩ := raise_frame s n; rw [h]
@[simp] theorem State.raise_spn (n : Nat) (s : State) : (s.raise n).spn = s.spn := by
  obtain ⟨_, _, _, h⟩ := raise_frame s n; rw [h]
@[simp] theorem State.raise_ret (n : Nat) (s : State) : (s.raise n).ret = s.ret := by
  obtain ⟨_, _, _, h⟩ := raise_frame s n; rw [h]
@[simp] theorem State.raise_mot (n : Nat) (s : State) : (s.raise n).mot = s.mot := by
  obtain ⟨_, _, _, h⟩ := raise_frame s n; rw [h]
@[simp] theorem State.raise_drv (n : Nat) (s : State) : (s.raise n).drv = s.drv := by
  obtain ⟨_, _, _, h⟩ := raise_frame s n; rw [h]
@[simp] theorem State.raise_teff (n : Nat) (s : State) : (s.raise n).teff = s.teff := by
  obtain ⟨_, _, _, h⟩ := raise_frame s n; rw [h]
@[simp] theorem State.raise_hv (n : Nat) (s : State) : (s.raise n).hv = s.hv := by
  obtain ⟨_, _, _, h⟩ := raise_frame s n; rw [h]
@[simp] theorem State.raise_fus (n : Nat) (s : State) : (s.raise n).fus = s.fus := by
  obtain ⟨_, _, _, h⟩ := raise_frame s n; rw [h]
@[simp] theorem State.raise_cut (n : Nat) (s : State) : (s.raise n).cut = s.cut := by
  obtain ⟨_, _, _, h⟩ := raise_frame s n; rw [h]
@[simp] theorem State.raise_cal (n : Nat) (s : State) : (s.raise n).cal = s.cal := by
  obtain ⟨_, _, _, h⟩ := raise_frame s n; rw [h]
@[simp] theorem State.raise_dram (n : Nat) (s : State) : (s.raise n).dram = s.dram := by
  obtain ⟨_, _, _, h⟩ := raise_frame s n; rw [h]
@[simp] theorem State.raise_sys_mode (n : Nat) (s : State) : (s.raise n).sys.mode = s.sys.mode := by
  obtain ⟨_, _, _, h⟩ := raise_frame s n; rw [h]
@[simp] theorem State.raise_sys_target (n : Nat) (s : State) : (s.raise n).sys.target = s.sys.target := by
  obtain ⟨_, _, _, h⟩ := raise_frame s n; rw [h]
@[simp] theorem State.raise_sys_transit (n : Nat) (s : State) : (s.raise n).sys.transit = s.sys.transit := by
  obtain ⟨_, _, _, h⟩ := raise_frame s n; rw [h]
@[simp] theorem State.raise_sys_phase (n : Nat) (s : State) : (s.raise n).sys.phase = s.sys.phase := by
  obtain ⟨_, _, _, h⟩ := raise_frame s n; rw [h]
@[simp] theorem State.raise_sys_safeCount (n : Nat) (s : State) : (s.raise n).sys.safeCount = s.sys.safeCount := by
  obtain ⟨_, _, _, h⟩ := raise_frame s n; rw [h]
@[simp] theorem State.raise_sys_unack (n : Nat) (s : State) : (s.raise n).sys.unack = s.sys.unack := by
  obtain ⟨_, _, _, h⟩ := raise_frame s n; rw [h]
@[simp] theorem State.raise_sys_origin (n : Nat) (s : State) : (s.raise n).sys.origin = s.sys.origin := by
  obtain ⟨_, _, _, h⟩ := raise_frame s n; rw [h]
@[simp] theorem State.raise_sys_causeSource (n : Nat) (s : State) : (s.raise n).sys.causeSource = s.sys.causeSource := by
  obtain ⟨_, _, _, h⟩ := raise_frame s n; rw [h]
@[simp] theorem State.raise_sys_safeTime (n : Nat) (s : State) : (s.raise n).sys.safeTime = s.sys.safeTime := by
  obtain ⟨_, _, _, h⟩ := raise_frame s n; rw [h]
@[simp] theorem State.raise_sys_req (n : Nat) (s : State) : (s.raise n).sys.req = s.sys.req := by
  obtain ⟨_, _, _, h⟩ := raise_frame s n; rw [h]
@[simp] theorem State.raise_sys_reqStatus (n : Nat) (s : State) : (s.raise n).sys.reqStatus = s.sys.reqStatus := by
  obtain ⟨_, _, _, h⟩ := raise_frame s n; rw [h]
@[simp] theorem State.raise_sys_reqSeq (n : Nat) (s : State) : (s.raise n).sys.reqSeq = s.sys.reqSeq := by
  obtain ⟨_, _, _, h⟩ := raise_frame s n; rw [h]
@[simp] theorem State.raise_sys_reqDrives (n : Nat) (s : State) : (s.raise n).sys.reqDrives = s.sys.reqDrives := by
  obtain ⟨_, _, _, h⟩ := raise_frame s n; rw [h]
@[simp] theorem State.raise_sys_latched (n : Nat) (s : State) : (s.raise n).sys.latched = s.sys.latched := by
  obtain ⟨_, _, _, h⟩ := raise_frame s n; rw [h]
@[simp] theorem State.raise_sys_entryTime (n : Nat) (s : State) : (s.raise n).sys.entryTime = s.sys.entryTime := by
  obtain ⟨_, _, _, h⟩ := raise_frame s n; rw [h]
@[simp] theorem State.raise_sys_drain (n : Nat) (s : State) : (s.raise n).sys.drain = s.sys.drain := by
  obtain ⟨_, _, _, h⟩ := raise_frame s n; rw [h]
@[simp] theorem State.raise_sys_badAddr (n : Nat) (s : State) : (s.raise n).sys.badAddr = s.sys.badAddr := by
  obtain ⟨_, _, _, h⟩ := raise_frame s n; rw [h]
@[simp] theorem State.raise_sys_badValid (n : Nat) (s : State) : (s.raise n).sys.badValid = s.sys.badValid := by
  obtain ⟨_, _, _, h⟩ := raise_frame s n; rw [h]
@[simp] theorem State.raise_sys_badWrite (n : Nat) (s : State) : (s.raise n).sys.badWrite = s.sys.badWrite := by
  obtain ⟨_, _, _, h⟩ := raise_frame s n; rw [h]
@[simp] theorem State.raise_sys_badCount (n : Nat) (s : State) : (s.raise n).sys.badCount = s.sys.badCount := by
  obtain ⟨_, _, _, h⟩ := raise_frame s n; rw [h]
@[simp] theorem State.raise_sys_badReason (n : Nat) (s : State) : (s.raise n).sys.badReason = s.sys.badReason := by
  obtain ⟨_, _, _, h⟩ := raise_frame s n; rw [h]
@[simp] theorem State.raise_sys_pairA (n : Nat) (s : State) : (s.raise n).sys.pairA = s.sys.pairA := by
  obtain ⟨_, _, _, h⟩ := raise_frame s n; rw [h]
@[simp] theorem State.raise_sys_pairB (n : Nat) (s : State) : (s.raise n).sys.pairB = s.sys.pairB := by
  obtain ⟨_, _, _, h⟩ := raise_frame s n; rw [h]
@[simp] theorem State.raise_sys_engineOn (n : Nat) (s : State) : (s.raise n).sys.engineOn = s.sys.engineOn := by
  obtain ⟨_, _, _, h⟩ := raise_frame s n; rw [h]
@[simp] theorem State.raise_sys_serviceOn (n : Nat) (s : State) : (s.raise n).sys.serviceOn = s.sys.serviceOn := by
  obtain ⟨_, _, _, h⟩ := raise_frame s n; rw [h]
@[simp] theorem State.raise_sys_failovers (n : Nat) (s : State) : (s.raise n).sys.failovers = s.sys.failovers := by
  obtain ⟨_, _, _, h⟩ := raise_frame s n; rw [h]
@[simp] theorem State.raise_sys_rejoinA (n : Nat) (s : State) : (s.raise n).sys.rejoinA = s.sys.rejoinA := by
  obtain ⟨_, _, _, h⟩ := raise_frame s n; rw [h]
@[simp] theorem State.raise_sys_missA (n : Nat) (s : State) : (s.raise n).sys.missA = s.sys.missA := by
  obtain ⟨_, _, _, h⟩ := raise_frame s n; rw [h]
@[simp] theorem State.raise_sys_missB (n : Nat) (s : State) : (s.raise n).sys.missB = s.sys.missB := by
  obtain ⟨_, _, _, h⟩ := raise_frame s n; rw [h]
@[simp] theorem State.raise_sys_rejoinB (n : Nat) (s : State) : (s.raise n).sys.rejoinB = s.sys.rejoinB := by
  obtain ⟨_, _, _, h⟩ := raise_frame s n; rw [h]
@[simp] theorem State.raise_sys_ckptEngine (n : Nat) (s : State) : (s.raise n).sys.ckptEngine = s.sys.ckptEngine := by
  obtain ⟨_, _, _, h⟩ := raise_frame s n; rw [h]
@[simp] theorem State.raise_sys_ckptService (n : Nat) (s : State) : (s.raise n).sys.ckptService = s.sys.ckptService := by
  obtain ⟨_, _, _, h⟩ := raise_frame s n; rw [h]
@[simp] theorem State.raise_sys_ckptEngineTime (n : Nat) (s : State) : (s.raise n).sys.ckptEngineTime = s.sys.ckptEngineTime := by
  obtain ⟨_, _, _, h⟩ := raise_frame s n; rw [h]
@[simp] theorem State.raise_sys_ckptServiceTime (n : Nat) (s : State) : (s.raise n).sys.ckptServiceTime = s.sys.ckptServiceTime := by
  obtain ⟨_, _, _, h⟩ := raise_frame s n; rw [h]
@[simp] theorem State.raise_sys_linkRepeat (n : Nat) (s : State) : (s.raise n).sys.linkRepeat = s.sys.linkRepeat := by
  obtain ⟨_, _, _, h⟩ := raise_frame s n; rw [h]
@[simp] theorem State.raise_sys_startDue (n : Nat) (s : State) : (s.raise n).sys.startDue = s.sys.startDue := by
  obtain ⟨_, _, _, h⟩ := raise_frame s n; rw [h]
@[simp] theorem State.raise_sys_laserOff (n : Nat) (s : State) : (s.raise n).sys.laserOff = s.sys.laserOff := by
  obtain ⟨_, _, _, h⟩ := raise_frame s n; rw [h]

@[simp] theorem State.raiseForced_pending (n : Nat) (s : State) : (s.raiseForced n).pending = s.pending := by
  obtain ⟨_, _, _, h⟩ := raiseForced_frame s n; rw [h]
@[simp] theorem State.raiseForced_aonOn (n : Nat) (s : State) : (s.raiseForced n).aonOn = s.aonOn := by
  obtain ⟨_, _, _, h⟩ := raiseForced_frame s n; rw [h]
@[simp] theorem State.raiseForced_free (n : Nat) (s : State) : (s.raiseForced n).free = s.free := by
  obtain ⟨_, _, _, h⟩ := raiseForced_frame s n; rw [h]
@[simp] theorem State.raiseForced_regs (n : Nat) (s : State) : (s.raiseForced n).regs = s.regs := by
  obtain ⟨_, _, _, h⟩ := raiseForced_frame s n; rw [h]
@[simp] theorem State.raiseForced_latched (n : Nat) (s : State) : (s.raiseForced n).latched = s.latched := by
  obtain ⟨_, _, _, h⟩ := raiseForced_frame s n; rw [h]
@[simp] theorem State.raiseForced_od (n : Nat) (s : State) : (s.raiseForced n).od = s.od := by
  obtain ⟨_, _, _, h⟩ := raiseForced_frame s n; rw [h]
@[simp] theorem State.raiseForced_pwr (n : Nat) (s : State) : (s.raiseForced n).pwr = s.pwr := by
  obtain ⟨_, _, _, h⟩ := raiseForced_frame s n; rw [h]
@[simp] theorem State.raiseForced_thm (n : Nat) (s : State) : (s.raiseForced n).thm = s.thm := by
  obtain ⟨_, _, _, h⟩ := raiseForced_frame s n; rw [h]
@[simp] theorem State.raiseForced_boot (n : Nat) (s : State) : (s.raiseForced n).boot = s.boot := by
  obtain ⟨_, _, _, h⟩ := raiseForced_frame s n; rw [h]
@[simp] theorem State.raiseForced_jrn (n : Nat) (s : State) : (s.raiseForced n).jrn = s.jrn := by
  obtain ⟨_, _, _, h⟩ := raiseForced_frame s n; rw [h]
@[simp] theorem State.raiseForced_culm (n : Nat) (s : State) : (s.raiseForced n).culm = s.culm := by
  obtain ⟨_, _, _, h⟩ := raiseForced_frame s n; rw [h]
@[simp] theorem State.raiseForced_time (n : Nat) (s : State) : (s.raiseForced n).time = s.time := by
  obtain ⟨_, _, _, h⟩ := raiseForced_frame s n; rw [h]
@[simp] theorem State.raiseForced_die (n : Nat) (s : State) : (s.raiseForced n).die = s.die := by
  obtain ⟨_, _, _, h⟩ := raiseForced_frame s n; rw [h]
@[simp] theorem State.raiseForced_zop (n : Nat) (s : State) : (s.raiseForced n).zop = s.zop := by
  obtain ⟨_, _, _, h⟩ := raiseForced_frame s n; rw [h]
@[simp] theorem State.raiseForced_ls (n : Nat) (s : State) : (s.raiseForced n).ls = s.ls := by
  obtain ⟨_, _, _, h⟩ := raiseForced_frame s n; rw [h]
@[simp] theorem State.raiseForced_pgf (n : Nat) (s : State) : (s.raiseForced n).pgf = s.pgf := by
  obtain ⟨_, _, _, h⟩ := raiseForced_frame s n; rw [h]
@[simp] theorem State.raiseForced_husk (n : Nat) (s : State) : (s.raiseForced n).husk = s.husk := by
  obtain ⟨_, _, _, h⟩ := raiseForced_frame s n; rw [h]
@[simp] theorem State.raiseForced_shf (n : Nat) (s : State) : (s.raiseForced n).shf = s.shf := by
  obtain ⟨_, _, _, h⟩ := raiseForced_frame s n; rw [h]
@[simp] theorem State.raiseForced_mov (n : Nat) (s : State) : (s.raiseForced n).mov = s.mov := by
  obtain ⟨_, _, _, h⟩ := raiseForced_frame s n; rw [h]
@[simp] theorem State.raiseForced_rch (n : Nat) (s : State) : (s.raiseForced n).rch = s.rch := by
  obtain ⟨_, _, _, h⟩ := raiseForced_frame s n; rw [h]
@[simp] theorem State.raiseForced_srv (n : Nat) (s : State) : (s.raiseForced n).srv = s.srv := by
  obtain ⟨_, _, _, h⟩ := raiseForced_frame s n; rw [h]
@[simp] theorem State.raiseForced_spn (n : Nat) (s : State) : (s.raiseForced n).spn = s.spn := by
  obtain ⟨_, _, _, h⟩ := raiseForced_frame s n; rw [h]
@[simp] theorem State.raiseForced_ret (n : Nat) (s : State) : (s.raiseForced n).ret = s.ret := by
  obtain ⟨_, _, _, h⟩ := raiseForced_frame s n; rw [h]
@[simp] theorem State.raiseForced_mot (n : Nat) (s : State) : (s.raiseForced n).mot = s.mot := by
  obtain ⟨_, _, _, h⟩ := raiseForced_frame s n; rw [h]
@[simp] theorem State.raiseForced_drv (n : Nat) (s : State) : (s.raiseForced n).drv = s.drv := by
  obtain ⟨_, _, _, h⟩ := raiseForced_frame s n; rw [h]
@[simp] theorem State.raiseForced_teff (n : Nat) (s : State) : (s.raiseForced n).teff = s.teff := by
  obtain ⟨_, _, _, h⟩ := raiseForced_frame s n; rw [h]
@[simp] theorem State.raiseForced_hv (n : Nat) (s : State) : (s.raiseForced n).hv = s.hv := by
  obtain ⟨_, _, _, h⟩ := raiseForced_frame s n; rw [h]
@[simp] theorem State.raiseForced_fus (n : Nat) (s : State) : (s.raiseForced n).fus = s.fus := by
  obtain ⟨_, _, _, h⟩ := raiseForced_frame s n; rw [h]
@[simp] theorem State.raiseForced_cut (n : Nat) (s : State) : (s.raiseForced n).cut = s.cut := by
  obtain ⟨_, _, _, h⟩ := raiseForced_frame s n; rw [h]
@[simp] theorem State.raiseForced_cal (n : Nat) (s : State) : (s.raiseForced n).cal = s.cal := by
  obtain ⟨_, _, _, h⟩ := raiseForced_frame s n; rw [h]
@[simp] theorem State.raiseForced_dram (n : Nat) (s : State) : (s.raiseForced n).dram = s.dram := by
  obtain ⟨_, _, _, h⟩ := raiseForced_frame s n; rw [h]
@[simp] theorem State.raiseForced_sys_mode (n : Nat) (s : State) : (s.raiseForced n).sys.mode = s.sys.mode := by
  obtain ⟨_, _, _, h⟩ := raiseForced_frame s n; rw [h]
@[simp] theorem State.raiseForced_sys_target (n : Nat) (s : State) : (s.raiseForced n).sys.target = s.sys.target := by
  obtain ⟨_, _, _, h⟩ := raiseForced_frame s n; rw [h]
@[simp] theorem State.raiseForced_sys_transit (n : Nat) (s : State) : (s.raiseForced n).sys.transit = s.sys.transit := by
  obtain ⟨_, _, _, h⟩ := raiseForced_frame s n; rw [h]
@[simp] theorem State.raiseForced_sys_phase (n : Nat) (s : State) : (s.raiseForced n).sys.phase = s.sys.phase := by
  obtain ⟨_, _, _, h⟩ := raiseForced_frame s n; rw [h]
@[simp] theorem State.raiseForced_sys_safeCount (n : Nat) (s : State) : (s.raiseForced n).sys.safeCount = s.sys.safeCount := by
  obtain ⟨_, _, _, h⟩ := raiseForced_frame s n; rw [h]
@[simp] theorem State.raiseForced_sys_unack (n : Nat) (s : State) : (s.raiseForced n).sys.unack = s.sys.unack := by
  obtain ⟨_, _, _, h⟩ := raiseForced_frame s n; rw [h]
@[simp] theorem State.raiseForced_sys_origin (n : Nat) (s : State) : (s.raiseForced n).sys.origin = s.sys.origin := by
  obtain ⟨_, _, _, h⟩ := raiseForced_frame s n; rw [h]
@[simp] theorem State.raiseForced_sys_causeSource (n : Nat) (s : State) : (s.raiseForced n).sys.causeSource = s.sys.causeSource := by
  obtain ⟨_, _, _, h⟩ := raiseForced_frame s n; rw [h]
@[simp] theorem State.raiseForced_sys_safeTime (n : Nat) (s : State) : (s.raiseForced n).sys.safeTime = s.sys.safeTime := by
  obtain ⟨_, _, _, h⟩ := raiseForced_frame s n; rw [h]
@[simp] theorem State.raiseForced_sys_req (n : Nat) (s : State) : (s.raiseForced n).sys.req = s.sys.req := by
  obtain ⟨_, _, _, h⟩ := raiseForced_frame s n; rw [h]
@[simp] theorem State.raiseForced_sys_reqStatus (n : Nat) (s : State) : (s.raiseForced n).sys.reqStatus = s.sys.reqStatus := by
  obtain ⟨_, _, _, h⟩ := raiseForced_frame s n; rw [h]
@[simp] theorem State.raiseForced_sys_reqSeq (n : Nat) (s : State) : (s.raiseForced n).sys.reqSeq = s.sys.reqSeq := by
  obtain ⟨_, _, _, h⟩ := raiseForced_frame s n; rw [h]
@[simp] theorem State.raiseForced_sys_reqDrives (n : Nat) (s : State) : (s.raiseForced n).sys.reqDrives = s.sys.reqDrives := by
  obtain ⟨_, _, _, h⟩ := raiseForced_frame s n; rw [h]
@[simp] theorem State.raiseForced_sys_latched (n : Nat) (s : State) : (s.raiseForced n).sys.latched = s.sys.latched := by
  obtain ⟨_, _, _, h⟩ := raiseForced_frame s n; rw [h]
@[simp] theorem State.raiseForced_sys_entryTime (n : Nat) (s : State) : (s.raiseForced n).sys.entryTime = s.sys.entryTime := by
  obtain ⟨_, _, _, h⟩ := raiseForced_frame s n; rw [h]
@[simp] theorem State.raiseForced_sys_drain (n : Nat) (s : State) : (s.raiseForced n).sys.drain = s.sys.drain := by
  obtain ⟨_, _, _, h⟩ := raiseForced_frame s n; rw [h]
@[simp] theorem State.raiseForced_sys_badAddr (n : Nat) (s : State) : (s.raiseForced n).sys.badAddr = s.sys.badAddr := by
  obtain ⟨_, _, _, h⟩ := raiseForced_frame s n; rw [h]
@[simp] theorem State.raiseForced_sys_badValid (n : Nat) (s : State) : (s.raiseForced n).sys.badValid = s.sys.badValid := by
  obtain ⟨_, _, _, h⟩ := raiseForced_frame s n; rw [h]
@[simp] theorem State.raiseForced_sys_badWrite (n : Nat) (s : State) : (s.raiseForced n).sys.badWrite = s.sys.badWrite := by
  obtain ⟨_, _, _, h⟩ := raiseForced_frame s n; rw [h]
@[simp] theorem State.raiseForced_sys_badCount (n : Nat) (s : State) : (s.raiseForced n).sys.badCount = s.sys.badCount := by
  obtain ⟨_, _, _, h⟩ := raiseForced_frame s n; rw [h]
@[simp] theorem State.raiseForced_sys_badReason (n : Nat) (s : State) : (s.raiseForced n).sys.badReason = s.sys.badReason := by
  obtain ⟨_, _, _, h⟩ := raiseForced_frame s n; rw [h]
@[simp] theorem State.raiseForced_sys_pairA (n : Nat) (s : State) : (s.raiseForced n).sys.pairA = s.sys.pairA := by
  obtain ⟨_, _, _, h⟩ := raiseForced_frame s n; rw [h]
@[simp] theorem State.raiseForced_sys_pairB (n : Nat) (s : State) : (s.raiseForced n).sys.pairB = s.sys.pairB := by
  obtain ⟨_, _, _, h⟩ := raiseForced_frame s n; rw [h]
@[simp] theorem State.raiseForced_sys_engineOn (n : Nat) (s : State) : (s.raiseForced n).sys.engineOn = s.sys.engineOn := by
  obtain ⟨_, _, _, h⟩ := raiseForced_frame s n; rw [h]
@[simp] theorem State.raiseForced_sys_serviceOn (n : Nat) (s : State) : (s.raiseForced n).sys.serviceOn = s.sys.serviceOn := by
  obtain ⟨_, _, _, h⟩ := raiseForced_frame s n; rw [h]
@[simp] theorem State.raiseForced_sys_failovers (n : Nat) (s : State) : (s.raiseForced n).sys.failovers = s.sys.failovers := by
  obtain ⟨_, _, _, h⟩ := raiseForced_frame s n; rw [h]
@[simp] theorem State.raiseForced_sys_rejoinA (n : Nat) (s : State) : (s.raiseForced n).sys.rejoinA = s.sys.rejoinA := by
  obtain ⟨_, _, _, h⟩ := raiseForced_frame s n; rw [h]
@[simp] theorem State.raiseForced_sys_missA (n : Nat) (s : State) : (s.raiseForced n).sys.missA = s.sys.missA := by
  obtain ⟨_, _, _, h⟩ := raiseForced_frame s n; rw [h]
@[simp] theorem State.raiseForced_sys_missB (n : Nat) (s : State) : (s.raiseForced n).sys.missB = s.sys.missB := by
  obtain ⟨_, _, _, h⟩ := raiseForced_frame s n; rw [h]
@[simp] theorem State.raiseForced_sys_rejoinB (n : Nat) (s : State) : (s.raiseForced n).sys.rejoinB = s.sys.rejoinB := by
  obtain ⟨_, _, _, h⟩ := raiseForced_frame s n; rw [h]
@[simp] theorem State.raiseForced_sys_ckptEngine (n : Nat) (s : State) : (s.raiseForced n).sys.ckptEngine = s.sys.ckptEngine := by
  obtain ⟨_, _, _, h⟩ := raiseForced_frame s n; rw [h]
@[simp] theorem State.raiseForced_sys_ckptService (n : Nat) (s : State) : (s.raiseForced n).sys.ckptService = s.sys.ckptService := by
  obtain ⟨_, _, _, h⟩ := raiseForced_frame s n; rw [h]
@[simp] theorem State.raiseForced_sys_ckptEngineTime (n : Nat) (s : State) : (s.raiseForced n).sys.ckptEngineTime = s.sys.ckptEngineTime := by
  obtain ⟨_, _, _, h⟩ := raiseForced_frame s n; rw [h]
@[simp] theorem State.raiseForced_sys_ckptServiceTime (n : Nat) (s : State) : (s.raiseForced n).sys.ckptServiceTime = s.sys.ckptServiceTime := by
  obtain ⟨_, _, _, h⟩ := raiseForced_frame s n; rw [h]
@[simp] theorem State.raiseForced_sys_linkRepeat (n : Nat) (s : State) : (s.raiseForced n).sys.linkRepeat = s.sys.linkRepeat := by
  obtain ⟨_, _, _, h⟩ := raiseForced_frame s n; rw [h]
@[simp] theorem State.raiseForced_sys_startDue (n : Nat) (s : State) : (s.raiseForced n).sys.startDue = s.sys.startDue := by
  obtain ⟨_, _, _, h⟩ := raiseForced_frame s n; rw [h]
@[simp] theorem State.raiseForced_sys_laserOff (n : Nat) (s : State) : (s.raiseForced n).sys.laserOff = s.sys.laserOff := by
  obtain ⟨_, _, _, h⟩ := raiseForced_frame s n; rw [h]

@[simp] theorem State.faultRecord_pending (n : Nat) (l : List Nat) (s : State) : (s.faultRecord n l).pending = s.pending := by
  obtain ⟨_, _, _, h⟩ := faultRecord_frame s n l; rw [h]
@[simp] theorem State.faultRecord_aonOn (n : Nat) (l : List Nat) (s : State) : (s.faultRecord n l).aonOn = s.aonOn := by
  obtain ⟨_, _, _, h⟩ := faultRecord_frame s n l; rw [h]
@[simp] theorem State.faultRecord_free (n : Nat) (l : List Nat) (s : State) : (s.faultRecord n l).free = s.free := by
  obtain ⟨_, _, _, h⟩ := faultRecord_frame s n l; rw [h]
@[simp] theorem State.faultRecord_regs (n : Nat) (l : List Nat) (s : State) : (s.faultRecord n l).regs = s.regs := by
  obtain ⟨_, _, _, h⟩ := faultRecord_frame s n l; rw [h]
@[simp] theorem State.faultRecord_latched (n : Nat) (l : List Nat) (s : State) : (s.faultRecord n l).latched = s.latched := by
  obtain ⟨_, _, _, h⟩ := faultRecord_frame s n l; rw [h]
@[simp] theorem State.faultRecord_od (n : Nat) (l : List Nat) (s : State) : (s.faultRecord n l).od = s.od := by
  obtain ⟨_, _, _, h⟩ := faultRecord_frame s n l; rw [h]
@[simp] theorem State.faultRecord_pwr (n : Nat) (l : List Nat) (s : State) : (s.faultRecord n l).pwr = s.pwr := by
  obtain ⟨_, _, _, h⟩ := faultRecord_frame s n l; rw [h]
@[simp] theorem State.faultRecord_thm (n : Nat) (l : List Nat) (s : State) : (s.faultRecord n l).thm = s.thm := by
  obtain ⟨_, _, _, h⟩ := faultRecord_frame s n l; rw [h]
@[simp] theorem State.faultRecord_boot (n : Nat) (l : List Nat) (s : State) : (s.faultRecord n l).boot = s.boot := by
  obtain ⟨_, _, _, h⟩ := faultRecord_frame s n l; rw [h]
@[simp] theorem State.faultRecord_jrn (n : Nat) (l : List Nat) (s : State) : (s.faultRecord n l).jrn = s.jrn := by
  obtain ⟨_, _, _, h⟩ := faultRecord_frame s n l; rw [h]
@[simp] theorem State.faultRecord_culm (n : Nat) (l : List Nat) (s : State) : (s.faultRecord n l).culm = s.culm := by
  obtain ⟨_, _, _, h⟩ := faultRecord_frame s n l; rw [h]
@[simp] theorem State.faultRecord_time (n : Nat) (l : List Nat) (s : State) : (s.faultRecord n l).time = s.time := by
  obtain ⟨_, _, _, h⟩ := faultRecord_frame s n l; rw [h]
@[simp] theorem State.faultRecord_die (n : Nat) (l : List Nat) (s : State) : (s.faultRecord n l).die = s.die := by
  obtain ⟨_, _, _, h⟩ := faultRecord_frame s n l; rw [h]
@[simp] theorem State.faultRecord_zop (n : Nat) (l : List Nat) (s : State) : (s.faultRecord n l).zop = s.zop := by
  obtain ⟨_, _, _, h⟩ := faultRecord_frame s n l; rw [h]
@[simp] theorem State.faultRecord_ls (n : Nat) (l : List Nat) (s : State) : (s.faultRecord n l).ls = s.ls := by
  obtain ⟨_, _, _, h⟩ := faultRecord_frame s n l; rw [h]
@[simp] theorem State.faultRecord_pgf (n : Nat) (l : List Nat) (s : State) : (s.faultRecord n l).pgf = s.pgf := by
  obtain ⟨_, _, _, h⟩ := faultRecord_frame s n l; rw [h]
@[simp] theorem State.faultRecord_husk (n : Nat) (l : List Nat) (s : State) : (s.faultRecord n l).husk = s.husk := by
  obtain ⟨_, _, _, h⟩ := faultRecord_frame s n l; rw [h]
@[simp] theorem State.faultRecord_shf (n : Nat) (l : List Nat) (s : State) : (s.faultRecord n l).shf = s.shf := by
  obtain ⟨_, _, _, h⟩ := faultRecord_frame s n l; rw [h]
@[simp] theorem State.faultRecord_mov (n : Nat) (l : List Nat) (s : State) : (s.faultRecord n l).mov = s.mov := by
  obtain ⟨_, _, _, h⟩ := faultRecord_frame s n l; rw [h]
@[simp] theorem State.faultRecord_rch (n : Nat) (l : List Nat) (s : State) : (s.faultRecord n l).rch = s.rch := by
  obtain ⟨_, _, _, h⟩ := faultRecord_frame s n l; rw [h]
@[simp] theorem State.faultRecord_srv (n : Nat) (l : List Nat) (s : State) : (s.faultRecord n l).srv = s.srv := by
  obtain ⟨_, _, _, h⟩ := faultRecord_frame s n l; rw [h]
@[simp] theorem State.faultRecord_spn (n : Nat) (l : List Nat) (s : State) : (s.faultRecord n l).spn = s.spn := by
  obtain ⟨_, _, _, h⟩ := faultRecord_frame s n l; rw [h]
@[simp] theorem State.faultRecord_ret (n : Nat) (l : List Nat) (s : State) : (s.faultRecord n l).ret = s.ret := by
  obtain ⟨_, _, _, h⟩ := faultRecord_frame s n l; rw [h]
@[simp] theorem State.faultRecord_mot (n : Nat) (l : List Nat) (s : State) : (s.faultRecord n l).mot = s.mot := by
  obtain ⟨_, _, _, h⟩ := faultRecord_frame s n l; rw [h]
@[simp] theorem State.faultRecord_drv (n : Nat) (l : List Nat) (s : State) : (s.faultRecord n l).drv = s.drv := by
  obtain ⟨_, _, _, h⟩ := faultRecord_frame s n l; rw [h]
@[simp] theorem State.faultRecord_teff (n : Nat) (l : List Nat) (s : State) : (s.faultRecord n l).teff = s.teff := by
  obtain ⟨_, _, _, h⟩ := faultRecord_frame s n l; rw [h]
@[simp] theorem State.faultRecord_hv (n : Nat) (l : List Nat) (s : State) : (s.faultRecord n l).hv = s.hv := by
  obtain ⟨_, _, _, h⟩ := faultRecord_frame s n l; rw [h]
@[simp] theorem State.faultRecord_fus (n : Nat) (l : List Nat) (s : State) : (s.faultRecord n l).fus = s.fus := by
  obtain ⟨_, _, _, h⟩ := faultRecord_frame s n l; rw [h]
@[simp] theorem State.faultRecord_cut (n : Nat) (l : List Nat) (s : State) : (s.faultRecord n l).cut = s.cut := by
  obtain ⟨_, _, _, h⟩ := faultRecord_frame s n l; rw [h]
@[simp] theorem State.faultRecord_cal (n : Nat) (l : List Nat) (s : State) : (s.faultRecord n l).cal = s.cal := by
  obtain ⟨_, _, _, h⟩ := faultRecord_frame s n l; rw [h]
@[simp] theorem State.faultRecord_dram (n : Nat) (l : List Nat) (s : State) : (s.faultRecord n l).dram = s.dram := by
  obtain ⟨_, _, _, h⟩ := faultRecord_frame s n l; rw [h]
@[simp] theorem State.faultRecord_sys_mode (n : Nat) (l : List Nat) (s : State) : (s.faultRecord n l).sys.mode = s.sys.mode := by
  obtain ⟨_, _, _, h⟩ := faultRecord_frame s n l; rw [h]
@[simp] theorem State.faultRecord_sys_target (n : Nat) (l : List Nat) (s : State) : (s.faultRecord n l).sys.target = s.sys.target := by
  obtain ⟨_, _, _, h⟩ := faultRecord_frame s n l; rw [h]
@[simp] theorem State.faultRecord_sys_transit (n : Nat) (l : List Nat) (s : State) : (s.faultRecord n l).sys.transit = s.sys.transit := by
  obtain ⟨_, _, _, h⟩ := faultRecord_frame s n l; rw [h]
@[simp] theorem State.faultRecord_sys_phase (n : Nat) (l : List Nat) (s : State) : (s.faultRecord n l).sys.phase = s.sys.phase := by
  obtain ⟨_, _, _, h⟩ := faultRecord_frame s n l; rw [h]
@[simp] theorem State.faultRecord_sys_safeCount (n : Nat) (l : List Nat) (s : State) : (s.faultRecord n l).sys.safeCount = s.sys.safeCount := by
  obtain ⟨_, _, _, h⟩ := faultRecord_frame s n l; rw [h]
@[simp] theorem State.faultRecord_sys_unack (n : Nat) (l : List Nat) (s : State) : (s.faultRecord n l).sys.unack = s.sys.unack := by
  obtain ⟨_, _, _, h⟩ := faultRecord_frame s n l; rw [h]
@[simp] theorem State.faultRecord_sys_origin (n : Nat) (l : List Nat) (s : State) : (s.faultRecord n l).sys.origin = s.sys.origin := by
  obtain ⟨_, _, _, h⟩ := faultRecord_frame s n l; rw [h]
@[simp] theorem State.faultRecord_sys_causeSource (n : Nat) (l : List Nat) (s : State) : (s.faultRecord n l).sys.causeSource = s.sys.causeSource := by
  obtain ⟨_, _, _, h⟩ := faultRecord_frame s n l; rw [h]
@[simp] theorem State.faultRecord_sys_safeTime (n : Nat) (l : List Nat) (s : State) : (s.faultRecord n l).sys.safeTime = s.sys.safeTime := by
  obtain ⟨_, _, _, h⟩ := faultRecord_frame s n l; rw [h]
@[simp] theorem State.faultRecord_sys_req (n : Nat) (l : List Nat) (s : State) : (s.faultRecord n l).sys.req = s.sys.req := by
  obtain ⟨_, _, _, h⟩ := faultRecord_frame s n l; rw [h]
@[simp] theorem State.faultRecord_sys_reqStatus (n : Nat) (l : List Nat) (s : State) : (s.faultRecord n l).sys.reqStatus = s.sys.reqStatus := by
  obtain ⟨_, _, _, h⟩ := faultRecord_frame s n l; rw [h]
@[simp] theorem State.faultRecord_sys_reqSeq (n : Nat) (l : List Nat) (s : State) : (s.faultRecord n l).sys.reqSeq = s.sys.reqSeq := by
  obtain ⟨_, _, _, h⟩ := faultRecord_frame s n l; rw [h]
@[simp] theorem State.faultRecord_sys_reqDrives (n : Nat) (l : List Nat) (s : State) : (s.faultRecord n l).sys.reqDrives = s.sys.reqDrives := by
  obtain ⟨_, _, _, h⟩ := faultRecord_frame s n l; rw [h]
@[simp] theorem State.faultRecord_sys_latched (n : Nat) (l : List Nat) (s : State) : (s.faultRecord n l).sys.latched = s.sys.latched := by
  obtain ⟨_, _, _, h⟩ := faultRecord_frame s n l; rw [h]
@[simp] theorem State.faultRecord_sys_entryTime (n : Nat) (l : List Nat) (s : State) : (s.faultRecord n l).sys.entryTime = s.sys.entryTime := by
  obtain ⟨_, _, _, h⟩ := faultRecord_frame s n l; rw [h]
@[simp] theorem State.faultRecord_sys_drain (n : Nat) (l : List Nat) (s : State) : (s.faultRecord n l).sys.drain = s.sys.drain := by
  obtain ⟨_, _, _, h⟩ := faultRecord_frame s n l; rw [h]
@[simp] theorem State.faultRecord_sys_badAddr (n : Nat) (l : List Nat) (s : State) : (s.faultRecord n l).sys.badAddr = s.sys.badAddr := by
  obtain ⟨_, _, _, h⟩ := faultRecord_frame s n l; rw [h]
@[simp] theorem State.faultRecord_sys_badValid (n : Nat) (l : List Nat) (s : State) : (s.faultRecord n l).sys.badValid = s.sys.badValid := by
  obtain ⟨_, _, _, h⟩ := faultRecord_frame s n l; rw [h]
@[simp] theorem State.faultRecord_sys_badWrite (n : Nat) (l : List Nat) (s : State) : (s.faultRecord n l).sys.badWrite = s.sys.badWrite := by
  obtain ⟨_, _, _, h⟩ := faultRecord_frame s n l; rw [h]
@[simp] theorem State.faultRecord_sys_badCount (n : Nat) (l : List Nat) (s : State) : (s.faultRecord n l).sys.badCount = s.sys.badCount := by
  obtain ⟨_, _, _, h⟩ := faultRecord_frame s n l; rw [h]
@[simp] theorem State.faultRecord_sys_badReason (n : Nat) (l : List Nat) (s : State) : (s.faultRecord n l).sys.badReason = s.sys.badReason := by
  obtain ⟨_, _, _, h⟩ := faultRecord_frame s n l; rw [h]
@[simp] theorem State.faultRecord_sys_pairA (n : Nat) (l : List Nat) (s : State) : (s.faultRecord n l).sys.pairA = s.sys.pairA := by
  obtain ⟨_, _, _, h⟩ := faultRecord_frame s n l; rw [h]
@[simp] theorem State.faultRecord_sys_pairB (n : Nat) (l : List Nat) (s : State) : (s.faultRecord n l).sys.pairB = s.sys.pairB := by
  obtain ⟨_, _, _, h⟩ := faultRecord_frame s n l; rw [h]
@[simp] theorem State.faultRecord_sys_engineOn (n : Nat) (l : List Nat) (s : State) : (s.faultRecord n l).sys.engineOn = s.sys.engineOn := by
  obtain ⟨_, _, _, h⟩ := faultRecord_frame s n l; rw [h]
@[simp] theorem State.faultRecord_sys_serviceOn (n : Nat) (l : List Nat) (s : State) : (s.faultRecord n l).sys.serviceOn = s.sys.serviceOn := by
  obtain ⟨_, _, _, h⟩ := faultRecord_frame s n l; rw [h]
@[simp] theorem State.faultRecord_sys_failovers (n : Nat) (l : List Nat) (s : State) : (s.faultRecord n l).sys.failovers = s.sys.failovers := by
  obtain ⟨_, _, _, h⟩ := faultRecord_frame s n l; rw [h]
@[simp] theorem State.faultRecord_sys_rejoinA (n : Nat) (l : List Nat) (s : State) : (s.faultRecord n l).sys.rejoinA = s.sys.rejoinA := by
  obtain ⟨_, _, _, h⟩ := faultRecord_frame s n l; rw [h]
@[simp] theorem State.faultRecord_sys_missA (n : Nat) (l : List Nat) (s : State) : (s.faultRecord n l).sys.missA = s.sys.missA := by
  obtain ⟨_, _, _, h⟩ := faultRecord_frame s n l; rw [h]
@[simp] theorem State.faultRecord_sys_missB (n : Nat) (l : List Nat) (s : State) : (s.faultRecord n l).sys.missB = s.sys.missB := by
  obtain ⟨_, _, _, h⟩ := faultRecord_frame s n l; rw [h]
@[simp] theorem State.faultRecord_sys_rejoinB (n : Nat) (l : List Nat) (s : State) : (s.faultRecord n l).sys.rejoinB = s.sys.rejoinB := by
  obtain ⟨_, _, _, h⟩ := faultRecord_frame s n l; rw [h]
@[simp] theorem State.faultRecord_sys_ckptEngine (n : Nat) (l : List Nat) (s : State) : (s.faultRecord n l).sys.ckptEngine = s.sys.ckptEngine := by
  obtain ⟨_, _, _, h⟩ := faultRecord_frame s n l; rw [h]
@[simp] theorem State.faultRecord_sys_ckptService (n : Nat) (l : List Nat) (s : State) : (s.faultRecord n l).sys.ckptService = s.sys.ckptService := by
  obtain ⟨_, _, _, h⟩ := faultRecord_frame s n l; rw [h]
@[simp] theorem State.faultRecord_sys_ckptEngineTime (n : Nat) (l : List Nat) (s : State) : (s.faultRecord n l).sys.ckptEngineTime = s.sys.ckptEngineTime := by
  obtain ⟨_, _, _, h⟩ := faultRecord_frame s n l; rw [h]
@[simp] theorem State.faultRecord_sys_ckptServiceTime (n : Nat) (l : List Nat) (s : State) : (s.faultRecord n l).sys.ckptServiceTime = s.sys.ckptServiceTime := by
  obtain ⟨_, _, _, h⟩ := faultRecord_frame s n l; rw [h]
@[simp] theorem State.faultRecord_sys_linkRepeat (n : Nat) (l : List Nat) (s : State) : (s.faultRecord n l).sys.linkRepeat = s.sys.linkRepeat := by
  obtain ⟨_, _, _, h⟩ := faultRecord_frame s n l; rw [h]
@[simp] theorem State.faultRecord_sys_startDue (n : Nat) (l : List Nat) (s : State) : (s.faultRecord n l).sys.startDue = s.sys.startDue := by
  obtain ⟨_, _, _, h⟩ := faultRecord_frame s n l; rw [h]
@[simp] theorem State.faultRecord_sys_laserOff (n : Nat) (l : List Nat) (s : State) : (s.faultRecord n l).sys.laserOff = s.sys.laserOff := by
  obtain ⟨_, _, _, h⟩ := faultRecord_frame s n l; rw [h]

@[simp] theorem State.glume_pending (k : Nat) (p : Bool) (n : Nat) (l : List Byte) (s : State) : (s.glume k p n l).pending = s.pending := by
  obtain ⟨_, _, _, h⟩ := glume_frame s k p n l; rw [h]
@[simp] theorem State.glume_aonOn (k : Nat) (p : Bool) (n : Nat) (l : List Byte) (s : State) : (s.glume k p n l).aonOn = s.aonOn := by
  obtain ⟨_, _, _, h⟩ := glume_frame s k p n l; rw [h]
@[simp] theorem State.glume_free (k : Nat) (p : Bool) (n : Nat) (l : List Byte) (s : State) : (s.glume k p n l).free = s.free := by
  obtain ⟨_, _, _, h⟩ := glume_frame s k p n l; rw [h]
@[simp] theorem State.glume_regs (k : Nat) (p : Bool) (n : Nat) (l : List Byte) (s : State) : (s.glume k p n l).regs = s.regs := by
  obtain ⟨_, _, _, h⟩ := glume_frame s k p n l; rw [h]
@[simp] theorem State.glume_latched (k : Nat) (p : Bool) (n : Nat) (l : List Byte) (s : State) : (s.glume k p n l).latched = s.latched := by
  obtain ⟨_, _, _, h⟩ := glume_frame s k p n l; rw [h]
@[simp] theorem State.glume_od (k : Nat) (p : Bool) (n : Nat) (l : List Byte) (s : State) : (s.glume k p n l).od = s.od := by
  obtain ⟨_, _, _, h⟩ := glume_frame s k p n l; rw [h]
@[simp] theorem State.glume_pwr (k : Nat) (p : Bool) (n : Nat) (l : List Byte) (s : State) : (s.glume k p n l).pwr = s.pwr := by
  obtain ⟨_, _, _, h⟩ := glume_frame s k p n l; rw [h]
@[simp] theorem State.glume_thm (k : Nat) (p : Bool) (n : Nat) (l : List Byte) (s : State) : (s.glume k p n l).thm = s.thm := by
  obtain ⟨_, _, _, h⟩ := glume_frame s k p n l; rw [h]
@[simp] theorem State.glume_boot (k : Nat) (p : Bool) (n : Nat) (l : List Byte) (s : State) : (s.glume k p n l).boot = s.boot := by
  obtain ⟨_, _, _, h⟩ := glume_frame s k p n l; rw [h]
@[simp] theorem State.glume_jrn (k : Nat) (p : Bool) (n : Nat) (l : List Byte) (s : State) : (s.glume k p n l).jrn = s.jrn := by
  obtain ⟨_, _, _, h⟩ := glume_frame s k p n l; rw [h]
@[simp] theorem State.glume_culm (k : Nat) (p : Bool) (n : Nat) (l : List Byte) (s : State) : (s.glume k p n l).culm = s.culm := by
  obtain ⟨_, _, _, h⟩ := glume_frame s k p n l; rw [h]
@[simp] theorem State.glume_time (k : Nat) (p : Bool) (n : Nat) (l : List Byte) (s : State) : (s.glume k p n l).time = s.time := by
  obtain ⟨_, _, _, h⟩ := glume_frame s k p n l; rw [h]
@[simp] theorem State.glume_die (k : Nat) (p : Bool) (n : Nat) (l : List Byte) (s : State) : (s.glume k p n l).die = s.die := by
  obtain ⟨_, _, _, h⟩ := glume_frame s k p n l; rw [h]
@[simp] theorem State.glume_zop (k : Nat) (p : Bool) (n : Nat) (l : List Byte) (s : State) : (s.glume k p n l).zop = s.zop := by
  obtain ⟨_, _, _, h⟩ := glume_frame s k p n l; rw [h]
@[simp] theorem State.glume_ls (k : Nat) (p : Bool) (n : Nat) (l : List Byte) (s : State) : (s.glume k p n l).ls = s.ls := by
  obtain ⟨_, _, _, h⟩ := glume_frame s k p n l; rw [h]
@[simp] theorem State.glume_pgf (k : Nat) (p : Bool) (n : Nat) (l : List Byte) (s : State) : (s.glume k p n l).pgf = s.pgf := by
  obtain ⟨_, _, _, h⟩ := glume_frame s k p n l; rw [h]
@[simp] theorem State.glume_husk (k : Nat) (p : Bool) (n : Nat) (l : List Byte) (s : State) : (s.glume k p n l).husk = s.husk := by
  obtain ⟨_, _, _, h⟩ := glume_frame s k p n l; rw [h]
@[simp] theorem State.glume_shf (k : Nat) (p : Bool) (n : Nat) (l : List Byte) (s : State) : (s.glume k p n l).shf = s.shf := by
  obtain ⟨_, _, _, h⟩ := glume_frame s k p n l; rw [h]
@[simp] theorem State.glume_mov (k : Nat) (p : Bool) (n : Nat) (l : List Byte) (s : State) : (s.glume k p n l).mov = s.mov := by
  obtain ⟨_, _, _, h⟩ := glume_frame s k p n l; rw [h]
@[simp] theorem State.glume_rch (k : Nat) (p : Bool) (n : Nat) (l : List Byte) (s : State) : (s.glume k p n l).rch = s.rch := by
  obtain ⟨_, _, _, h⟩ := glume_frame s k p n l; rw [h]
@[simp] theorem State.glume_srv (k : Nat) (p : Bool) (n : Nat) (l : List Byte) (s : State) : (s.glume k p n l).srv = s.srv := by
  obtain ⟨_, _, _, h⟩ := glume_frame s k p n l; rw [h]
@[simp] theorem State.glume_spn (k : Nat) (p : Bool) (n : Nat) (l : List Byte) (s : State) : (s.glume k p n l).spn = s.spn := by
  obtain ⟨_, _, _, h⟩ := glume_frame s k p n l; rw [h]
@[simp] theorem State.glume_ret (k : Nat) (p : Bool) (n : Nat) (l : List Byte) (s : State) : (s.glume k p n l).ret = s.ret := by
  obtain ⟨_, _, _, h⟩ := glume_frame s k p n l; rw [h]
@[simp] theorem State.glume_mot (k : Nat) (p : Bool) (n : Nat) (l : List Byte) (s : State) : (s.glume k p n l).mot = s.mot := by
  obtain ⟨_, _, _, h⟩ := glume_frame s k p n l; rw [h]
@[simp] theorem State.glume_drv (k : Nat) (p : Bool) (n : Nat) (l : List Byte) (s : State) : (s.glume k p n l).drv = s.drv := by
  obtain ⟨_, _, _, h⟩ := glume_frame s k p n l; rw [h]
@[simp] theorem State.glume_teff (k : Nat) (p : Bool) (n : Nat) (l : List Byte) (s : State) : (s.glume k p n l).teff = s.teff := by
  obtain ⟨_, _, _, h⟩ := glume_frame s k p n l; rw [h]
@[simp] theorem State.glume_hv (k : Nat) (p : Bool) (n : Nat) (l : List Byte) (s : State) : (s.glume k p n l).hv = s.hv := by
  obtain ⟨_, _, _, h⟩ := glume_frame s k p n l; rw [h]
@[simp] theorem State.glume_fus (k : Nat) (p : Bool) (n : Nat) (l : List Byte) (s : State) : (s.glume k p n l).fus = s.fus := by
  obtain ⟨_, _, _, h⟩ := glume_frame s k p n l; rw [h]
@[simp] theorem State.glume_cut (k : Nat) (p : Bool) (n : Nat) (l : List Byte) (s : State) : (s.glume k p n l).cut = s.cut := by
  obtain ⟨_, _, _, h⟩ := glume_frame s k p n l; rw [h]
@[simp] theorem State.glume_cal (k : Nat) (p : Bool) (n : Nat) (l : List Byte) (s : State) : (s.glume k p n l).cal = s.cal := by
  obtain ⟨_, _, _, h⟩ := glume_frame s k p n l; rw [h]
@[simp] theorem State.glume_dram (k : Nat) (p : Bool) (n : Nat) (l : List Byte) (s : State) : (s.glume k p n l).dram = s.dram := by
  obtain ⟨_, _, _, h⟩ := glume_frame s k p n l; rw [h]
@[simp] theorem State.glume_sys_mode (k : Nat) (p : Bool) (n : Nat) (l : List Byte) (s : State) : (s.glume k p n l).sys.mode = s.sys.mode := by
  obtain ⟨_, _, _, h⟩ := glume_frame s k p n l; rw [h]
@[simp] theorem State.glume_sys_target (k : Nat) (p : Bool) (n : Nat) (l : List Byte) (s : State) : (s.glume k p n l).sys.target = s.sys.target := by
  obtain ⟨_, _, _, h⟩ := glume_frame s k p n l; rw [h]
@[simp] theorem State.glume_sys_transit (k : Nat) (p : Bool) (n : Nat) (l : List Byte) (s : State) : (s.glume k p n l).sys.transit = s.sys.transit := by
  obtain ⟨_, _, _, h⟩ := glume_frame s k p n l; rw [h]
@[simp] theorem State.glume_sys_phase (k : Nat) (p : Bool) (n : Nat) (l : List Byte) (s : State) : (s.glume k p n l).sys.phase = s.sys.phase := by
  obtain ⟨_, _, _, h⟩ := glume_frame s k p n l; rw [h]
@[simp] theorem State.glume_sys_safeCount (k : Nat) (p : Bool) (n : Nat) (l : List Byte) (s : State) : (s.glume k p n l).sys.safeCount = s.sys.safeCount := by
  obtain ⟨_, _, _, h⟩ := glume_frame s k p n l; rw [h]
@[simp] theorem State.glume_sys_unack (k : Nat) (p : Bool) (n : Nat) (l : List Byte) (s : State) : (s.glume k p n l).sys.unack = s.sys.unack := by
  obtain ⟨_, _, _, h⟩ := glume_frame s k p n l; rw [h]
@[simp] theorem State.glume_sys_origin (k : Nat) (p : Bool) (n : Nat) (l : List Byte) (s : State) : (s.glume k p n l).sys.origin = s.sys.origin := by
  obtain ⟨_, _, _, h⟩ := glume_frame s k p n l; rw [h]
@[simp] theorem State.glume_sys_causeSource (k : Nat) (p : Bool) (n : Nat) (l : List Byte) (s : State) : (s.glume k p n l).sys.causeSource = s.sys.causeSource := by
  obtain ⟨_, _, _, h⟩ := glume_frame s k p n l; rw [h]
@[simp] theorem State.glume_sys_safeTime (k : Nat) (p : Bool) (n : Nat) (l : List Byte) (s : State) : (s.glume k p n l).sys.safeTime = s.sys.safeTime := by
  obtain ⟨_, _, _, h⟩ := glume_frame s k p n l; rw [h]
@[simp] theorem State.glume_sys_req (k : Nat) (p : Bool) (n : Nat) (l : List Byte) (s : State) : (s.glume k p n l).sys.req = s.sys.req := by
  obtain ⟨_, _, _, h⟩ := glume_frame s k p n l; rw [h]
@[simp] theorem State.glume_sys_reqStatus (k : Nat) (p : Bool) (n : Nat) (l : List Byte) (s : State) : (s.glume k p n l).sys.reqStatus = s.sys.reqStatus := by
  obtain ⟨_, _, _, h⟩ := glume_frame s k p n l; rw [h]
@[simp] theorem State.glume_sys_reqSeq (k : Nat) (p : Bool) (n : Nat) (l : List Byte) (s : State) : (s.glume k p n l).sys.reqSeq = s.sys.reqSeq := by
  obtain ⟨_, _, _, h⟩ := glume_frame s k p n l; rw [h]
@[simp] theorem State.glume_sys_reqDrives (k : Nat) (p : Bool) (n : Nat) (l : List Byte) (s : State) : (s.glume k p n l).sys.reqDrives = s.sys.reqDrives := by
  obtain ⟨_, _, _, h⟩ := glume_frame s k p n l; rw [h]
@[simp] theorem State.glume_sys_latched (k : Nat) (p : Bool) (n : Nat) (l : List Byte) (s : State) : (s.glume k p n l).sys.latched = s.sys.latched := by
  obtain ⟨_, _, _, h⟩ := glume_frame s k p n l; rw [h]
@[simp] theorem State.glume_sys_entryTime (k : Nat) (p : Bool) (n : Nat) (l : List Byte) (s : State) : (s.glume k p n l).sys.entryTime = s.sys.entryTime := by
  obtain ⟨_, _, _, h⟩ := glume_frame s k p n l; rw [h]
@[simp] theorem State.glume_sys_drain (k : Nat) (p : Bool) (n : Nat) (l : List Byte) (s : State) : (s.glume k p n l).sys.drain = s.sys.drain := by
  obtain ⟨_, _, _, h⟩ := glume_frame s k p n l; rw [h]
@[simp] theorem State.glume_sys_badAddr (k : Nat) (p : Bool) (n : Nat) (l : List Byte) (s : State) : (s.glume k p n l).sys.badAddr = s.sys.badAddr := by
  obtain ⟨_, _, _, h⟩ := glume_frame s k p n l; rw [h]
@[simp] theorem State.glume_sys_badValid (k : Nat) (p : Bool) (n : Nat) (l : List Byte) (s : State) : (s.glume k p n l).sys.badValid = s.sys.badValid := by
  obtain ⟨_, _, _, h⟩ := glume_frame s k p n l; rw [h]
@[simp] theorem State.glume_sys_badWrite (k : Nat) (p : Bool) (n : Nat) (l : List Byte) (s : State) : (s.glume k p n l).sys.badWrite = s.sys.badWrite := by
  obtain ⟨_, _, _, h⟩ := glume_frame s k p n l; rw [h]
@[simp] theorem State.glume_sys_badCount (k : Nat) (p : Bool) (n : Nat) (l : List Byte) (s : State) : (s.glume k p n l).sys.badCount = s.sys.badCount := by
  obtain ⟨_, _, _, h⟩ := glume_frame s k p n l; rw [h]
@[simp] theorem State.glume_sys_badReason (k : Nat) (p : Bool) (n : Nat) (l : List Byte) (s : State) : (s.glume k p n l).sys.badReason = s.sys.badReason := by
  obtain ⟨_, _, _, h⟩ := glume_frame s k p n l; rw [h]
@[simp] theorem State.glume_sys_pairA (k : Nat) (p : Bool) (n : Nat) (l : List Byte) (s : State) : (s.glume k p n l).sys.pairA = s.sys.pairA := by
  obtain ⟨_, _, _, h⟩ := glume_frame s k p n l; rw [h]
@[simp] theorem State.glume_sys_pairB (k : Nat) (p : Bool) (n : Nat) (l : List Byte) (s : State) : (s.glume k p n l).sys.pairB = s.sys.pairB := by
  obtain ⟨_, _, _, h⟩ := glume_frame s k p n l; rw [h]
@[simp] theorem State.glume_sys_engineOn (k : Nat) (p : Bool) (n : Nat) (l : List Byte) (s : State) : (s.glume k p n l).sys.engineOn = s.sys.engineOn := by
  obtain ⟨_, _, _, h⟩ := glume_frame s k p n l; rw [h]
@[simp] theorem State.glume_sys_serviceOn (k : Nat) (p : Bool) (n : Nat) (l : List Byte) (s : State) : (s.glume k p n l).sys.serviceOn = s.sys.serviceOn := by
  obtain ⟨_, _, _, h⟩ := glume_frame s k p n l; rw [h]
@[simp] theorem State.glume_sys_failovers (k : Nat) (p : Bool) (n : Nat) (l : List Byte) (s : State) : (s.glume k p n l).sys.failovers = s.sys.failovers := by
  obtain ⟨_, _, _, h⟩ := glume_frame s k p n l; rw [h]
@[simp] theorem State.glume_sys_rejoinA (k : Nat) (p : Bool) (n : Nat) (l : List Byte) (s : State) : (s.glume k p n l).sys.rejoinA = s.sys.rejoinA := by
  obtain ⟨_, _, _, h⟩ := glume_frame s k p n l; rw [h]
@[simp] theorem State.glume_sys_missA (k : Nat) (p : Bool) (n : Nat) (l : List Byte) (s : State) : (s.glume k p n l).sys.missA = s.sys.missA := by
  obtain ⟨_, _, _, h⟩ := glume_frame s k p n l; rw [h]
@[simp] theorem State.glume_sys_missB (k : Nat) (p : Bool) (n : Nat) (l : List Byte) (s : State) : (s.glume k p n l).sys.missB = s.sys.missB := by
  obtain ⟨_, _, _, h⟩ := glume_frame s k p n l; rw [h]
@[simp] theorem State.glume_sys_rejoinB (k : Nat) (p : Bool) (n : Nat) (l : List Byte) (s : State) : (s.glume k p n l).sys.rejoinB = s.sys.rejoinB := by
  obtain ⟨_, _, _, h⟩ := glume_frame s k p n l; rw [h]
@[simp] theorem State.glume_sys_ckptEngine (k : Nat) (p : Bool) (n : Nat) (l : List Byte) (s : State) : (s.glume k p n l).sys.ckptEngine = s.sys.ckptEngine := by
  obtain ⟨_, _, _, h⟩ := glume_frame s k p n l; rw [h]
@[simp] theorem State.glume_sys_ckptService (k : Nat) (p : Bool) (n : Nat) (l : List Byte) (s : State) : (s.glume k p n l).sys.ckptService = s.sys.ckptService := by
  obtain ⟨_, _, _, h⟩ := glume_frame s k p n l; rw [h]
@[simp] theorem State.glume_sys_ckptEngineTime (k : Nat) (p : Bool) (n : Nat) (l : List Byte) (s : State) : (s.glume k p n l).sys.ckptEngineTime = s.sys.ckptEngineTime := by
  obtain ⟨_, _, _, h⟩ := glume_frame s k p n l; rw [h]
@[simp] theorem State.glume_sys_ckptServiceTime (k : Nat) (p : Bool) (n : Nat) (l : List Byte) (s : State) : (s.glume k p n l).sys.ckptServiceTime = s.sys.ckptServiceTime := by
  obtain ⟨_, _, _, h⟩ := glume_frame s k p n l; rw [h]
@[simp] theorem State.glume_sys_linkRepeat (k : Nat) (p : Bool) (n : Nat) (l : List Byte) (s : State) : (s.glume k p n l).sys.linkRepeat = s.sys.linkRepeat := by
  obtain ⟨_, _, _, h⟩ := glume_frame s k p n l; rw [h]
@[simp] theorem State.glume_sys_startDue (k : Nat) (p : Bool) (n : Nat) (l : List Byte) (s : State) : (s.glume k p n l).sys.startDue = s.sys.startDue := by
  obtain ⟨_, _, _, h⟩ := glume_frame s k p n l; rw [h]
@[simp] theorem State.glume_sys_laserOff (k : Nat) (p : Bool) (n : Nat) (l : List Byte) (s : State) : (s.glume k p n l).sys.laserOff = s.sys.laserOff := by
  obtain ⟨_, _, _, h⟩ := glume_frame s k p n l; rw [h]

end Sys2Proof.Machine
end

