-- ==== Sys2Proof/Laws/Outputs.lean ====
section
/-! SUPPORT. Laws/Outputs.lean: ERR_N follows what drives it, heater channels that may not fire are still, and what
every command has in common. -/
namespace Sys2Proof.Machine

theorem nth_modAt {α : Type} (d : α) (l : List α) (i k : Nat) (f : α → α) :
    nth d (modAt l i f) k = if i = k ∧ k < l.length then f (nth d l k) else nth d l k := by
  show (l.modify i f).getD k d = _
  simp only [nth, List.getD_eq_getElem?_getD, List.getElem?_modify]
  by_cases h : i = k <;> by_cases h2 : k < l.length <;> simp [h, h2]

theorem nth_modAt_same {α : Type} (d : α) (l : List α) (k : Nat) (f : α → α) (h : k < l.length) :
    nth d (modAt l k f) k = f (nth d l k) := by rw [nth_modAt, if_pos ⟨rfl, h⟩]

theorem nth_modAt_other {α : Type} (d : α) (l : List α) (i k : Nat) (f : α → α) (h : i ≠ k) :
    nth d (modAt l i f) k = nth d l k := by rw [nth_modAt, if_neg (fun e => h e.1)]

/-- After the update of ERR_N it follows what drives it. -/
theorem errUpdate_follows (s : State) : s.errUpdate.errFollows = true := by
  have k : ∀ e : Evt, e.errn = s.evt.errn → e.graveHold = s.evt.graveHold →
      ({ s with evt := e } : State).errDriven = s.errDriven := by
    intro e h1 h2; simp [State.errDriven, State.bothLocked, h1, h2]
  unfold State.errUpdate
  by_cases hd : s.errDriven = true
  · by_cases hl : s.evt.errLow = true
    · simp [hd, hl, State.errFollows]
    · simp [hd, hl, State.errFollows, k]
  · by_cases hm : s.evt.errMin = true
    · simp [hd, hm, State.errFollows]
    · simp [hd, hm, State.errFollows, k]

/-- A heater channel may fire, or is still. -/
def State.still (t : State) (k : Nat) : Bool :=
  t.fusLive k || (!(nth {} t.fus.chans k).pulse && decide ((nth {} t.fus.chans k).due = []) &&
    decide ((nth {} t.fus.chans k).p = 0))

/-- A channel without its pulse. -/
def FusCh.cold (c : FusCh) : FusCh := { c with pulse := false, due := [], p := 0 }

/-- The channel k is stilled if it may not fire. -/
def State.heatStep (t : State) (k : Nat) : State := if t.fusLive k then t else t.onFus k FusCh.cold

theorem heatStep_live (t : State) (k j : Nat) : (t.heatStep k).fusLive j = t.fusLive j := by
  unfold State.heatStep; split <;> rfl

theorem heatStep_chans (t : State) (k : Nat) :
    (t.heatStep k).fus.chans = if t.fusLive k then t.fus.chans else modAt t.fus.chans k FusCh.cold := by
  unfold State.heatStep; split <;> rfl

theorem heatStep_self (t : State) (k : Nat) : (t.heatStep k).still k = true := by
  unfold State.still
  rw [heatStep_live, heatStep_chans]
  by_cases h : t.fusLive k = true
  · simp only [h, Bool.true_or]
  · simp only [h, Bool.false_or, Bool.false_eq_true, if_false]
    rw [nth_modAt]
    by_cases h2 : k < t.fus.chans.length
    · simp [h2, FusCh.cold]
    · have e : nth ({} : FusCh) t.fus.chans k = {} := by
        simp [nth, List.getElem?_eq_none (Nat.le_of_not_lt h2)]
      simp [h2, e]

theorem heatStep_keep (t : State) (k j : Nat) (h : t.still j = true) : (t.heatStep k).still j = true := by
  by_cases e : k = j
  · subst e; exact heatStep_self t k
  · unfold State.still at *
    rw [heatStep_live, heatStep_chans]
    by_cases hl : t.fusLive k = true
    · simp only [hl, if_true]; exact h
    · simp only [hl, Bool.false_eq_true, if_false]
      rw [nth_modAt_other _ _ _ _ _ e]; exact h

theorem heatFold_keep (l : List Nat) (t : State) (j : Nat) (h : t.still j = true) :
    (l.foldl State.heatStep t).still j = true := by
  induction l generalizing t with
  | nil => exact h
  | cons a l ih => exact ih _ (heatStep_keep t a j h)

theorem heatFold_all (l : List Nat) (t : State) (j : Nat) (h : j ∈ l) : (l.foldl State.heatStep t).still j = true := by
  induction l generalizing t with
  | nil => cases h
  | cons a l ih =>
    cases h with
    | head => exact heatFold_keep l _ _ (heatStep_self t _)
    | tail _ h => exact ih _ h

theorem stopHeat_fold (t : State) : t.stopHeat = (List.range 4).foldl State.heatStep t := rfl

/-- After the heaters that may not fire have stopped, they are held. -/
theorem stopHeat_held (t : State) : t.stopHeat.heatersHeld = true := by
  rw [stopHeat_fold]
  generalize hu : (List.range 4).foldl State.heatStep t = u
  have h : ∀ j ∈ List.range 4, u.still j = true := fun j hj => hu ▸ heatFold_all (List.range 4) t j hj
  unfold State.heatersHeld
  rw [List.all_eq_true]
  exact h

theorem errUpdate_heatersHeld (t : State) : t.errUpdate.heatersHeld = t.heatersHeld := by
  obtain ⟨e, h⟩ := errUpdate_frame t
  rw [h]; rfl

/-- A command keeps the queue. -/
@[simp] theorem after_pending (s t : State) : (s.after t).pending = s.pending := by
  unfold State.after; generalize (State.errUpdate _) = u; rfl

/-- With AON power a command has its effect, and then what goes on by itself. -/
theorem act_powered (f : State → State) {s : State} (h : s.aonOn = true) : act f s = .next (s.after (f s)) := by
  simp only [act, h, if_true]

/-- Without AON power a command has no effect. -/
theorem act_dead (f : State → State) {s : State} (h : s.aonOn = false) : act f s = .next s := by
  simp only [act, h, Bool.false_eq_true, if_false]

end Sys2Proof.Machine
end

