-- ==== Sys2Proof/Laws/Rch.lean ====
section
/-! SUPPORT. Laws/Rch.lean: a pass that brings the sector as it was written reads its user bytes: the scrambler undoes
itself, the codeword satisfies every parity check, the marks are found at their places, and the checks pass. -/
namespace Sys2Proof.Machine

/-! ## Bytes and bits -/

/-- Scrambling twice from one register gives the bytes back (R483). -/
theorem scramble_scramble (r : Nat) (l : List Byte) : scramble r (scramble r l) = l := by
  induction l generalizing r with
  | nil => rfl
  | cons b t ih => simp only [scramble, ih]; congr 1; rw [BitVec.xor_assoc, BitVec.xor_self, BitVec.xor_zero]

@[simp] theorem scramble_length (r : Nat) (l : List Byte) : (scramble r l).length = l.length := by
  induction l generalizing r with
  | nil => rfl
  | cons b t ih => simp [scramble, ih]

@[simp] theorem slice_length (l : List Byte) (o n : Nat) : (slice l o n).length = n := by simp [slice]

@[simp] theorem padTo_length (n : Nat) (l : List Byte) : (padTo n l).length = n := by simp [padTo]

/-- A slice that lies in the first of two lists. -/
theorem slice_left (a b : List Byte) (o n : Nat) (h : o + n ≤ a.length) : slice (a ++ b) o n = slice a o n := by
  apply List.ext_getElem (by simp)
  intro i h1 h2
  simp only [slice_length] at h1
  simp [slice, List.getD_eq_getElem?_getD, List.getElem?_append_left (show o + i < a.length by omega)]

/-- A slice that lies in the second of two lists. -/
theorem slice_right (a b : List Byte) (o n : Nat) : slice (a ++ b) (a.length + o) n = slice b o n := by
  apply List.ext_getElem (by simp)
  intro i h1 h2
  simp [slice, List.getD_eq_getElem?_getD, List.getElem?_append_right, Nat.add_assoc]

theorem padTo_eq (l : List Byte) : padTo l.length l = l := by
  apply List.ext_getElem (by simp)
  intro i h1 h2
  simp [padTo, slice, List.getD_eq_getElem?_getD, List.getElem?_eq_getElem h2]

/-- A slice that a list holds whole. -/
theorem slice_append (a b c : List Byte) : slice (a ++ (b ++ c)) a.length b.length = b := by
  have h1 := slice_right a (b ++ c) 0 b.length
  rw [Nat.add_zero] at h1
  rw [h1, slice_left b c 0 b.length (by omega)]
  exact padTo_eq b

@[simp] theorem u32be_length (v : Nat) : (u32be v).length = 4 := by simp [u32be, u32le, leBytes]

@[simp] theorem leBytes_length (n v : Nat) : (leBytes n v).length = n := by
  induction n generalizing v with
  | zero => rfl
  | succ n ih => simp [leBytes, ih]

/-- The bytes of a number that they can hold give it back. -/
theorem leNat_leBytes (n v : Nat) (h : v < 256 ^ n) : leNat (leBytes n v) = v := by
  induction n generalizing v with
  | zero => simp at h; simp [leBytes, leNat, h]
  | succ n ih =>
    have h1 : v / 256 < 256 ^ n := by rw [Nat.div_lt_iff_lt_mul (by decide)]; rwa [Nat.pow_succ] at h
    simp only [leBytes, leNat, ih _ h1, BitVec.toNat_ofNat]
    omega

@[simp] theorem turnByte_turnByte (b : Byte) : turnByte (turnByte b) = b := by
  apply BitVec.eq_of_getLsbD_eq
  intro i hi
  simp [turnByte]

/-- Bytes sent bit by bit and put together again (R483). -/
theorem bytesMsb_bitsMsb (l : List Byte) : bytesMsb (bitsMsb l) = l := by
  induction l with
  | nil => rfl
  | cons b t ih =>
    have h : bitsMsb (b :: t) = b.getLsbD 7 :: b.getLsbD 6 :: b.getLsbD 5 :: b.getLsbD 4 :: b.getLsbD 3 :: b.getLsbD 2 ::
        b.getLsbD 1 :: b.getLsbD 0 :: bitsMsb t := rfl
    rw [h, bytesMsb, ih]
    congr 1
    clear h ih
    revert b
    decide

@[simp] theorem bitsMsb_length (l : List Byte) : (bitsMsb l).length = 8 * l.length := by
  simp [bitsMsb, List.length_flatMap]; omega

@[simp] theorem bitsMsb_append (a b : List Byte) : bitsMsb (a ++ b) = bitsMsb a ++ bitsMsb b := by simp [bitsMsb]

/-! ## The codeword -/

@[simp] theorem blockBytes_length (b : BitVec 96) : (blockBytes b).length = 12 := by simp [blockBytes]

@[simp] theorem codeSector_length (lba : Nat) (u : List Byte) : (codeSector lba u).length = 4104 := by
  simp [codeSector, sectorBytes]

/-- A block read out of the bytes that blocks were laid down as. -/
theorem cwBlock_blocks (info : List Byte) (ps : List (BitVec 96)) (j k : Nat) (h : info.length = 12 * j) (b : BitVec 96)
    (hk : ps[k]? = some b) : cwBlock (info ++ ps.flatMap blockBytes) (j + k) = b := by
  have h1 : slice (info ++ ps.flatMap blockBytes) (12 * (j + k)) 12 = blockBytes b := by
    rw [Nat.mul_add, ← h, slice_right]
    clear h
    induction ps generalizing k with
    | nil => simp at hk
    | cons p ps ih =>
      cases k with
      | zero =>
        simp only [List.getElem?_cons_zero, Option.some.injEq] at hk
        subst hk
        have := slice_append [] (blockBytes p) (ps.flatMap blockBytes)
        simpa using this
      | succ k =>
        have := slice_right (blockBytes p) (ps.flatMap blockBytes) (12 * k) 12
        rw [blockBytes_length] at this
        rw [List.flatMap_cons, show 12 * (k + 1) = 12 + 12 * k by omega, this]
        exact ih k (by simpa using hk)
  rw [cwBlock, h1, blockBytes, List.map_map]
  have h2 : turnByte ∘ turnByte = id := by funext x; simp
  rw [h2, List.map_id, leNat_leBytes _ _ (by have := b.isLt; omega), BitVec.ofNat_toNat, BitVec.setWidth_eq]

/-- A block of the information part. -/
theorem cwBlock_info (info t : List Byte) (j : Nat) (h : 12 * j + 12 ≤ info.length) : cwBlock (info ++ t) j = cwBlock info j := by
  rw [cwBlock, cwBlock, slice_left _ _ _ _ (by omega)]

theorem rotateRight_rotateLeft (x : BitVec 96) (v : Nat) : (x.rotateLeft v).rotateRight v = x := by
  apply BitVec.eq_of_getLsbD_eq
  intro i hi
  have hv : v % 96 < 96 := Nat.mod_lt _ (by decide)
  rw [BitVec.getLsbD_rotateRight]
  by_cases h : i < 96 - v % 96
  · simp only [h, decide_true, cond_true, BitVec.getLsbD_rotateLeft]
    simp only [show ¬ v % 96 + i < v % 96 by omega, decide_false, cond_false, show v % 96 + i < 96 by omega, decide_true,
      Bool.true_and, show v % 96 + i - v % 96 = i by omega]
  · simp only [h, decide_false, cond_false, hi, decide_true, Bool.true_and, BitVec.getLsbD_rotateLeft]
    simp only [show i - (96 - v % 96) < v % 96 by omega, decide_true, cond_true,
      show 96 - v % 96 + (i - (96 - v % 96)) = i by omega]

/-- The parity block of row i, given the one before it (R484). -/
def parityBlock (info : List Byte) (i : Nat) (before : BitVec 96) : BitVec 96 :=
  let b := match i, ldpcShift i (341 + i) with
    | _ + 1, some v => before.rotateRight v
    | _, _ => 0
  (rowSum i 342 (cwBlock info) ^^^ b).rotateLeft ((ldpcShift i (342 + i)).getD 0)

/-- A list that grows by one member that its last one gives: each member comes from the one before it. -/
theorem grown (f : Nat → BitVec 96 → BitVec 96) (n : Nat) :
    let l := (List.range n).foldl (fun p i => p ++ [f i (p.getLastD 0)]) []
    l.length = n ∧ ∀ i, i < n → l[i]? = some (f i (if i = 0 then 0 else (l[i - 1]?).getD 0)) := by
  induction n with
  | zero => simp
  | succ n ih =>
    simp only [List.range_succ, List.foldl_append, List.foldl_cons, List.foldl_nil]
    generalize (List.range n).foldl (fun p i => p ++ [f i (p.getLastD 0)]) [] = l at ih
    obtain ⟨hl, hi⟩ := ih
    refine ⟨by simp [hl], fun i h => ?_⟩
    by_cases hn : i = n
    · subst hn
      have : (l ++ [f i (l.getLastD 0)])[i]? = some (f i (l.getLastD 0)) := by rw [← hl]; simp
      rw [this]
      congr 2
      by_cases h0 : i = 0
      · subst h0; simp [List.length_eq_zero_iff.mp hl]
      · rw [if_neg h0, List.getElem?_append_left (by omega), List.getLastD_eq_getLast?, List.getLast?_eq_getElem?, hl]
    · have h1 : i < n := by omega
      rw [List.getElem?_append_left (by omega), hi i h1]
      congr 2
      by_cases h0 : i = 0
      · simp [h0]
      · rw [if_neg h0, if_neg h0, List.getElem?_append_left (by omega)]

theorem parityBlocks_eq (info : List Byte) :
    parityBlocks info = (List.range 57).foldl (fun p i => p ++ [parityBlock info i (p.getLastD 0)]) [] := rfl

theorem rowSum_congr (i n : Nat) (u w : Nat → BitVec 96) (h : ∀ j, j < n → u j = w j) : rowSum i n u = rowSum i n w := by
  induction n with
  | zero => rfl
  | succ n ih =>
    simp only [rowSum, List.range_succ, List.foldl_append, List.foldl_cons, List.foldl_nil] at ih ⊢
    rw [ih fun j hj => h j (by omega), h n (by omega)]

theorem rowSum_succ (i n : Nat) (u : Nat → BitVec 96) :
    rowSum i (n + 1) u = (match ldpcShift i n with
      | some v => rowSum i n u ^^^ (u n).rotateRight v
      | none => rowSum i n u) := by
  simp only [rowSum, List.range_succ, List.foldl_append, List.foldl_cons, List.foldl_nil] <;>
    cases ldpcShift i n <;> rfl

/-- The columns of parity of row i: only its own and the one before it count. -/
theorem ldpcShift_parity (i k : Nat) : ldpcShift i (342 + k) = if k = i ∨ k + 1 = i then ldpcShift i (342 + k) else none := by
  split
  · rfl
  · rename_i h
    simp only [ldpcShift]
    rw [if_neg (by omega), if_neg (by omega)]

theorem ldpcShift_own (i : Nat) : ∃ v, ldpcShift i (342 + i) = some v := by
  simp [ldpcShift]

theorem ldpcShift_before (i : Nat) : ∃ v, ldpcShift (i + 1) (342 + i) = some v := by
  simp only [ldpcShift]
  rw [if_neg (by omega), if_pos (by omega)]
  exact ⟨_, rfl⟩

/-- A row's sum over the first k columns of parity. -/
theorem rowSum_parity (i k : Nat) (u : Nat → BitVec 96) :
    rowSum i (342 + k) u = rowSum i 342 u ^^^
      ((if 0 < i ∧ i ≤ k then (u (341 + i)).rotateRight ((ldpcShift i (341 + i)).getD 0) else 0) ^^^
        (if i < k then (u (342 + i)).rotateRight ((ldpcShift i (342 + i)).getD 0) else 0)) := by
  induction k with
  | zero => rw [if_neg (by omega), if_neg (by omega)]; simp
  | succ k ih =>
    rw [← Nat.add_assoc, rowSum_succ, ih]
    rcases Nat.lt_trichotomy (k + 1) i with h | h | h
    · rw [ldpcShift_parity, if_neg (by omega)]
      simp only [show ¬(0 < i ∧ i ≤ k) by omega, show ¬(0 < i ∧ i ≤ k + 1) by omega, show ¬ i < k by omega,
        show ¬ i < k + 1 by omega, if_false]
    · subst h
      obtain ⟨v, hv⟩ := ldpcShift_before k
      have e : 341 + (k + 1) = 342 + k := by omega
      rw [e, hv]
      simp
    · by_cases hk : k = i
      · subst hk
        obtain ⟨v, hv⟩ := ldpcShift_own k
        rw [hv]
        by_cases h0 : k = 0
        · simp [h0]
        · simp [Nat.pos_of_ne_zero h0, BitVec.xor_assoc]
      · rw [ldpcShift_parity, if_neg (by omega)]
        by_cases h0 : i = 0
        · simp [h0, show 0 < k by omega]
        · simp only [show (0 < i ∧ i ≤ k) by omega, show (0 < i ∧ i ≤ k + 1) by omega, show i < k by omega,
            show i < k + 1 by omega, if_true, and_self]

/-- Every parity check of a sector's codeword is satisfied (R484). -/
theorem parityOk_codeword (lba : Nat) (u : List Byte) : parityOk (codeword lba u) = true := by
  have hg := grown (parityBlock (codeSector lba u)) 57
  simp only at hg
  rw [← parityBlocks_eq] at hg
  obtain ⟨-, hp⟩ := hg
  rw [parityOk, List.all_eq_true]
  intro i hi
  rw [List.mem_range] at hi
  refine decide_eq_true ?_
  simp only [codeword]
  have hl : (codeSector lba u).length = 12 * 342 := by simp
  have hb := fun k b (h : (parityBlocks (codeSector lba u))[k]? = some b) =>
    cwBlock_blocks (codeSector lba u) (parityBlocks (codeSector lba u)) 342 k hl b h
  rw [show 399 = 342 + 57 from rfl, rowSum_parity, if_pos hi,
    rowSum_congr i 342 _ (cwBlock (codeSector lba u)) fun j hj => cwBlock_info _ _ _ (by simp; omega),
    hb i _ (hp i hi)]
  obtain ⟨v, hv⟩ := ldpcShift_own i
  simp only [parityBlock, hv, Option.getD_some, rotateRight_rotateLeft]
  cases i with
  | zero => simp
  | succ i =>
    obtain ⟨w, hw⟩ := ldpcShift_before i
    have e : 341 + (i + 1) = 342 + i := by omega
    rw [if_pos (by omega), e, hb i _ (hp i (by omega)), hw]
    simp only [Option.getD_some, Nat.succ_ne_zero, if_false, Nat.add_sub_cancel, hp i (by omega)]
    simp

/-! ## The front end -/

/-- The loops at one bit leave the defect detector alone. -/
theorem RWork.adapt_flags (w : RWork) (c : RSet) (pre : Bool) (b : RBit) :
    (w.adapt c pre b).flags = w.flags ∧ (w.adapt c pre b).flag = w.flag ∧ (w.adapt c pre b).drop = w.drop ∧
      (w.adapt c pre b).ta = w.ta := by
  unfold RWork.adapt
  dsimp only
  split <;> exact ⟨rfl, rfl, rfl, rfl⟩

/-- At a level that the envelope keeps, no defect begins (R488). -/
theorem RWork.defect_even (w : RWork) (c : RSet) (e n : Nat) (hd : c.dropTh ≤ 256) (hl : 0 < c.defLen) (hf : w.flag = false) :
    (w.defect c (n * e, n) e).flags = false :: w.flags ∧ (w.defect c (n * e, n) e).flag = false := by
  have h1 : ¬ 256 * e * n < c.dropTh * (n * e) := by
    have := Nat.mul_le_mul_right (n * e) hd
    have h2 : 256 * e * n = 256 * (n * e) := by ring
    omega
  have h3 : ¬ (256 + c.taTh) * (n * e) < 256 * e * n := by
    have h2 : (256 + c.taTh) * (n * e) = 256 * e * n + c.taTh * (n * e) := by ring
    omega
  simp only [RWork.defect, h1, h3, if_false, hf]
  simp [show ¬ c.defLen ≤ 0 by omega]

/-- A pass with an even envelope raises no flag. -/
theorem RWork.pass_flags (c : RSet) (e n : Nat) (hd : c.dropTh ≤ 256) (hl : 0 < c.defLen) :
    ∀ (bits : List RBit) (k : Nat) (w : RWork), w.flag = false → (∀ b ∈ bits, b.env = e) →
      (RWork.pass c (n * e, n) k bits w).flags = List.replicate bits.length false ++ w.flags
  | [], _, _, _, _ => rfl
  | b :: t, k, w, hf, he => by
    rw [RWork.pass, he b (by simp)]
    have h := RWork.defect_even w c e n hd hl hf
    have h2 := RWork.adapt_flags (w.defect c (n * e, n) e) c (decide (k < 256)) b
    rw [RWork.pass_flags c e n hd hl t _ _ (h2.2.1.trans h.2) fun x hx => he x (by simp [hx]), h2.1, h.1]
    rw [List.length_cons, List.replicate_succ']
    simp

theorem preLevel_even (bits : List RBit) (e : Nat) (he : ∀ b ∈ bits, b.env = e) :
    preLevel bits = ((bits.take 256).length * e, (bits.take 256).length) := by
  have h : (bits.take 256).map (·.env) = List.replicate (bits.take 256).length e := by
    rw [List.eq_replicate_iff]
    refine ⟨by simp, fun x hx => ?_⟩
    obtain ⟨b, hb, rfl⟩ := List.mem_map.mp hx
    exact he b (List.mem_of_mem_take hb)
  simp only [preLevel, h, List.sum_replicate, List.length_replicate, smul_eq_mul]

/-! ## The marks -/

/-- The better of the members of a list, one after the other. -/
def bestMark (pred : Nat) (l : List (Nat × Nat)) (o : Option (Nat × Nat)) : Option (Nat × Nat) :=
  l.foldl (fun best x => match best with
    | none => some x
    | some b => if betterMark pred x b then some x else best) o

theorem bestMark_stays (pred : Nat) (m : Nat × Nat) (l : List (Nat × Nat)) (h : ∀ x ∈ l, betterMark pred x m = false) :
    bestMark pred l (some m) = some m := by
  induction l with
  | nil => rfl
  | cons x t ih =>
    have h1 := h x (by simp)
    have h2 := ih fun y hy => h y (by simp [hy])
    simpa [bestMark, h1] using h2

/-- A candidate that is better than every other one is taken. -/
theorem bestMark_wins (pred : Nat) (m : Nat × Nat) (l : List (Nat × Nat)) (o : Option (Nat × Nat)) (hm : m ∈ l)
    (h1 : ∀ x ∈ l, betterMark pred x m = false) (h2 : ∀ x, x ∈ l ∨ o = some x → x ≠ m → betterMark pred m x = true) :
    bestMark pred l o = some m := by
  induction l generalizing o with
  | nil => simp at hm
  | cons x t ih =>
    have ht := bestMark_stays pred m t fun y hy => h1 y (by simp [hy])
    by_cases hx : x = m
    · subst hx
      cases o with
      | none => simpa [bestMark] using ht
      | some b =>
        by_cases hb : b = x
        · subst hb; simpa [bestMark] using ht
        · have := h2 b (Or.inr rfl) hb
          simpa [bestMark, this] using ht
    · have hm' : m ∈ t := by
        rcases List.mem_cons.mp hm with h | h
        · exact absurd h.symm hx
        · exact h
      rw [bestMark, List.foldl_cons]
      refine ih _ hm' (fun y hy => h1 y (by simp [hy])) fun y hy hne => h2 y ?_ hne
      rcases hy with hy | hy
      · exact Or.inl (by simp [hy])
      · cases o with
        | none => simp at hy; exact Or.inl (by simp [hy])
        | some b =>
          dsimp only at hy
          split at hy
          · simp at hy; exact Or.inl (by simp [hy])
          · exact Or.inr hy

theorem agreement_le (mark : Word) (bits : List RBit) : agreement mark bits ≤ 32 :=
  (List.length_filter_le _ _).trans (by simp)

/-- The decisions are those of the mark. -/
theorem agreement_full (mark : Word) (bits : List RBit) (h : 32 ≤ bits.length)
    (hd : ∀ i (hi : i < bits.length), i < 32 → bits[i].d = bitOf mark (31 - i)) : agreement mark bits = 32 := by
  rw [agreement, List.filter_eq_self.mpr]
  · simp; omega
  · intro p hp
    obtain ⟨-, h2, h3⟩ := List.mem_zipIdx hp
    simp at h2
    have := hd p.2 (by omega) (by omega)
    simp only [h3, List.getElem_take, Nat.sub_zero, this, decide_true]

/-- A mark that passes whole at its predicted place is found there (R492 to R494). -/
theorem findMark_there (mark : Word) (pred w th : Nat) (bits : List RBit) (n : Nat) (hw : w ≤ pred) (ht : th ≤ 32)
    (hl : pred + 32 ≤ bits.length) (ha : agreement mark (bits.drop pred) = 32) :
    findMark mark pred w th bits (List.replicate n false) = some pred := by
  have hf : ∀ p, ((((List.replicate n false).drop p).take 32).any id) = false := by
    intro p; simp
  have : findMark mark pred w th bits (List.replicate n false) = (bestMark pred
      ((((((List.range (2 * w + 1)).map fun i => pred - w + i).filter fun p =>
        decide (p + 32 ≤ bits.length) && !(((List.replicate n false).drop p).take 32).any id)).map
          fun p => (p, agreement mark (bits.drop p))).filter fun x => decide (th ≤ x.2)) none).map (·.1) := rfl
  rw [this, bestMark_wins pred (pred, 32)]
  · rfl
  · rw [List.mem_filter, List.mem_map]
    refine ⟨⟨pred, ?_, by rw [ha]⟩, by simpa using ht⟩
    rw [List.mem_filter, List.mem_map]
    exact ⟨⟨w, by simp; omega, by omega⟩, by simp [hl]⟩
  · intro x hx
    rw [List.mem_filter, List.mem_map] at hx
    obtain ⟨⟨p, -, rfl⟩, -⟩ := hx
    have := agreement_le mark (bits.drop p)
    simp [betterMark]
    omega
  · intro x hx hne
    rcases hx with hx | hx
    · rw [List.mem_filter, List.mem_map] at hx
      obtain ⟨⟨p, -, rfl⟩, -⟩ := hx
      have h1 := agreement_le mark (bits.drop p)
      by_cases h2 : agreement mark (bits.drop p) = 32
      · have : p ≠ pred := fun h => hne (by rw [h2, h])
        simp [betterMark, h2]
        omega
      · simp [betterMark]
        omega
    · simp at hx

/-! ## The decode -/

/-- A piece out of the middle of a list. -/
theorem take_drop_mid {α : Type} (a b c : List α) : ((a ++ (b ++ c)).drop a.length).take b.length = b := by
  rw [List.drop_left, List.take_left]

theorem map_range_getD (l : List Int) (o n : Nat) (h : o + n ≤ l.length) :
    ((List.range n).map fun i => l.getD (o + i) 0) = (l.drop o).take n := by
  apply List.ext_getElem (by simp; omega)
  intro i h1 h2
  simp at h1
  simp [List.getD_eq_getElem?_getD, List.getElem?_eq_getElem (show o + i < l.length by omega)]

/-- The hard decisions at an alignment are the bits from its two places on. -/
theorem hardBits_aligned (soft : List Int) (a b : Nat) (ha : a + 19152 ≤ soft.length) (hb : b + 19152 ≤ soft.length) :
    hardBits (alignedLlrs soft ((a : Int), (b : Int)) 0) =
      ((hardBits soft).drop a).take 19152 ++ ((hardBits soft).drop b).take 19152 := by
  have h (k : Nat) : ∀ i : Nat, (if (k : Int) + 0 + (i : Int) < 0 then 0 else soft.getD ((k : Int) + 0 + (i : Int)).toNat 0) =
      soft.getD (k + i) 0 := by
    intro i
    rw [if_neg (by omega), show ((k : Int) + 0 + (i : Int)).toNat = k + i by omega]
  simp only [alignedLlrs, h, map_range_getD _ _ _ ha, map_range_getD _ _ _ hb]
  simp only [hardBits, List.map_append, List.map_take, List.map_drop]

/-- Min-sum that begins with a codeword takes it. -/
theorem minSum_codeword (n : Nat) (w : List Int × List (List Int)) (c : List Byte) (h : bytesMsb (hardBits w.1) = c)
    (hp : parityOk c = true) : minSum n w = some c := by
  cases n <;> simp only [minSum, h, hp, if_true]

theorem codeword_length (lba : Nat) (u : List Byte) : (codeword lba u).length = 4788 := by
  have hg := (grown (parityBlock (codeSector lba u)) 57).1
  rw [← parityBlocks_eq] at hg
  simp [codeword, List.length_flatMap, hg]

theorem mark_bits (v : Word) (h : v = sm1 ∨ v = sm2) :
    ∀ i, i < 32 → (bitsMsb (u32be v.toNat)).getD i false = bitOf v (31 - i) := by
  rcases h with rfl | rfl <;> decide

/-- The bits of a sector as they lie on the track (R479). -/
theorem trackSector_bits (lba : Nat) (u : List Byte) : ∃ a b d e : List Bool,
    bitsMsb (trackSector lba u) = a ++ (bitsMsb (u32be sm1.toNat) ++ (b ++ (bitsMsb (u32be sm2.toNat) ++ (d ++ e)))) ∧
      a.length = 256 ∧ b.length = 19152 ∧ d.length = 19152 ∧ e.length = 32 ∧ b ++ d = bitsMsb (codeword lba u) := by
  have hc := codeword_length lba u
  refine ⟨bitsMsb (List.replicate 32 0x33), bitsMsb ((codeword lba u).take 2394), bitsMsb ((codeword lba u).drop 2394),
    bitsMsb (List.replicate 4 0x33), ?_, ?_, ?_, ?_, ?_, ?_⟩
  · simp only [trackSector, bitsMsb_append, List.append_assoc]
  · rw [bitsMsb_length, List.length_replicate]
  · rw [bitsMsb_length, List.length_take, hc]; rfl
  · rw [bitsMsb_length, List.length_drop, hc]
  · rw [bitsMsb_length, List.length_replicate]
  · rw [← bitsMsb_append, List.take_append_drop]

theorem softOf_even (bits : List RBit) : softOf bits (List.replicate bits.length false) = bits.map (·.llr) := by
  induction bits with
  | nil => rfl
  | cons b t ih =>
    rw [List.length_cons, List.replicate_succ, softOf, List.zip_cons_cons, List.map_cons]
    exact congrArg _ ih

/-- A decision of a pass that carries bytes. -/
theorem carries_bit {p : ReadPass} {l : List Byte} (h : p.carries l) (i : Nat) (hi : i < p.bits.length) :
    p.bits[i].d = (bitsMsb l).getD i false := by
  have h2 : (p.bits.map (·.d)).getD i false = (bitsMsb l).getD i false := by rw [h.1]
  rw [← h2]
  simp [List.getD_eq_getElem?_getD, List.getElem?_eq_getElem hi]

theorem carries_length {p : ReadPass} {l : List Byte} (h : p.carries l) : p.bits.length = 8 * l.length := by
  have := congrArg List.length h.1
  simpa using this

/-- A mark at its place in the bytes that a pass carries. -/
theorem carries_mark {p : ReadPass} {l : List Byte} (h : p.carries l) (mark : Word) (hm : mark = sm1 ∨ mark = sm2)
    (a t : List Bool) (hl : bitsMsb l = a ++ (bitsMsb (u32be mark.toNat) ++ t)) :
    agreement mark (p.bits.drop a.length) = 32 := by
  have hn : p.bits.length = a.length + (32 + t.length) := by
    have := congrArg List.length h.1
    rw [hl] at this
    simpa using this
  refine agreement_full _ _ (by simp; omega) fun i hi h32 => ?_
  rw [List.getElem_drop, carries_bit h _ (by simp at hi; omega), hl, ← mark_bits mark hm i h32]
  rw [List.getD_eq_getElem?_getD, List.getElem?_append_right (by omega), List.getElem?_append_left (by simp; omega),
    List.getD_eq_getElem?_getD]
  congr 2
  omega

/-- Two detector outputs that agree sum to one that agrees (R506 step 7). -/
theorem hardBits_softSum (a b : List Int) (h : hardBits a = hardBits b) : hardBits (softSum a b) = hardBits b := by
  induction a generalizing b with
  | nil => cases b with
    | nil => rfl
    | cons y b => simp [hardBits] at h
  | cons x a ih => cases b with
    | nil => simp [hardBits] at h
    | cons y b =>
      simp only [hardBits, List.map_cons, List.cons.injEq] at h
      have h2 := ih b h.2
      simp only [softSum, hardBits, List.zip_cons_cons, List.map_cons] at h2 ⊢
      rw [h2]
      congr 1
      have h1 : (x < 0) ↔ (y < 0) := by simpa using h.1
      simp only [decide_eq_decide]
      omega

/-- What the front end makes of a pass that carries a sector as written: both marks at their places, and the detector's
output as it is (R488 to R495). -/
theorem frontPass_carries (p : ReadPass) (th step lba : Nat) (u : List Byte) (s : State) (hp : p.carries (trackSector lba u))
    (hl : 0 < fld (s.rchReg 0x24) 8 8) (ht : th ≤ 32)
    (hs : ∀ l, s.rch.firstSoft = some l → hardBits l = bitsMsb (trackSector lba u)) :
    (s.frontPass p th step).1 = (some 256, some 19440) ∧
      hardBits (s.frontPass p th step).2.rch.soft = bitsMsb (trackSector lba u) := by
  obtain ⟨a, b, d, e, hb, ha, hbl, hd, he, -⟩ := trackSector_bits lba u
  have hlen : (bitsMsb (trackSector lba u)).length = 38656 := by rw [hb]; simp [ha, hbl, hd, he]
  have hn : p.bits.length = 38656 := by
    have := congrArg List.length hp.1
    rw [hlen] at this
    simpa using this
  have hwin : fld (s.rchReg 0x20) 24 8 < 256 := Nat.mod_lt _ (by decide)
  obtain ⟨ev, hev⟩ := hp.2.1
  have hdrop : (s.passSet step).dropTh ≤ 256 := by
    have : fld (s.rchReg 0x24) 24 8 < 256 := Nat.mod_lt _ (by decide)
    simp only [State.passSet]
    split <;> omega
  have hf : ∀ l : RLoop, (RWork.pass (s.passSet step) (preLevel p.bits) 0 p.bits { loops := l }).flags.reverse =
      List.replicate p.bits.length false := by
    intro l
    rw [preLevel_even p.bits ev hev, RWork.pass_flags _ _ _ hdrop hl _ _ _ rfl hev]
    simp
  constructor
  · simp only [State.frontPass, hf]
    rw [findMark_there sm1 256 _ th p.bits _ (by omega) ht (by omega)
        (by rw [← ha]; exact carries_mark hp sm1 (Or.inl rfl) a _ hb),
      findMark_there sm2 19440 _ th p.bits _ (by omega) ht (by omega) (by
        have h2 : bitsMsb (trackSector lba u) = (a ++ (bitsMsb (u32be sm1.toNat) ++ b)) ++
            (bitsMsb (u32be sm2.toNat) ++ (d ++ e)) := by rw [hb]; simp only [List.append_assoc]
        have h3 : (a ++ (bitsMsb (u32be sm1.toNat) ++ b)).length = 19440 := by simp [ha, hbl]
        rw [← h3]
        exact carries_mark hp sm2 (Or.inr rfl) _ _ h2)]
  · have hd : hardBits (p.bits.map (·.llr)) = bitsMsb (trackSector lba u) := by
      rw [hardBits, List.map_map, ← hp.1]
      refine List.map_congr_left fun x hx => ?_
      have h1 := hp.2.2 x hx
      cases hxd : x.d
      · exact decide_eq_false fun h => by rw [hxd] at h1; exact Bool.false_ne_true (h1.mp h)
      · exact decide_eq_true (h1.mpr hxd)
    have hsoft : ∀ m, hardBits ((s.passDone m).keepSoft p.bits (List.replicate p.bits.length false)).rch.soft =
        bitsMsb (trackSector lba u) := by
      intro m
      have hs2 : (s.passDone m).rch.firstSoft = s.rch.firstSoft := by
        simp only [State.passDone]
        split
        · rw [State.raise_rch]; rfl
        · rfl
      simp only [State.keepSoft, State.onRch, hs2, softOf_even]
      cases hf1 : s.rch.firstSoft with
      | none => exact hd
      | some l => rw [← hd]; exact hardBits_softSum _ _ ((hs l hf1).trans hd.symm)
    have hc : ∀ (m : Marks) (t : State), (t.countMarks m).rch.soft = t.rch.soft := by
      intro m t
      cases m <;> simp [State.countMarks, State.onRch]
    simp only [State.frontPass, hf, hc, hsoft]

/-- The codeword that a pass carries is what its decode finds (R495, R498). -/
theorem decodeAt_carries (soft : List Int) (lba iter : Nat) (u : List Byte)
    (h : hardBits soft = bitsMsb (trackSector lba u)) :
    decodeAt soft (288, 19472) iter 0 = some (codeword lba u) := by
  obtain ⟨a, b, d, e, hb, ha, hbl, hd, he, hc⟩ := trackSector_bits lba u
  have hlen : soft.length = 38656 := by
    have := congrArg List.length h
    rw [hb] at this
    simp [hardBits, ha, hbl, hd, he] at this
    omega
  refine minSum_codeword _ _ _ ?_ (parityOk_codeword lba u)
  have := hardBits_aligned soft 288 19472 (by omega) (by omega)
  rw [show ((288 : Int), (19472 : Int)) = (((288 : Nat) : Int), ((19472 : Nat) : Int)) from rfl, this, h]
  have e1 : ((bitsMsb (trackSector lba u)).drop 288).take 19152 = b := by
    have h1 : bitsMsb (trackSector lba u) = (a ++ bitsMsb (u32be sm1.toNat)) ++
        (b ++ (bitsMsb (u32be sm2.toNat) ++ (d ++ e))) := by rw [hb]; simp only [List.append_assoc]
    have h2 : (a ++ bitsMsb (u32be sm1.toNat)).length = 288 := by simp [ha]
    rw [h1, ← h2, ← hbl]
    exact take_drop_mid _ _ _
  have e2 : ((bitsMsb (trackSector lba u)).drop 19472).take 19152 = d := by
    have h1 : bitsMsb (trackSector lba u) = (a ++ (bitsMsb (u32be sm1.toNat) ++ (b ++ bitsMsb (u32be sm2.toNat)))) ++
        (d ++ e) := by rw [hb]; simp only [List.append_assoc]
    have h2 : (a ++ (bitsMsb (u32be sm1.toNat) ++ (b ++ bitsMsb (u32be sm2.toNat)))).length = 19472 := by simp [ha, hbl]
    rw [h1, ← h2, ← hd]
    exact take_drop_mid _ _ _
  rw [e1, e2, hc, bytesMsb_bitsMsb]

/-- What one pass that carries a sector as written is: both marks are found, and its decode is judged (R495 to R500). -/
theorem readPass_carries (p : ReadPass) (th iter step lba other : Nat) (u : List Byte) (s : State)
    (hp : p.carries (trackSector other u)) (hl : 0 < fld (s.rchReg 0x24) 8 8) (ht : th ≤ 32)
    (hs : ∀ l, s.rch.firstSoft = some l → hardBits l = bitsMsb (trackSector other u)) :
    ∃ w, s.readPass p th iter step lba = (.both, checkDecode lba (some (codeword other u)), w) := by
  obtain ⟨h1, h2⟩ := frontPass_carries p th step other u s hp hl ht hs
  have h3 : judgeMarks (some 256) (some 19440) = .both := by decide
  have h4 : alignOf (some 256) (some 19440) = some (288, 19472) := by decide
  have h5 : shiftOf 0 = 0 := by decide
  simp only [State.readPass, h1, State.decodeSoft, h3, h4, tryDecodes]
  simp only [reduceCtorEq, if_false, Nat.zero_add, List.range_one, List.map_cons, List.map_nil, h5,
    decodeAt_carries _ _ iter u h2]
  generalize checkDecode lba (some (codeword other u)) = c
  cases c <;> exact ⟨_, rfl⟩

/-- The checks of R499 and R500 on the codeword of the sector itself. -/
theorem checkDecode_codeword (lba : Nat) (u : List Byte) : checkDecode lba (some (codeword lba u)) = .good (padTo 4096 u) := by
  have hp : padTo 4104 (codeword lba u) = codeSector lba u := by
    have h1 := slice_left (codeSector lba u) ((parityBlocks (codeSector lba u)).flatMap blockBytes) 0 4104 (by simp)
    have h2 := padTo_eq (codeSector lba u)
    rw [codeSector_length] at h2
    exact h1.trans h2
  have h1 : slice (sectorBytes lba u) 4096 4 = u32be lba := by
    have := slice_append (padTo 4096 u) (u32be lba) (u32be (crc32 (padTo 4096 u ++ u32be lba)).toNat)
    simpa [sectorBytes, List.append_assoc] using this
  have h2 : slice (sectorBytes lba u) 4100 4 = u32be (crc32 (padTo 4096 u ++ u32be lba)).toNat := by
    have := slice_append (padTo 4096 u ++ u32be lba) (u32be (crc32 (padTo 4096 u ++ u32be lba)).toNat) []
    simpa [sectorBytes, List.append_assoc] using this
  have h3 : (sectorBytes lba u).take 4100 = padTo 4096 u ++ u32be lba := by
    rw [sectorBytes]; exact List.take_left' (by simp)
  have h4 : (sectorBytes lba u).take 4096 = padTo 4096 u := by
    simp only [sectorBytes, List.append_assoc]; exact List.take_left' (by simp)
  simp only [checkDecode, hp, codeSector, scramble_scramble, h1, h2, h3, h4, ne_eq, not_true_eq_false, if_false]

/-- The codeword of another sector with the same scrambler seed fails on its tag (R500). -/
theorem checkDecode_otherTag (lba other : Nat) (u : List Byte) (hs : scrSeed other = scrSeed lba)
    (ht : u32be other ≠ u32be lba) : checkDecode lba (some (codeword other u)) = .tag := by
  have hp : padTo 4104 (codeword other u) = codeSector other u := by
    have h1 := slice_left (codeSector other u) ((parityBlocks (codeSector other u)).flatMap blockBytes) 0 4104 (by simp)
    have h2 := padTo_eq (codeSector other u)
    rw [codeSector_length] at h2
    exact h1.trans h2
  have h1 : slice (sectorBytes other u) 4096 4 = u32be other := by
    have := slice_append (padTo 4096 u) (u32be other) (u32be (crc32 (padTo 4096 u ++ u32be other)).toNat)
    simpa [sectorBytes, List.append_assoc] using this
  simp only [checkDecode, hp, codeSector, hs, scramble_scramble, h1, ne_eq, ht, not_false_eq_true, if_true]

/-- A pass that carries the sector as it was written reads its user bytes (R479 to R500). -/
theorem readPass_good (p : ReadPass) (th iter step lba : Nat) (u : List Byte) (s : State)
    (hp : p.carries (trackSector lba u)) (hl : 0 < fld (s.rchReg 0x24) 8 8) (ht : th ≤ 32)
    (hs : ∀ l, s.rch.firstSoft = some l → hardBits l = bitsMsb (trackSector lba u)) :
    ∃ w, s.readPass p th iter step lba = (.both, .good (padTo 4096 u), w) := by
  have := readPass_carries p th iter step lba lba u s hp hl ht hs
  rwa [checkDecode_codeword] at this

/-- A pass that carries the sector written at another LBA of the same scrambler seed fails on its tag (R500). -/
theorem readPass_otherTag (p : ReadPass) (th iter step lba other : Nat) (u : List Byte) (s : State)
    (hp : p.carries (trackSector other u)) (hl : 0 < fld (s.rchReg 0x24) 8 8) (ht : th ≤ 32)
    (hs : ∀ l, s.rch.firstSoft = some l → hardBits l = bitsMsb (trackSector other u))
    (hc : scrSeed other = scrSeed lba) (hd : u32be other ≠ u32be lba) :
    ∃ w, s.readPass p th iter step lba = (.both, .tag, w) := by
  have := readPass_carries p th iter step lba other u s hp hl ht hs
  rwa [checkDecode_otherTag _ _ _ hc hd] at this

theorem findMark_short (mark : Word) (pred w th : Nat) (bits : List RBit) (flags : List Bool) (h : bits.length < 32) :
    findMark mark pred w th bits flags = none := by
  have : ∀ p, decide (p + 32 ≤ bits.length) = false := fun p => decide_eq_false (by omega)
  simp [findMark, this]

/-- A pass that brings less than a mark misses both (R495). -/
theorem readPass_missed (p : ReadPass) (th iter step lba : Nat) (s : State) (h : p.bits.length < 32) :
    ∃ w, s.readPass p th iter step lba = (.missed, .bad, w) := by
  simp only [State.readPass, State.frontPass, findMark_short _ _ _ _ _ _ h]
  exact ⟨_, rfl⟩

end Sys2Proof.Machine
end

