-- ==== Sys2Proof/WellFormed.lean ====
section
/-! DEFINITION. WellFormed.lean: the shapes that the operands of a command must have beside their types. -/
namespace Sys2Proof

/-- A header holds FRAME in 9 bits and TURN in 24 (R552). -/
def StripeHeader.wf (h : StripeHeader) : Bool := decide (h.frame < 512) && decide (h.turn < 2 ^ 24)

/-- A pass brings at most the bits of one sector with its gap (R479). -/
def ReadPass.wf (p : ReadPass) : Bool := decide (p.bits.length ≤ 38912)

/-- A command is one that the controller can meet: lists have the lengths that the spec gives them. -/
def Instr.wf (i : Instr) : Bool :=
  match i with
  | .predictionTick pins => decide (pins.length ≤ 32)
  | .indexEdge _ _ _ _ _ h => h.all StripeHeader.wf
  | .apcSample _ codes => decide (1 ≤ codes.length)
  | .pickRequest _ front back => decide (front.length = 4) && decide (back.length = 4)
  | .sectorReadComplete p => p.wf
  | .relaxedReread p => p.wf
  | .ladderStep p => p.wf
  | .sectorWrite data bits _ => decide (data.length = 4096) && decide (bits ≤ 38656)
  | .sectorRewrite data bits _ => decide (data.length = 4096) && decide (bits ≤ 38656)
  | .servoWindow _ _ h => h.all StripeHeader.wf
  | .cutCompare codes => decide (codes.length = 8)
  | .zopRead _ u => decide (u.length ≤ 1400)
  | .zopWrite _ u => decide (u.length ≤ 1400)
  | .zopReadInit _ u => decide (u.length ≤ 1400)
  | .zopReadSeg _ u => decide (u.length ≤ 1400)
  | .zopWriteInit _ u => decide (u.length ≤ 1400)
  | .zopWriteSeg _ u => decide (u.length ≤ 1400)
  | .zopXferAbort _ u => decide (u.length ≤ 1400)
  | .zopAtomic _ u => decide (u.length ≤ 1400)
  | .zopOpen _ u => decide (u.length ≤ 1400)
  | .zopClose _ u => decide (u.length ≤ 1400)
  | .zopPing _ u => decide (u.length ≤ 1400)
  | .bar2Access _ n wr => decide (1 ≤ n ∧ n ≤ 4096) && wr.all fun l => decide (l.length = n)
  | .hkRound codes dies supplies _ => decide (codes.length = 48) && decide (dies.length = 12) && decide (supplies.length = 4)
  | .pcieLink _ speed width => decide (speed < 8) && decide (width < 16)
  | .registerWrite .. | .latchedLoRead .. | .axisFracRead .. | .tokenRecordRead .. | .sampleLinkPacket ..
  | .lockstepMismatch .. | .pairRejoin .. | .engineFirmwareCycle | .modeRequest .. | .modeTransitionComplete
  | .readyTimeout | .printLingerExpiry | .safeRunoutLimit | .safeSettled | .safeAck .. | .aonPowerApplied
  | .pbShortPress | .pbLongPress | .wakeN | .smbusAddressMatch | .indexMiss .. | .axisCfgWrite .. | .swapArm ..
  | .swapCancel | .entryWrite .. | .entryRead .. | .bankWrite .. | .gainCommit .. | .snapReq .. | .snapshotRead
  | .deviceTimeTick | .ptpSync .. | .syncTimeout | .holdoverLimit | .timeStep .. | .ptpPortFailover | .lineEnd ..
  | .apcSequenceStart .. | .bdWindow .. | .ilkDeassert .. | .rearm .. | .stationDisable .. | .stationEnable ..
  | .readinessLoss .. | .beamCompliance .. | .tableGo .. | .tableCancel .. | .tokenAccept .. | .tokenArm ..
  | .tokenDisarm .. | .tokenRejectPolicy .. | .gateEvaluationComplete | .pgfSnapshot | .tokenCountsRead
  | .screenWrite .. | .screenArm .. | .screenCancel .. | .planeCoded | .bandDecode .. | .creditGrant | .allocComplete
  | .transitArrive .. | .pageoutWriteComplete .. | .shfSnapshot | .booksRead | .dramUncorrectable .. | .shfCredit ..
  | .shfReturn .. | .shfAllocate .. | .shfFree .. | .shfRetire .. | .poolBudgetWrite .. | .movStart ..
  | .movChannelRun | .movChannelDone | .movAbort .. | .nonprintPieceStart .. | .planRunStart .. | .rewriteTimeout
  | .preampFault | .preampManualFrame .. | .preampFrameDone .. | .headSelect .. | .fhCalStart .. | .fhCalZoneStep ..
  | .touchdown .. | .glistClear | .seek .. | .park | .load | .seekProfileDone | .seekTimeout | .loadTimeout
  | .parkLatched | .parkTimeout | .retractFire | .retractComplete | .vcmFault | .spnBridgeFault
  | .writeInhibitCause .. | .shockAssert | .shockHoldExpiry | .supplyLow .. | .supplyRestored .. | .rpmSetWrite ..
  | .spindleStart .. | .spindleHandover .. | .spindleAtSpeed .. | .spindleAttemptFailed .. | .spinupTimeout
  | .spindleSpeedFault .. | .spindleRotorLoss | .spindleCatch .. | .rotorStopped .. | .retractFlagClear
  | .moveAbsolute .. | .moveRelative .. | .velocityPositive .. | .velocityNegative .. | .stop .. | .quickStop ..
  | .home .. | .setPos .. | .axisFaultClear .. | .microstep .. | .servoEvaluation .. | .holdDelayExpiry ..
  | .dinChange .. | .dinDebounced .. | .clearJam | .motSnapshot .. | .microstepTableApply | .pwmPeriod ..
  | .unitStart .. | .unitStop .. | .unitCoast .. | .unitFaultClear .. | .advanceTableApply .. | .zeroCrossing ..
  | .commutation .. | .unitAttemptFailed .. | .catchTimeout .. | .vbusSample .. | .chopperCheck .. | .busUndervoltage
  | .busHardCut | .chopFaultClear | .hardCutClear | .overcurrent .. | .gateSupply | .slotTimer .. | .slotTrigger ..
  | .slotUpdate .. | .relocationDone | .coefApplyArm .. | .coefApplyCancel | .coefApplied | .laneEvacuate ..
  | .laneReturn .. | .laneSelfTest .. | .laneSelfTestDone .. | .slotMove .. | .hvPwmPeriod .. | .hvTripClear ..
  | .hvTableArm | .hvTableCancel | .thConversion .. | .cutClear | .fusTableArm | .fusTableCancel | .cutForce
  | .triggerPulseEnd .. | .sessionIdleTimeout .. | .xferTimeout .. | .store | .storeComplete | .storeVoid
  | .keyWrite .. | .mailboxGo .. | .mailboxResponse | .odRead .. | .odWrite .. | .smbusPing | .result
  | .smbusStretchTimeout .. | .linkChange .. | .pcieReset .. | .d3hotChange .. | .b2BaseWrite .. | .queueEnable ..
  | .queueDisable .. | .sqDoorbell .. | .cqDoorbell .. | .evqDoorbell .. | .descriptorFetch .. | .submitPage ..
  | .pageDataReadDone .. | .cancelPage .. | .read .. | .write .. | .blockCommandDone .. | .readJournal ..
  | .ackJournal .. | .journalSectorWrite | .journalFormat | .domainRequest .. | .domainStepReady | .domainStepTimeout
  | .railEnable | .railQualified .. | .railPgDrop .. | .railPgTimeout .. | .railFallen .. | .railFallTimeout ..
  | .railLost .. | .pmbusTransactionDone .. | .pmbusAlert .. | .offminExpiry .. | .powerLoss .. | .powerLossRailStep
  | .rstIn | .rstoStretchExpiry .. | .thermalShutdown .. | .hkLinApply | .calCommand .. | .calMeasurementDone ..
  | .calInterval .. | .calPendingStart .. | .calPendTimeout .. | .calSwitchoverTimeout .. | .trimFaultClear ..
  | .eventForce .. | .eventStatusClear .. | .errNMinwExpiry | .blockResetDone .. | .chipReset | .glumeEntryCommit ..
  | .glumeLinkRetry .. | .clearProtected .. | .note .. | .bootStepDone .. | .runStep .. | .clearMarks .. | .activate
  | .confirm | .revert | .handoverDone | .pairReloadDone .. | .trialTimeout | .handback .. | .pllLock ..
  | .interlockReassert .. | .completionTimeout .. | .encoderCount .. | .paFltNDeassert | .aonPowerRemoved ..
  | .ptpAnnounce .. | .gateSupplyRestored | .recordDieFault => true

end Sys2Proof
end

