-- ==== Sys2Proof/Tests/Slice0.lean ====
section
/-! SUPPORT. Tests/Slice0.lean: the ill-formed commands that `Instr.wf` refuses; the worked examples of the spec and
published check values; and, for every statement that has hypotheses, concrete states and operands that meet the
hypotheses of each of its clauses (`witness_<Name>`). -/
set_option maxRecDepth 8000
set_option Elab.async false
set_option linter.unusedVariables false
namespace Sys2Proof.Tests
open Sys2Proof Sys2Proof.Machine

/-! ## Well-formedness -/

/-- A header whose FRAME does not fit its 9 bits, and one whose TURN does not fit 24 (R552). -/
def badHeaders : List StripeHeader :=
  [{ p := true, frame := 512, turn := 0 }, { p := true, frame := 0, turn := 2 ^ 24 }]

/-- Every check of `Instr.wf` refuses a term that breaks it. -/
theorem test_wf_refuses :
    (badHeaders.all fun h => !h.wf) = true ∧
    (([.predictionTick (List.replicate 33 0), .indexEdge 0 0 0 false false (badHeaders[0]?), .servoWindow [] true (badHeaders[1]?),
      .apcSample 0 [], .pickRequest 0 [] [], .sectorWrite [] 0 0, .sectorRewrite [] 0 0,
      .cutCompare [], .bar2Access 0 0 none, .bar2Access 0 4097 none, .bar2Access 0 2 (some [some 0]),
      .hkRound [] [] [] 0, .pcieLink true 8 0, .pcieLink true 0 16] : List Instr).all fun i => !i.wf) = true ∧
    (([.zopRead 0, .zopWrite 0, .zopReadInit 0, .zopReadSeg 0, .zopWriteInit 0, .zopWriteSeg 0, .zopXferAbort 0,
      .zopAtomic 0, .zopOpen 0, .zopClose 0, .zopPing 0] : List (List Byte → Instr)).all fun f =>
        !(f (List.replicate 1401 0)).wf) = true := by decide +kernel

/-- A pass with more bits than a sector and its gap have (R479), which the three reads refuse. -/
def badPass : ReadPass := { bits := List.replicate 38913 ⟨0, 0, false, 0⟩, us := 0 }
theorem test_wf_refuses_pass :
    (Instr.sectorReadComplete badPass).wf = false ∧ (Instr.relaxedReread badPass).wf = false ∧
      (Instr.ladderStep badPass).wf = false := by
  simp [Instr.wf, ReadPass.wf, badPass, -List.reduceReplicate]

/-- Two that are well formed. -/
theorem test_wf_admits : (Instr.cutCompare (List.replicate 8 0)).wf = true ∧ (Instr.bar2Access 0 1 (some [some 0])).wf = true := by
  decide

/-! ## Check values -/

/-- CRC-32 of the digits 1 to 9, its published check value. -/
theorem test_crc32 : crc32 [0x31, 0x32, 0x33, 0x34, 0x35, 0x36, 0x37, 0x38, 0x39] = 0xCBF43926 := by decide +kernel

/-- The MAC of test case 2 of RFC 4231: key "Jefe", data "what do ya want for nothing?", first eight bytes. -/
theorem test_hmac :
    (hmac256 [0x4A, 0x65, 0x66, 0x65] ([0x77, 0x68, 0x61, 0x74, 0x20, 0x64, 0x6F, 0x20, 0x79, 0x61, 0x20, 0x77, 0x61, 0x6E,
      0x74, 0x20, 0x66, 0x6F, 0x72, 0x20, 0x6E, 0x6F, 0x74, 0x68, 0x69, 0x6E, 0x67, 0x3F] : List Byte)).take 8 =
      [0x5B, 0xDC, 0xC1, 0x46, 0xBF, 0x60, 0x75, 0x4E] := by decide +kernel

/-! ## Worked examples of the spec -/

/-- The example of 06_husk_codec.md: the reference above, and the block coded against it. -/
def exRef : List Nat := (List.range 256).map fun i => if 4 * (i / 64) + i % 16 / 4 = 10 then 200 else i * 7 % 250 + 3
def exBlock : List Nat := (List.range 256).map fun i =>
  if 4 * (i / 64) + i % 16 / 4 = 5 then nth 0 exRef i - 3
  else if 4 * (i / 64) + i % 16 / 4 = 10 then (if i / 16 % 4 = 0 then 201 else if i / 16 % 4 = 3 then 199 else 200)
  else nth 0 exRef i
def exAbove : List (List Nat) := List.replicate 12 (List.replicate 256 9) ++ [exRef, List.replicate 256 4]
def exLeft : List (List Nat) := List.replicate 12 (List.replicate 256 50)
def exTags : List (List Nat) := List.replicate 16 (List.replicate 16 1)
def exBytes : List Byte := [0x2E, 0, 0, 0, 0x20, 0, 0x40, 0x3D, 0x80, 0xA9, 0x02, 0, 0xF8, 0x07] ++ List.replicate 50 0

/-- The 64 bytes of that example: PREDICT by candidate 1, after the tag layer of 4:1. -/
theorem test_husk_codes :
    bitsBytes 64 (fieldBits 2 2 ++ fieldBits 1 1 ++ (tagLayer (tagCap 1) exTags).1 ++
      (codePredict exBlock exAbove exLeft 439 12 1).getD []) = exBytes := by decide +kernel

/-- They decode to the block. -/
theorem test_husk_decodes :
    decodeBlock? exAbove exLeft 439 12 (bytesBits exBytes) = some { contone := exBlock, tags := exTags } := by decide +kernel

/-- The example of 08_read_channel.md: N_REV, t_sec, and where LBA 1,000,000 stands. -/
def exDisk : State := ((State.reset.setReg 0x500004 0x005F0001).setReg 0x500008 7200).setReg 0x500014 100000
theorem test_disk_numbers : exDisk.nRev = 9895833 ∧ exDisk.tSec = 32768002 ∧ exDisk.lbaAt 1000000 = (0, 3932, 0x28FE70BB) := by
  decide +kernel

/-- The example of 09_servo_spindle.md: pes at windows k and k + 1. -/
theorem test_pes : pesOf 12800 35200 0 = 1092 ∧ pesOf 32000 11200 0 = 3034 := by decide

/-- The example of 10_paper_path.md: the bound holds a, and the next step comes 20,000 ticks later. -/
def exGen : Gen := ⟨0, velU 1600000, accU 3000000, accU 1500000, jerkU 2000000, 0⟩
def exProf : Profile :=
  { v := velU 640000, a := -accU 2000000, dir := 1, xt := 420 * 2 ^ 24, position := true, phase := .decel }
theorem test_decel_held :
    (exProf.eval exGen 0 0).held = true ∧ (exProf.eval exGen 0 0).a = exProf.a ∧ (exProf.eval exGen 0 0).interval = 20000 := by
  decide +kernel

/-- The example of 12_loop_engine.md: slot 3 writes 2,396, with i = 2,336, d = 17 and yh = 1,969. -/
def exSlot : TSlot :=
  { coef := [3, 5, 1, 1, 0, 2 ||| (3 <<< 5) ||| (2 <<< 15), 4095, 0, (27853 <<< 16) ||| (15 <<< 8) ||| 1, 200],
    i := 2300, e1 := -12, u := 2310, yh := 1975, restart := false }
theorem test_loop :
    (fun t : TSlot => (t.u, t.i, t.d, t.yh, t.badRow)) (exSlot.update 2048 1990 0 false 0) = (2396, 2336, 17, 1969, 0) := by
  decide +kernel

/-- The example of 14_object_dictionary.md: the payload of the WRITE of 240 to OD 1001:0B. -/
theorem test_zop_write : zopParse 2 [0x01, 0x10, 0x0B, 0x03, 0xF0, 0, 0, 0] = .write 0x10010B 3 [0xF0, 0, 0, 0] := by decide

/-- The example of 15_host_interface.md: the page of a PAGE queue's entry. -/
def exEntry : List Byte := [0x01, 0x01, 0x07, 0x00, 0x68, 0x1B, 0x60, 0x13, 0x41, 0, 0, 0, 0, 0, 0, 0,
  0x9A, 0x13, 0x02, 0, 0, 0, 0, 0, 0, 0, 0, 0, 0, 0, 0, 0, 0, 0xCD, 0x09, 0x01, 0, 0, 0, 0, 0, 0, 0, 0, 0, 0, 0, 0,
  0, 0, 0, 0x20, 0x01, 0, 0, 0, 0xA1, 0xD2, 0x05, 0, 0, 0, 0, 0]
theorem test_header :
    (fun h : Header => (h.width, h.height, h.planes, h.precoded, h.ratio)) (headerOf exEntry) = (7016, 4960, 1, true, 0) ∧
    (headerOf exEntry).blocks.take 1 = [136090] ∧ (headerOf exEntry).bytes.take 1 = [17419520] := by decide +kernel

/-- The example of 17_calibration.md: 16 + round(-150 / 32). -/
theorem test_tap : 16 + roundDiv (-150) 32 = 11 := by decide

/-! ## States for the witnesses -/

/-- Every domain on, in a mode. -/
def sv (m : Mode) : State := { State.reset with
  pwr := { doms := List.replicate 7 .on }
  sys := { mode := m, target := m, startDue := false } }
def up : State := sv .service
/-- A transition in progress. -/
def going (m t : Mode) : State :=
  { sv m with sys := { (sv m).sys with transit := true, target := t } }
def linkBad : State := { up with sys := { up.sys with linkRepeat := true } }
def aInReset : State := { up with sys := { up.sys with pairA := .inReset, engineOn := .b } }
def aMissed : State := { aInReset with sys := { aInReset.sys with missA := true, pairB := .active }, boot := { aInReset.boot with updState := 0, starting := false } }
/-- Every domain off but AON. -/
def cold (m t : Mode) (tr : Bool) : State :=
  { State.reset with sys := { mode := m, target := t, transit := tr, startDue := false } }
def toStandby : State := { cold .service .standby true with
  pwr := { doms := [.ret, .ret, .off, .off, .off, .off, .off] } }
def printing : State := sv .print
def safeGoing : State := { cold .safe .safe true with
  sys := { (cold .safe .safe true).sys with phase := 2 }, pwr := { doms := [.on, .ret, .off, .off, .off, .off, .off] } }
def readyLate : State := { going .service .ready with pwr := { doms := [.on, .on, .on, .off, .on, .on, .on] } }
def runOut : State := { sv .safe with sys := { (sv .safe).sys with transit := true, phase := 2 }, mot := { State.reset.mot with runout := true } }
def noAon : State := { State.reset with aonOn := false }
/-- Axis 2 LOCKED with a source. -/
def locked : State := up.onCulm (Culm.modAx 2 fun a => { a with st := .locked, cfg := 0x80000001#32, missRow := 0 })
def swapping : State := up.onCulm fun c => { c with swapArmed := true, swapStatus := 1 }
def held : State := up.onCulm fun c => { c with snapHold := true }
def timed (st : TStat) : State := up.onTime fun t => { t with stat := st }
def disciplined : State := up.onTime fun t => { t with stat := .locked, master := some ⟨128, 6, 0x21, 0x4E5D, 128, 1⟩ }
/-- The stored start mode is OFF, and AON has no power. -/
def storedOff : State := { noAon with die := { noAon.die with
  cfg0 := { complete := true, gen := 1, items := [(0x100104, [0])] } } }
def notForce : State := up.setReg 0x800018 0
/-- Axis 0 LOCKED at division 0 of a turn of 8, with a prediction one eighth of a turn on. -/
def onEdge : State := up.onCulm fun c => { c with tick := 1000, axes := modAt c.axes 0 fun a =>
  { a with st := .locked, cfg := 0x82000007#32, theta := 2 ^ 61 + 12345, high := 2 ^ 61, omega := 2 ^ 40, lastAcc := 100,
           lastAny := some (64000 - 12800) } }
def offEdge : State := (onEdge.setReg 0x101004 0x00000010#32).onCulm (Culm.modAx 0 fun a => { a with theta := 2 ^ 62 })
def missing : State := onEdge.onCulm (Culm.modAx 0 fun a => { a with theta := 2 ^ 62 })
def ticking : State := { up with die := { up.die with horizonA := some 90000000000 } }
def holdover : State := timed .holdover
/-- Station 0 present and enabled, scanned by axis 1, with 8 facets; the axis LOCKED. -/
def station (m : Mode) : State :=
  (((((sv m).setReg 0x200000 0x80080178#32).setReg 0x200028 0x84000032#32).setReg 0x200024 0#32).onCulm
    (Culm.modAx 1 fun a => { a with st := .locked, cfg := 0x82000007#32, omega := 2 ^ 40, theta := 5 })).onLs 0 fun t =>
      { t with disable := false, pllLocked := true }
def staOn : State := station .ready
def staOff : State := (station .service).onLs 0 fun t => { t with disable := true, bootDisabled := true }
def staBad0 : State := (((station .service).setReg 0x200000 0x80030178#32)).onLs 0 fun t => { t with disable := true }
def staUp : State := station .service
def lasersOff : State := { up with sys := { up.sys with laserOff := true } }
def lineNow : State := staOn.onLs 0 fun t => { t with lineOn := true }
/-- A committed page of one line on station 0. -/
def lastLine : State := (lineNow.onTok 3 fun t => { t with num := 9, state := .committed, hdr := { width := 16, height := 1, planes := 1 } }).onLs 0
  fun t => { t with pages := [{ slot := 3, turn := 1, div := 0, sweep := some 20 }] }
def apcRun : State := staOn.onLs 0 fun t => { t with apcLeft := [2, 3] }
def tblArmedS : State := staUp.onLs 0 fun t => { t with tblArmed := true }
def screensArmed : State := staUp.onLs 0 fun t => { t with screenApply := 1 }
def ptpOff : State := up.odPut 0x200103 [1] [0]
/-- Token 3, of one plane of one frame. -/
def tokIs (st : TState) : State := (sv .ready).onTok 3 fun t =>
  { t with num := 7, state := st, hdr := { width := 16, height := 16, planes := 1 }, planes := List.replicate 4 { ready := true } }
/-- A format of one head, 1,000 turns, and the spindle at its speed with the heads following. -/
def fmt (s : State) : State := ((s.setReg 0x500004 0x00600002).setReg 0x500014 1000)
def onDisk (s : State) : State :=
  let t := fmt s
  { t with spn := { t.spn with st := .atSpeed, rpmSet := t.fmtRpm }, srv := { t.srv with st := .follow } }
def submitted : State := tokIs .submitted
def accepted : State := fmt ((tokIs .accepted).onShf fun h => { h with budgets := [1, 1, 1, 1, 1, 1, 1, 1] })
def armed : State := tokIs .armed
def gateOf (s : State) (k : Nat) : State := s.onPgf fun g => { g with gate := some ⟨k, false, [], []⟩ }
def gateFails : State := gateOf armed 3
/-- Everything that the gate asks holds, for an ARMED token without a plane. -/
def gateHolds : State :=
  let s := gateOf ((sv .ready).onTok 3 fun t => { t with state := .armed }) 3
  { s with fus := { s.fus with inWindow := true }, thm := { s.thm with printOk := true },
           mot := { s.mot with axes := List.replicate 12 { homed := true, queue := some ⟨0, 0, false⟩ } } }
def coding : State := { ((tokIs .submitted).onTok 3 fun t =>
    { t with planes := List.replicate 4 { input := List.replicate 16 7 } }).onShf fun h =>
      { h with budgets := [1, 1, 1, 1, 1, 1, 1, 1], total := 9, free := 9 } with husk := { coding := [(3, 0)], busy := true } }
def codingRoom : State := coding.setReg 0x40001C 1
/-- The first band of a coded page on station 0, of one block. -/
def banding : State := ((staOn.onTok 3 fun t =>
    { t with state := .committed, hdr := { width := 16, height := 16, planes := 1 },
             planes := List.replicate 4 { coded := List.replicate 128 0, ready := true } }).onShf fun h =>
    { h with frames := [(5, { st := .held, pool := 0, pins := 1, owner := some (3, 0, 0) })] }).onLs 0 fun t =>
      { t with pages := [{ slot := 3, turn := 1, div := 0 }] }
/-- Sixteen frames, half of them FREE, with credits in pools 5 and 6. -/
def sheaf : State := (up.onShf fun h =>
  { h with total := 16, free := 14, budgets := [2, 2, 2, 2, 2, 2, 2, 2],
           pools := List.replicate 8 { issued := 2, out := 1, held := 1 },
           frames := [(0, { st := .held, pool := 5 }), (1, { st := .held, pool := 6 })] }).setReg 0x400024 1
def sheafRoom : State := (up.onShf fun h => { h with budgets := List.replicate 8 1 }).setReg 0x400024 1
def frameAt (x : Frame) : State := (up.onShf fun h => { h with total := 16, frames := [(4, x)], pools := List.replicate 8 { issued := 1, dif := 1 } }).setReg 0x400024 4
def arriving : State := frameAt { st := .toPool, pool := 5 }
def leaving : State := frameAt { st := .toFree, pool := 5 }
def paged : State := { frameAt { st := .dif, pool := 3 } with pwr := { doms := [.on, .on, .on, .on, .off, .on, .on] } }
def pagedOwned : State := { frameAt { st := .dif, pool := 3, owner := some (3, 0, 0) } with pwr := { doms := [.on, .on, .on, .on, .off, .on, .on] } }
def creditDue : State := (submitted.onShf fun h => { h with budgets := List.replicate 8 2, waits := [⟨0, 1, 2, 3, 0⟩] })
def allocDue : State := up.onShf fun h => { h with total := 4, free := 4, allocWait := some 5, pools := List.replicate 8 { issued := 1, out := 1 } }
def moverQ (run : Bool) : State := { up with mov := { up.mov with queue := [2], running := run, pend := 16 } }
def moverReady : State :=
  (((sheaf.setReg 0x480140 0).setReg 0x480148 65536).setReg 0x480150 16).setReg 0x480154 0x05600000
def moverQueued : State := { moverReady with mov := { moverReady.mov with queue := [2] } }
def moverRuns : State := moverQ true

/-- With a frame that the block command of entry 5 of queue 2 holds. -/
def blockFrame (s : State) : State := s.onShf fun h => { h with frames := [(3, { st := .held, pool := 4, block := some 131077 })] }
def readWaits (u : State) : State := let s := blockFrame u
  { s with rch := { s.rch with waiting := [{ kind := .hostRead 2 5, lba := 0, count := 8 }] } }
def readBeyond : State := readWaits up
def readNoDisk : State := readWaits (fmt up)
def readDue : State := readWaits (onDisk up)
def planDue : State := let s := onDisk up
  { s with rch := { s.rch with plans := [{ kind := .plan 3 0, lba := 0, count := 16 }] } }
def planBeyond : State := planDue.onRch fun r => { r with plans := [{ kind := .plan 3 0, lba := 0, count := 10 ^ 9 }] }
/-- A read that waits behind a plan, with and without the credit for it. -/
def readPlan (c : Int) (s : State) : State := s.onRch fun r => { r with credit := c, plans := [{ kind := .plan 3 0, lba := 0, count := 16 }] }
def readCredit : State := readPlan (10 ^ 15) readDue
def readPoor : State := readPlan 0 readDue
def planWaits : State := { planDue with rch := { planDue.rch with cur := some { kind := .hostWrite 2 5, lba := 0, count := 8 } } }

/-- A pass in which no mark is found, and one that brings the bytes of a track without an error. -/
def noMark : ReadPass := { bits := [], us := 10 }
def cleanBits (l : List Byte) : List RBit := (bitsMsb l).map fun b => { x := 0, env := 100, d := b, llr := if b then -1 else 1 }
def cleanPass (l : List Byte) : ReadPass := { bits := cleanBits l, us := 10 }
/-- A host read of LBA 0 that runs, in its first sector. -/
def reading : State := (blockFrame ((onDisk up).setReg 0x500020 ((State.reset.reg 0x500020 &&& 0x00FFFFFF#32) ||| 0x01000000#32))).onRch fun r =>
  { r with cur := some { kind := .hostRead 2 5, lba := 0, count := 8 }, pieceEnd := 8 }
/-- The last sector of that read, of which the medium holds what `cleanPass` brings. -/
def lastRead (x : Recov) : State := reading.onRch fun r =>
  { r with cur := some { kind := .hostRead 2 5, lba := 0, count := 8, done := 7 }, written := trackSector 7 [], recov := x }
def lastFresh : State := lastRead .fresh
def lastRelaxed : State := lastRead .relaxed
def lastLadder : State := lastRead (.ladder 1 1)
def laddering7b : State := reading.onRch fun r => { r with recov := .ladder 7 1, firstSoft := some ((cleanPass (trackSector 0 [])).bits.map (·.llr)) }
def rereading : State := reading.onRch fun r => { r with recov := .relaxed }
def laddering : State := reading.onRch fun r => { r with recov := .ladder 1 1 }
def laddering7 : State := reading.onRch fun r => { r with recov := .ladder 7 1 }
def ladderEnd : State := reading.onRch fun r => { r with recov := .ladder 9 1 }
def writing0 : State := (onDisk up).onRch fun r =>
  { r with cur := some { kind := .hostWrite 2 5, lba := 0, count := 8 }, pieceEnd := 8, heatWrite := true, heatWin := 65535 }
def rewriting : State := writing0.onRch fun r => { r with abandoned := true }
def inhibited : State := rewriting.onSrv fun v => { v with winh := 2#6 }
def writingNow : State := writing0.onRch fun r => { r with writing := true }
def paBusy : State := up.onRch fun r => { r with paCur := some { read := true, addr := 3, data := 0 } }
def fhc0 : FhCal := { head := 0, zones := [2], htr := 20 }
def fhc : FhCal := { fhc0 with begun := true }
def fhAt (c : FhCal) : State := ((onDisk (sv .ready)).onRch fun r => { r with fhCal := some c }).onCalCh 8 fun x =>
  { x with run := some { inst := 0, trig := 0, tap := false } }
def fhUp : State := fhAt fhc
def fhWait : State := fhAt fhc0
def fhDown : State := fhAt { fhc with td := some 21 }
def fhTop : State := fhAt { fhc with htr := 255 }
def diskUp : State := onDisk (sv .ready)
def srvIs (x : SrvSt) (s : State) : State := s.onSrv fun v => { v with st := x }
def spnIs (x : SpnSt) (s : State) : State := s.onSpn fun p => { p with st := x }
def samples : State := srvIs .seek (onDisk up)
def lastMiss : State := (srvIs .seek (onDisk up)).onSrv fun v => { v with invalidRow := 200 }
def lowSupply : State := ((spnIs .ramp up).onSrv fun v => { v with winh := 8#6 })
def following : State := diskUp
def parkedAt : State := srvIs .parked diskUp
def parkedSlow : State := spnIs .accel parkedAt
def seekDone : State := srvIs .seek diskUp
def seekLong : State := seekDone.onSrv fun v => { v with seeking := true, cmdRun := true }
def loadingS : State := srvIs .loading diskUp
def loadingH : State := loadingS.onSrv fun v => { v with headers := 2 }
def parkingS : State := srvIs .parking diskUp
def parkLoaded : State := parkingS.onRet fun r => { r with loaded := true }
def loadedS : State := diskUp.onRet fun r => { r with loaded := true }
def retracting : State := parkLoaded.onRet fun r => { r with running := true }
def stopped0 : State := fmt (sv .ready)
def setSpeed (s : State) : State := s.onSpn fun p => { p with rpmSet := 7200 }
def sense0 : State := spnIs .sense (fmt up)
def stopped1 : State := setSpeed stopped0
def ramp0 : State := spnIs .ramp (fmt up)
def ramp9 : State := ramp0.onSpn fun p => { p with attempts := 8 }
def accel0 : State := srvIs .parked (setSpeed (spnIs .accel (fmt up)))
def fastParked : State := parkedAt.onSpn fun p => { p with rpm := 7200 }
/-- The heads loaded, with the revolutions of the spindle's axis at its setpoint. -/
def accelLoaded : State := (srvIs .follow (accel0.onCulm fun c => (List.range 24).foldl (fun c k => Culm.modAx k (fun a => { a with st := .locked }) c) c)).onSpn fun p =>
  { p with axisRevs := List.replicate 32 7200000 }
def lostRotor : State := diskUp.onSpn fun p => { p with reached := true }
def catching0 : State := srvIs .parked ((setSpeed (spnIs .coast (fmt up))).onSpn fun p => { p with catchDue := true })
def catching2 : State := catching0.onSpn fun p => { p with catches := 2 }
def slowing : State := (setSpeed (spnIs .stopping (fmt (sv .ready)))).onSpn fun p => { p with freshStart := true }
/-- Motion axis 2, a servo or a stepper, in a state. -/
def axisIs (servo : Bool) (x : MSt) (s : State) : State :=
  (s.setReg 0x601100 (if servo then 0xC0400000 else 0x80400000)).onMx 2 fun m => { m with st := x }
def servoIdle : State := axisIs true .idle up
def stepIdle : State := (axisIs false .idle up).setReg 0x60110C 1000
/-- As `stepIdle`, with an active limit switch in each direction. -/
def limited : State := (stepIdle.setReg 0x601104 0x83828180).onMot fun m => { m with dins := List.replicate 32 { level := true } }
def stepMoving : State := axisIs false .moving up
def queued : State := stepIdle.onMx 2 fun m => { m with queue := some ⟨1, 7, false⟩ }
def cruising : State := stepMoving.onMx 2 fun m => { m with prof := { m.prof with v := velU 160000, vs := velU 1600, vc := velU 160000 } }
def servoOff : State := servoIdle.onMx 2 fun m => { m with prof := { m.prof with x := 401 * 2 ^ 24 } }
def axisFaulted : State := axisIs false .fault up
def homable : State := servoIdle.setReg 0x601104 0x00008000
def debouncing : State := up.setReg 0x603000 0x00001000
def chatters : State := (up.setReg 0x603000 0x00001101).onMot fun m => { m with dins := List.replicate 32 { recent := [0] } }
def jammable : State := ((stepMoving.setReg 0x600008 0x00000004)).onMot fun m => { m with sheets := [{ num := 1, front := 3 }], inPath := 1, fed := 1 }
/-- Drive unit 2 of a type, in a state. -/
def unitIs (w : Word) (x : USt) (s : State) : State := (s.setReg 0x681100 w).onDu 2 fun d => { d with st := x }
def openDuty : State := unitIs 0xC0000010 .run up
def bldc (x : USt) : State := unitIs 0x90000010 x (sv .ready)
def bldcRun : State := (bldc .run).onDu 2 fun d => { d with zcLast := some 100, zcInt := [900, 950], sector := 5 }
def bldcDue : State := (bldc .run).onDu 2 fun d => { d with commAt := some 7000, sector := 5, advArmed := true }
def bldcIdle : State := bldc .idle
def cutIdle : State := bldcIdle.onDrv fun d => { d with hardCut := true }
def bldcFault : State := bldc .fault
def bldcAxis : State := unitIs 0x91000010 .idle (sv .ready)
def bldcRamp : State := (bldc .ramp).onDu 2 fun d => { d with attempts := 3 }
def bldcRamp4 : State := (bldc .ramp).onDu 2 fun d => { d with attempts := 4 }
def bldcCatch : State := (bldc .catching).onDu 2 fun d => { d with catches := 2 }
def bldcCatch3 : State := (bldc .catching).onDu 2 fun d => { d with catches := 3 }
def bldcWait : State := (bldc .coast).onDu 2 fun d => { d with attemptWait := true }
def bldcStopping : State := (bldc .stopping).onDu 2 fun d => { d with stopWanted := true }
def chopping : State := up.onDrv fun d => { d with chopOn := true, chopLow := true }
def highBus : State := up.onDrv fun d => { d with vbus := 30000 }
def running3 : State := { openDuty with drv := { openDuty.drv with vbus := 100 } }
/-- Slot 224 unbound, enabled, with a trigger kind, and limits. -/
def slotIs (trig : Nat) (p : Option Pend) : State := up.onTs 224 fun t =>
  { t with cfg := place 1 31 1 ||| place trig 26 2, coef := [3, 5, 1, 1, 0, 0, 4095, 0, 0, 0], pend := p }
def slotTim : State := slotIs 1 none
def slotPend : State := slotIs 1 (some ⟨5, 1990, 0, false, false⟩)
def slotAnglePend : State := slotIs 2 (some ⟨5, 1990, 0, false, false⟩)
def slotStale : State := slotIs 1 (some ⟨5, 1990, 0, true, false⟩)
def slotRepeat : State := slotPend.onSys fun y => { y with linkRepeat := true }
def slotHeld : State := slotPend.onTs 224 fun t => { t with cfg := t.cfg ||| place 1 30 1 }
def applyArmed : State := up.onTeff fun x => { x with applyStatus := 1, applyArmed := true }
def applyMasked : State := applyArmed.setReg 0x700010 0xFF
def applyBad : State := (applyMasked.setReg 0x701028 0xFFFFFFFF).onTeff fun x => { x with applyStatus := 0, applyArmed := false }
/-- Every slot enabled and unbound on lane 3, none on the others. -/
def lanesFull : State := up.onTeff fun x => { x with slots := x.slots.map fun t => { t with lane := 3, cfg := 0x80000000 } }
def laneFullAlone : State := lanesFull.onTeff fun x => { x with lanes := [{ st := .out }, { st := .out }, { st := .out }, {}] }
def laneOut : State := up.onLane 3 fun _ => { st := .out, tested := true }
def laneTesting : State := up.onLane 3 fun _ => { st := .test }
def relocating : State := up.onTeff fun x => { x with reloc := true }
def hvOn : State := (up.setReg 0x7801C0 0x80020000).setReg 0x7801D4 0x1000
def hvOn1 : State := ((hvOn.setReg 0x7801D0 100)).onHv 3 fun c => { c with overLim := true }
def hvArmed : State := up.onHvB fun h => { h with apply := 1 }
def thOn : State := (up.setReg 0x7C0200 0xC0640F00).onFusB fun f => { f with ths := modAt f.ths 0 fun h => { h with valid := true } }
def cutDue : State := thOn.onCut fun c => { c with lowRow := List.replicate 8 2, set := false }
def mainsOn : State := up.onFusB fun f => { f with mainsOk := true }
def fusArmed : State := up.onFusB fun f => { f with apply := 1 }
def slotNoReloc : State := slotPend.setReg 0x700004 0
def hvCh5On : State := up.setReg 0x780240 0x80000000
/-- Calibration 5 has run before, an hour ago. -/
def calPast : State := (up.onCalRec 5 fun x => { x with outcome := 1, inst := 5 }).setReg 0x8401A4 0x003C0001
def calDue : State := calPast.onTime fun t => { t with now := 60000000000 }
def calDueOn : State := calDue.setReg 0x780240 0x80000000
def calRun5 (made : Nat) (last : List Int) : State :=
  (up.onCalCh 5 fun c => { c with run := some { inst := 5, trig := 0, tap := false, made := made, last := last } }).setReg 0x8401A0 0x03008000
def calRun5a : State := calRun5 0 []
def calRun5b : State := calRun5 1 [100]
def calRun5c : State := calRun5 2 [100]
def calPend5 : State := up.onCalCh 5 fun c => { c with pending := some (5, 2) }
def calPend5On : State := calPend5.setReg 0x780240 0x80000000
def calAcc6 : State := up.onCalCh 6 fun c => { c with run := some { inst := 0, trig := 0, tap := false, accepted := some [3] } }
def cal9Due : State := (((sv .ready).onCulm (Culm.modAx 2 fun a => { a with st := .locked, cfg := 0x80000001#32 })).onCalRec 9 fun x =>
  { x with outcome := 1 }).setReg 0x840224 0x003C0001 |>.onTime fun t => { t with now := 60000000000 }
def calRun3 : State := up.onCalCh 3 fun c => { c with run := some { inst := 0, trig := 0, tap := false, made := 1, last := [4] } }
def calRun6 : State := up.onCalCh 6 fun c => { c with run := some { inst := 0, trig := 0, tap := false, made := 1, last := [4] } }
def grave9 : State := up.setReg (0x881000 + 4 * 9) 0x80
def policy9 : State := up.setReg (0x881000 + 4 * 9) 0x40
def busy9 : State := up.raise 9
def resetting48 : State := up.onEvt fun e => { e with blockResets := [48] }
def resetDue : State := up.onEvt fun e => { e with chipReset := some 9 }
def gi : GItem := ⟨15, false, false, 0, 1, 9, 4, 0, 0, List.replicate 40 7, false, false, false⟩
def resetHeld : State := resetDue.onEvt fun e => { e with queue := [{ gi with kind := 11, react := true }] }
def gQueued : State := up.onEvt fun e => { e with queue := [gi] }
def gRetried : State := up.onEvt fun e => { e with queue := [{ gi with retried := true }] }
def gLink : State := gQueued.onEvt fun e => { e with linkFault := true }
def errStays : State := up.onEvt fun e => { e with errLow := true, errMin := true, errn := 1 }
def domOff : State := up.onPwr fun p => { p with doms := modAt p.doms 6 fun _ => .off }
def pixOff : State := up.onPwr fun p => { p with doms := [.on, .on, .on, .on, .on, .off, .off] }
/-- The sequencer at work on PIX. -/
def stepping (step : Nat) (goal : DState) (w : SeqFor) : State := up.onPwr fun p =>
  { p with doms := [.on, .on, .on, .on, .on, .transit, .off], seq := [.dom .pix goal], seqStep := step, seqFor := w }
def step0 : State := stepping 0 .on .request
def step3 : State := stepping 3 .on .request
def stepOff : State := stepping 1 .off .request
/-- A rail of level 2 in slot 2, going up or down. -/
def railUp (act : Bool) (n : Nat) : State := (up.setReg 0x800140 0x80000020).onPwr fun p =>
  { p with seq := [.up 2], slotActive := act, slots := modAt p.slots 2 fun x => { x with restarts := n, enabled := act } }
def railStart : State := railUp false 0
def railRuns : State := railUp true 0
def railTired : State := railUp true 2
def railBadBus : State := railRuns.onPwr fun p => { p with pmbTries := 2 }
def railDown : State := railRuns.onPwr fun p => { p with seq := [.down 2], slots := modAt p.slots 2 fun x => { x with pg := true } }
def railGood : State := up.onPwr fun p => { p with slots := modAt p.slots 2 fun x => { x with qualified := true, pg := true } }
def pmbTwice : State := up.onPwr fun p => { p with pmbTries := 2 }
def monitored : State := up.setReg 0x800140 0xA0000020
def losingNow : State := up.onPwr fun p => { p with losing := true }
def losingRail : State := railGood.onPwr fun p => { p with losing := true, slots := modAt p.slots 2 fun x => { x with enabled := true } }
def losingSlot : State := losingRail.setReg 0x800140 0x80000020
def rstoHeld : State := ((((State.reset.setReg 0x800300 0).setReg 0x800304 0).setReg 0x800308 0).setReg 0x80030C 0).onPwr fun p =>
  { p with rsto := List.replicate 4 false, rstoStretch := List.replicate 4 false }
def rstoRuns : State := rstoHeld.onPwr fun p => { p with rstoStretch := List.replicate 4 true }
def retryDue : State := State.reset.onPwr fun p => { p with afterOff := some .retry }
def restoredDue : State := (cold .off .off false).onPwr fun p => { p with afterOff := some .restored }
/-- Start-up steps running, by the primary or the alternate method. -/
def bootRuns (n : Nat) (alt : Bool) : State := (cold .standby .service true).onBoot fun b =>
  { b with starting := true, running := stepBit n, byAlt := if alt then stepBit n else 0, startTarget := .service }
def boot1 : State := bootRuns 1 false
def boot2alt : State := bootRuns 2 true
def boot8 : State := bootRuns 8 false
def boot9 : State := bootRuns 9 false
def boot9s : State := (sv .ready).onBoot fun b => { b with serviceStep := 9, cmdStatus := 1 }
def boot15 : State := (sv .ready).onBoot fun b => { b with serviceStep := 15, cmdStatus := 1 }
def staged : State := up.onImg up.spare fun b => { b with state := 1 }
def stagedCk : State := up.onImg up.spare fun b => { b with state := 1, ckpt := 7 }
def stagedReady : State := let s := sv .ready; s.onImg s.spare fun b => { b with state := 1, ckpt := 7 }
def trial : State := (up.onImg up.spare fun b => { b with svn := 3 }).onBoot fun b => { b with trial := true, updState := 3 }
def updating (n : Nat) : State := (up.onBoot fun b => { b with updState := 2, updStep := n, updP1 := .b }).onSys fun y => { y with engineOn := .a, serviceOn := .b, pairA := .active, pairB := .active }
def upd1 : State := updating 1
def upd2 : State := (updating 2).onSys fun y => { y with pairB := .inReset, serviceOn := .a }
def upd3 : State := (updating 3).onSys fun y => { y with pairB := .standby, serviceOn := .a }
def upd4 : State := (updating 4).onSys fun y => { y with pairA := .inReset, engineOn := .b }
def upd5 : State := (updating 5).onSys fun y => { y with pairA := .standby, engineOn := .b }
def handing : State := up.onBoot fun b => { b with handback := some (.engine, .b) }
/-- Queue 3 of a kind, of 16 entries, ACTIVE, with the link up. -/
def hqIs (kind : Nat) (ds : List Desc) (s : State) : State :=
  (s.setReg 0xA010D0 (0x800F0000 ||| place kind 29 2)).onHq fun h =>
    { h with linkUp := true, qs := modAt h.qs 3 fun x => { x with active := true, sqHead := 5, sqTail := 6, inflight := ds } }
/-- A descriptor of 64 bytes: its first 16 bytes, then zeros. -/
def desc (l : List Nat) : Desc := { bytes := (l.map (BitVec.ofNat 8)) ++ List.replicate (64 - l.length) 0, sqHead := 5 }
/-- SUBMIT_PAGE of 16 by 16 pixels, plane 0, coded by the controller: 2 blocks at most. -/
def subD : Desc := desc [1, 0, 9, 0, 16, 0, 16, 0, 1, 0, 0, 0, 0, 0, 0, 0, 1, 0, 0, 0, 0, 0, 0, 0, 0, 0, 0, 0, 0, 0, 0, 0, 0, 1]
def hqQ : State := hqIs 0 [] up
def hqQ1 : State := hqIs 0 [desc [2]] up
def hqStop : State := hqQ.onQp 3 fun x => { x with stopping := true }
def evqOn : State := (up.setReg 0xA01848 0x800F0000).onHq fun h => { h with evqs := modAt h.evqs 2 fun x => { x with active := true } }
def subWait : State := hqIs 0 [subD] (sv .ready)
def subService : State := hqIs 0 [subD] up
def subFull : State := { subWait with pgf := { subWait.pgf with tokens := (List.range 1024).map fun k => (k, { state := .armed }) } }
/-- A station of plane 0 for the page. -/
def subGood : State := (hqIs 0 [subD] (station .ready)).onShf fun h => { h with budgets := [4, 4, 4, 4, 4, 4, 4, 4] }
def reading3 : State := (hqIs 0 [{ subD with phase := 1, token := 3 }] (sv .ready)).onTok 3 fun t =>
  { t with queue := 3, num := 7, state := .submitted, reading := true, hdr := { width := 16, height := 16, planes := 1, bytes := [256, 0, 0, 0] } }
def reading3w : State := reading3.onTok 3 fun t => { t with creditWait := 1 }
def canD : Desc := desc [2, 0, 9, 0, 7]
def canNone : State := hqIs 0 [canD] up
def canFly : State := (hqIs 0 [canD] (sv .print)).onTok 3 fun t => { t with num := 7, state := .committed }
def canWait : State := (hqIs 0 [canD] up).onTok 3 fun t => { t with num := 7, state := .accepted }
def blk (op n : Nat) : Desc := desc [op, 0, 9, 0, n, 0, 0, 0, 2, 0, 0, 0, 0, 0, 0, 0, 0, 0, 0, 0, 0, 0, 0, 0, 0, 0x10, 0, 0, 1]
def rd8 : State := hqIs 1 [blk 0x10 1] (onDisk (sv .ready))
def rd0 : State := hqIs 1 [blk 0x10 0] (onDisk (sv .ready))
def rdService : State := hqIs 1 [blk 0x10 1] up
def rdBeyond : State := hqIs 1 [blk 0x10 1] (sv .ready)
def rdBehind : State := hqIs 1 [{ blk 0x10 1 with phase := 1 }, blk 0x10 1] (onDisk (sv .ready))
def rdDone2 : State := hqIs 1 [{ blk 0x10 1 with phase := 1 }, { blk 0x10 1 with phase := 2, done := 1 }] up
def rdTwo : State := hqIs 1 [blk 0x10 2] (onDisk (sv .ready))
def rdOff : State := { rd8 with pwr := { rd8.pwr with doms := modAt rd8.pwr.doms (Dom.dsk.code - 1) fun _ => .off } }
def rdRuns : State := hqIs 1 [{ blk 0x10 1 with phase := 1 }] up
/-- A frame of the scratch pool, behind BAR2. -/
def b2 : State := up.onShf fun h => { h with total := 16, frames := [(0, { st := .held, pool := 6 })] }
/-- A journal of 4 sectors with three records in its pool. -/
def jrn3 (s : State) : State := s.onJrn fun j => { j with jrnSectors := 4, next := 3, acked := 1, pool := (List.range 3).map fun k => { seq := k, bytes := List.replicate 128 0 } }
def rj (n f len : Nat) : Desc := desc [0x20, 0, 9, 0, n, 0, 0, 0, f, 0, 0, 0, 0, 0, 0, 0, 0, 0, 0, 0, 0, 0, 0, 0, len % 256, len / 256, 0, 0, 1]
def rj0 : State := hqIs 2 [rj 0 0 0] (jrn3 up)
def rjLong : State := hqIs 2 [rj 2 2 256] (jrn3 up)
def rjGood : State := hqIs 2 [rj 2 1 256] (jrn3 up)
def rjShort : State := hqIs 2 [rj 2 1 100] (jrn3 up)
def rjGone : State := rjGood.onJrn fun j => { j with pool := [] }
def rjOld : State := (hqIs 2 [rj 1 0 128] (jrn3 up)).onJrn fun j => { j with next := 200, pool := [] }
def ackD (v : Nat) : Desc := desc [0x21, 0, 9, 0, 0, 0, 0, 0, v]
def ackGood : State := hqIs 2 [ackD 3] (jrn3 up)
def ackBad : State := hqIs 2 [ackD 4] (jrn3 up)
def jrnDue : State := jrn3 (onDisk up)
def jrnNone : State := up
def jrnDueW : State := jrnDue.onRch fun r => { r with heatWrite := true, heatWin := 65535 }
def jrnRec (s : State) : State := s.onJrn fun j => { j with pool := [{ seq := 1, bytes := List.replicate 128 3 }] }
def rjOne : State := hqIs 2 [rj 1 1 128] (jrnRec (jrn3 up))
def jrnOne : State := jrnRec jrnDueW
/-- Session 5 of an administrator, whose last request was number 7. -/
def sess (k : Nat) (s : State) : State := s.onZop fun z => { z with sessions := [{ id := 5, slot := 1, role := 2, key := [1, 2, 3], lastSeq := k, cached := [9] }] }
def inSess : State := sess 7 up
def ssn (k : Nat) : Session := { id := 5, slot := 1, role := 2, key := [1, 2, 3], lastSeq := k, cached := [9] }
def inSessEnd : State := sess 0xFFFFFFFE up
def sessDone : State := sess 8 up
def sessGap : State := sess 5 up
def rated : State := up.onPort 1 fun c => { c with inSecond := 2000 }
/-- A PING without a session. -/
def pingAnon : List Byte := zopMessage false 0x12 .none 0 7 none []
/-- A PING of session 5, SEQ 8, with its MAC under the key [1, 2, 3]. -/
def ping8 : List Byte :=
  [0x5A, 0x4F, 0x01, 0x02, 0x12, 0x00, 0x00, 0x00, 0x05, 0x00, 0x00, 0x00, 0x08, 0x00, 0x00, 0x00,
   0x8C, 0xC9, 0x50, 0x3E, 0x45, 0xD0, 0xD2, 0x93, 0x9F, 0x74, 0x9E, 0xF1, 0xC9, 0x70, 0x72, 0xFF,
   0x17, 0x0C, 0xEF, 0x1C, 0x38, 0x41, 0xC6, 0xF7, 0x70, 0xD2, 0xFE, 0x82, 0xB3, 0x9D, 0x12, 0x1C]
/-- The same with the last SEQ of a session. -/
def pingLast : List Byte :=
  [0x5A, 0x4F, 0x01, 0x02, 0x12, 0x00, 0x00, 0x00, 0x05, 0x00, 0x00, 0x00, 0xFF, 0xFF, 0xFF, 0xFF,
   0xF2, 0x8D, 0x31, 0x11, 0xB6, 0x4F, 0xA5, 0x2C, 0x68, 0x41, 0xB2, 0x9B, 0xE1, 0xFF, 0x9D, 0xB3,
   0xC3, 0x83, 0x94, 0xD7, 0xC1, 0x4D, 0x7B, 0xD3, 0x84, 0x73, 0x7C, 0xE0, 0x82, 0xD9, 0xC0, 0xA0]
/-- OEM object 6000:01, a U16 that may be written in every mode. -/
def oemOf (acc : Byte) (s : State) : State := s.onZop fun z => { z with oem := [0x00, 0x60, 1, 2, acc, 0xFF, 0, 0, 2, 0, 0, 0, 2, 0, 0, 0, 7, 0, 0, 0] }
def oemd (acc : Nat) : OemDecl := { index := 0x6000, sub := 1, ty := 2, acc := acc, mask := 255, res := 0, size := 2, dflt := [7, 0] }
def oemS : State := oemOf 1 up
def xf (w : Bool) (i : Nat) (d : List Byte) (tot : Nat) : Xfer := { id := i, object := 0x600001, write := w, total := tot, data := d, session := 5, frames := [] }
def oemFull : State := oemS.onZop fun z => { z with xfers := [xf false 1 [7, 0] 2, xf false 2 [7, 0] 2, xf false 3 [7, 0] 2, xf true 4 [] 2] }
def oemX : State := oemS.onZop fun z => { z with xfers := [xf false 3 [7, 0] 2, xf true 4 [9] 2] }
def oemX4 : State := oemS.onZop fun z => { z with xfers := [xf true 4 [] 4] }
def keyed (k : Option KeySlot) : State := { up with die := { up.die with keys := [none, k, none, none] } }
def key1 : KeySlot := { key := [4, 5], role := 1 }
def keyIs : State := keyed (some key1)
def key0 : State := keyed (some { key1 with role := 0 })
def sessFull : State := keyIs.onZop fun z => { z with sessions := (List.range 8).map fun i => { ssn 7 with id := i + 1 } }
def xferOn : State := inSess.onZop fun z => { z with xfers := [xf false 3 [7, 0] 2] }
def bankS : CfgBank := { complete := true, gen := 1, items := [(0x100104, [0])] }
def cfgBusy : State := { up with die := { up.die with cfgWriting := some bankS } }
def mbxBusy : State := up.onZop fun z => { z with mbxStatus := 1 }
def mbxPing (st : Nat) (s : State) : State := s.onZop fun z => { z with mbxStatus := st, mbxReqLen := 16, mbxReq := pingAnon.zipIdx.filterMap fun b => if b.1 = 0 then none else some (b.2, b.1), mbxIen := true }
def mbxGood : State := mbxPing 0 up
def mbxServed : State := mbxPing 1 up
def mbxNoPair : State := mbxPing 0 { up with sys := { up.sys with pairA := .inReset, pairB := .inReset } }
def failingDone : State := { going .service .service with sys := { (going .service .service).sys with failing := some 5, leave := 4 } }
def noAonLoaded : State := noAon.onRet fun r => { r with loaded := true }
def noAonRetract : State := noAon.onRet fun r => { r with loaded := true, running := true, flag := true }
/-- An EVENT entry, a CAPTURE entry, an EDGE, a SLOT and a BANK entry that fire in this tick, on axis 0 of station 0. -/
def firing (w1 w3 : Word) (s : State) : State := s.onCulm fun c => { (Culm.modAx 0 (fun a => { a with st := .locked, cfg := 0x82000007#32, omega := 2 ^ 40, theta := 2 ^ 62 - 5, high := 2 ^ 62 - 5 }) c) with bank0 := [(3, { w0 := 0x40000000, w1 := w1, w3 := w3 })] }
def fireEvent : State := firing 0xB8000000 1 up

/-! ## Witnesses -/

/-- A command at the front of the queue, and none. -/
def oneCommand : State := { State.reset with pending := [.motSnapshot false] }
theorem witness_StepRunsTheFrontCommand :
    (oneCommand.pending = Instr.motSnapshot false :: [] ∧ State.reset.pending = []) ∧ ∃ t, step oneCommand = .next t :=
  ⟨⟨rfl, rfl⟩, _, rfl⟩

/-- A command answers a next state, and a state in which the controller has nothing to do by itself. -/
theorem witness_EveryCommandCompletes :
    (∃ t, exec (.motSnapshot false) up = .next t) ∧ up.rstoUpdate.AtRest up.rstoUpdate := by
  refine ⟨⟨_, rfl⟩, ?_⟩
  constructor <;> first | rfl | decide +kernel

/-- The outputs are held at reset, and a step follows. -/
theorem witness_StepsKeepTheOutputsHeld : State.reset.Held ∧ ∃ t, step oneCommand = .next t := by
  refine ⟨⟨?_, ?_⟩, _, rfl⟩ <;> decide +kernel

/-- The books hold at reset, and a step follows. -/
theorem witness_StepsKeepTheBooks_steps :
    (State.reset.mot.fed = State.reset.mot.delivered + State.reset.mot.purged + State.reset.mot.inPath + State.reset.mot.cleared ∧
      State.reset.pgf.balanced = true) ∧ ∃ t, step State.reset = .next t := by
  refine ⟨⟨?_, ?_⟩, _, rfl⟩ <;> decide +kernel

/-- The memory keeps its form at reset, and a step follows; every kind of access that may change the memory answers. -/
theorem witness_StepsKeepTheMemoryForm_steps :
    Memory.wf State.reset.dram = true ∧ (∃ t, step State.reset = .next t) ∧ ∃ t, exec .movChannelDone moverRuns = .next t :=
  ⟨by decide, ⟨_, rfl⟩, _, rfl⟩

/-- A clean pass carries what it brings. -/
theorem cleanPass_carries (l : List Byte) : (cleanPass l).carries l := by
  refine ⟨?_, ⟨100, ?_⟩, ?_⟩
  · simp [cleanPass, cleanBits, Function.comp_def]
  · intro b hb; simp only [cleanPass, cleanBits, List.mem_map] at hb; obtain ⟨x, -, rfl⟩ := hb; rfl
  · intro b hb; simp only [cleanPass, cleanBits, List.mem_map] at hb; obtain ⟨x, -, rfl⟩ := hb; cases x <;> simp

/-- The signs of a clean pass give its bits back. -/
theorem hardBits_cleanPass (l : List Byte) : hardBits ((cleanPass l).bits.map (·.llr)) = bitsMsb l := by
  have : ∀ b : Bool, decide ((if b then (-1 : Int) else 1) < 0) = b := by decide
  simp [hardBits, cleanPass, cleanBits, Function.comp_def, this]

/-- What all reads of `Obligations.SectorsAreReadAndRecovered` ask of the state. -/
abbrev Reads (s : State) : Prop :=
  s.aonOn = true ∧ s.on .dsk = true ∧ s.canRead = true ∧ s.rch.cur = some { kind := .hostRead 2 5, lba := 0, count := 8 } ∧
    s.rch.stopNext = false ∧ 1 < s.rch.pieceEnd

/-- A sector that reads: at the first pass, at the relaxed one, at a step of the ladder, and from the sum of step 7. -/
theorem witness_SectorsAreReadAndRecovered_good :
    (cleanPass (trackSector 0 [])).carries (trackSector 0 []) ∧
    (Reads reading ∧ reading.rch.recov = .fresh ∧ 0 < fld (reading.rchReg 0x24) 8 8 ∧ reading.rch.firstSoft = none ∧
      reading.thNormal ≤ 32 ∧ reading.frameOfBlock (2 * 65536 + 5) = some 3 ∧ Memory.wf reading.dram = true ∧
      ∃ m w, (reading.earn 10).readPass (cleanPass (trackSector 0 [])) reading.thNormal reading.iterNormal 0 0 =
        (m, .good (padTo 4096 []), w)) ∧
    (Reads rereading ∧ rereading.rch.recov = .relaxed ∧ 0 < fld (rereading.rchReg 0x24) 8 8 ∧
      rereading.rch.firstSoft = none ∧ fld (rereading.rchReg 0x20) 8 6 ≤ 32 ∧
      ∃ m w, (rereading.earn 10).readPass (cleanPass (trackSector 0 [])) (fld (rereading.rchReg 0x20) 8 6)
        rereading.iterNormal 0 0 = (m, .good (padTo 4096 []), w)) ∧
    (Reads laddering ∧ laddering.rch.recov = .ladder 1 1 ∧ 0 < fld (laddering.rchReg 0x24) 8 8 ∧
      laddering.rch.firstSoft = none ∧ laddering.thNormal ≤ 32 ∧
      ∃ m w, (laddering.earn 10).readPass (cleanPass (trackSector 0 [])) laddering.thNormal laddering.iterNormal 1 0 =
        (m, .good (padTo 4096 []), w)) ∧
    Reads laddering7b ∧ laddering7b.rch.recov = .ladder 7 1 ∧ 0 < fld (laddering7b.rchReg 0x24) 8 8 ∧
      laddering7b.thNormal ≤ 32 ∧ ∃ l, laddering7b.rch.firstSoft = some l ∧ hardBits l = bitsMsb (trackSector 0 []) := by
  have hc := cleanPass_carries (trackSector 0 [])
  refine ⟨hc, ⟨?_, ?_, ?_, ?_, ?_, ?_, ?_, ?_⟩, ⟨?_, ?_, ?_, ?_, ?_, ?_⟩, ⟨?_, ?_, ?_, ?_, ?_, ?_⟩, ?_, rfl, ?_, ?_,
    _, rfl, hardBits_cleanPass _⟩
  case refine_8 =>
    obtain ⟨w, h⟩ := readPass_good _ reading.thNormal reading.iterNormal 0 0 [] (reading.earn 10) hc (by decide +kernel)
      (by decide +kernel) (fun l hl => by cases hl)
    exact ⟨_, w, h⟩
  case refine_14 =>
    obtain ⟨w, h⟩ := readPass_good _ (fld (rereading.rchReg 0x20) 8 6) rereading.iterNormal 0 0 [] (rereading.earn 10) hc
      (by decide +kernel) (by decide +kernel) (fun l hl => by cases hl)
    exact ⟨_, w, h⟩
  case refine_20 =>
    obtain ⟨w, h⟩ := readPass_good _ laddering.thNormal laddering.iterNormal 1 0 [] (laddering.earn 10) hc
      (by decide +kernel) (by decide +kernel) (fun l hl => by cases hl)
    exact ⟨_, w, h⟩
  all_goals decide +kernel

/-- A first pass that brings the sector of another LBA, whose scrambler seed is the same (R483). -/
theorem witness_SectorsAreReadAndRecovered_tag :
    Reads reading ∧ reading.rch.recov = .fresh ∧ 0 < fld (reading.rchReg 0x24) 8 8 ∧ reading.rch.firstSoft = none ∧
      reading.thNormal ≤ 32 ∧ (cleanPass (trackSector 32767 [])).carries (trackSector 32767 []) ∧
      reading.ladderNext { kind := .hostRead 2 5, lba := 0, count := 8 } 0 0 = some 1 ∧
      ∃ m w, (reading.earn 10).readPass (cleanPass (trackSector 32767 [])) reading.thNormal reading.iterNormal 0 0 =
        (m, .tag, w) := by
  have hc := cleanPass_carries (trackSector 32767 [])
  refine ⟨?_, ?_, ?_, ?_, ?_, hc, ?_, ?_⟩
  case refine_7 =>
    obtain ⟨w, h⟩ := readPass_otherTag _ reading.thNormal reading.iterNormal 0 0 32767 [] (reading.earn 10) hc
      (by decide +kernel) (by decide +kernel) (fun l hl => by cases hl) (by decide +kernel) (by decide +kernel)
    exact ⟨_, w, h⟩
  all_goals decide +kernel

/-- What all the reads of `Obligations.SectorsAreWritten` ask of the state. -/
abbrev ReadsBack (s : State) : Prop :=
  s.aonOn = true ∧ s.on .dsk = true ∧ s.diskReady = true ∧ s.rch.paFault = false ∧ s.rch.paCur = none ∧ s.rch.paDue = [] ∧
    s.rch.cur = some { kind := .hostRead 2 5, lba := 0, count := 8, done := 7 } ∧ (s.lbaAt 7).1 = s.rch.head ∧
    s.frameOfBlock (2 * 65536 + 5) = some 3 ∧ Memory.wf s.dram = true ∧ s.rch.firstSoft = none ∧
    0 < fld (s.rchReg 0x24) 8 8

/-- The last sector of a read, at the first pass, at the relaxed one, and at a step of the ladder. -/
theorem witness_SectorsAreWritten_readBack :
    (cleanPass (trackSector 7 [])).carries (trackSector 7 []) ∧
    (ReadsBack lastFresh ∧ lastFresh.rch.written = trackSector 7 [] ∧ lastFresh.rch.recov = .fresh ∧
      fld (lastFresh.rchReg 0x20) 16 6 ≤ 32) ∧
    (ReadsBack lastRelaxed ∧ lastRelaxed.rch.written = trackSector 7 [] ∧ lastRelaxed.rch.recov = .relaxed ∧
      fld (lastRelaxed.rchReg 0x20) 8 6 ≤ 32) ∧
    ReadsBack lastLadder ∧ lastLadder.rch.written = trackSector 7 [] ∧ lastLadder.rch.recov = .ladder 1 1 ∧
      fld (lastLadder.rchReg 0x20) 16 6 ≤ 32 := by
  refine ⟨cleanPass_carries _, ⟨?_, rfl, rfl, ?_⟩, ⟨?_, rfl, rfl, ?_⟩, ?_, rfl, rfl, ?_⟩ <;> decide +kernel

/-- Checked decodes before the first good one. -/
theorem witness_SectorsAreReadAndRecovered_firstGood : ∀ c ∈ [Checked.tag, .bad], ∀ v, c ≠ .good v := by
  intro c hc v h; subst h; simp at hc

/-- Every slot holds a token that is not free. -/
theorem subFull_freeSlot : subFull.freeSlot = none := by
  have hf : ∀ (l : List Nat) (k : Nat), k ∈ l →
      find? k (l.map fun k => (k, ({ state := .armed } : Token))) = some { state := .armed } := by
    intro l k hk
    induction l with
    | nil => simp at hk
    | cons a t ih =>
      simp only [List.map_cons, find?]
      split
      · rfl
      · next h => exact ih (by simpa [h] using hk)
  refine List.find?_eq_none.2 fun k hk => ?_
  have h : subFull.tok k = { state := .armed } := by
    rw [State.tok, sget, show subFull.pgf.tokens = (List.range 1024).map fun k => (k, ({ state := .armed } : Token)) from rfl,
      hf _ k hk]
    rfl
  rw [h]; decide

/-- A page that finds no free slot. -/
theorem witness_PagesAreSubmitted_full :
    subFull.aonOn = true ∧ subFull.CanPost 3 ∧ subFull.headOp 3 1 = some (0, subD) ∧ subFull.legalIn pageModes = true ∧
      subFull.on .pix = true ∧ subFull.on .mem = true ∧ subFull.freeSlot = none ∧ bufferOk 1 256 [] 0 = true := by
  refine ⟨?_, ?_, ?_, ?_, ?_, ?_, subFull_freeSlot, ?_⟩ <;> decide +kernel


/-- No pair carries the service load, and a dictionary command comes. -/
theorem witness_LinkAndPairsRecover_waits :
    mbxNoPair.aonOn = true ∧ mbxNoPair.served .service = false ∧ Instr.journalFormat ∈ [Instr.activate, .journalFormat] := by
  refine ⟨?_, ?_, ?_⟩ <;> decide +kernel

/-- The hypotheses of `Obligations.StepsKeepTheBooks` are met. -/
theorem witness_StepsKeepTheBooks :
  let g : Pgf := { cntSubmitted := 1, cntWaiting := 1 }; let old : TState := .submitted;
   let new : TState := .accepted; g.balanced = true ∧
   (old, new) ∈ [(TState.free, TState.submitted), (.delivered, .submitted), (.spoiled, .submitted), (.rejected, .submitted), (.submitted, .accepted), (.accepted, .armed), (.armed, .accepted), (.armed, .committed), (.submitted, .rejected), (.accepted, .rejected), (.armed, .rejected), (.committed, .imaged), (.committed, .spoiled), (.imaged, .spoiled), (.imaged, .delivered)] := by decide +kernel

/-- The hypotheses of `Obligations.StepsKeepTheMemoryForm` are met. -/
theorem witness_StepsKeepTheMemoryForm :
  (let d : Nat := 0; let l : List (Nat × Nat) := [(3, 9), (4, 1)]; swf (fun _ => d) l = true) ∧
   (let d : Nat := 0; let k : Nat := 4; let l : List (Nat × Nat) := [(3, 9), (4, 1)];
   swf (fun _ => d) l = true ∧ (let j := 0; j ≠ k)) ∧ (let a : Nat := 0; let b : Nat := 4096;
   let n : Nat := 4096; let s : State := up; s.shf.frames = [] ∧ Memory.wf s.dram = true ∧
   ((a + n ≤ b ∨ b + n ≤ a))) ∧ (let a : Nat := 0; let b : Nat := 2; let n : Nat := 2; let s : State := up;
   s.shf.frames = [] ∧ Memory.wf s.dram = true ∧ ((a + n ≤ b ∨ b + n ≤ a))) := by
  refine ⟨?_, ?_, ?_, ?_⟩ <;> decide +kernel

/-- The hypotheses of `Obligations.RegisterAccessesActOrAreDiscarded` are met. -/
theorem witness_RegisterAccessesActOrAreDiscarded :
  (let off : BitVec 26 := 0x3ffffff#26; let s : State := up; s.aonOn = true ∧
   Block.ofOff (off.toNat / 4 * 4) = none ∧ s.sys.badValid = false) ∧ (let s : State := up; s.aonOn = true ∧
   s.on .eng = true ∧ s.on .pix = true ∧ s.errDriven = false) ∧ (let v : Word := 0x0001C800#32;
   let s : State := up; s.aonOn = true ∧ s.on .pix = true ∧ s.mayWrite .setp = true ∧ fld v 8 8 ≤ 200 ∧
   1 ≤ fld v 16 8) ∧ (let v : Word := 0x00000000#32; let s : State := up; s.aonOn = true ∧ s.on .pix = true ∧
   ((200 < fld v 8 8 ∨ fld v 16 8 = 0))) ∧ (let k : Fin 24 := 0;
   let b : EvBank := (⟨0, 8, 0x0000C0, .aon⟩ : EvBank); let s : State := up; s.aonOn = true ∧
   evBanks[k.val]? = some b ∧ s.badReason b.stat 0xF#4 true = 0) := by
  refine ⟨?_, ?_, ?_, ?_, ?_⟩ <;> decide +kernel

/-- The hypotheses of `Obligations.LinkAndPairsRecover` are met. -/
theorem witness_LinkAndPairsRecover :
  (let s : State := up; s.aonOn = true ∧ s.sys.linkRepeat = false ∧ (s.on .mgt = true ∧ s.sys.pairA = .active ∧
   s.sys.pairB = .active ∧ s.sys.engineOn = .a ∧ s.rejoinedLately .a = false ∧ s.boot.handback = none ∧
   s.boot.updState ≠ 2 ∧ s.boot.trial = false) ∧ (s.served .engine = true ∧ s.served .service = true) ∧
   s.boot.trial = false) ∧ (let s : State := slotRepeat; s.aonOn = true ∧ s.sys.linkRepeat = true) ∧
   (let s : State := linkBad; s.aonOn = true ∧ s.sys.linkRepeat = true) ∧ (let s : State := aMissed;
   s.aonOn = true ∧ s.on .mgt = true ∧ s.sys.pairA = .inReset ∧ s.sys.pairB = .active ∧ s.boot.updState ≠ 2 ∧
   s.boot.starting = false ∧ s.sys.missA = true) ∧ (let s : State := aInReset; s.aonOn = true ∧
   s.on .mgt = true ∧ s.sys.pairA = .inReset ∧ s.sys.pairB = .active ∧ s.boot.updState ≠ 2 ∧
   s.boot.starting = false ∧ s.sys.missA = false) ∧ (let i : GItem := gi; let l : List GItem := [];
   let s : State := gQueued; s.aonOn = true ∧ s.evt.queue = i :: l ∧ s.evt.waiting = [] ∧ i.prot = false ∧
   i.react = false ∧ s.evt.linkFault = false) ∧ (let i : GItem := gi; let l : List GItem := [];
   let s : State := gLink; s.aonOn = true ∧ s.evt.queue = i :: l ∧ s.evt.waiting = [] ∧ i.prot = false ∧
   i.react = false ∧ s.evt.linkFault = true) ∧ (let s : State := trial; s.aonOn = true ∧ s.boot.trial = true) ∧
   (let s : State := upd1; s.aonOn = true ∧ s.on .mgt = true ∧ s.boot.updState = 2 ∧ s.boot.cold = false ∧
   s.boot.updP1 = .b ∧ s.boot.updStep = 1) ∧ (let s : State := upd2; s.aonOn = true ∧ s.on .mgt = true ∧
   s.boot.updState = 2 ∧ s.boot.cold = false ∧ s.boot.updP1 = .b ∧ s.boot.updStep = 2 ∧ s.sys.pairB = .inReset) := by
  refine ⟨?_, ?_, ?_, ?_, ?_, ?_, ?_, ?_, ?_, ?_⟩ <;> decide +kernel

/-- The hypotheses of `Obligations.RequestsThatChangeNoMode` are met. -/
theorem witness_RequestsThatChangeNoMode :
  (let s : State := up; s.aonOn = true ∧ s.anyPair = true ∧ s.sys.transit = false ∧ s.sys.mode = .service) ∧
   (let v : BitVec 8 := 0x06#8; let s : State := up; s.aonOn = true ∧ (s.served .service = true ∧
   s.mayWrite .mgmt = true ∧ 5 < v.toNat) ∧ (s.anyPair = true ∧ 6 ≤ v.toNat ∧ v.toNat < 8 ∧
   (s.served .service = true ∧ s.mayWrite .mgmt = true))) ∧ (let v : BitVec 8 := 0x06#8;
   let s : State := sv .standby; s.aonOn = true ∧ s.anyPair = true ∧ 6 ≤ v.toNat ∧ s.served .service = true ∧
   s.mayWrite .mgmt = false) := by
  refine ⟨?_, ?_, ?_⟩ <;> decide +kernel

/-- The hypotheses of `Obligations.TransitionsStartAndEnd` are met. -/
theorem witness_TransitionsStartAndEnd :
  (let s : State := up; s.aonOn = true ∧ (s.anyPair = true ∧ s.sys.transit = false ∧ s.sys.mode = .service) ∧
   (s.mayWrite .mgmt = true ∧ s.served .service = true)) ∧ (let s : State := toStandby; s.aonOn = true ∧
   s.sys.transit = true ∧ s.sys.target = .standby ∧ s.seqIdle = true ∧ s.rowMet .standby = true ∧
   s.pwr.wakePend = false) ∧ (let s : State := printing; s.aonOn = true ∧ s.sys.mode = .print ∧ s.flying = [] ∧
   s.pgf.gate = none ∧ s.sys.drain = false) ∧ (let s : State := safeGoing; s.aonOn = true ∧ s.sys.mode = .safe ∧
   s.sys.target = .safe ∧ s.sys.transit = true ∧ s.seqIdle = true ∧ s.rowMet .safe = true ∧
   s.mot.runout = false) ∧ (let s : State := readyLate; s.aonOn = true ∧ s.sys.transit = true ∧
   s.sys.target = .ready ∧ s.sys.mode = .service ∧ s.boot.running = 0 ∧ s.readyLacks ≠ 0) ∧ (let n : Nat := 5;
   let s : State := failingDone; s.aonOn = true ∧ s.sys.transit = true ∧ s.sys.target = .service ∧
   s.sys.failing = some n ∧ s.seqIdle = true ∧ s.rowMet .service = true ∧ s.leftReady = true ∧
   s.boot.starting = false) ∧ (let s : State := runOut; s.aonOn = true ∧ s.sys.mode = .safe ∧ s.sys.phase = 2 ∧
   s.on .eng = true ∧ s.mot.runout = true) ∧ (let n : Fin 16 := 15; let s : State := up; s.aonOn = true ∧
   s.boot.serviceStep = 0 ∧ s.boot.running.getLsbD n = false) ∧ (let n : Fin 16 := 1; let ok : Bool := true;
   let s : State := boot1; s.aonOn = true ∧ s.boot.serviceStep = 0 ∧ n ∈ [1, 2, 4, 8] ∧
   s.boot.running.getLsbD n = true ∧ s.boot.byAlt.getLsbD n = false ∧ s.stepEnds n ok = some true) := by
  refine ⟨?_, ?_, ?_, ?_, ?_, ?_, ?_, ?_, ?_⟩ <;> decide +kernel

/-- The hypotheses of `Obligations.PowerAndPinsStartAndWake` are met. -/
theorem witness_PowerAndPinsStartAndWake :
  (let s : State := noAonLoaded; s.aonOn = false ∧ s.ret.loaded = true ∧ s.ret.running = false) ∧
   (let s : State := noAonRetract; s.aonOn = false ∧ s.ret.running = true) ∧ (let s : State := storedOff;
   s.aonOn = false ∧ s.on .eng = false ∧ s.storedStart = .off) ∧ (let s : State := up; s.aonOn = true ∧
   (s.pwr.losing = false ∧ s.sys.transit = false ∧ s.sys.mode = .service) ∧ (bitOf (s.reg 0x800018) 0 = true ∧
   s.pwr.losing = false)) ∧ (let s : State := sv .standby; s.aonOn = true ∧ s.pwr.losing = false ∧
   s.sys.transit = false ∧ s.sys.mode = .standby ∧ s.sys.safeLocked = false) ∧ (let s : State := toStandby;
   s.aonOn = true ∧ s.pwr.losing = false ∧ s.sys.transit = true ∧ s.sys.target = .standby ∧
   s.pwr.wakePend = false ∧ (let c := Instr.wakeN; let n := 2;
   (c, n) ∈ [(Instr.pbShortPress, 3), (.wakeN, 2), (.smbusAddressMatch, 1)])) ∧ (let s : State := notForce;
   s.aonOn = true ∧ bitOf (s.reg 0x800018) 0 = false) ∧ (let k : Fin 16 := 2; let s : State := monitored;
   s.aonOn = true ∧ s.monitor k = true ∧ s.slotLevel k ≠ 0 ∧ s.pwr.losing = false) ∧
   (let s : State := losingSlot; s.aonOn = true ∧ s.pwr.losing = true ∧ (let k := 2; s.lossSlot = some k ∧
   s.shaped = true)) ∧ (let s : State := losingNow; s.aonOn = true ∧ s.pwr.losing = true ∧ s.lossSlot = none ∧
   s.pwr.resetIn = false ∧ s.pwr.chipReset = false) ∧ (let k : Fin 4 := 3; let s : State := rstoRuns;
   s.aonOn = true ∧ s.rstoUpdate = s ∧ nth false s.pwr.rstoStretch k = true) ∧ (let s : State := retryDue;
   s.aonOn = true ∧ s.pwr.afterOff = some .retry) ∧ (let src : Nat := 9; let s : State := resetHeld;
   s.aonOn = true ∧ s.evt.chipReset = some src ∧ s.resetEntryDue src = true) ∧ (let src : Nat := 9;
   let s : State := resetDue; s.aonOn = true ∧ s.evt.chipReset = some src ∧ s.resetEntryDue src = false ∧
   s.pwr.losing = false) := by
  refine ⟨?_, ?_, ?_, ?_, ?_, ?_, ?_, ?_, ?_, ?_, ?_, ?_, ?_, ?_⟩ <;> decide +kernel

/-- The hypotheses of `Obligations.TicksTurnTheAxes` are met. -/
theorem witness_TicksTurnTheAxes :
  (let s : State := up; s.aonOn = true ∧ s.on .eng = true) ∧ (let s : State := fireEvent;
   let f : Firing := ((s.culm.tickOf s.motViews).2.1.headD { axis := 0, step := 0, index := 0, action := 0, arg := 0, late := false, point := 0 });
   s.aonOn = true ∧ s.on .eng = true ∧ (s.culm.tickOf s.motViews).2.1 = [f] ∧ f.action = 6 ∧ f.late = false ∧
   s.busySrc (46 + fld f.arg 0 1) = false) ∧
   (let bank : List (Nat × TEntry) := [(5, { w0 := 0x80000000, w1 := 0xA4000000, w3 := 7 })]; let k : Nat := 0;
   let divs : Nat := 8; let st : AxState := .locked; let theta : Nat := 2 ^ 63 - 2 ^ 40;
   let high : Nat := 2 ^ 63 - 2 ^ 40; let d : Int := 2 ^ 41;
   let f : Firing := { axis := 0, step := 32, index := 5, action := 1, arg := 7, late := false, point := 2 ^ 31 };
   f ∈ firings bank k divs st theta high d false) := by
  refine ⟨?_, ?_, ?_⟩ <;> decide +kernel

/-- The hypotheses of `Obligations.IndexEdgesAndMissesAreJudged` are met. -/
theorem witness_IndexEdgesAndMissesAreJudged :
  (let s : State := up; s.aonOn = true ∧ s.on .eng = true) ∧ (let k : Fin 24 := 0; let step : Fin 64 := 0;
   let width : Nat := 1000; let s : State := onEdge; s.aonOn = true ∧ s.on .eng = true ∧
   (s.culm.ax k).st = .locked ∧ (((s.culm.ax k).source = 1 ∨ (s.culm.ax k).source = 2)) ∧
   (s.culm.ax k).commit = false ∧
   ((∀ x, (s.culm.ax k).lastAny = some x → x + 12800 ≤ s.culm.tick * 64 + step)) ∧
   64 * fld (s.axFilt k) 24 8 ≤ width ∧ 1024 ≤ 10 * width ∧ (let a := s.culm.ax k;
   let e := a.phaseError step false; e.natAbs ≤ a.act.win.toNat * 2 ^ 32)) ∧ (let k : Fin 24 := 0;
   let step : Fin 64 := 0; let width : Nat := 1000; let s : State := offEdge; s.aonOn = true ∧
   s.on .eng = true ∧ (s.culm.ax k).st = .locked ∧ (((s.culm.ax k).source = 1 ∨ (s.culm.ax k).source = 2)) ∧
   (s.culm.ax k).commit = false ∧
   ((∀ x, (s.culm.ax k).lastAny = some x → x + 12800 ≤ s.culm.tick * 64 + step)) ∧
   64 * fld (s.axFilt k) 24 8 ≤ width ∧ 1024 ≤ 10 * width ∧ (let a := s.culm.ax k;
   let e := a.phaseError step false; a.act.win.toNat * 2 ^ 32 < e.natAbs ∧ a.rejRow < fld (s.axFilt k) 4 4)) ∧
   (let k : Fin 24 := 0; let s : State := missing; s.aonOn = true ∧ s.on .eng = true ∧
   (s.culm.ax k).source ≠ 7 ∧ (s.culm.ax k).st = .locked ∧ (s.culm.ax k).missed = true ∧ (let a := s.culm.ax k;
   a.missRow < fld (s.axFilt k) 8 4)) ∧ (let k : Fin 24 := 0; let s : State := offEdge; s.aonOn = true ∧
   s.on .eng = true ∧ (s.culm.ax k).source ≠ 7 ∧ (s.culm.ax k).st = .locked ∧ (s.culm.ax k).missed = true ∧
   (let a := s.culm.ax k; fld (s.axFilt k) 8 4 ≤ a.missRow)) := by
  refine ⟨?_, ?_, ?_, ?_, ?_⟩ <;> decide +kernel

/-- The hypotheses of `Obligations.AxisConfigurationIsApplied` are met. -/
theorem witness_AxisConfigurationIsApplied :
  (let k : Fin 24 := 23; let v : Word := 0x80000000#32; let s : State := up; s.aonOn = true ∧ s.on .eng = true ∧
   s.mayWrite .fixed = true ∧ s.axisWriteBad k 0 v = false ∧ (s.culm.ax k).en = false ∧
   (s.culm.ax k).st = .off ∧ bitOf v 31 = true ∧ s.shaped = true) ∧ (let k : Fin 24 := 23;
   let v : Word := 0xffffffff#32; let s : State := up; s.aonOn = true ∧ s.on .eng = true ∧
   s.mayWrite .fixed = true ∧ s.axisWriteBad k 0 v = true) ∧ (let k : Fin 24 := 23; let s : State := up;
   s.aonOn = true ∧ s.on .eng = true ∧ s.mayWrite .shadow = true ∧ (s.culm.ax k).st ≠ .locked) ∧
   (let k : Fin 24 := 23; let s : State := accelLoaded; s.aonOn = true ∧ s.on .eng = true ∧
   s.mayWrite .shadow = true ∧ (s.culm.ax k).st = .locked) := by
  refine ⟨?_, ?_, ?_, ?_⟩ <;> decide +kernel

/-- The hypotheses of `Obligations.BanksAreWrittenAndSwapped` are met. -/
theorem witness_BanksAreWrittenAndSwapped :
  (let s : State := locked; s.aonOn = true ∧ s.on .eng = true ∧ s.mayWrite .shadow = true ∧
   (let x : BitVec 5 := 0x02#5; x.toNat < 24 ∧ s.culm.swapArmed = false ∧ (s.culm.ax x.toNat).st = .locked)) ∧
   (let s : State := up; s.aonOn = true ∧ s.on .eng = true ∧ s.mayWrite .shadow = true ∧
   (let x : BitVec 5 := 0x00#5; x.toNat < 24 ∧ s.culm.swapArmed = false ∧ (s.culm.ax x.toNat).st ≠ .locked) ∧
   (let bs : List Byte := [1]; bs.length % 16 ≠ 0 ∧ s.served .service = true)) ∧ (let s : State := swapping;
   s.aonOn = true ∧ s.on .eng = true ∧ s.mayWrite .shadow = true ∧ s.culm.swapArmed = true) ∧
   (let b : Fin 2 := 1; let s : State := up; s.aonOn = true ∧ s.on .eng = true ∧ s.mayWrite .shadow = true ∧
   (let w0 : Word := 0x00000000#32; let w1 : Word := 0x00000000#32; let w2 : Word := 0x00000000#32;
   let w3 : Word := 0x00000000#32; s.culm.entryBad { w0 := w0, w1 := w1, w2 := w2, w3 := w3 } = false ∧
   s.culm.active ≠ b ∧ s.culm.swapArmed = false) ∧
   (let bs : List Byte := [0, 0, 0, 0, 0, 0, 0, 0, 0, 0, 0, 0, 0, 0, 0, 0]; bs.length = 16 ∧
   s.culm.entryBad (entryAt bs 0) = false ∧ s.culm.active ≠ b ∧ s.culm.swapArmed = false ∧
   s.served .service = true)) ∧ (let b : Fin 2 := 0; let s : State := up; s.aonOn = true ∧ s.on .eng = true ∧
   s.mayWrite .shadow = true ∧ (let w0 : Word := 0; let w1 : Word := 0; let w2 : Word := 0; let w3 : Word := 0;
   s.culm.entryBad { w0 := w0, w1 := w1, w2 := w2, w3 := w3 } = false ∧ s.culm.active = b)) := by
  refine ⟨?_, ?_, ?_, ?_, ?_⟩ <;> decide +kernel

/-- The hypotheses of `Obligations.SnapshotsAreTaken` are met. -/
theorem witness_SnapshotsAreTaken :
  (let s : State := up; s.aonOn = true ∧ s.on .eng = true ∧ (s.on .pix = true ∧ s.served .service = true) ∧
   (s.on .mem = true ∧ s.served .service = true)) ∧ (let s : State := held; s.aonOn = true ∧ s.on .eng = true ∧
   s.served .service = true ∧ s.culm.snapHold = true) := by
  refine ⟨?_, ?_⟩ <;> decide +kernel

/-- The hypotheses of `Obligations.DeviceTimeRuns` are met. -/
theorem witness_DeviceTimeRuns :
  (let s : State := ticking; s.aonOn = true ∧ s.time.rate = 0#32 ∧ s.time.slew = 0 ∧ s.time.frac < 2 ^ 32 ∧
   horizonDue (s.time.now + 40#64) s.die.horizon = none) ∧ (let o : Int := 0; let s : State := disciplined;
   s.aonOn = true ∧ s.ptpOn = true ∧ s.time.master.isSome = true ∧ s.served .service = true ∧ s.time.port = 0 ∧
   s.ptp 0x0B 4 0 = 0 ∧ s.ptp 9 4 1000000 = 1000000 ∧ o.natAbs ≤ 1000000) ∧ (let s : State := disciplined;
   s.aonOn = true ∧ s.time.stat = .locked) ∧ (let s : State := holdover; s.aonOn = true ∧
   s.time.stat = .holdover) ∧ (let hi : Word := 1#32; let s : State := ptpOff; s.aonOn = true ∧
   s.mayWrite .mgmt = true ∧ s.ptpOn = false ∧ hi ≠ 0#32) ∧ (let s : State := up; s.aonOn = true ∧
   s.on .mgt = true) ∧ (let d : BitVec 8 := 0x00#8; let s : State := up; s.aonOn = true ∧ s.ptpOn = true ∧
   s.served .service = true ∧ d.toNat = s.ptp 4 1 0 ∧ s.ptp 0x0D 1 0 = 0 ∧ s.time.master = none) := by
  refine ⟨?_, ?_, ?_, ?_, ?_, ?_, ?_⟩ <;> decide +kernel

/-- The hypotheses of `Obligations.StationsAreGuarded` are met. -/
theorem witness_StationsAreGuarded :
  (let l : Fin 5 := 0; let s : State := up; l.val < 4 ∧ s.aonOn = true ∧ s.on .ana = true ∧ s.on .img = true ∧
   (s.st l).pages = []) ∧ (let l : Fin 5 := 0; let s : State := domOff; l.val < 4 ∧ s.aonOn = true ∧
   s.on .ana = true ∧ s.on .img = false) ∧ (let n : Fin 4 := 0; let s : State := staOn; s.aonOn = true ∧
   (s.on .img = true ∧ (s.mayWrite .mgmt = true ∧ (s.sys.laserOff = false ∧ (s.st n).ilkLocal = false ∧
   (s.st n).disable = false) ∧ (s.st n).disable = false) ∧ ((s.st n).pllLocked = true ∧ (s.st n).pages = [])) ∧
   (s.stEnabled n = true ∧ (s.st n).pages = [])) ∧ (let n : Fin 4 := 0; let s : State := staOff;
   s.aonOn = true ∧ s.on .img = true ∧ s.mayWrite .mgmt = true ∧ (s.st n).disable = true ∧
   (s.st n).bootDisabled = true ∧ bitOf (s.lsReg n 0) 31 = true ∧ s.stationFits n = true) ∧ (let n : Fin 4 := 0;
   let s : State := staBad0; s.aonOn = true ∧ s.on .img = true ∧ s.mayWrite .mgmt = true ∧
   (s.st n).disable = true ∧ bitOf (s.lsReg n 0) 31 = true ∧ s.stationFits n = false) ∧ (let n : Fin 4 := 3;
   let s : State := up; s.aonOn = true ∧ s.on .img = true ∧ s.mayWrite .mgmt = true ∧ s.sys.laserOff = false ∧
   (s.st n).ilkLocal = false ∧ (s.st n).disable = true ∧ s.shaped = true) ∧ (let s : State := lasersOff;
   s.aonOn = true ∧ s.on .img = true ∧ s.mayWrite .mgmt = true ∧ s.sys.laserOff = true) ∧ (let s : State := up;
   s.aonOn = true ∧ s.on .img = true ∧ (s.on .eng = true ∧ s.shaped = true ∧ ((∀ k < 12, s.mEn k = false)))) ∧
   (let src : Fin 256 := 48; let s : State := resetting48; s.aonOn = true ∧ 48 ≤ src.val ∧ src.val < 80 ∧
   s.on .img = true ∧ s.evt.blockResets.contains src.val = true ∧ s.shaped = true) := by
  refine ⟨?_, ?_, ?_, ?_, ?_, ?_, ?_, ?_, ?_⟩ <;> decide +kernel

/-- The hypotheses of `Obligations.LinesAndSamples` are met. -/
theorem witness_LinesAndSamples :
  (let n : Fin 4 := 0; let s : State := lineNow; s.aonOn = true ∧ s.on .img = true ∧ (s.st n).lineOn = true ∧
   (s.st n).pages = []) ∧ (let n : Fin 4 := 0;
   let p : SPage := { slot := 3, turn := 1, div := 0, sweep := some 20 }; let rest : List SPage := [];
   let k : Nat := 20; let s : State := lastLine; s.aonOn = true ∧ s.on .img = true ∧ (s.st n).lineOn = true ∧
   (s.st n).pages = p :: rest ∧ p.sweep = some k ∧
   (s.st n).tbl.pageOver (s.nbeam n) k (4 * (s.tok p.slot).hdr.height) = true ∧
   (s.tok p.slot).state = .committed ∧ (s.tok p.slot).spoilMark = false ∧
   ((∀ q ∈ (s.tok p.slot).hdr.list, s.planeStation q = some n.val))) ∧ (let n : Fin 4 := 0; let fits : Nat := 4;
   let s : State := staOn; s.aonOn = true ∧ s.apcRuns n = true ∧ (s.st n).lineOn = false ∧
   ((∀ b ∈ (s.st n).beams, b.gate = false)) ∧ (s.st n).apcLeft = [] ∧ fld (s.lsReg n 0x28) 24 5 ≤ s.nbeam n ∧
   fld (s.lsReg n 0x28) 24 5 ≤ fits) ∧ (let n : Fin 4 := 0; let codes : List (BitVec 12) := [100, 101];
   let b : Nat := 2; let rest : List Nat := [3]; let s : State := apcRun; s.aonOn = true ∧ s.apcRuns n = true ∧
   (s.st n).apcLeft = b :: rest ∧ b < (s.st n).beams.length ∧ codes ≠ []) ∧ (let n : Fin 4 := 0;
   let s : State := staOn; s.aonOn = true ∧ s.stEnabled n = true ∧ (s.culm.ax (s.scanAxis n)).st = .locked) := by
  refine ⟨?_, ?_, ?_, ?_, ?_⟩ <;> decide +kernel

/-- The hypotheses of `Obligations.TablesAndScreens` are met. -/
theorem witness_TablesAndScreens :
  (let n : Fin 4 := 0; let w : Fin 4 := 2; let s : State := staUp; w.val < 3 ∧ s.aonOn = true ∧
   s.on .img = true ∧ s.mayWrite .shadow = true ∧ (s.st n).tblArmed = false ∧
   tablesBad (s.shadowTables n) (fld (s.lsReg n 0) 0 8) (fld (s.lsReg n 0) 16 4) (s.nbeam n) = false ∧
   s.stEnabled n = true) ∧ (let n : Fin 4 := 0; let s : State := tblArmedS; s.aonOn = true ∧ s.on .img = true ∧
   s.mayWrite .shadow = true ∧ (s.st n).tblArmed = true) ∧ (let n : Fin 4 := 0; let s : State := screensArmed;
   s.aonOn = true ∧ s.on .img = true ∧ s.mayWrite .shadow = true ∧ s.served .service = true ∧
   (s.st n).screenApply = 1) ∧ (let n : Fin 4 := 3; let w : Fin 4 := 0; let s : State := up; w.val < 3 ∧
   s.aonOn = true ∧ s.on .img = true ∧ s.mayWrite .shadow = true ∧ (s.st n).tblArmed = false ∧
   tablesBad (s.shadowTables n) (fld (s.lsReg n 0) 0 8) (fld (s.lsReg n 0) 16 4) (s.nbeam n) = false ∧
   s.stEnabled n = false) ∧ (let n : Fin 4 := 3; let s : State := up; s.aonOn = true ∧ s.on .img = true ∧
   s.mayWrite .shadow = true ∧ s.served .service = true ∧ (s.st n).screenApply ≠ 1) ∧ (let n : Fin 4 := 3;
   let a : Byte := 0x00#8; let b : Byte := 0x00#8; let c : Byte := 0x00#8; let s : State := up; s.aonOn = true ∧
   s.on .img = true ∧ s.mayWrite .shadow = true ∧ s.served .service = true ∧ (s.st n).screenApply ≠ 1 ∧
   a.toNat ≤ b.toNat ∧ b.toNat ≤ c.toNat) ∧ (let s : State := up; s.aonOn = true ∧ s.on .img = true ∧
   s.mayWrite .shadow = true ∧ s.served .service = true) := by
  refine ⟨?_, ?_, ?_, ?_, ?_, ?_, ?_⟩ <;> decide +kernel

/-- The hypotheses of `Obligations.TokensMoveToCommitment` are met. -/
theorem witness_TokensMoveToCommitment :
  (let k : Fin 1024 := 3; let s : State := submitted; s.aonOn = true ∧ s.on .pix = true ∧
   s.served .engine = true ∧ s.acceptable k = true ∧ (s.tok k).partner = none) ∧ (let k : Fin 1024 := 3;
   let s : State := gateFails; s.aonOn = true ∧ s.on .pix = true ∧ s.served .engine = true ∧
   s.underGate k = true) ∧ (let k : Fin 1024 := 3; let l : List (Nat × Nat × Nat × Nat) := [(0, 0, 1, 0)];
   let s : State := accepted; s.aonOn = true ∧ s.on .pix = true ∧ s.on .mem = true ∧ s.served .engine = true ∧
   (s.tok k).partner = none ∧ s.planJudge k (planOf l) = .none ∧ (s.tok k).state = .accepted ∧
   s.framesOf k 3 = [] ∧ (s.pool 0).issued + (s.tok k).hdr.spoolFrames ≤ s.budget 0 ∧
   0 < (s.tok k).hdr.spoolFrames) ∧ (let k : Fin 1024 := 3;
   let l : List (Nat × Nat × Nat × Nat) := [(0, 1, 1, 0)]; let s : State := up; s.aonOn = true ∧
   s.on .pix = true ∧ s.on .mem = true ∧ s.served .engine = true ∧ (s.tok k).partner = none ∧
   (let r := ({ plane := 0, first := 1, frames := 1, lba := 0 } : PlanRun); r ∈ planOf l ∧ 0 < r.frames ∧
   (s.tok k).hdr.frames r.plane < r.first + r.frames)) ∧ (let k : Fin 1024 := 1023; let s : State := subFull;
   s.aonOn = true ∧ s.on .pix = true ∧ s.served .engine = true ∧ s.underGate k = false ∧
   ((s.tok k).state = .armed ∧ (s.tok k).partner = none) ∧ ((s.tok k).waits = true ∧
   (s.tok k).partner = none)) ∧ (let s : State := up; s.aonOn = true ∧ s.on .pix = true ∧
   s.served .engine = true ∧ s.pgf.gate = none) ∧ (let s : State := gateFails; s.aonOn = true ∧
   s.on .pix = true ∧ s.served .engine = true ∧ s.pgf.gate.isSome = true) ∧
   (let g : GateEval := ⟨3, false, [], []⟩; let s : State := gateFails; s.aonOn = true ∧ s.on .pix = true ∧
   s.pgf.gate = some g ∧ (s.gateChecks g).all id = false) ∧ (let g : GateEval := ⟨3, false, [], []⟩;
   let s : State := gateHolds; s.aonOn = true ∧ s.on .pix = true ∧ s.pgf.gate = some g ∧
   (s.gateChecks g).all id = true ∧ (s.tok g.slot).partner = none) := by
  refine ⟨?_, ?_, ?_, ?_, ?_, ?_, ?_, ?_, ?_⟩ <;> decide +kernel

/-- The hypotheses of `Obligations.PlanesAreCodedAndBandsDecoded` are met. -/
theorem witness_PlanesAreCodedAndBandsDecoded :
  (let k : Nat := 3; let p : Nat := 0; let e : Nat := 0; let rest : List (Nat × Nat) := [];
   let s : State := codingRoom; s.aonOn = true ∧ s.on .pix = true ∧ s.on .mem = true ∧ s.husk.busy = true ∧
   s.husk.coderWaits = false ∧ s.husk.coding = (k, p) :: rest ∧
   s.findExtents ((s.tok k).hdr.frames p) = some e ∧ (s.pool 3).issued + (s.tok k).hdr.frames p ≤ s.budget 3 ∧
   (nth {} (s.tok k).planes p).input ≠ []) ∧ (let k : Nat := 3; let p : Nat := 0;
   let rest : List (Nat × Nat) := []; let s : State := coding; s.aonOn = true ∧ s.on .pix = true ∧
   s.on .mem = true ∧ s.husk.busy = true ∧ s.husk.coderWaits = false ∧ s.husk.coding = (k, p) :: rest ∧
   s.findExtents ((s.tok k).hdr.frames p) = none ∧ (s.tok k).waits = true ∧ (s.tok k).partner = none) ∧
   (let n : Fin 4 := 0; let p : SPage := { slot := 3, turn := 1, div := 0 }; let rest : List SPage := [];
   let s : State := banding; s.aonOn = true ∧ s.on .pix = true ∧ s.on .img = true ∧ (s.st n).pages = p :: rest ∧
   p.bands = 0 ∧ 0 < (s.tok p.slot).hdr.nb ∧ (s.tok p.slot).spoilMark = false ∧
   (s.tok p.slot).hdr.has (fld (s.lsReg n 0) 26 2) = true ∧ (s.st n).bandStore = [] ∧
   ((∀ i ≤ ((s.tok p.slot).hdr.bb (fld (s.lsReg n 0) 26 2) - 1) / 65536, s.resident p.slot (fld (s.lsReg n 0) 26 2) i = true))) := by
  refine ⟨?_, ?_, ?_⟩ <;> decide +kernel

/-- The hypotheses of `Obligations.FrameCommands` are met. -/
theorem witness_FrameCommands :
  (let p : Fin 8 := 5; let s : State := sheafRoom; s.aonOn = true ∧ s.on .mem = true ∧ s.shf.allocWait = none ∧
   s.shf.allocFrame = none ∧ (p.val = 5 ∨ p.val = 6) ∧ 0 < s.shfArg ∧
   (s.pool p).issued + s.shfArg ≤ s.budget p) ∧ (let p : Fin 8 := 5; let s : State := up; s.aonOn = true ∧
   s.on .mem = true ∧ s.shf.allocWait = none ∧ s.shf.allocFrame = none ∧ (p.val = 5 ∨ p.val = 6) ∧
   s.shfArg ≤ (s.pool p).out) ∧ (let p : Fin 8 := 5; let s : State := sheaf; s.aonOn = true ∧ s.on .mem = true ∧
   s.shf.allocWait = none ∧ s.shf.allocFrame = none ∧ (p.val = 5 ∨ p.val = 6) ∧ (let f := 2;
   0 < (s.pool p).out ∧ s.shf.transit < 8 ∧ s.lowestFree = some f)) ∧ (let p : Fin 8 := 6;
   let s : State := sheaf; s.aonOn = true ∧ s.on .mem = true ∧ s.shf.allocWait = none ∧
   s.shf.allocFrame = none ∧ (p.val = 5 ∨ p.val = 6) ∧ (0 < s.shfArg ∧
   s.budget p < (s.pool p).issued + s.shfArg) ∧ (let x := ({ st := .held, pool := 6 } : Frame);
   s.frame? s.shfArg = some x ∧ x.st = .held ∧ x.pool = p ∧ x.pins = 0 ∧ x.retire = false ∧
   s.movHolds s.shfArg = false ∧ s.shf.transit < 8)) ∧ (let p : Fin 8 := 7; let s : State := up;
   s.aonOn = true ∧ s.on .mem = true ∧ s.shf.allocWait = none ∧ s.shf.allocFrame = none ∧ p.val ≠ 5 ∧ p.val ≠ 6) := by
  refine ⟨?_, ?_, ?_, ?_, ?_⟩ <;> decide +kernel

/-- The hypotheses of `Obligations.FramesMove` are met. -/
theorem witness_FramesMove :
  (let f : Nat := 4; let x : Frame := { st := .toPool, pool := 5 }; let s : State := arriving; s.aonOn = true ∧
   s.on .mem = true ∧ s.frame? f = some x ∧ (x.st = .toPool ∧ x.freeLater = false ∧ s.shf.allocFrame = none) ∧
   (f < s.shf.total ∧ x.retire = false ∧ x.pool ≠ 7)) ∧ (let f : Nat := 4;
   let x : Frame := { st := .toFree, pool := 5 }; let s : State := leaving; s.aonOn = true ∧ s.on .mem = true ∧
   s.frame? f = some x ∧ x.st = .toFree) ∧ (let f : Nat := 4; let x : Frame := { st := .dif, pool := 3 };
   let s : State := paged; s.aonOn = true ∧ s.on .mem = true ∧ s.frame? f = some x ∧ x.st = .dif ∧
   x.retire = false ∧ x.freeLater = false ∧ x.noPage = false ∧ s.movHolds f = false ∧ s.shf.transit < 8 ∧
   ((∀ d ∈ s.rch.cur.toList ++ s.rch.waiting, d.kind ≠ .pageOut f)) ∧ x.pool = 3 ∧ s.shaped = true) ∧
   (let f : Nat := 4; let x : Frame := { st := .dif, pool := 3, owner := some (3, 0, 0) };
   let s : State := pagedOwned; s.aonOn = true ∧ s.on .mem = true ∧ s.frame? f = some x ∧ x.st = .dif ∧
   x.freeLater = false ∧ x.owner.isSome = true) ∧ (let w : CreditWait := ⟨0, 1, 2, 3, 0⟩;
   let s : State := creditDue; s.aonOn = true ∧ s.on .mem = true ∧ s.shf.waits = [w] ∧ w.consumer = 0 ∧
   0 < w.n ∧ (s.pool w.pool).issued + w.n ≤ s.budget w.pool ∧ (s.tok w.ref).state ≠ .free) ∧ (let p : Nat := 5;
   let f : Nat := 0; let s : State := allocDue; s.aonOn = true ∧ s.on .mem = true ∧ s.shf.allocWait = some p ∧
   s.lowestFree = some f ∧ s.shf.transit < 8) ∧ (let p : Fin 8 := 5; let v : Word := 2#32;
   let s : State := sheaf; s.aonOn = true ∧ s.on .mem = true ∧ s.mayWrite .fixed = true ∧
   (s.shf.budgets.set p v.toNat).sum ≤ s.shf.total ∧ (s.pool p).issued ≤ v.toNat ∧ p.val ≠ 2 ∧ p.val ≠ 4) ∧
   (let p : Fin 8 := 4; let v : Word := 15#32; let s : State := up; s.aonOn = true ∧ s.on .mem = true ∧
   s.mayWrite .fixed = true ∧ p.val = 4 ∧ v.toNat < 16) := by
  refine ⟨?_, ?_, ?_, ?_, ?_, ?_, ?_, ?_⟩ <;> decide +kernel

/-- The hypotheses of `Obligations.TheMoverCopies` are met. -/
theorem witness_TheMoverCopies :
  (let k : Fin 16 := 2; let v : Word := 0x85600000#32; let s : State := moverReady; s.aonOn = true ∧
   s.on .mem = true ∧
   (let s1 := (s.onMovCh k fun c => { c with missed := c.missed && !bitOf v 7 }).setReg (0x480114 + 0x20 * k) (v &&& 0x67700000#32);
   s.mov.queue.contains k.val = false ∧ 0 < s.movCount k ∧ s1.movCheck k = none)) ∧ (let k : Fin 16 := 2;
   let s : State := moverQueued; s.aonOn = true ∧ s.on .mem = true ∧ s.mov.queue.contains k.val = true) ∧
   (let k : Fin 16 := 15; let s : State := up; s.aonOn = true ∧ s.on .mem = true ∧
   s.mov.queue.contains k.val = false ∧ s.movCount k = 0) ∧ (let k : Nat := 2; let rest : List Nat := [];
   let s : State := moverQueued; s.aonOn = true ∧ s.on .mem = true ∧ s.mov.queue = k :: rest ∧
   s.mov.running = false ∧ s.movCheck k = none) ∧ (let k : Nat := 2; let rest : List Nat := [];
   let s : State := moverRuns; s.aonOn = true ∧ s.on .mem = true ∧ s.mov.queue = k :: rest ∧
   s.mov.running = true ∧ k ∉ rest ∧ ((∀ f ∈ s.shf.frames, f.2.freeLater = false))) ∧ (let k : Nat := 2;
   let s : State := moverQueued; k < 16 ∧ s.aonOn = true ∧ s.on .mem = true ∧ s.mov.queue = [k] ∧
   s.mov.running = false ∧ ((∀ f ∈ s.shf.frames, f.2.freeLater = false))) := by
  refine ⟨?_, ?_, ?_, ?_, ?_, ?_⟩ <;> decide +kernel

/-- The hypotheses of `Obligations.DiskWorkStarts` are met. -/
theorem witness_DiskWorkStarts :
  (let q : Nat := 2; let c : Nat := 5; let x : DXfer := { kind := .hostRead 2 5, lba := 0, count := 8 };
   let s : State := readBeyond; s.aonOn = true ∧ s.on .dsk = true ∧ s.rch.cur = none ∧
   (s.frameOfBlock (q * 65536 + c)).isSome = true ∧ s.rch.waiting = [x] ∧ s.journalDue = false ∧
   x.kind = .hostRead q c ∧ s.rch.fhCal = none ∧ s.calOn 7 0 = false ∧ x.done = 0 ∧ s.rch.writing = false ∧
   s.capacity < x.lba + x.count) ∧ (let q : Nat := 2; let c : Nat := 5;
   let x : DXfer := { kind := .hostRead 2 5, lba := 0, count := 8 }; let s : State := readNoDisk;
   s.aonOn = true ∧ s.on .dsk = true ∧ s.rch.cur = none ∧ (s.frameOfBlock (q * 65536 + c)).isSome = true ∧
   s.rch.waiting = [x] ∧ s.journalDue = false ∧ x.kind = .hostRead q c ∧ s.rch.fhCal = none ∧
   s.calOn 7 0 = false ∧ x.done = 0 ∧ s.rch.writing = false ∧ x.lba + x.count ≤ s.capacity ∧
   s.diskReady = false) ∧ (let q : Nat := 2; let c : Nat := 5;
   let x : DXfer := { kind := .hostRead 2 5, lba := 0, count := 8 }; let s : State := readDue; s.aonOn = true ∧
   s.on .dsk = true ∧ s.rch.cur = none ∧ (s.frameOfBlock (q * 65536 + c)).isSome = true ∧ s.rch.waiting = [x] ∧
   s.journalDue = false ∧ x.kind = .hostRead q c ∧ s.rch.fhCal = none ∧ s.calOn 7 0 = false ∧ x.done = 0 ∧
   s.rch.writing = false ∧ x.lba + x.count ≤ s.capacity ∧ s.diskReady = true ∧ s.rch.plans = []) ∧
   (let q : Nat := 2; let c : Nat := 5; let x : DXfer := { kind := .hostRead 2 5, lba := 0, count := 8 };
   let s : State := readCredit; s.aonOn = true ∧ s.on .dsk = true ∧ s.rch.cur = none ∧
   (s.frameOfBlock (q * 65536 + c)).isSome = true ∧ s.rch.waiting = [x] ∧ s.journalDue = false ∧
   x.kind = .hostRead q c ∧ s.rch.fhCal = none ∧ s.calOn 7 0 = false ∧ x.done = 0 ∧ s.rch.writing = false ∧
   x.lba + x.count ≤ s.capacity ∧ s.diskReady = true ∧ s.rch.plans ≠ [] ∧
   (let n := min x.count (fld (s.srvReg 0x38) 16 13); s.estimate x n ≤ s.rch.credit)) ∧ (let q : Nat := 2;
   let c : Nat := 5; let x : DXfer := { kind := .hostRead 2 5, lba := 0, count := 8 };
   let s : State := readPoor; s.aonOn = true ∧ s.on .dsk = true ∧ s.rch.cur = none ∧
   (s.frameOfBlock (q * 65536 + c)).isSome = true ∧ s.rch.waiting = [x] ∧ s.journalDue = false ∧
   x.kind = .hostRead q c ∧ s.rch.fhCal = none ∧ s.calOn 7 0 = false ∧ x.done = 0 ∧ s.rch.writing = false ∧
   x.lba + x.count ≤ s.capacity ∧ s.diskReady = true ∧ s.rch.plans ≠ [] ∧
   (let n := min x.count (fld (s.srvReg 0x38) 16 13); s.rch.credit < s.estimate x n)) ∧ (let q : Nat := 2;
   let c : Nat := 5; let x : DXfer := { kind := .hostWrite 2 5, lba := 0, count := 8 };
   let s : State := planWaits; s.aonOn = true ∧ s.on .dsk = true ∧ s.rch.plans ≠ [] ∧ s.rch.cur = some x ∧
   x.kind = .hostWrite q c) ∧ (let x : DXfer := { kind := .plan 3 0, lba := 0, count := 16 };
   let rest : List DXfer := []; let s : State := planDue; s.aonOn = true ∧ s.on .dsk = true ∧ s.rch.cur = none ∧
   s.rch.plans = x :: rest ∧ s.diskReady = true ∧ x.done < x.count ∧ s.rch.writing = false ∧
   x.lba + x.count ≤ s.capacity) ∧ (let x : DXfer := { kind := .plan 3 0, lba := 0, count := 10 ^ 9 };
   let rest : List DXfer := []; let s : State := planBeyond; s.aonOn = true ∧ s.on .dsk = true ∧
   s.rch.cur = none ∧ s.rch.plans = x :: rest ∧ s.diskReady = true ∧ x.done < x.count ∧ s.rch.writing = false ∧
   s.capacity < x.lba + x.count) := by
  refine ⟨?_, ?_, ?_, ?_, ?_, ?_, ?_, ?_⟩ <;> decide +kernel

/-- The hypotheses of `Obligations.SectorsAreReadAndRecovered` are met. -/
theorem witness_SectorsAreReadAndRecovered :
  (let p : ReadPass := noMark; let q : Nat := 2; let c : Nat := 5;
   let x : DXfer := { kind := .hostRead 2 5, lba := 0, count := 8 }; let s : State := reading; s.aonOn = true ∧
   s.on .dsk = true ∧ s.canRead = true ∧ s.rch.cur = some x ∧ x.kind = .hostRead q c ∧ x.cut = false ∧
   s.rch.stopNext = false ∧ x.done + 1 < x.count ∧ x.done + 1 < s.rch.pieceEnd ∧ (s.rch.recov = .fresh ∧
   p.bits.length < 32) ∧ (let lba := x.lba + x.done; let e := s.earn p.us;
   let w := (e.readPass p s.thNormal s.iterNormal 0 lba).2.2; s.rch.recov = .fresh ∧
   e.readPass p s.thNormal s.iterNormal 0 lba = (.missed, .bad, w))) ∧ (let p : ReadPass := noMark;
   let q : Nat := 2; let c : Nat := 5; let x : DXfer := { kind := .hostRead 2 5, lba := 0, count := 8 };
   let s : State := rereading; s.aonOn = true ∧ s.on .dsk = true ∧ s.canRead = true ∧ s.rch.cur = some x ∧
   x.kind = .hostRead q c ∧ x.cut = false ∧ s.rch.stopNext = false ∧ x.done + 1 < x.count ∧
   x.done + 1 < s.rch.pieceEnd ∧ (let first := s.ladderNext x 0 0; let j := 1; s.rch.recov = .relaxed ∧
   p.bits.length < 32 ∧ first = some j)) ∧ (let p : ReadPass := noMark; let q : Nat := 2; let c : Nat := 5;
   let x : DXfer := { kind := .hostRead 2 5, lba := 0, count := 8 }; let s : State := laddering;
   s.aonOn = true ∧ s.on .dsk = true ∧ s.canRead = true ∧ s.rch.cur = some x ∧ x.kind = .hostRead q c ∧
   x.cut = false ∧ s.rch.stopNext = false ∧ x.done + 1 < x.count ∧ x.done + 1 < s.rch.pieceEnd ∧ (let i := 1;
   let ran := 1; let j := 2; s.rch.recov = .ladder i ran ∧ ((i ≠ 7 ∨ s.rch.firstSoft.isSome = true)) ∧
   p.bits.length < 32 ∧ s.ladderNext x i ran = some j) ∧ (let lba := x.lba + x.done; let e := s.earn p.us;
   let i := 1; let ran := 1; let j := 2; let m := (e.readPass p s.thNormal s.iterNormal i lba).1;
   let w := (e.readPass p s.thNormal s.iterNormal i lba).2.2; s.rch.recov = .ladder i ran ∧ i ≠ 2 ∧
   ((i ≠ 7 ∨ s.rch.firstSoft.isSome = true)) ∧ e.readPass p s.thNormal s.iterNormal i lba = (m, .bad, w) ∧
   s.ladderNext x i ran = some j)) ∧ (let p : ReadPass := noMark; let q : Nat := 2; let c : Nat := 5;
   let x : DXfer := { kind := .hostRead 2 5, lba := 0, count := 8 }; let s : State := ladderEnd;
   s.aonOn = true ∧ s.on .dsk = true ∧ s.canRead = true ∧ s.rch.cur = some x ∧ x.kind = .hostRead q c ∧
   x.cut = false ∧ s.rch.stopNext = false ∧ x.done + 1 < x.count ∧ x.done + 1 < s.rch.pieceEnd ∧ (let i := 9;
   let ran := 1; s.rch.recov = .ladder i ran ∧ ((i ≠ 7 ∨ s.rch.firstSoft.isSome = true)) ∧ p.bits.length < 32 ∧
   s.ladderNext x i ran = none ∧ s.die.glist.length < 4096) ∧ (let lba := x.lba + x.done; let e := s.earn p.us;
   let i := 9; let ran := 1; let m := (e.readPass p s.thNormal s.iterNormal i lba).1;
   let w := (e.readPass p s.thNormal s.iterNormal i lba).2.2; s.rch.recov = .ladder i ran ∧ i ≠ 2 ∧
   ((i ≠ 7 ∨ s.rch.firstSoft.isSome = true)) ∧ e.readPass p s.thNormal s.iterNormal i lba = (m, .bad, w) ∧
   s.ladderNext x i ran = none ∧ s.die.glist.length < 4096)) ∧ (let q : Nat := 2; let c : Nat := 5;
   let x : DXfer := { kind := .hostRead 2 5, lba := 0, count := 8 }; let s : State := laddering7;
   s.aonOn = true ∧ s.on .dsk = true ∧ s.canRead = true ∧ s.rch.cur = some x ∧ x.kind = .hostRead q c ∧
   x.cut = false ∧ s.rch.stopNext = false ∧ x.done + 1 < x.count ∧ x.done + 1 < s.rch.pieceEnd ∧ (let ran := 1;
   s.rch.recov = .ladder 7 ran ∧ s.rch.firstSoft = none)) ∧ (let mark : Word := sm1; let pred : Nat := 0;
   let w : Nat := 0; let th : Nat := 32;
   let bits : List RBit := (List.range 32).map fun i => ⟨0, 100, bitOf sm1 (31 - i), 0⟩;
   let flags : List Bool := []; let x : Nat := 0; findMark mark pred w th bits flags = some x) := by
  refine ⟨?_, ?_, ?_, ?_, ?_, ?_⟩ <;> decide +kernel

/-- The hypotheses of `Obligations.SectorsAreWritten` are met. -/
theorem witness_SectorsAreWritten :
  (let bits : Nat := 38655; let q : Nat := 2; let c : Nat := 5;
   let x : DXfer := { kind := .hostWrite 2 5, lba := 0, count := 8 }; let s : State := writing0;
   s.aonOn = true ∧ s.on .dsk = true ∧ s.rch.cur = some x ∧ x.kind = .hostWrite q c ∧ s.canWrite = true ∧
   s.rch.abandoned = false ∧ bits < 38656) ∧ (let bits : Nat := 38655; let q : Nat := 2; let c : Nat := 5;
   let x : DXfer := { kind := .hostWrite 2 5, lba := 0, count := 8 }; let s : State := rewriting;
   s.aonOn = true ∧ s.on .dsk = true ∧ s.rch.cur = some x ∧ x.kind = .hostWrite q c ∧ s.canWrite = true ∧
   s.rch.abandoned = true ∧ bits < 38656) ∧ (let bits : Nat := 38656; let q : Nat := 2; let c : Nat := 5;
   let x : DXfer := { kind := .hostWrite 2 5, lba := 0, count := 8 }; let s : State := writing0;
   s.aonOn = true ∧ s.on .dsk = true ∧ s.rch.cur = some x ∧ x.kind = .hostWrite q c ∧ s.canWrite = true ∧
   s.rch.abandoned = false ∧ 38656 ≤ bits ∧ x.cut = false ∧ s.rch.stopNext = false ∧ x.done + 1 < x.count ∧
   x.done + 1 < s.rch.pieceEnd) ∧ (let q : Nat := 2; let c : Nat := 5;
   let x : DXfer := { kind := .hostWrite 2 5, lba := 0, count := 8 }; let s : State := inhibited;
   s.aonOn = true ∧ s.on .dsk = true ∧ s.rch.cur = some x ∧ x.kind = .hostWrite q c ∧ s.rch.abandoned = true ∧
   s.srv.winh ≠ 0 ∧ s.die.glist.length < 4096) ∧ (let s : State := writingNow; s.aonOn = true ∧
   s.on .dsk = true ∧ s.rch.writing = true ∧ s.rch.rewrites < fld (s.rchReg 0x30) 20 4) ∧ (let s : State := up;
   s.aonOn = true ∧ s.on .dsk = true ∧ s.mayWrite .test = true ∧ s.rch.paCur = none ∧ s.rch.paDue = []) ∧
   (let s : State := paBusy; s.aonOn = true ∧ s.on .dsk = true ∧ s.mayWrite .test = true ∧
   s.rch.paCur.isSome = true) ∧ (let s : State := printing; s.aonOn = true ∧ s.on .dsk = true ∧
   s.mayWrite .test = false) ∧ (let data : BitVec 8 := 0x00#8; let a : Nat := 3; let d : Nat := 0;
   let s : State := paBusy; s.aonOn = true ∧ s.on .dsk = true ∧ s.rch.paDue = [] ∧
   s.rch.paCur = some { read := true, addr := a, data := d }) ∧ (let h : Fin 4 := 0; let s : State := up;
   s.aonOn = true ∧ s.on .dsk = true ∧ h.val < s.heads ∧ s.rch.cur = none) := by
  refine ⟨?_, ?_, ?_, ?_, ?_, ?_, ?_, ?_, ?_, ?_⟩ <;> decide +kernel

/-- The hypotheses of `Obligations.FlyHeightIsCalibrated` are met. -/
theorem witness_FlyHeightIsCalibrated :
  (let v : Nat := 16385; let s : State := up; s.aonOn = true ∧ s.on .dsk = true ∧ s.rch.fhCal = none ∧
   (s.rchReg 0x58).toNat < v) ∧ (let v : Nat := 16385; let z : Nat := 2; let rest : List Nat := [];
   let c : FhCal := fhc; let s : State := fhUp; s.aonOn = true ∧ s.on .dsk = true ∧ s.rch.fhCal = some c ∧
   c.zones = z :: rest ∧ c.begun = true ∧ (s.rchReg 0x58).toNat < v ∧ c.td = none) ∧ (let v : Nat := 16385;
   let z : Nat := 2; let rest : List Nat := []; let c : FhCal := { fhc with td := some 21 };
   let s : State := fhDown; s.aonOn = true ∧ s.on .dsk = true ∧ s.rch.fhCal = some c ∧ c.zones = z :: rest ∧
   (let td := 21; let r := ({ inst := 0, trig := 0, tap := false } : CalRun); c.begun = true ∧
   (s.rchReg 0x58).toNat < v ∧ c.td = some td ∧ rest = [] ∧ c.bad = 0 ∧ (s.calCh 8).run = some r ∧
   r.slots = [] ∧ (s.calCh 8).turn = [] ∧ ((td : Int) - (c.htr : Int)).natAbs ≤ fld (s.rchReg 0x54) 0 4)) ∧
   (let z : Nat := 2; let rest : List Nat := []; let c : FhCal := fhc0; let s : State := fhWait;
   s.aonOn = true ∧ s.on .dsk = true ∧ s.rch.fhCal = some c ∧ c.zones = z :: rest ∧ c.begun = false) ∧
   (let v : Nat := 16384; let z : Nat := 2; let rest : List Nat := []; let c : FhCal := fhc;
   let s : State := fhUp; s.aonOn = true ∧ s.on .dsk = true ∧ s.rch.fhCal = some c ∧ c.zones = z :: rest ∧
   c.begun = true ∧ v ≤ (s.rchReg 0x58).toNat ∧ c.htr ≠ 255) ∧ (let v : Nat := 16384; let z : Nat := 2;
   let rest : List Nat := []; let c : FhCal := { fhc with htr := 255 }; let s : State := fhTop; s.aonOn = true ∧
   s.on .dsk = true ∧ s.rch.fhCal = some c ∧ c.zones = z :: rest ∧
   (let r := ({ inst := 0, trig := 0, tap := false } : CalRun); c.begun = true ∧ v ≤ (s.rchReg 0x58).toNat ∧
   c.htr = 255 ∧ rest = [] ∧ (s.calCh 8).run = some r ∧ r.slots = [] ∧ (s.calCh 8).turn = [])) ∧
   (let h : Fin 4 := 0; let s : State := up; s.aonOn = true ∧ s.on .dsk = true ∧ h.val < s.heads ∧
   s.mayWrite .setp = true ∧ s.sys.mode ≠ .ready) ∧ (let h : Fin 4 := 0; let z : BitVec 8 := 0x01#8;
   let s : State := staOn; s.aonOn = true ∧ s.on .dsk = true ∧ h.val < s.heads ∧ s.mayWrite .setp = true ∧
   s.on .eng = true ∧ s.sys.mode = .ready ∧ s.sys.transit = false ∧ s.diskClaimed = false ∧
   s.calBusy 8 h = false ∧ z ≠ 0#8) ∧ (let s : State := up; s.aonOn = true ∧ s.on .dsk = true ∧
   s.mayWrite .test = true ∧ s.served .service = true) := by
  refine ⟨?_, ?_, ?_, ?_, ?_, ?_, ?_, ?_, ?_⟩ <;> decide +kernel

/-- The hypotheses of `Obligations.ServoWindowsAndWriteSafety` are met. -/
theorem witness_ServoWindowsAndWriteSafety :
  (let slots : List StripeSlot := List.replicate 255 (.quartet true 20 4 12 12); let agc : Bool := true;
   let s : State := readDue; s.aonOn = true ∧ s.on .dsk = true ∧
   (s.srv.st = .seek ∨ s.srv.st = .settle ∨ s.srv.st = .follow) ∧
   (let whole : List (List Nat) := slots.filterMap fun x => match x with | .quartet true a b c d => some [a, b, c, d] | _ => none;
   let burst (i : Nat) : Nat := (whole.map fun l => l.getD i 0).sum % 2 ^ 24;
   let n : Int := (burst 0 : Int) - burst 1; let q : Int := (burst 2 : Int) - burst 3;
   let sum := n.natAbs + q.natAbs; let good := (s.srvQual 0 ≤ whole.length ∧ fld (s.srvReg 0x2C) 16 16 ≤ sum ∧
   agc = true); good ∧ 0 < sum ∧ s.srv.headers = 0)) ∧
   (let slots : List StripeSlot := List.replicate 255 (.quartet true 20 4 12 12); let agc : Bool := false;
   let s : State := readDue; s.aonOn = true ∧ s.on .dsk = true ∧
   (s.srv.st = .seek ∨ s.srv.st = .settle ∨ s.srv.st = .follow) ∧
   (let whole : List (List Nat) := slots.filterMap fun x => match x with | .quartet true a b c d => some [a, b, c, d] | _ => none;
   let burst (i : Nat) : Nat := (whole.map fun l => l.getD i 0).sum % 2 ^ 24;
   let n : Int := (burst 0 : Int) - burst 1; let q : Int := (burst 2 : Int) - burst 3;
   let sum := n.natAbs + q.natAbs; let good := (s.srvQual 0 ≤ whole.length ∧ fld (s.srvReg 0x2C) 16 16 ≤ sum ∧
   agc = true); (¬ good) ∧ s.srv.invalidRow + 1 ≤ s.srvQual 8 ∧ s.srv.idRow ≤ 4)) ∧
   (let slots : List StripeSlot := List.replicate 255 (.quartet true 20 4 12 12); let agc : Bool := false;
   let s : State := lastMiss; s.aonOn = true ∧ s.on .dsk = true ∧
   (s.srv.st = .seek ∨ s.srv.st = .settle ∨ s.srv.st = .follow) ∧
   (let whole : List (List Nat) := slots.filterMap fun x => match x with | .quartet true a b c d => some [a, b, c, d] | _ => none;
   let burst (i : Nat) : Nat := (whole.map fun l => l.getD i 0).sum % 2 ^ 24;
   let n : Int := (burst 0 : Int) - burst 1; let q : Int := (burst 2 : Int) - burst 3;
   let sum := n.natAbs + q.natAbs; let good := (s.srvQual 0 ≤ whole.length ∧ fld (s.srvReg 0x2C) 16 16 ≤ sum ∧
   agc = true); (¬ good) ∧ s.srvQual 8 < s.srv.invalidRow + 1)) ∧ (let s : State := up; s.aonOn = true ∧
   s.on .dsk = true ∧ (let i : Fin 6 := 5; s.causeHolds i = true ∧ s.srv.winh.getLsbD i = false) ∧
   s.srv.winh.getLsbD 1 = false ∧ (let mv := 10799; mv < (s.spnReg 0x20).toNat * 100 ∧
   s.srv.winh.getLsbD 3 = false) ∧ (let mv := 11001; (s.spnReg 0x20).toNat * 100 + 200 < mv)) ∧
   (let s : State := lowSupply; s.aonOn = true ∧ s.on .dsk = true ∧ (let mv := 10799;
   mv < (s.spnReg 0x20).toNat * 100 ∧ s.srv.winh.getLsbD 3 = true ∧ s.spn.st = .ramp ∧
   s.spn.attempts ≤ fld (s.spnReg 8) 21 3)) := by
  refine ⟨?_, ?_, ?_, ?_, ?_⟩ <;> decide +kernel

/-- The hypotheses of `Obligations.ServoStatesGoTheirWay` are met. -/
theorem witness_ServoStatesGoTheirWay :
  (let s : State := fhUp; s.aonOn = true ∧ s.on .dsk = true ∧ (let h : Fin 4 := 0; s.srvLegal = true ∧
   h.val < s.heads ∧ fld (s.srvReg 0x10) 0 24 < s.turns ∧ s.srv.cmdRun = false ∧ s.rch.cur = none ∧
   (s.srv.st = .follow ∨ s.srv.st = .settle)) ∧ (s.srvLegal = true ∧ s.srv.st = .follow)) ∧
   (let s : State := staOn; s.aonOn = true ∧ s.on .dsk = true ∧ (let h : Fin 4 := 3; s.srvLegal = true ∧
   (s.heads ≤ h.val ∨ s.turns ≤ fld (s.srvReg 0x10) 0 24))) ∧ (let s : State := parkedAt; s.aonOn = true ∧
   s.on .dsk = true ∧ s.srvLegal = true ∧ s.srv.st = .parked ∧ s.spn.st = .atSpeed) ∧
   (let s : State := parkedSlow; s.aonOn = true ∧ s.on .dsk = true ∧ s.srvLegal = true ∧ s.srv.st = .parked ∧
   s.spn.st ≠ .atSpeed) ∧ (let s : State := up; s.aonOn = true ∧ s.on .dsk = true ∧ (let i := Instr.park;
   i ∈ [Instr.park, Instr.load, Instr.seek 0] ∧ s.srvLegal = false) ∧ s.ret.loaded = false ∧
   s.mayWrite .test = true) ∧ (let s : State := samples; s.aonOn = true ∧ s.on .dsk = true ∧ s.srv.st = .seek ∧
   s.srv.prof.x = s.srv.prof.xt) ∧ (let s : State := seekLong; s.aonOn = true ∧ s.on .dsk = true ∧
   (s.srv.st = .seek ∨ s.srv.st = .settle) ∧ s.srv.seeking = true ∧ s.srv.cmdRun = true) ∧
   (let s : State := loadingS; s.aonOn = true ∧ s.on .dsk = true ∧ s.srv.st = .loading ∧ s.srv.headers = 0) ∧
   (let s : State := loadingH; s.aonOn = true ∧ s.on .dsk = true ∧ s.srv.st = .loading ∧ s.srv.headers ≠ 0) ∧
   (let s : State := parkingS; s.aonOn = true ∧ s.on .dsk = true ∧ s.srv.st = .parking) ∧
   (let s : State := parkLoaded; s.aonOn = true ∧ s.on .dsk = true ∧ (s.srv.st = .parking ∧
   s.ret.loaded = true ∧ s.ret.running = false) ∧ (s.ret.loaded = true ∧ s.ret.running = false)) ∧
   (let s : State := loadedS; s.aonOn = true ∧ s.on .dsk = true ∧ s.ret.loaded = true ∧ s.ret.running = false ∧
   s.srv.st = .follow ∧ s.spn.st = .atSpeed) ∧ (let s : State := retracting; s.aonOn = true ∧ s.on .dsk = true ∧
   s.ret.running = true ∧ (s.srv.st = .fault ∨ s.srv.st = .parking)) := by
  refine ⟨?_, ?_, ?_, ?_, ?_, ?_, ?_, ?_, ?_, ?_, ?_, ?_, ?_⟩ <;> decide +kernel

/-- The hypotheses of `Obligations.TheSpindleStartsAndFails` are met. -/
theorem witness_TheSpindleStartsAndFails :
  (let s : State := readyLate; s.aonOn = true ∧ s.on .dsk = true ∧ (let v : BitVec 16 := 3600;
   s.mayWrite .setp = true ∧ 3600 ≤ v.toNat ∧ v.toNat ≤ 10000 ∧ s.spn.rpmSet = 0 ∧ s.diskClaimed = false ∧
   s.spindleLive = true ∧ s.spn.st = .stopped)) ∧ (let s : State := up; s.aonOn = true ∧ s.on .dsk = true ∧
   (let v : BitVec 16 := 3599; s.mayWrite .setp = true ∧ 0 < v.toNat ∧ v.toNat < 3600) ∧
   (let revs : List Nat := [];
   (if s.srv.st.loaded then s.spn.axisRevs else revs).length < fld (s.spnReg 0x14) 8 8)) ∧
   (let s : State := fastParked; s.aonOn = true ∧ s.on .dsk = true ∧ (let v : BitVec 16 := 9000#16;
   s.mayWrite .setp = true ∧ 3600 ≤ v.toNat ∧ v.toNat ≤ 10000 ∧ s.spn.rpmSet ≠ 0 ∧ s.spn.rpmSet ≠ v.toNat ∧
   s.diskClaimed = false ∧ s.spn.st = .atSpeed ∧ s.srv.st = .parked ∧
   (s.onSpn fun p => { p with rpmSet := v.toNat }).spnWithin (1000 * s.spn.rpm) = false)) ∧
   (let s : State := sense0; s.aonOn = true ∧ s.on .dsk = true ∧ s.spn.st = .sense) ∧
   (let s : State := stopped1; s.aonOn = true ∧ s.on .dsk = true ∧ s.spn.st = .stopped ∧ s.spn.rpmSet ≠ 0 ∧
   s.spindleLive = true ∧ s.spn.attemptWait = false) ∧ (let s : State := lowSupply; s.aonOn = true ∧
   s.on .dsk = true ∧ (let ms := 1; let rpm := 60 * fld (s.spnReg 0x10) 0 16 * ms / fld (s.spnReg 0xC) 0 4;
   s.spn.st = .ramp ∧ 10 * fld (s.spnReg 8) 0 8 ≤ rpm ∧ rpm < 65536) ∧ (let degrees := 1000;
   (s.spn.st = .ramp ∨ (s.spn.st = .accel ∧ s.spn.reached = false)) ∧ fld (s.spnReg 8) 8 8 < degrees ∧
   s.spn.attempts ≤ fld (s.spnReg 8) 21 3)) ∧ (let s : State := accel0; s.aonOn = true ∧ s.on .dsk = true ∧
   (let revs : List Nat := List.replicate 32 7200000; s.spn.st = .accel ∧ s.spn.rpmSet ≠ 0 ∧
   fld (s.spnReg 0x14) 8 8 ≤ revs.length ∧ ((∀ r ∈ revs.take (fld (s.spnReg 0x14) 8 8), s.spnWithin r = true)) ∧
   s.srv.st = .parked)) ∧ (let s : State := accelLoaded; s.aonOn = true ∧ s.on .dsk = true ∧ s.spn.st = .accel ∧
   s.spn.rpmSet ≠ 0 ∧ fld (s.spnReg 0x14) 8 8 ≤ s.spn.axisRevs.length ∧
   ((∀ r ∈ s.spn.axisRevs.take (fld (s.spnReg 0x14) 8 8), s.spnWithin r = true)) ∧ s.srv.st = .follow ∧
   (s.culm.ax s.spindleAxis).st = .locked) ∧ (let s : State := ramp9; s.aonOn = true ∧ s.on .dsk = true ∧
   s.spn.st = .ramp ∧ fld (s.spnReg 8) 21 3 < s.spn.attempts) ∧ (let s : State := parkedSlow; s.aonOn = true ∧
   s.on .dsk = true ∧ s.spn.reached = false ∧ (s.spn.st = .accel ∨ (s.spn.st = .stopped ∧
   s.spn.attemptWait = true))) ∧ (let s : State := readDue; s.aonOn = true ∧ s.on .dsk = true ∧
   (s.spn.st = .atSpeed ∧ s.srv.st = .follow ∧
   (s.spnWithin s.axisMrpm = false ∨ (s.culm.ax s.spindleAxis).st ≠ .locked)) ∧ (s.mayWrite .setp = true ∧
   s.spn.rpmSet ≠ 0 ∧ s.diskClaimed = false ∧ s.spn.st = .atSpeed ∧ s.srv.st = .follow)) ∧
   (let s : State := parkedAt; s.aonOn = true ∧ s.on .dsk = true ∧ (let mrpm := 0; s.spn.st = .atSpeed ∧
   s.srv.st = .parked ∧ s.spnWithin mrpm = false)) ∧ (let s : State := lostRotor; s.aonOn = true ∧
   s.on .dsk = true ∧ s.spn.st = .atSpeed ∧ s.spn.reached = true ∧ s.srv.st = .follow) ∧
   (let s : State := catching0; s.aonOn = true ∧ s.on .dsk = true ∧ (let rpm := 7200; s.spn.st = .coast ∧
   s.spn.catchDue = true ∧ s.srv.st = .parked ∧ rpm < 65536 ∧ fld (s.spnReg 0x18) 0 16 ≤ rpm ∧
   rpm ≤ s.spn.rpmSet ∧ s.spn.catches + 1 < 3) ∧ (let rpm := 0; s.spn.st = .coast ∧ s.spn.catchDue = true ∧
   s.srv.st = .parked ∧ rpm < 65536 ∧ rpm < fld (s.spnReg 0x18) 0 16)) ∧ (let s : State := catching2;
   s.aonOn = true ∧ s.on .dsk = true ∧ (let rpm := 7200; s.spn.st = .coast ∧ s.spn.catchDue = true ∧
   s.srv.st = .parked ∧ rpm < 65536 ∧ fld (s.spnReg 0x18) 0 16 ≤ rpm ∧ rpm ≤ s.spn.rpmSet ∧
   3 ≤ s.spn.catches + 1)) ∧ (let s : State := slowing; s.aonOn = true ∧ s.on .dsk = true ∧
   s.spn.st = .stopping ∧ s.spn.freshStart = true ∧ s.spn.rpmSet ≠ 0 ∧ s.spindleLive = true) := by
  refine ⟨?_, ?_, ?_, ?_, ?_, ?_, ?_, ?_, ?_, ?_, ?_, ?_, ?_, ?_, ?_, ?_⟩ <;> decide +kernel

/-- The hypotheses of `Obligations.MovesStartQueueOrAreRefused` are met. -/
theorem witness_MovesStartQueueOrAreRefused :
  (let k : Fin 12 := 2; let ien : Bool := false; let s : State := servoIdle; s.aonOn = true ∧ s.on .eng = true ∧
   s.mayWrite .setp = true ∧ (let m := s.mx k; (let x := m.prof.x; let target := s32 (s.motReg k 0x0C);
   let rows : List (Instr × Nat × Int × Option Int) := [(.moveAbsolute k false ien, 0, if x ≤ target * 2 ^ 24 then 1 else -1, some (target * 2 ^ 24)), (.moveRelative k false ien, 1, if 0 ≤ target then 1 else -1, some (x + target * 2 ^ 24)), (.velocityPositive k false ien, 2, 1, none), (.velocityNegative k false ien, 3, -1, none)];
   m.st = .idle ∧ (let r := ((.velocityPositive k false ien, 2, 1, none) : Instr × Nat × Int × Option Int);
   r ∈ rows ∧ s.limitActive k r.2.2.1 = false ∧ s.mServo k = true)) ∧ (m.st ≠ .disabled ∧ m.st ≠ .fault ∧
   (let r := ((.velocityNegative k true ien, 3) : Instr × Nat);
   r ∈ ([(.moveAbsolute k true ien, 0), (.moveRelative k true ien, 1), (.velocityPositive k true ien, 2), (.velocityNegative k true ien, 3)] : List (Instr × Nat)) ∧
   m.queue = none)))) ∧ (let k : Fin 12 := 2; let ien : Bool := false; let s : State := stepIdle;
   s.aonOn = true ∧ s.on .eng = true ∧ s.mayWrite .setp = true ∧ (let m := s.mx k; let x := m.prof.x;
   let target := s32 (s.motReg k 0x0C);
   let rows : List (Instr × Nat × Int × Option Int) := [(.moveAbsolute k false ien, 0, if x ≤ target * 2 ^ 24 then 1 else -1, some (target * 2 ^ 24)), (.moveRelative k false ien, 1, if 0 ≤ target then 1 else -1, some (x + target * 2 ^ 24)), (.velocityPositive k false ien, 2, 1, none), (.velocityNegative k false ien, 3, -1, none)];
   m.st = .idle ∧ (let r := ((.velocityPositive k false ien, 2, 1, none) : Instr × Nat × Int × Option Int);
   r ∈ rows ∧ s.limitActive k r.2.2.1 = false ∧ s.mServo k = false ∧ s.mot.sheets = [] ∧ m.queue = none ∧
   r.2.2.2 ≠ some x ∧ r.2.2.2 ≠ some (x + r.2.2.1 * 2 ^ 24)))) ∧ (let k : Fin 12 := 2; let ien : Bool := false;
   let s : State := limited; s.aonOn = true ∧ s.on .eng = true ∧ s.mayWrite .setp = true ∧ (let m := s.mx k;
   let x := m.prof.x; let target := s32 (s.motReg k 0x0C);
   let rows : List (Instr × Nat × Int × Option Int) := [(.moveAbsolute k false ien, 0, if x ≤ target * 2 ^ 24 then 1 else -1, some (target * 2 ^ 24)), (.moveRelative k false ien, 1, if 0 ≤ target then 1 else -1, some (x + target * 2 ^ 24)), (.velocityPositive k false ien, 2, 1, none), (.velocityNegative k false ien, 3, -1, none)];
   m.st = .idle ∧ (let r := ((.velocityPositive k false ien, 2, 1, none) : Instr × Nat × Int × Option Int);
   r ∈ rows ∧ s.limitActive k r.2.2.1 = true))) ∧ (let k : Fin 12 := 2; let ien : Bool := false;
   let s : State := stepMoving; s.aonOn = true ∧ s.on .eng = true ∧ s.mayWrite .setp = true ∧ (let m := s.mx k;
   let x := m.prof.x; let target := s32 (s.motReg k 0x0C);
   let rows : List (Instr × Nat × Int × Option Int) := [(.moveAbsolute k false ien, 0, if x ≤ target * 2 ^ 24 then 1 else -1, some (target * 2 ^ 24)), (.moveRelative k false ien, 1, if 0 ≤ target then 1 else -1, some (x + target * 2 ^ 24)), (.velocityPositive k false ien, 2, 1, none), (.velocityNegative k false ien, 3, -1, none)];
   (m.st = .moving ∨ m.st = .homing ∨ m.st = .stopping) ∧
   (let r := ((.velocityPositive k false ien, 2, 1, none) : Instr × Nat × Int × Option Int); r ∈ rows))) ∧
   (let k : Fin 12 := 2; let ien : Bool := false; let s : State := queued; s.aonOn = true ∧ s.on .eng = true ∧
   s.mayWrite .setp = true ∧ (let m := s.mx k; m.st ≠ .disabled ∧ m.st ≠ .fault ∧
   (let r := ((.velocityNegative k true ien, 3) : Instr × Nat);
   r ∈ ([(.moveAbsolute k true ien, 0), (.moveRelative k true ien, 1), (.velocityPositive k true ien, 2), (.velocityNegative k true ien, 3)] : List (Instr × Nat)) ∧
   m.queue.isSome = true))) := by
  refine ⟨?_, ?_, ?_, ?_, ?_⟩ <;> decide +kernel

/-- The hypotheses of `Obligations.AxesStopStepAndFollow` are met. -/
theorem witness_AxesStopStepAndFollow :
  (let k : Fin 12 := 2; let s : State := stepMoving; s.aonOn = true ∧ s.on .eng = true ∧
   s.mayWrite .setp = true ∧ (let m := s.mx k; m.st = .moving)) ∧ (let k : Fin 12 := 2;
   let s : State := stepIdle; s.aonOn = true ∧ s.on .eng = true ∧ s.mayWrite .setp = true ∧ (let m := s.mx k;
   m.st = .idle ∧ s.mServo k = false)) ∧ (let k : Fin 12 := 2; let s : State := homable; s.aonOn = true ∧
   s.on .eng = true ∧ s.mayWrite .setp = true ∧ (let m := s.mx k; let i := 0; m.st = .idle ∧ s.mServo k = true ∧
   s.homeDin k = some i ∧ s.homeBarred k (if s.dinLevel i then 3 else 1) = false)) ∧ (let k : Fin 12 := 2;
   let s : State := axisFaulted; s.aonOn = true ∧ s.on .eng = true ∧ s.mayWrite .setp = true ∧ (let m := s.mx k;
   m.st = .fault)) ∧ (let k : Fin 12 := 2; let s : State := cruising; s.aonOn = true ∧ s.on .eng = true ∧
   (let m := s.mx k; let vmax := velU (s.motReg k 0x10).toNat; s.mServo k = false ∧ m.st = .moving ∧
   m.prof.position = false ∧ m.prof.stopping = false ∧ m.prof.quick = false ∧ s.mot.runout = false ∧
   m.prof.v = vmax ∧ m.prof.a = 0 ∧ velU (s.motReg k 0x20).toNat ≤ vmax ∧ 0 ≤ accU (s.motReg k 0x14).toNat ∧
   s.mot.sheets = [] ∧ m.queue = none)) ∧ (let k : Fin 12 := 2; let s : State := servoIdle; s.aonOn = true ∧
   s.on .eng = true ∧ (let m := s.mx k; m.st = .idle ∧ (let fe := satS 32 (asr m.prof.x 24 - s.mPos k);
   s.mServo k = true ∧ m.st = .idle ∧ fe.natAbs ≤ (s.motReg k 0x3C).toNat))) ∧ (let k : Fin 12 := 2;
   let s : State := servoOff; s.aonOn = true ∧ s.on .eng = true ∧ (let m := s.mx k;
   let fe := satS 32 (asr m.prof.x 24 - s.mPos k); s.mServo k = true ∧ m.st = .idle ∧
   (s.motReg k 0x3C).toNat < fe.natAbs ∧ s.pathAxis k = false ∧ s.divEn = false)) ∧ (let k : Fin 12 := 11;
   let s : State := up; s.aonOn = true ∧ s.on .eng = true ∧ s.mayWrite .setp = true ∧ (let m := s.mx k;
   m.st = .disabled ∧ m.st ≠ .idle)) ∧ (let p : Profile := { v := 3000, quick := true };
   let g : Gen := ⟨100, 5000, 10, 10, 10, 10⟩; g.vs ≤ p.v ∧ g.vs ≤ g.vc ∧ p.quick = true ∧ 0 ≤ g.emax) := by
  refine ⟨?_, ?_, ?_, ?_, ?_, ?_, ?_, ?_, ?_⟩ <;> decide +kernel

/-- The hypotheses of `Obligations.ThePathIsWatched` are met. -/
theorem witness_ThePathIsWatched :
  (let i : Fin 32 := 0; let raw : Bool := true; let s : State := debouncing; s.aonOn = true ∧ s.on .eng = true ∧
   (let d : Din := nth {} s.mot.dins i; let c := s.reg (0x603000 + 8 * i); s.shaped = true ∧ d.raw ≠ raw ∧
   fld c 12 16 ≠ 0 ∧ fld c 8 4 = 0)) ∧ (let i : Fin 32 := 0; let raw : Bool := true; let s : State := chatters;
   s.aonOn = true ∧ s.on .eng = true ∧ (let d : Din := nth {} s.mot.dins i; let c := s.reg (0x603000 + 8 * i);
   s.shaped = true ∧ d.raw ≠ raw ∧ fld c 12 16 ≠ 0 ∧ fld c 8 4 ≠ 0 ∧ 0 < fld c 0 8 ∧
   fld c 8 4 ≤ (d.recent.filter fun t => decide (s.time.now.toNat - t < fld c 0 8 * 1000000)).length)) ∧
   (let i : Fin 32 := 31; let raw : Bool := false; let s : State := up; s.aonOn = true ∧ s.on .eng = true ∧
   (let d : Din := nth {} s.mot.dins i; d.raw = raw)) ∧ (let s : State := up; s.aonOn = true ∧
   s.on .eng = true ∧ s.shaped = true ∧ (s.mayWrite .setp = true ∧
   s.mot.fed = s.mot.delivered + s.mot.purged + s.mot.inPath + s.mot.cleared ∧ s.mayClear = true) ∧
   (s.served .service = true ∧ s.mayWrite .shadow = true)) ∧ (let s : State := up; s.mot.jam = none) ∧
   (let kind : Nat := 0; let point : Nat := 0; let sheet : Nat := 0; let s : State := jammable;
   s.mot.jam = none ∧ (let t := s.jamUp kind point sheet; let x := { num := 1, front := 3, stopped := true };
   x ∈ t.mot.sheets)) ∧ (let s : State := jammable; s.mot.jam = none ∧ (let k := 2; k < 12 ∧
   s.pathAxis k = true ∧ (s.mx k).st = .moving)) ∧ (let s : State := jammable; s.aonOn = true ∧
   s.on .eng = true ∧ s.mayWrite .setp = true ∧ s.mayClear = false) := by
  refine ⟨?_, ?_, ?_, ?_, ?_, ?_, ?_, ?_⟩ <;> decide +kernel

/-- The hypotheses of `Obligations.PeriodsAndCommutations` are met. -/
theorem witness_PeriodsAndCommutations :
  (let u : Fin 24 := 2; let codes : List Nat := [100, 200, 300, 400, 1, 1, 1, 1]; let s : State := openDuty;
   s.aonOn = true ∧ s.on .eng = true ∧ s.duEn u = true ∧ s.duType u = 4 ∧ s.calRuns 4 u = false ∧
   (let n := nsOf (s.drvReg u 8); n ≤ codes.length)) ∧ (let u : Fin 24 := 2; let codes : List Nat := [];
   let s : State := openDuty; s.aonOn = true ∧ s.on .eng = true ∧ s.duEn u = true ∧ s.duType u = 4 ∧
   s.calRuns 4 u = false ∧ (let n := nsOf (s.drvReg u 8); codes.length < n ∧ (s.du u).stale < 65535 ∧
   s.shaped = true)) ∧ (let u : Fin 24 := 2; let s : State := bldcRun; s.aonOn = true ∧ s.on .eng = true ∧
   (let tick := 1000; let z := 100; let a := 900; let rest := [950]; s.duType u = 1 ∧ s.duEn u = true ∧
   s.duSine u = false ∧ (s.du u).st = .run ∧ (s.du u).zcLast = some z ∧ (s.du u).zcInt = a :: rest ∧ z < tick ∧
   (let t60 := (tick - z + a) / 2; 0 < t60))) ∧ (let u : Fin 24 := 2; let s : State := bldcDue; s.aonOn = true ∧
   s.on .eng = true ∧ (let c := 7000; (s.du u).st = .run ∧ (s.du u).commAt = some c ∧ s.duReverse u = false ∧
   (s.du u).sector = 5 ∧ (s.du u).advArmed = true)) := by
  refine ⟨?_, ?_, ?_, ?_⟩ <;> decide +kernel

/-- The hypotheses of `Obligations.UnitsStartStopAndCatch` are met. -/
theorem witness_UnitsStartStopAndCatch :
  (let u : Fin 24 := 2; let s : State := bldcIdle; s.aonOn = true ∧ s.on .eng = true ∧ s.mayWrite .setp = true ∧
   (let d := s.du u; s.duSrc u ≠ 1 ∧ s.duSrc u ≠ 2 ∧ d.st = .idle ∧ s.calRuns 4 u = false ∧
   s.engineLive = true ∧ s.drv.hardCut = false ∧ s.duEn u = true ∧ s.duCount u ≠ 0)) ∧ (let u : Fin 24 := 2;
   let s : State := bldcRun; s.aonOn = true ∧ s.on .eng = true ∧ s.mayWrite .setp = true ∧ (let d := s.du u;
   s.duSrc u ≠ 1 ∧ s.duSrc u ≠ 2 ∧ d.st = .run ∧ s.duType u = 1)) ∧ (let u : Fin 24 := 2;
   let s : State := openDuty; s.aonOn = true ∧ s.on .eng = true ∧ s.mayWrite .setp = true ∧ (let d := s.du u;
   s.duSrc u ≠ 1 ∧ s.duSrc u ≠ 2 ∧ d.st = .run)) ∧ (let u : Fin 24 := 2; let s : State := bldcFault;
   s.aonOn = true ∧ s.on .eng = true ∧ s.mayWrite .setp = true ∧ (let d := s.du u; (s.duSrc u ≠ 1 ∧
   s.duSrc u ≠ 2 ∧ d.st = .fault) ∧ d.st = .fault)) ∧ (let u : Fin 24 := 2; let s : State := bldcAxis;
   s.aonOn = true ∧ s.on .eng = true ∧ s.mayWrite .setp = true ∧ (s.duSrc u = 1 ∨ s.duSrc u = 2)) ∧
   (let u : Fin 24 := 2; let s : State := bldcRamp; s.aonOn = true ∧ s.on .eng = true ∧ s.duType u = 1 ∧
   ((s.du u).st = .ramp ∧ (s.du u).attempts ≤ fld (s.drvReg u 0x20) 28 3) ∧ (let deg := 120;
   (s.du u).st = .ramp ∧ deg ≤ fld (s.drvReg u 0x20) 20 8)) ∧ (let u : Fin 24 := 2; let s : State := bldcRamp4;
   s.aonOn = true ∧ s.on .eng = true ∧ s.duType u = 1 ∧ (s.du u).st = .ramp ∧
   fld (s.drvReg u 0x20) 28 3 < (s.du u).attempts) ∧ (let u : Fin 24 := 2; let s : State := bldcCatch;
   s.aonOn = true ∧ s.on .eng = true ∧ s.duType u = 1 ∧ (s.du u).st = .catching ∧ (s.du u).catches < 3) ∧
   (let u : Fin 24 := 2; let s : State := bldcCatch3; s.aonOn = true ∧ s.on .eng = true ∧ s.duType u = 1 ∧
   (s.du u).st = .catching ∧ 3 ≤ (s.du u).catches) ∧ (let u : Fin 24 := 2; let s : State := bldcWait;
   s.aonOn = true ∧ s.on .eng = true ∧ s.duType u = 1 ∧ (s.du u).st = .coast ∧ (s.du u).attemptWait = true ∧
   s.engineLive = true) ∧ (let u : Fin 24 := 2; let s : State := bldcStopping; s.aonOn = true ∧
   s.on .eng = true ∧ s.duType u = 1 ∧ (s.du u).st = .stopping ∧ (s.du u).attemptWait = false ∧
   (s.du u).stopWanted = true) ∧ (let u : Fin 24 := 23; let s : State := up; s.aonOn = true ∧ s.on .eng = true ∧
   s.mayWrite .setp = true ∧ (s.duSrc u ≠ 1 ∧ s.duSrc u ≠ 2 ∧ s.calRuns 4 u = false ∧ s.engineLive = false) ∧
   (let d := s.du u; d.st ≠ .fault)) ∧ (let u : Fin 24 := 23; let s : State := cutIdle; s.aonOn = true ∧
   s.on .eng = true ∧ s.mayWrite .setp = true ∧ s.duSrc u ≠ 1 ∧ s.duSrc u ≠ 2 ∧ s.calRuns 4 u = false ∧
   s.drv.hardCut = true) ∧ (let s : State := up; s.aonOn = true ∧ s.on .eng = true ∧ s.mayWrite .setp = true) := by
  refine ⟨?_, ?_, ?_, ?_, ?_, ?_, ?_, ?_, ?_, ?_, ?_, ?_, ?_, ?_⟩ <;> decide +kernel

/-- The hypotheses of `Obligations.TheBusIsProtected` are met. -/
theorem witness_TheBusIsProtected :
  (let s : State := up; s.aonOn = true ∧ s.on .eng = true ∧ (s.on .ana = true ∧ (let sns : Nat := 2400;
   sns ≤ 2400 ∧ s.busLim 0 ≠ 0 ∧ s.drv.chopFault = false ∧ s.drv.chopOn = false ∧ s.drv.chopHeld = false ∧
   (let v := sns * 65536 / s.busLim 0 % 65536; s.busLim 1 ≤ v)) ∧ (let sns : Nat := 1000; sns ≤ 2400 ∧
   s.busLim 0 ≠ 0 ∧ s.drv.chopFault = false ∧ s.drv.chopOn = false ∧ s.drv.chopHeld = false ∧
   (let v := sns * 65536 / s.busLim 0 % 65536; v < s.busLim 1 ∧ s.drv.busWarn = false)) ∧
   (let ibrk : Int := 10001; ((fld (s.reg 0x680028) 0 12 * 10 : Nat) : Int) < s.brkMa ibrk)) ∧
   (s.mayWrite .test = true ∧ s.drv.vbus + s.busLim 2 < s.busLim 1)) ∧ (let s : State := chopping;
   s.aonOn = true ∧ s.on .eng = true ∧ s.on .ana = true ∧ (let ibrk : Int := 1;
   s.brkMa ibrk ≤ ((fld (s.reg 0x680028) 0 12 * 10 : Nat) : Int) ∧ s.drv.chopOn = true ∧ s.drv.chopLow = true ∧
   s.brkMa ibrk < ((fld (s.reg 0x680028) 12 12 * 10 : Nat) : Int))) ∧ (let s : State := running3;
   s.aonOn = true ∧ s.on .eng = true ∧ (s.on .ana = true ∧ (s.drv.vbus < s.busLim 4 ∧ s.drv.busUv = false) ∧
   s.drv.hardCut = false) ∧ s.drv.gateUv = false) ∧ (let s : State := openDuty; s.aonOn = true ∧
   s.on .eng = true ∧ (let u : Fin 24 := 2; (let ma : Int := 4001; let desat : Bool := false; s.duEn u = true ∧
   s.duCount u ≠ 0 ∧ (s.du u).st = .run ∧ (desat = true ∨ fld (s.drvReg u 0x48) 16 16 * 10 < ma.natAbs)) ∧
   (let ma : Int := -200; s.duEn u = true ∧ s.duCount u ≠ 0 ∧ (s.du u).st = .run ∧
   ma.natAbs ≤ fld (s.drvReg u 0x48) 16 16 * 10))) ∧ (let s : State := highBus; s.aonOn = true ∧
   s.on .eng = true ∧ s.mayWrite .test = true ∧ s.busLim 1 ≤ s.drv.vbus + s.busLim 2) := by
  refine ⟨?_, ?_, ?_, ?_, ?_⟩ <;> decide +kernel

/-- The hypotheses of `Obligations.LoopsUpdateWithinLimits` are met. -/
theorem witness_LoopsUpdateWithinLimits :
  (let t : TSlot := ({ i := 2300, u := 2310, yh := 1975, restart := false, coef := [3, 5, 1, 1, 0, 0, 4095, 0, 0, 0] } : TSlot);
   let c := coefOf t.coef; c.lo ≤ c.hi ∧ (c.lo ≤ t.i ∧ t.i ≤ c.hi)) ∧
   (let t : TSlot := ({ i := 2300, u := 2310, yh := 1975, restart := false, coef := [3, 5, 1, 1, 0, 0, 4095, 0, 0, 0] } : TSlot);
   let frozen : Bool := true; let c := coefOf t.coef; c.lo ≤ c.hi ∧ t.restart = false ∧ frozen = true) ∧
   (let t : TSlot := ({ satHi := true, i := 2300, u := 2310, yh := 1975, restart := false, coef := [3, 5, 1, 1, 0, 0, 4095, 0, 0, 0] } : TSlot);
   let c := coefOf t.coef; c.lo ≤ c.hi ∧ t.restart = false ∧ t.satHi = true ∧ c.lo ≤ t.i ∧ t.i ≤ c.hi) ∧
   (let t : TSlot := ({ satLo := true, i := 2300, u := 2310, yh := 1975, restart := false, coef := [3, 5, 1, 1, 0, 0, 4095, 0, 0, 0] } : TSlot);
   let c := coefOf t.coef; c.lo ≤ c.hi ∧ t.restart = false ∧ t.satLo = true ∧ c.lo ≤ t.i ∧ t.i ≤ c.hi) ∧
   (let t : TSlot := ({ i := 2300, u := 2310, yh := 1975, restart := true, coef := [3, 5, 1, 1, 0, 0, 4095, 0, 0, 0] } : TSlot);
   let frozen : Bool := true; let c := coefOf t.coef; c.lo ≤ c.hi ∧ t.restart = true ∧ frozen = true) ∧
   (let l : Fin 4 := 3; let n : Nat := 224; let p : Pend := ⟨5, 1990, 0, false, false⟩;
   let s : State := slotPend; s.aonOn = true ∧ s.on .eng = true ∧ s.lane l = .active ∧
   s.firstPending l = some (n, p) ∧ s.slotOn n = true ∧ s.bindOf n = none ∧ s.destOf n = (0, 0) ∧
   (s.ts n).stranded = false ∧ fld (s.ts n).cfg 16 4 = 0 ∧ p.late = false ∧ (¬(80 ≤ n ∧ n < 84)) ∧
   bitOf (s.ts n).cfg 30 = false ∧ p.stale = false) ∧ (let l : Fin 4 := 3; let n : Nat := 224;
   let p : Pend := ⟨5, 1990, 0, false, false⟩; let s : State := slotHeld; s.aonOn = true ∧ s.on .eng = true ∧
   s.lane l = .active ∧ s.firstPending l = some (n, p) ∧ s.slotOn n = true ∧ s.bindOf n = none ∧
   s.destOf n = (0, 0) ∧ (s.ts n).stranded = false ∧ fld (s.ts n).cfg 16 4 = 0 ∧ p.late = false ∧ (¬(80 ≤ n ∧
   n < 84)) ∧ bitOf (s.ts n).cfg 30 = true) ∧ (let l : Fin 4 := 3; let n : Nat := 224;
   let p : Pend := ⟨5, 1990, 0, false, false⟩; let s : State := slotNoReloc; s.aonOn = true ∧ s.on .eng = true ∧
   s.lane l = .active ∧ s.firstPending l = some (n, p) ∧ s.slotOn n = true ∧ s.bindOf n = none ∧
   s.destOf n = (0, 0) ∧ (s.ts n).stranded = false ∧ fld (s.ts n).cfg 16 4 = 0 ∧ p.late = false ∧ (¬(80 ≤ n ∧
   n < 84)) ∧ bitOf (s.ts n).cfg 30 = false ∧ bitOf (s.reg 0x700004) 31 = false ∧ s.shaped = true) ∧
   (let l : Fin 4 := 3; let n : Nat := 224; let p : Pend := ⟨5, 1990, 0, true, false⟩;
   let s : State := slotStale; s.aonOn = true ∧ s.on .eng = true ∧ s.lane l = .active ∧
   s.firstPending l = some (n, p) ∧ s.slotOn n = true ∧ s.bindOf n = none ∧ s.destOf n = (0, 0) ∧
   (s.ts n).stranded = false ∧ fld (s.ts n).cfg 16 4 = 0 ∧ p.late = false ∧ (¬(80 ≤ n ∧ n < 84)) ∧
   bitOf (s.ts n).cfg 30 = false ∧ p.stale = true) ∧ (let n : Fin 256 := 224; let y : Int := 7;
   let s : State := slotTim; s.aonOn = true ∧ s.on .eng = true ∧ s.bindOf n = none ∧ s.slotOn n = true ∧
   (let c := .slotTimer 224 7; let k := 1;
   (c, k) ∈ [(Instr.slotTimer n y, 1), (.slotTrigger n y false false, 2)] ∧ fld (s.ts n).cfg 26 2 = k ∧
   (s.ts n).pend = none)) ∧ (let n : Fin 256 := 224; let y : Int := 7; let s : State := slotAnglePend;
   s.aonOn = true ∧ s.on .eng = true ∧ s.bindOf n = none ∧ s.slotOn n = true ∧
   (let c := .slotTrigger 224 7 false false; let k := 2;
   (c, k) ∈ [(Instr.slotTimer n y, 1), (.slotTrigger n y false false, 2)] ∧ fld (s.ts n).cfg 26 2 = k ∧
   (s.ts n).pend.isSome = true)) := by
  refine ⟨?_, ?_, ?_, ?_, ?_, ?_, ?_, ?_, ?_, ?_, ?_⟩ <;> decide +kernel

/-- The hypotheses of `Obligations.CoefficientsAndLanesAreServiced` are met. -/
theorem witness_CoefficientsAndLanesAreServiced :
  (let s : State := up; s.aonOn = true ∧ s.on .eng = true ∧ s.mayWrite .shadow = true ∧ (let w : Fin 4 := 0;
   w.val < 2 ∧ s.teff.applyArmed = false ∧ s.coefBad = false) ∧ s.teff.applyArmed = false) ∧
   (let s : State := applyBad; s.aonOn = true ∧ s.on .eng = true ∧ s.mayWrite .shadow = true ∧
   (let w : Fin 4 := 0; w.val < 2 ∧ s.teff.applyArmed = false ∧ s.coefBad = true)) ∧
   (let s : State := applyArmed; s.aonOn = true ∧ s.on .eng = true ∧ (s.mayWrite .shadow = true ∧
   (let w : Fin 4 := 0; w.val < 2 ∧ s.teff.applyArmed = true) ∧ s.teff.applyArmed = true) ∧
   (s.teff.applyArmed = true ∧ s.teff.applyWhen = 0)) ∧ (let l : Fin 4 := 3; let s : State := up;
   s.aonOn = true ∧ s.on .eng = true ∧ s.mayWrite .mgmt = true ∧ s.laneBusy = false ∧
   (s.laneLoad l ≤ s.roomOff l ∧ s.shaped = true) ∧ (nth {} s.teff.lanes l).tested = false ∧
   s.lane l = .active) ∧ (let l : Fin 4 := 3; let s : State := laneFullAlone; s.aonOn = true ∧
   s.on .eng = true ∧ s.mayWrite .mgmt = true ∧ s.laneBusy = false ∧ s.roomOff l < s.laneLoad l) ∧
   (let l : Fin 4 := 3; let s : State := laneOut; s.aonOn = true ∧ s.on .eng = true ∧ s.mayWrite .mgmt = true ∧
   s.laneBusy = false ∧ ((nth {} s.teff.lanes l).st = .out ∧ (nth {} s.teff.lanes l).tested = true) ∧
   ((s.lane l = .out ∨ s.lane l = .faulted))) ∧ (let l : Fin 4 := 3; let s : State := lanesFull;
   s.aonOn = true ∧ s.on .eng = true ∧ s.mayWrite .mgmt = true ∧ s.laneBusy = false ∧ s.lane l = .active ∧
   64 ≤ s.laneLoad l) ∧ (let l : Fin 4 := 3; let s : State := laneTesting; s.aonOn = true ∧ s.on .eng = true ∧
   s.lane l = .test) ∧ (let l : Fin 4 := 0; let s : State := slotPend; s.aonOn = true ∧ s.on .eng = true ∧
   s.mayWrite .mgmt = true ∧ s.laneBusy = false ∧ s.lane l = .active ∧ s.laneLoad l < 64) ∧
   (let s : State := laneTesting; s.aonOn = true ∧ s.on .eng = true ∧ s.mayWrite .mgmt = true ∧
   s.laneBusy = true) ∧ (let s : State := relocating; s.aonOn = true ∧ s.on .eng = true ∧ s.teff.reloc = true) := by
  refine ⟨?_, ?_, ?_, ?_, ?_, ?_, ?_, ?_, ?_, ?_, ?_⟩ <;> decide +kernel

/-- The hypotheses of `Obligations.HighVoltageIsWatched` are met. -/
theorem witness_HighVoltageIsWatched :
  (let s : State := up; s.aonOn = true ∧ (let k : Fin 16 := 15; s.hvEn k = false) ∧ (s.on .eng = true ∧
   (s.shaped = true ∧ s.mayWrite .setp = true ∧ (let inst : BitVec 5 := 5#5; s.mayWrite .shadow = true ∧
   inst.toNat < s.calCount 5 ∧ s.calPre 5 inst.toNat = true ∧ s.calBusy 5 inst.toNat = false) ∧
   (let id : Fin 10 := 9; (s.calCh id).run = none)) ∧ (s.mayWrite .shadow = true ∧ s.hv.apply ≠ 1 ∧
   ((∀ k < 16, s.hvEn k = true → s.hvAc k = false))))) ∧ (let s : State := hvOn1; s.aonOn = true ∧
   (let k : Fin 16 := 3; (let c : BitVec 12 := 100#12; s.shaped = true ∧ s.hvEn k = true ∧ s.hvAc k = false ∧
   (s.hvCh k).num + 1 ≤ fld (s.hvReg k 0) 16 8 ∧ s.flying = [] ∧
   (let y := sat32 (asr (((c.toNat : Int) - sx 16 (fld (s.hvReg k 0x18) 0 16)) * s32 (s.hvReg k 0x14)) 12);
   y.natAbs ≤ (s.hvReg k 0x10).toNat)) ∧ (let c : BitVec 12 := 200#12; s.shaped = true ∧ s.hvEn k = true ∧
   s.hvAc k = false ∧ (s.hvCh k).num + 1 ≤ fld (s.hvReg k 0) 16 8 ∧ s.flying = [] ∧
   (let y := sat32 (asr (((c.toNat : Int) - sx 16 (fld (s.hvReg k 0x18) 0 16)) * s32 (s.hvReg k 0x14)) 12);
   (s.hvReg k 0x10).toNat < y.natAbs ∧ (s.hvCh k).overLim = true ∧ (s.hvCh k).trip = false)))) ∧
   (let s : State := printing; s.aonOn = true ∧ s.on .eng = true ∧ s.mayWrite .setp = false) ∧
   (let s : State := hvArmed; s.aonOn = true ∧ s.on .eng = true ∧ s.hv.apply = 1 ∧ (s.mayWrite .shadow = true ∧
   s.hv.apply = 1)) ∧ (let s : State := hvCh5On; s.aonOn = true ∧ s.on .eng = true ∧ s.shaped = true ∧
   (let inst : BitVec 5 := 5#5; s.mayWrite .shadow = true ∧ inst.toNat < s.calCount 5 ∧
   s.calPre 5 inst.toNat = false)) ∧ (let s : State := calRun5a; s.aonOn = true ∧ s.on .eng = true ∧
   s.shaped = true ∧ (let inst : BitVec 5 := 5#5; s.mayWrite .shadow = true ∧ inst.toNat < s.calCount 5 ∧
   s.calPre 5 inst.toNat = true ∧ s.calBusy 5 inst.toNat = true)) ∧ (let s : State := calDue; s.aonOn = true ∧
   s.on .eng = true ∧ s.shaped = true ∧ (s.calCh 5).run = none ∧ (s.calCh 5).pending = none ∧
   (s.calRec 5).outcome ≠ 0 ∧ fld (s.calInt 5) 0 16 ≠ 0 ∧
   (s.calRec 5).time.toNat + fld (s.calInt 5) 0 16 * 60 * 10 ^ 9 ≤ s.time.now.toNat ∧
   (let inst := (s.calRec 5).inst; s.calPre 5 inst = true ∧ s.calBusy 5 inst = false)) ∧
   (let s : State := calDueOn; s.aonOn = true ∧ s.on .eng = true ∧ s.shaped = true ∧ (s.calCh 5).run = none ∧
   (s.calCh 5).pending = none ∧ (s.calRec 5).outcome ≠ 0 ∧ fld (s.calInt 5) 0 16 ≠ 0 ∧
   (s.calRec 5).time.toNat + fld (s.calInt 5) 0 16 * 60 * 10 ^ 9 ≤ s.time.now.toNat ∧
   (let inst := (s.calRec 5).inst; (s.calPre 5 inst = false ∨ s.calBusy 5 inst = true))) ∧
   (let s : State := calPend5On; s.aonOn = true ∧ s.on .eng = true ∧ s.shaped = true ∧ (let inst : Nat := 5;
   let trig : Nat := 2; (s.calCh 5).pending = some (inst, trig) ∧ trig ≠ 3 ∧
   (s.calPre 5 inst = false ∨ s.calBusy 5 inst = true))) ∧ (let s : State := calPend5; s.aonOn = true ∧
   s.on .eng = true ∧ s.shaped = true ∧ (let inst : Nat := 5; let trig : Nat := 2;
   (s.calCh 5).pending = some (inst, trig) ∧ trig ≠ 3 ∧ s.calPre 5 inst = true ∧ s.calBusy 5 inst = false) ∧
   ((s.calCh 5).pending.isSome = true ∧ fld (s.calInt 5) 16 16 ≠ 0)) ∧ (let s : State := calAcc6;
   s.aonOn = true ∧ s.on .eng = true ∧ s.shaped = true ∧ (let id : Fin 10 := 6; let ms : List Int := [3];
   let r : CalRun := ({ inst := 0, trig := 0, tap := false, accepted := some [3] } : CalRun);
   (s.calCh id).run = some r ∧ r.accepted = some ms ∧ (s.calCh id).turn = [])) ∧ (let s : State := calRun5b;
   s.aonOn = true ∧ s.on .eng = true ∧ s.shaped = true ∧ (let l : List (List Int) := [[108]];
   let r : CalRun := ({ inst := 5, trig := 0, tap := false, made := 1, last := [100] } : CalRun);
   (s.calCh 5).run = some r ∧ r.accepted = none ∧ (s.calCh 5).turn = [] ∧ (let m := s.calMeasured 5 r l;
   let tol := fld (s.calCfg 5) 12 12;
   let agree : Bool := (decide (0 < r.made) && (List.range m.length).all fun i => decide ((nth 0 m i - nth 0 r.last i).natAbs ≤ tol));
   agree = true))) ∧ (let s : State := calRun5c; s.aonOn = true ∧ s.on .eng = true ∧ s.shaped = true ∧
   (let l : List (List Int) := [[109]];
   let r : CalRun := ({ inst := 5, trig := 0, tap := false, made := 2, last := [100] } : CalRun);
   (s.calCh 5).run = some r ∧ r.accepted = none ∧ (s.calCh 5).turn = [] ∧ (let m := s.calMeasured 5 r l;
   let tol := fld (s.calCfg 5) 12 12;
   let agree : Bool := (decide (0 < r.made) && (List.range m.length).all fun i => decide ((nth 0 m i - nth 0 r.last i).natAbs ≤ tol));
   agree = false ∧ fld (s.calCfg 5) 24 3 ≤ r.made + 1))) := by
  refine ⟨?_, ?_, ?_, ?_, ?_, ?_, ?_, ?_, ?_, ?_, ?_, ?_, ?_⟩ <;> decide +kernel

/-- The hypotheses of `Obligations.TheFuserIsWatched` are met. -/
theorem witness_TheFuserIsWatched :
  (let s : State := thOn; s.aonOn = true ∧ (let j : Fin 8 := 0; s.on .eng = true ∧ s.shaped = true ∧
   bitOf (s.thReg j 0) 31 = true ∧ (s.th j).valid = true ∧ s.flying = [])) ∧ (let s : State := up;
   s.aonOn = true ∧ (let j : Fin 8 := 7; bitOf (s.thReg j 0) 31 = false) ∧
   (((∀ i < 8, bitOf (s.thReg i 0) 30 = false ∧ bitOf (s.thReg i 0) 29 = false))) ∧ (s.on .eng = true ∧
   (s.mayWrite .test = true ∧ s.cut.set = true ∧ s.cut.active = 0#8) ∧ (s.mayWrite .shadow = true ∧
   s.fus.apply ≠ 1 ∧ s.fus.mainsOk = false) ∧ s.shaped = true) ∧ s.shaped = true ∧ (s.served .service = true ∧
   s.mayWrite .shadow = true)) ∧ (let s : State := cutDue; s.aonOn = true ∧
   (let codes : List (BitVec 12) := [99#12]; let j : Fin 8 := 0; nth 0 s.cut.lowRow j = 2 ∧
   bitOf (s.thReg j 0) 30 = true ∧ (codes.getD j 0).toNat < fld (s.thReg j 0) 16 12)) ∧
   (let s : State := printing; s.aonOn = true ∧ s.on .eng = true ∧ s.mayWrite .test = false ∧
   ((s.mayWrite .test = false ∨ s.cut.active ≠ 0#8))) ∧ (let s : State := mainsOn; s.aonOn = true ∧
   s.on .eng = true ∧ s.mayWrite .shadow = true ∧ s.fus.apply ≠ 1 ∧ s.fus.mainsOk = true) ∧
   (let s : State := fusArmed; s.aonOn = true ∧ s.on .eng = true ∧ s.fus.apply = 1 ∧
   (s.mayWrite .shadow = true ∧ s.fus.apply = 1)) ∧ (let s : State := safeGoing; s.aonOn = true ∧
   s.served .service = true ∧ s.mayWrite .shadow = false) := by
  refine ⟨?_, ?_, ?_, ?_, ?_, ?_, ?_⟩ <;> decide +kernel

/-- The hypotheses of `Obligations.CalibrationsStartAndAreJudged` are met. -/
theorem witness_CalibrationsStartAndAreJudged :
  (let s : State := up; s.aonOn = true ∧ s.on .eng = true ∧ (s.shaped = true ∧ (let id : BitVec 4 := 10#4;
   let inst : BitVec 5 := 0#5; s.mayWrite .shadow = true ∧
   (let n := if id.toNat ∈ [6, 7, 9] then 0 else inst.toNat; (9 < id.toNat ∨ s.calCount id.toNat ≤ n))) ∧
   (let id : BitVec 4 := 5#4; let inst : BitVec 5 := 5#5; s.mayWrite .shadow = true ∧
   (let n := if id.toNat ∈ [6, 7, 9] then 0 else inst.toNat;
   let first := if id.toNat = 9 then s.scanners.headD 24 else n; id.toNat ≤ 9 ∧ n < s.calCount id.toNat ∧
   s.calPre id.toNat first = true ∧ s.calBusy id.toNat first = false ∧
   ((id.toNat = 9 → s.calRuns 0 first = false))))) ∧ (s.served .service = true ∧ s.mayWrite .test = true)) ∧
   (let s : State := hvCh5On; s.aonOn = true ∧ s.on .eng = true ∧ s.shaped = true ∧ (let id : BitVec 4 := 5#4;
   let inst : BitVec 5 := 5#5; s.mayWrite .shadow = true ∧
   (let n := if id.toNat ∈ [6, 7, 9] then 0 else inst.toNat;
   let first := if id.toNat = 9 then s.scanners.headD 24 else n; id.toNat ≤ 9 ∧ n < s.calCount id.toNat ∧
   s.calPre id.toNat first = false))) ∧ (let s : State := calRun5a; s.aonOn = true ∧ s.on .eng = true ∧
   s.shaped = true ∧ (let id : BitVec 4 := 5#4; let inst : BitVec 5 := 5#5; s.mayWrite .shadow = true ∧
   (let n := if id.toNat ∈ [6, 7, 9] then 0 else inst.toNat;
   let first := if id.toNat = 9 then s.scanners.headD 24 else n; id.toNat ≤ 9 ∧ n < s.calCount id.toNat ∧
   s.calPre id.toNat first = true ∧ s.calBusy id.toNat first = true))) ∧ (let s : State := calDue;
   s.aonOn = true ∧ s.on .eng = true ∧ s.shaped = true ∧ (let id : Fin 10 := 5; id ≠ 9 ∧
   (s.calCh id).run = none ∧ (s.calCh id).pending = none ∧ (s.calRec id).outcome ≠ 0 ∧
   fld (s.calInt id) 0 16 ≠ 0 ∧
   (s.calRec id).time.toNat + fld (s.calInt id) 0 16 * 60 * 10 ^ 9 ≤ s.time.now.toNat ∧
   ((id = 0 → s.calOn 9 (s.calRec id).inst = false)) ∧ (let inst := (s.calRec id).inst;
   s.calPre id inst = true ∧ s.calBusy id inst = false))) ∧ (let s : State := calDueOn; s.aonOn = true ∧
   s.on .eng = true ∧ s.shaped = true ∧ (let id : Fin 10 := 5; id ≠ 9 ∧ (s.calCh id).run = none ∧
   (s.calCh id).pending = none ∧ (s.calRec id).outcome ≠ 0 ∧ fld (s.calInt id) 0 16 ≠ 0 ∧
   (s.calRec id).time.toNat + fld (s.calInt id) 0 16 * 60 * 10 ^ 9 ≤ s.time.now.toNat ∧
   ((id = 0 → s.calOn 9 (s.calRec id).inst = false)) ∧ (let inst := (s.calRec id).inst;
   (s.calPre id inst = false ∨ s.calBusy id inst = true)))) ∧ (let s : State := cal9Due; s.aonOn = true ∧
   s.on .eng = true ∧ s.shaped = true ∧ (let k := 2; let rest := []; (s.calCh 9).run = none ∧
   (s.calRec 9).outcome ≠ 0 ∧ fld (s.calInt 9) 0 16 ≠ 0 ∧
   (s.calRec 9).time.toNat + fld (s.calInt 9) 0 16 * 60 * 10 ^ 9 ≤ s.time.now.toNat ∧ s.scanners = k :: rest ∧
   s.calRuns 0 k = false ∧ s.calPre 9 k = true ∧ s.calBusy 9 k = false)) ∧ (let s : State := calPast;
   s.aonOn = true ∧ s.on .eng = true ∧ s.shaped = true ∧ (let id : Fin 10 := 5;
   s.time.now.toNat < (s.calRec id).time.toNat + fld (s.calInt id) 0 16 * 60 * 10 ^ 9)) ∧
   (let s : State := calPend5On; s.aonOn = true ∧ s.on .eng = true ∧ s.shaped = true ∧ (let id : Fin 10 := 5;
   let inst : Nat := 5; let trig : Nat := 2; (s.calCh id).pending = some (inst, trig) ∧ trig ≠ 3 ∧
   (s.calPre id inst = false ∨ s.calBusy id inst = true))) ∧ (let s : State := calPend5; s.aonOn = true ∧
   s.on .eng = true ∧ s.shaped = true ∧ (let id : Fin 10 := 5; (let inst : Nat := 5; let trig : Nat := 2;
   (s.calCh id).pending = some (inst, trig) ∧ trig ≠ 3 ∧ s.calPre id inst = true ∧ s.calBusy id inst = false) ∧
   ((s.calCh id).pending.isSome = true ∧ fld (s.calInt id) 16 16 ≠ 0))) ∧ (let id : Fin 10 := 5;
   let l : List (List Int) := [[101, 100]];
   let r : CalRun := ({ inst := 5, trig := 0, tap := false, made := 0, last := [] } : CalRun);
   let s : State := calRun5a; s.aonOn = true ∧ s.on .eng = true ∧ s.shaped = true ∧ id ≠ 8 ∧
   (s.calCh id).run = some r ∧ r.accepted = none ∧ (s.calCh id).turn = [] ∧ (let m := s.calMeasured id r l;
   let tol := fld (s.calCfg id) 12 12;
   let agree : Bool := (decide (0 < r.made) && (List.range m.length).all fun i => decide ((nth 0 m i - nth 0 r.last i).natAbs ≤ tol));
   agree = false ∧ r.made + 1 < fld (s.calCfg id) 24 3)) ∧ (let id : Fin 10 := 5;
   let l : List (List Int) := [[109]];
   let r : CalRun := ({ inst := 5, trig := 0, tap := false, made := 2, last := [100] } : CalRun);
   let s : State := calRun5c; s.aonOn = true ∧ s.on .eng = true ∧ s.shaped = true ∧ id ≠ 8 ∧
   (s.calCh id).run = some r ∧ r.accepted = none ∧ (s.calCh id).turn = [] ∧ (let m := s.calMeasured id r l;
   let tol := fld (s.calCfg id) 12 12;
   let agree : Bool := (decide (0 < r.made) && (List.range m.length).all fun i => decide ((nth 0 m i - nth 0 r.last i).natAbs ≤ tol));
   agree = false ∧ fld (s.calCfg id) 24 3 ≤ r.made + 1)) ∧ (let id : Fin 10 := 5;
   let l : List (List Int) := [[108]];
   let r : CalRun := ({ inst := 5, trig := 0, tap := false, made := 1, last := [100] } : CalRun);
   let s : State := calRun5b; s.aonOn = true ∧ s.on .eng = true ∧ s.shaped = true ∧ id ≠ 8 ∧
   (s.calCh id).run = some r ∧ r.accepted = none ∧ (s.calCh id).turn = [] ∧ (let m := s.calMeasured id r l;
   let tol := fld (s.calCfg id) 12 12;
   let agree : Bool := (decide (0 < r.made) && (List.range m.length).all fun i => decide ((nth 0 m i - nth 0 r.last i).natAbs ≤ tol));
   agree = true ∧ id = 5)) ∧ (let id : Fin 10 := 3; let l : List (List Int) := [[5]]; let rb : Bool := true;
   let r : CalRun := ({ inst := 0, trig := 0, tap := false, made := 1, last := [4] } : CalRun);
   let s : State := calRun3; s.aonOn = true ∧ s.on .eng = true ∧ s.shaped = true ∧ id ≠ 8 ∧
   (s.calCh id).run = some r ∧ r.accepted = none ∧ (s.calCh id).turn = [] ∧ (let m := s.calMeasured id r l;
   let tol := fld (s.calCfg id) 12 12;
   let agree : Bool := (decide (0 < r.made) && (List.range m.length).all fun i => decide ((nth 0 m i - nth 0 r.last i).natAbs ≤ tol));
   let c := (List.range m.length).map fun i => (nth 0 m i + nth 0 r.last i).tdiv 2; agree = true ∧ id = 3 ∧
   r.tap = false ∧ rb = true ∧ trimsFit false c = true)) ∧ (let id : Fin 10 := 6;
   let l : List (List Int) := [[5]]; let rb : Bool := true;
   let r : CalRun := ({ inst := 0, trig := 0, tap := false, made := 1, last := [4] } : CalRun);
   let s : State := calRun6; s.aonOn = true ∧ s.on .eng = true ∧ s.shaped = true ∧ id ≠ 8 ∧
   (s.calCh id).run = some r ∧ r.accepted = none ∧ (s.calCh id).turn = [] ∧ (let m := s.calMeasured id r l;
   let tol := fld (s.calCfg id) 12 12;
   let agree : Bool := (decide (0 < r.made) && (List.range m.length).all fun i => decide ((nth 0 m i - nth 0 r.last i).natAbs ≤ tol));
   let c := (List.range m.length).map fun i => (nth 0 m i + nth 0 r.last i).tdiv 2; agree = true ∧
   (id = 4 ∨ ((id = 1 ∨ id = 6 ∨ id = 7) ∧ r.tap = false ∧ rb = true ∧ trimsFit false c = true)))) ∧
   (let id : Fin 10 := 6; let l : List (List Int) := [[5]]; let rb : Bool := false;
   let r : CalRun := ({ inst := 0, trig := 0, tap := false, made := 1, last := [4] } : CalRun);
   let s : State := calRun6; s.aonOn = true ∧ s.on .eng = true ∧ s.shaped = true ∧ id ≠ 8 ∧
   (s.calCh id).run = some r ∧ r.accepted = none ∧ (s.calCh id).turn = [] ∧ (let m := s.calMeasured id r l;
   let tol := fld (s.calCfg id) 12 12;
   let agree : Bool := (decide (0 < r.made) && (List.range m.length).all fun i => decide ((nth 0 m i - nth 0 r.last i).natAbs ≤ tol));
   let c := (List.range m.length).map fun i => (nth 0 m i + nth 0 r.last i).tdiv 2; agree = true ∧
   ((id = 1 ∨ id = 2 ∨ id = 3 ∨ id = 6 ∨ id = 7)) ∧ r.tap = false ∧ (rb = false ∨ trimsFit false c = false))) ∧
   (let id : Fin 10 := 6; let ms : List Int := [3];
   let r : CalRun := ({ inst := 0, trig := 0, tap := false, accepted := some [3] } : CalRun);
   let s : State := calAcc6; s.aonOn = true ∧ s.on .eng = true ∧ s.shaped = true ∧ (s.calCh id).run = some r ∧
   r.accepted = some ms ∧ (s.calCh id).turn = []) ∧ (let id : Fin 10 := 9; let s : State := up; s.aonOn = true ∧
   (s.calCh id).run = none) ∧ (let s : State := printing; s.aonOn = true ∧ s.on .eng = true ∧
   s.served .service = true ∧ s.mayWrite .test = false) := by
  refine ⟨?_, ?_, ?_, ?_, ?_, ?_, ?_, ?_, ?_, ?_, ?_, ?_, ?_, ?_, ?_, ?_, ?_, ?_⟩ <;> decide +kernel

/-- The hypotheses of `Obligations.SourcesAreRaisedAndCleared` are met. -/
theorem witness_SourcesAreRaisedAndCleared :
  (let n : Nat := 255; let s : State := up; (reservedSource n = true ∨ s.busySrc n = true)) ∧
   (let n : Nat := 254; let s : State := up; reservedSource n = false ∧ s.busySrc n = false) ∧
   (let n : Nat := 0; let s : State := up; reservedSource n = false ∧ s.busySrc n = false) ∧ (let n : Nat := 9;
   let s : State := grave9; reservedSource n = false ∧ s.busySrc n = false ∧
   ((bitOf (s.reaction n) 4 = true ∨ bitOf (s.reaction n) 7 = true)) ∧ bitOf (s.reaction n) 7 = true) ∧
   (let n : Nat := 9; let s : State := policy9; reservedSource n = false ∧ s.busySrc n = false ∧
   bitOf (s.reaction n) 6 = true ∧ s.cannotSafe = false) ∧ (let n : Nat := 10; let s : State := busy9;
   reservedSource n = false ∧ s.busySrc n = false ∧ (let j := 9; s.statusSrc j = true)) ∧ (let n : Fin 256 := 9;
   let s : State := up; s.aonOn = true ∧ s.served .service = true ∧ s.mayWrite .test = true ∧
   s.on (evBank n).dom = true ∧ reservedSource n = false ∧ s.busySrc n = false) ∧ (let s : State := printing;
   s.aonOn = true ∧ s.served .service = true ∧ s.mayWrite .test = false) ∧ (let v : Word := 2#32;
   let s : State := up; s.aonOn = true ∧ s.served .service = true ∧ v.toNat ≠ 1) ∧ (let k : Fin 256 := 0;
   let b : EvBank := (⟨0, 8, 0x0000C0, .aon⟩ : EvBank); let s : State := printing; s.aonOn = true ∧
   evBanks[k.val]? = some b ∧ s.badReason (b.stat + 8) 0xF#4 true = 0 ∧ s.mayWrite .test = false) ∧
   (let k : Fin 256 := 0; let b : EvBank := (⟨0, 8, 0x0000C0, .aon⟩ : EvBank); let s : State := up;
   s.aonOn = true ∧ evBanks[k.val]? = some b ∧ s.badReason (b.stat + 8) 0xF#4 true = 0 ∧
   s.mayWrite .test = true) ∧ (let k : Fin 24 := 0; let b : EvBank := (⟨0, 8, 0x0000C0, .aon⟩ : EvBank);
   let s : State := busy9; s.aonOn = true ∧ evBanks[k.val]? = some b ∧ s.badReason b.stat 0xF#4 true = 0) ∧
   (let s : State := up; s.aonOn = true ∧ s.errDriven = false) ∧ (let s : State := errStays; s.aonOn = true ∧
   s.errDriven = true ∧ s.evt.errLow = true) := by
  refine ⟨?_, ?_, ?_, ?_, ?_, ?_, ?_, ?_, ?_, ?_, ?_, ?_, ?_, ?_⟩ <;> decide +kernel

/-- The hypotheses of `Obligations.ResetsAndTheRecord` are met. -/
theorem witness_ResetsAndTheRecord :
  (let src : Fin 256 := 48; let s : State := resetting48; s.aonOn = true ∧ 48 ≤ src.val ∧ src.val < 80 ∧
   s.on .img = true ∧ s.evt.blockResets.contains src.val = true ∧ s.shaped = true) ∧ (let src : Fin 256 := 48;
   let s : State := up; s.aonOn = true ∧ s.evt.blockResets.contains src.val = false) ∧ (let s : State := up;
   s.aonOn = true ∧ s.evt.chipReset = none ∧ (s.served .service = true ∧ s.sys.mode = .service ∧
   s.sys.transit = false)) ∧ (let src : Nat := 9; let s : State := resetHeld; s.aonOn = true ∧
   s.evt.chipReset = some src ∧ s.resetEntryDue src = true) ∧ (let src : Nat := 9; let s : State := resetDue;
   s.aonOn = true ∧ s.evt.chipReset = some src ∧ s.resetEntryDue src = false ∧ s.pwr.losing = false) ∧
   (let i : GItem := gi; let l : List GItem := []; let s : State := gQueued; s.aonOn = true ∧
   s.evt.linkFault = false ∧ s.evt.queue = i :: l ∧ s.evt.waiting = [] ∧ i.prot = false ∧ i.react = false ∧
   i.retried = false) ∧ (let i : GItem := { gi with retried := true }; let l : List GItem := [];
   let s : State := gRetried; s.aonOn = true ∧ s.evt.linkFault = false ∧ s.evt.queue = i :: l ∧
   s.evt.waiting = [] ∧ i.prot = false ∧ i.react = false ∧ i.retried = true) ∧ (let s : State := gLink;
   s.aonOn = true ∧ s.evt.linkFault = true ∧ (let i : GItem := gi; let l : List GItem := [];
   s.evt.linkFault = true ∧ s.evt.queue = i :: l ∧ s.evt.waiting = [] ∧ i.prot = false ∧ i.react = false)) ∧
   (let s : State := printing; s.aonOn = true ∧ s.served .service = true ∧ s.sys.mode ≠ .service) ∧
   (let b : List Byte := []; let s : State := up; s.aonOn = true ∧ s.served .service = true ∧
   s.mayWrite .mgmt = true ∧ b.length ≠ 40) ∧ (let s : State := sv .standby; s.aonOn = true ∧
   s.served .service = true ∧ s.mayWrite .mgmt = false) ∧ (let b : List Byte := List.replicate 40 0;
   let s : State := up; s.aonOn = true ∧ s.served .service = true ∧ s.mayWrite .mgmt = true ∧ b.length = 40 ∧
   s.evt.queue.length < 224) := by
  refine ⟨?_, ?_, ?_, ?_, ?_, ?_, ?_, ?_, ?_, ?_, ?_, ?_⟩ <;> decide +kernel

/-- The hypotheses of `Obligations.DomainsAndRailsAreSequenced` are met. -/
theorem witness_DomainsAndRailsAreSequenced :
  (let s : State := up; s.aonOn = true ∧ s.pwr.pmbTries < 2) ∧ (let s : State := toStandby; s.aonOn = true ∧
   (let st : Fin 4 := 0; st ≠ 3 ∧ s.sys.transit = true)) ∧ (let d : Fin 8 := 7; let s : State := printing;
   s.aonOn = true ∧ (let st : Fin 4 := 0; st ≠ 3 ∧ s.sys.transit = false ∧
   ((∀ k < 8, s.dom (Dom.ofCode k) ≠ .transit)) ∧ (s.sys.mode ≠ .service ∨ d.val ≤ 2))) ∧ (let d : Fin 8 := 7;
   let s : State := domOff; s.aonOn = true ∧ s.sys.transit = false ∧
   ((∀ k < 8, s.dom (Dom.ofCode k) ≠ .transit)) ∧ s.sys.mode = .service ∧ 2 < d.val ∧
   (s.dom (Dom.ofCode d) = .off ∧ ((∀ x ∈ (Dom.ofCode d).needs, s.on x = true))) ∧
   (((∀ x ∈ domOrder, s.on x = true → Dom.ofCode d ∉ x.needs)) ∧ s.dom (Dom.ofCode d) = .off)) ∧
   (let d : Fin 8 := 7; let s : State := pixOff; s.aonOn = true ∧ s.sys.transit = false ∧
   ((∀ k < 8, s.dom (Dom.ofCode k) ≠ .transit)) ∧ s.sys.mode = .service ∧ 2 < d.val ∧
   s.dom (Dom.ofCode d) = .off ∧ ((∃ x ∈ (Dom.ofCode d).needs, s.on x = false))) ∧ (let d : Fin 8 := 7;
   let s : State := up; s.aonOn = true ∧ s.sys.transit = false ∧ ((∀ k < 8, s.dom (Dom.ofCode k) ≠ .transit)) ∧
   s.sys.mode = .service ∧ 2 < d.val ∧ ((∀ x ∈ domOrder, s.on x = true → Dom.ofCode d ∉ x.needs)) ∧
   s.dom (Dom.ofCode d) = .on) ∧ (let d : Fin 8 := 6; let s : State := up; s.aonOn = true ∧
   s.sys.transit = false ∧ ((∀ k < 8, s.dom (Dom.ofCode k) ≠ .transit)) ∧ s.sys.mode = .service ∧ 2 < d.val ∧
   ((∃ x ∈ domOrder, s.on x = true ∧ Dom.ofCode d ∈ x.needs))) ∧ (let d : Dom := .pix; let goal : DState := .on;
   let rest : List SeqTask := []; let s : State := step0; s.aonOn = true ∧ d ≠ .aon ∧ s.shaped = true ∧
   s.pwr.seq = .dom d goal :: rest ∧ s.dom d = .transit ∧ (s.pwr.seqStep < 3 ∧ s.sys.latched = none) ∧
   (goal = .on ∧ s.pwr.seqFor = .request)) ∧ (let d : Dom := .pix; let goal : DState := .on;
   let rest : List SeqTask := []; let s : State := step3; s.aonOn = true ∧ d ≠ .aon ∧ s.shaped = true ∧
   s.pwr.seq = .dom d goal :: rest ∧ s.dom d = .transit ∧ 3 ≤ s.pwr.seqStep) ∧ (let d : Dom := .pix;
   let goal : DState := .off; let rest : List SeqTask := []; let s : State := stepOff; s.aonOn = true ∧
   d ≠ .aon ∧ s.shaped = true ∧ s.pwr.seq = .dom d goal :: rest ∧ s.dom d = .transit ∧ goal ≠ .on ∧
   ((goal = .ret → s.sys.target ≠ .standby))) ∧ (let k : Fin 16 := 2; let rest : List SeqTask := [];
   let s : State := railStart; s.aonOn = true ∧ s.shaped = true ∧ s.pwr.seq = .up k :: rest ∧
   s.pwr.slotActive = false ∧ s.monitor k = false ∧ s.pwr.afterOff = none) ∧ (let k : Fin 16 := 2;
   let rest : List SeqTask := []; let s : State := railRuns; s.aonOn = true ∧ s.shaped = true ∧
   s.pwr.seq = .up k :: rest ∧ s.pwr.slotActive = true ∧ s.slotLevel k ≠ 0 ∧
   (s.slot k).restarts + 1 ≤ s.restartMax k ∧ (s.sys.target ≠ .safe ∧ s.sys.latched = none)) ∧
   (let k : Fin 16 := 2; let rest : List SeqTask := []; let s : State := railTired; s.aonOn = true ∧
   s.shaped = true ∧ s.pwr.seq = .up k :: rest ∧ s.pwr.slotActive = true ∧ s.sys.target ≠ .safe ∧
   s.sys.latched = none ∧ s.restartMax k < (s.slot k).restarts + 1) ∧ (let k : Fin 16 := 2;
   let rest : List SeqTask := []; let s : State := railBadBus; s.aonOn = true ∧ s.shaped = true ∧
   s.pwr.seq = .up k :: rest ∧ s.pwr.slotActive = true ∧ s.sys.target ≠ .safe ∧ s.sys.latched = none ∧
   s.pwr.pmbTries = 2) ∧ (let k : Fin 16 := 2; let rest : List SeqTask := []; let s : State := railDown;
   s.aonOn = true ∧ s.shaped = true ∧ s.pwr.seq = .down k :: rest ∧ s.pwr.slotActive = true) ∧
   (let k : Fin 16 := 2; let s : State := railGood; s.aonOn = true ∧ s.pwr.seq = [] ∧
   (s.slot k).qualified = true ∧ s.monitor k = false) ∧ (let s : State := pmbTwice; s.aonOn = true ∧
   s.pwr.pmbTries = 2 ∧ s.pwr.seq = []) := by
  refine ⟨?_, ?_, ?_, ?_, ?_, ?_, ?_, ?_, ?_, ?_, ?_, ?_, ?_, ?_, ?_, ?_, ?_⟩ <;> decide +kernel

/-- The hypotheses of `Obligations.PowerLossTakesEverythingDown` are met. -/
theorem witness_PowerLossTakesEverythingDown :
  (let k : Fin 16 := 15; let s : State := up; s.aonOn = true ∧ s.monitor k = false) ∧ (let k : Fin 16 := 2;
   let s : State := monitored; s.aonOn = true ∧ s.monitor k = true ∧ s.slotLevel k ≠ 0 ∧ s.pwr.losing = false) ∧
   (let s : State := up; s.aonOn = true ∧ s.pwr.losing = false ∧ s.pwr.afterOff = none) ∧
   (let s : State := losingSlot; s.aonOn = true ∧ s.pwr.losing = true ∧ s.shaped = true ∧ (let k := 2;
   s.lossSlot = some k)) ∧ (let s : State := losingNow; s.aonOn = true ∧ s.pwr.losing = true ∧ s.shaped = true ∧
   s.lossSlot = none ∧ s.pwr.resetIn = false ∧ s.pwr.chipReset = false) ∧ (let k : Fin 4 := 3;
   let s : State := rstoRuns; s.aonOn = true ∧ s.rstoUpdate = s ∧ nth false s.pwr.rstoStretch k = true) ∧
   (let k : Fin 4 := 3; let s : State := railStart; s.aonOn = true ∧ s.rstoUpdate = s ∧
   nth false s.pwr.rstoStretch k = false) ∧ (let s : State := retryDue; s.aonOn = true ∧
   s.pwr.afterOff = some .retry) ∧ (let s : State := restoredDue; s.aonOn = true ∧
   s.pwr.afterOff = some .restored ∧ s.sys.mode = .off ∧ s.sys.transit = false ∧ s.pwr.losing = false) := by
  refine ⟨?_, ?_, ?_, ?_, ?_, ?_, ?_, ?_, ?_⟩ <;> decide +kernel

/-- The hypotheses of `Obligations.TemperaturesAreWatched` are met. -/
theorem witness_TemperaturesAreWatched :
  (let s : State := up; s.aonOn = true ∧ s.shaped = true ∧ (s.served .service = true ∧
   s.mayWrite .shadow = true)) ∧ (let s : State := safeGoing; s.aonOn = true ∧ s.served .service = true ∧
   s.mayWrite .shadow = false) := by
  refine ⟨?_, ?_⟩ <;> decide +kernel

/-- The hypotheses of `Obligations.StartsGoStepByStep` are met. -/
theorem witness_StartsGoStepByStep :
  (let n : Fin 16 := 15; let s : State := up; s.aonOn = true ∧ s.boot.serviceStep = 0 ∧
   s.boot.running.getLsbD n = false) ∧ (let n : Fin 16 := 15; let ok : Bool := false; let s : State := boot15;
   s.aonOn = true ∧ n.val ≠ 0 ∧ s.boot.serviceStep = n.val ∧ s.stepEnds n ok = some true) ∧
   (let n : Fin 16 := 9; let ok : Bool := true; let s : State := boot9; s.aonOn = true ∧
   s.boot.serviceStep = 0 ∧ s.boot.running.getLsbD n = true ∧ s.stepEnds n ok = none) ∧ (let n : Fin 16 := 9;
   let ok : Bool := true; let s : State := boot9s; s.aonOn = true ∧ n.val ≠ 0 ∧ s.boot.serviceStep = n.val ∧
   s.stepEnds n ok = none) ∧ (let n : Fin 16 := 9; let ok : Bool := false; let s : State := boot9s;
   s.aonOn = true ∧ n.val ≠ 0 ∧ s.boot.serviceStep = n.val ∧ s.stepEnds n ok = some false) ∧
   (let n : Fin 16 := 1; let ok : Bool := true; let s : State := boot1; s.aonOn = true ∧
   s.boot.serviceStep = 0 ∧ 0 < n.val ∧ n.val ≤ s.boot.lastStart.length ∧ s.boot.running.getLsbD n = true ∧
   s.stepEnds n ok = some true) ∧ (let n : Fin 16 := 1; let ok : Bool := false; let s : State := boot1;
   s.aonOn = true ∧ s.boot.serviceStep = 0 ∧ n ∈ [1, 2, 4, 5, 6, 7] ∧ s.boot.running.getLsbD n = true ∧
   s.stepEnds n ok = some false ∧ s.boot.byAlt.getLsbD n = false) ∧ (let n : Fin 16 := 8; let ok : Bool := true;
   let s : State := boot8; s.aonOn = true ∧ s.boot.serviceStep = 0 ∧ n ∈ [1, 2, 4, 8] ∧
   s.boot.running.getLsbD n = true ∧ s.boot.byAlt.getLsbD n = false ∧ s.stepEnds n ok = some true) ∧
   (let n : Fin 16 := 8; let ok : Bool := false; let s : State := boot8; s.aonOn = true ∧
   s.boot.serviceStep = 0 ∧ 8 ≤ n.val ∧ s.boot.running.getLsbD n = true ∧ s.stepEnds n ok = some false) ∧
   (let n : Fin 16 := 2; let ok : Bool := false; let s : State := boot2alt; s.aonOn = true ∧
   s.boot.serviceStep = 0 ∧ n ∈ [1, 2, 4, 5, 6, 7] ∧ s.boot.running.getLsbD n = true ∧
   s.stepEnds n ok = some false ∧ s.boot.byAlt.getLsbD n = true) ∧ (let od : Bool := false;
   let n : BitVec 8 := 8#8; let s : State := up; s.aonOn = true ∧ ((od = true → s.served .service = true)) ∧
   ((od = false → n.toNat < 16)) ∧ (¬ (9 ≤ n.toNat ∧ n.toNat ≤ 13 ∨ n.toNat = 15))) ∧ (let od : Bool := false;
   let n : BitVec 8 := 15#8; let s : State := up; s.aonOn = true ∧ ((od = true → s.served .service = true)) ∧
   ((od = false → n.toNat < 16)) ∧ (9 ≤ n.toNat ∧ n.toNat ≤ 13 ∨ n.toNat = 15) ∧
   (s.sys.mode ≠ .ready ∨ s.sys.transit = true ∨ s.flying ≠ [])) ∧ (let od : Bool := false;
   let n : BitVec 8 := 15#8; let s : State := staOn; s.aonOn = true ∧ ((od = true → s.served .service = true)) ∧
   ((od = false → n.toNat < 16)) ∧ (9 ≤ n.toNat ∧ n.toNat ≤ 13 ∨ n.toNat = 15) ∧ s.mayWrite .setp = true ∧
   s.sys.mode = .ready ∧ s.sys.transit = false ∧ s.flying = [] ∧
   ((n.toNat = 9 → ∀ k ∈ s.waitingSlots, (s.tok k).state ≠ .armed ∨ (s.tok k).plan = [])) ∧ ((10 ≤ n.toNat ∧
   n.toNat ≤ 13 → bitOf (s.lsReg (n.toNat - 10) 0) 31 = true)) ∧ s.boot.serviceStep = 0 ∧ s.boot.running = 0) ∧
   (let od : Bool := false; let n : BitVec 8 := 15#8; let s : State := boot9s; s.aonOn = true ∧
   ((od = true → s.served .service = true)) ∧ ((od = false → n.toNat < 16)) ∧ (9 ≤ n.toNat ∧
   n.toNat ≤ 13 ∨ n.toNat = 15) ∧ s.mayWrite .setp = true ∧ s.sys.mode = .ready ∧ s.sys.transit = false ∧
   s.flying = [] ∧ ((n.toNat = 9 → ∀ k ∈ s.waitingSlots, (s.tok k).state ≠ .armed ∨ (s.tok k).plan = [])) ∧
   ((10 ≤ n.toNat ∧ n.toNat ≤ 13 → bitOf (s.lsReg (n.toNat - 10) 0) 31 = true)) ∧ s.boot.serviceStep ≠ 0) ∧
   (let od : Bool := false; let mask : BitVec 16 := 0x0000#16; let s : State := up; s.aonOn = true ∧
   ((od = true → s.served .service = true)) ∧ s.mayWrite .test = true ∧ mask.toNat % 2 = 0) ∧
   (let od : Bool := false; let s : State := toStandby; s.aonOn = true ∧
   ((od = true → s.served .service = true)) ∧ s.mayWrite .test = false) ∧ (let od : Bool := false;
   let mask : BitVec 16 := 0x0001#16; let s : State := up; s.aonOn = true ∧
   ((od = true → s.served .service = true)) ∧ s.mayWrite .test = true ∧ mask.toNat % 2 = 1) := by
  refine ⟨?_, ?_, ?_, ?_, ?_, ?_, ?_, ?_, ?_, ?_, ?_, ?_, ?_, ?_, ?_, ?_, ?_⟩ <;> decide +kernel

/-- The hypotheses of `Obligations.UpdatesSwitchAndRevert` are met. -/
theorem witness_UpdatesSwitchAndRevert :
  (let s : State := up; s.aonOn = true ∧ (s.served .service = true ∧ s.mayWrite .mgmt = true ∧
   (let n := s.die.img s.spare;
   (n.state ≠ 1 ∨ n.rejected = true ∨ s.pairOut .a = true ∨ s.pairOut .b = true ∨ s.sys.transit = true)) ∧
   s.boot.trial = false) ∧ s.boot.trial = false) ∧ (let s : State := staged; s.aonOn = true ∧
   s.served .service = true ∧ s.mayWrite .mgmt = true ∧ (let n := s.die.img s.spare; n.state = 1 ∧
   n.rejected = false ∧ s.pairOut .a = false ∧ s.pairOut .b = false ∧ s.sys.transit = false ∧
   s.boot.updState ≠ 2 ∧ s.boot.trial = false ∧ n.ckpt = (s.die.img s.die.imgActive).ckpt)) ∧
   (let s : State := stagedReady; s.aonOn = true ∧ s.served .service = true ∧ s.mayWrite .mgmt = true ∧
   (let n := s.die.img s.spare; n.state = 1 ∧ n.rejected = false ∧ s.pairOut .a = false ∧ s.pairOut .b = false ∧
   s.sys.transit = false ∧ s.boot.updState ≠ 2 ∧ s.boot.trial = false ∧
   n.ckpt ≠ (s.die.img s.die.imgActive).ckpt ∧ s.sys.mode ≠ .service)) ∧ (let s : State := stagedCk;
   s.aonOn = true ∧ s.served .service = true ∧ s.mayWrite .mgmt = true ∧ (let n := s.die.img s.spare;
   n.state = 1 ∧ n.rejected = false ∧ s.pairOut .a = false ∧ s.pairOut .b = false ∧ s.sys.transit = false ∧
   s.boot.updState ≠ 2 ∧ s.boot.trial = false ∧ n.ckpt ≠ (s.die.img s.die.imgActive).ckpt ∧
   s.sys.mode = .service)) ∧ (let s : State := trial; s.aonOn = true ∧ s.served .service = true ∧
   s.mayWrite .mgmt = true ∧ s.boot.trial = true ∧ (let i := Instr.confirm;
   i ∈ [Instr.confirm, Instr.trialTimeout]) ∧ (s.die.img 0).ckpt = (s.die.img 1).ckpt) ∧ (let s : State := upd1;
   s.aonOn = true ∧ s.on .mgt = true ∧ s.boot.updState = 2 ∧ s.boot.cold = false ∧ s.boot.updP1 = .b ∧
   s.boot.updStep = 1) ∧ (let s : State := upd2; s.aonOn = true ∧ s.on .mgt = true ∧ s.boot.updState = 2 ∧
   s.boot.cold = false ∧ s.boot.updP1 = .b ∧ s.boot.updStep = 2 ∧ s.sys.pairB = .inReset) ∧
   (let s : State := upd3; s.aonOn = true ∧ s.on .mgt = true ∧ s.boot.updState = 2 ∧ s.boot.cold = false ∧
   s.boot.updP1 = .b ∧ s.boot.updStep = 3) ∧ (let s : State := upd4; s.aonOn = true ∧ s.on .mgt = true ∧
   s.boot.updState = 2 ∧ s.boot.cold = false ∧ s.boot.updP1 = .b ∧ s.boot.updStep = 4 ∧
   s.sys.pairA = .inReset) ∧ (let s : State := upd5; s.aonOn = true ∧ s.on .mgt = true ∧ s.boot.updState = 2 ∧
   s.boot.cold = false ∧ s.boot.updP1 = .b ∧ s.boot.updStep = 5 ∧ s.boot.reverting = false ∧
   s.sys.serviceOn = .b ∧ s.sys.pairB = .active) ∧ (let v : BitVec 8 := 4#8; let s : State := up;
   s.aonOn = true ∧ s.served .service = true ∧ s.mayWrite .mgmt = true ∧ 3 < v.toNat) ∧
   (let v : BitVec 8 := 3#8; let s : State := upd1; s.aonOn = true ∧ s.served .service = true ∧
   s.mayWrite .mgmt = true ∧ v.toNat ≤ 3 ∧ s.boot.updState = 2) ∧ (let v : BitVec 8 := 0x00#8;
   let s : State := aInReset; s.aonOn = true ∧ s.served .service = true ∧ s.mayWrite .mgmt = true ∧
   (let p : Pair := if v.toNat % 2 = 0 then .a else .b; v.toNat ≤ 3 ∧ s.boot.updState ≠ 2 ∧
   s.pairOut p = true)) ∧ (let v : BitVec 8 := 0x01#8; let s : State := up; s.aonOn = true ∧
   s.served .service = true ∧ s.mayWrite .mgmt = true ∧
   (let l : Load := if v.toNat < 2 then .engine else .service;
   let p : Pair := if v.toNat % 2 = 0 then .a else .b; v.toNat ≤ 3 ∧ s.boot.updState ≠ 2 ∧ s.pairOut p = false ∧
   s.carrier l ≠ p)) ∧ (let v : BitVec 8 := 0x01#8; let s : State := handing; s.aonOn = true ∧
   s.served .service = true ∧ s.mayWrite .mgmt = true ∧
   (let l : Load := if v.toNat < 2 then .engine else .service;
   let p : Pair := if v.toNat % 2 = 0 then .a else .b; s.boot.updState ≠ 2 ∧ s.boot.handback = some (l, p) ∧
   s.pairOut p = false)) := by
  refine ⟨?_, ?_, ?_, ?_, ?_, ?_, ?_, ?_, ?_, ?_, ?_, ?_, ?_, ?_, ?_⟩ <;> decide +kernel

/-- The hypotheses of `Obligations.QueuesAreWorked` are met. -/
theorem witness_QueuesAreWorked :
  (let s : State := up; s.aonOn = true ∧ s.on .mgt = true ∧ (let i : Fin 16 := 3;
   (let cfg : Word := 0x60010000#32; s.shaped = true ∧ (s.qp i).active = false ∧ fld cfg 29 2 = 3) ∧
   (let cfg : Word := 0x00010000#32; s.shaped = true ∧ (s.qp i).active = false ∧ fld cfg 29 2 ≠ 3 ∧
   1 ≤ fld cfg 16 12 ∧ (s.reg (0xA01000 + 0x40 * i)).toNat % 4096 = 0 ∧
   (s.reg (0xA01008 + 0x40 * i)).toNat % 4096 = 0) ∧ (let cfg : Word := 0#32; s.shaped = true ∧
   (s.qp i).active = false ∧ fld cfg 29 2 ≠ 3 ∧ fld cfg 16 12 = 0)) ∧ (let e : Fin 4 := 2;
   let cfg : Word := 0x00010000#32; s.shaped = true ∧ (let x : EvQueue := nth {} s.hq.evqs e;
   let i : Fin 16 := 2; i.val = e.val ∧ x.active = false ∧ 1 ≤ fld cfg 16 12 ∧
   (s.reg (0xA01800 + 0x20 * e)).toNat % 4096 = 0))) ∧ (let s : State := hqQ; s.aonOn = true ∧
   s.on .mgt = true ∧ (let i : Fin 16 := 3; s.shaped = true ∧ (s.qp i).active = true ∧ (s.qp i).inflight = [] ∧
   (s.qp i).due = []) ∧ (let q : Fin 16 := 3; (let v : BitVec 12 := 15#12; s.shaped = true ∧
   (s.qp q).active = true ∧ v.toNat < s.qSize q ∧ (s.qp q).stopping = false) ∧ (let v : BitVec 12 := 16#12;
   s.shaped = true ∧ (s.qp q).active = true ∧ s.qSize q ≤ v.toNat))) ∧ (let s : State := hqQ1; s.aonOn = true ∧
   s.on .mgt = true ∧ (let i : Fin 16 := 3; s.shaped = true ∧ (s.qp i).active = true ∧
   (s.qp i).inflight ≠ [])) ∧ (let s : State := hqStop; s.aonOn = true ∧ s.on .mgt = true ∧
   (let q : Fin 16 := 3; let v : BitVec 12 := 15#12; s.shaped = true ∧ (s.qp q).active = true ∧
   v.toNat < s.qSize q ∧ (s.qp q).stopping = true)) ∧ (let s : State := evqOn; s.aonOn = true ∧
   s.on .mgt = true ∧ (let e : Fin 4 := 2; (s.shaped = true ∧ (let x : EvQueue := nth {} s.hq.evqs e;
   let i : Fin 16 := 2; i.val = e.val ∧ x.active = true)) ∧ (let v : BitVec 12 := 15#12; s.shaped = true ∧
   (let x : EvQueue := nth {} s.hq.evqs e; x.active = true ∧ v.toNat ≤ fld (s.evqCfg e) 16 12)) ∧
   (let v : BitVec 12 := 16#12; s.shaped = true ∧ (let x : EvQueue := nth {} s.hq.evqs e; x.active = true ∧
   fld (s.evqCfg e) 16 12 < v.toNat)))) := by
  refine ⟨?_, ?_, ?_, ?_, ?_⟩ <;> decide +kernel

/-- The hypotheses of `Obligations.PagesAreSubmitted` are met. -/
theorem witness_PagesAreSubmitted :
  (let s : State := up; s.aonOn = true ∧ s.nextQueue = none) ∧ (let s : State := hqQ; s.aonOn = true ∧
   (let q : Nat := 3; s.nextQueue = some q ∧ q < s.hq.qs.length ∧
   (let b : List Byte := List.replicate 64 (0 : Byte) |>.set 0 2; b.length = 64 ∧
   descFits (s.qKind q) b = true) ∧ (let b : List Byte := List.replicate 64 (0 : Byte); b.length = 64 ∧
   descFits (s.qKind q) b = false))) ∧ (let q : Fin 16 := 3; let i : Nat := 0; let d : Desc := subD;
   let s : State := subService; s.aonOn = true ∧ s.CanPost q ∧ s.headOp q 1 = some (i, d) ∧
   s.legalIn pageModes = false) ∧ (let q : Fin 16 := 3; let i : Nat := 0; let d : Desc := subD;
   let s : State := subWait; s.aonOn = true ∧ s.CanPost q ∧ s.headOp q 1 = some (i, d) ∧
   s.legalIn pageModes = true ∧ s.on .pix = true ∧ s.on .mem = true ∧
   (let tb : List (Nat × Nat × List Nat) := [(256, 1, []), (256, 1, [])]; let h := headerOf d.bytes;
   let ent (p : Nat) : Nat × Nat × List Nat := tb.getD p (0, 0, []);
   let used (p : Nat) : Bool := if p = 4 then h.tags && !h.precoded else h.has p; ((∃ p < 5, used p = false ∧
   (ent p).2.1 ≠ 0))) ∧ (let tb : List (Nat × Nat × List Nat) := [(255, 2, [1])]; let h := headerOf d.bytes;
   let ent (p : Nat) : Nat × Nat × List Nat := tb.getD p (0, 0, []);
   let used (p : Nat) : Bool := if p = 4 then h.tags && !h.precoded else h.has p;
   ((∀ p < 5, used p = false → (ent p).2.1 = 0)) ∧ ((∃ p < 5, used p = true ∧
   bufferOk (ent p).2.1 (ent p).1 (ent p).2.2 0 = false))) ∧
   (let tb : List (Nat × Nat × List Nat) := [(256, 1, [])]; let h := headerOf d.bytes;
   let ent (p : Nat) : Nat × Nat × List Nat := tb.getD p (0, 0, []);
   let used (p : Nat) : Bool := if p = 4 then h.tags && !h.precoded else h.has p;
   let lens := (List.range 5).map fun p => if (ent p).2.1 = 0 then 0 else (ent p).1;
   let front := if h.pair = 2 then s.frontOf q else none;
   ((∀ p < 5, if used p then bufferOk (ent p).2.1 (ent p).1 (ent p).2.2 0 else (ent p).2.1 = 0)) ∧ (let k := 0;
   s.freeSlot = some k ∧ s.headerReason h lens front.isSome ≠ 0 ∧ front = none))) ∧ (let q : Fin 16 := 3;
   let i : Nat := 0; let d : Desc := subD; let s : State := subGood; s.aonOn = true ∧ s.CanPost q ∧
   s.headOp q 1 = some (i, d) ∧ s.legalIn pageModes = true ∧ s.on .pix = true ∧ s.on .mem = true ∧
   (let tb : List (Nat × Nat × List Nat) := [(256, 1, [])]; let h := headerOf d.bytes;
   let ent (p : Nat) : Nat × Nat × List Nat := tb.getD p (0, 0, []);
   let used (p : Nat) : Bool := if p = 4 then h.tags && !h.precoded else h.has p;
   let lens := (List.range 5).map fun p => if (ent p).2.1 = 0 then 0 else (ent p).1;
   let front := if h.pair = 2 then s.frontOf q else none;
   ((∀ p < 5, if used p then bufferOk (ent p).2.1 (ent p).1 (ent p).2.2 0 else (ent p).2.1 = 0)) ∧ (let k := 0;
   s.freeSlot = some k ∧ s.headerReason h lens front.isSome = 0))) ∧ (let q : Fin 16 := 3; let i : Nat := 0;
   let d : Desc := canD; let s : State := canNone; s.aonOn = true ∧ s.CanPost q ∧ s.headOp q 2 = some (i, d) ∧
   s.legalIn anyModes = true ∧ ((∀ x ∈ s.pgf.tokens, x.2.isFree = true ∨ x.2.num ≠ leAt d.bytes 4 4))) ∧
   (let q : Fin 16 := 3; let i : Nat := 0; let d : Desc := canD; let s : State := canFly; s.aonOn = true ∧
   s.CanPost q ∧ s.headOp q 2 = some (i, d) ∧ s.legalIn anyModes = true ∧ (let k : Nat := 3;
   let x : Token := ({ num := 7, state := .committed } : Token);
   s.pgf.tokens.find? (fun t => !t.2.isFree && decide (t.2.num = leAt d.bytes 4 4)) = some (k, x) ∧
   (x.waits = false ∨ s.underGate k = true))) ∧ (let q : Fin 16 := 3; let i : Nat := 0; let d : Desc := canD;
   let s : State := canWait; s.aonOn = true ∧ s.CanPost q ∧ s.headOp q 2 = some (i, d) ∧
   s.legalIn anyModes = true ∧ (let k : Nat := 3; let x : Token := ({ num := 7, state := .accepted } : Token);
   s.pgf.tokens.find? (fun t => !t.2.isFree && decide (t.2.num = leAt d.bytes 4 4)) = some (k, x) ∧
   x.waits = true ∧ s.underGate k = false ∧ s.tok k = x ∧ x.partner = none ∧
   (x.reading = false ∨ x.queue ≠ q))) ∧ (let q : Fin 16 := 3; let s : State := reading3w; s.aonOn = true ∧
   (let d : Desc := { subD with phase := 1, token := 3 }; let rest : List Desc := []; let k : Nat := 3;
   s.CanPost q ∧ (s.qp q).inflight = d :: rest ∧ s.readingOn q = some (0, k) ∧ (s.tok k).creditWait ≠ 0)) ∧
   (let q : Fin 16 := 3; let s : State := reading3; s.aonOn = true ∧
   (let d : Desc := { subD with phase := 1, token := 3 }; let rest : List Desc := []; let k : Nat := 3;
   s.CanPost q ∧ (s.qp q).inflight = d :: rest ∧ s.readingOn q = some (0, k) ∧ ((s.tok k).creditWait = 0 ∧
   s.on .mem = true) ∧ ((s.tok k).queue = q ∧ (s.tok k).waits = true ∧ (s.tok k).partner = none))) ∧
   (let q : Fin 16 := 15; let s : State := up; s.aonOn = true ∧ s.readingOn q = none) := by
  refine ⟨?_, ?_, ?_, ?_, ?_, ?_, ?_, ?_, ?_, ?_, ?_⟩ <;> decide +kernel

/-- The hypotheses of `Obligations.BlockCommandsAreCarriedOut` are met. -/
theorem witness_BlockCommandsAreCarriedOut :
  (let write : Bool := false; let q : Fin 16 := 3; let i : Nat := 1; let d : Desc := blk 0x10 1;
   let s : State := rdBehind; s.aonOn = true ∧ s.CanPost q ∧
   s.headOp q (if write then 0x11 else 0x10) = some (i, d) ∧
   ((∃ e ∈ (s.qp q).inflight.take i, e.overlaps d = true))) ∧ (let write : Bool := false; let q : Fin 16 := 3;
   let i : Nat := 0; let d : Desc := blk 0x10 1; let s : State := rdService; s.aonOn = true ∧ s.CanPost q ∧
   s.headOp q (if write then 0x11 else 0x10) = some (i, d) ∧
   ((∀ e ∈ (s.qp q).inflight.take i, e.overlaps d = false)) ∧ s.legalIn pageModes = false) ∧
   (let write : Bool := false; let q : Fin 16 := 3; let i : Nat := 0; let d : Desc := blk 0x10 1;
   let s : State := rdBeyond; s.aonOn = true ∧ s.CanPost q ∧
   s.headOp q (if write then 0x11 else 0x10) = some (i, d) ∧ (let n := leAt d.bytes 4 4;
   let lba := leAt d.bytes 8 8; ((∀ e ∈ (s.qp q).inflight.take i, e.overlaps d = false)) ∧
   s.legalIn pageModes = true ∧ n ≠ 0 ∧ s.hostSectors < lba + n)) ∧ (let write : Bool := false;
   let q : Fin 16 := 3; let i : Nat := 0; let d : Desc := blk 0x10 1; let s : State := rd8; s.aonOn = true ∧
   s.CanPost q ∧ s.headOp q (if write then 0x11 else 0x10) = some (i, d) ∧ (let n := leAt d.bytes 4 4;
   let lba := leAt d.bytes 8 8; ((∀ e ∈ (s.qp q).inflight.take i, e.overlaps d = false)) ∧
   s.legalIn pageModes = true ∧ n ≠ 0 ∧ lba + n ≤ s.hostSectors)) ∧ (let write : Bool := false;
   let q : Fin 16 := 3; let i : Nat := 0; let d : Desc := blk 0x10 1; let l : List Nat := [];
   let s : State := rdOff; s.aonOn = true ∧ s.CanPost q ∧
   s.headOp q (if write then 0x11 else 0x10) = some (i, d) ∧ (let n := leAt d.bytes 4 4;
   let lba := leAt d.bytes 8 8; ((∀ e ∈ (s.qp q).inflight.take i, e.overlaps d = false)) ∧
   s.legalIn pageModes = true ∧ n ≠ 0 ∧ lba + n ≤ s.hostSectors ∧
   bufferOk (leAt d.bytes 28 2) (leAt d.bytes 24 4) l (n * 4096) = true ∧ s.on .dsk = false)) ∧
   (let write : Bool := false; let q : Fin 16 := 3; let i : Nat := 0; let d : Desc := blk 0x10 1;
   let l : List Nat := []; let s : State := rd8; s.aonOn = true ∧ s.CanPost q ∧
   s.headOp q (if write then 0x11 else 0x10) = some (i, d) ∧ (let n := leAt d.bytes 4 4;
   let lba := leAt d.bytes 8 8; ((∀ e ∈ (s.qp q).inflight.take i, e.overlaps d = false)) ∧
   s.legalIn pageModes = true ∧ n ≠ 0 ∧ lba + n ≤ s.hostSectors ∧
   bufferOk (leAt d.bytes 28 2) (leAt d.bytes 24 4) l (n * 4096) = true ∧ s.on .dsk = true)) ∧
   (let write : Bool := false; let q : Fin 16 := 3; let i : Nat := 0; let d : Desc := blk 0x10 0;
   let s : State := rd0; s.aonOn = true ∧ s.CanPost q ∧
   s.headOp q (if write then 0x11 else 0x10) = some (i, d) ∧ (let n := leAt d.bytes 4 4;
   ((∀ e ∈ (s.qp q).inflight.take i, e.overlaps d = false)) ∧ s.legalIn pageModes = true ∧ n = 0)) ∧
   (let write : Bool := false; let q : Fin 16 := 3; let i : Nat := 0; let d : Desc := blk 0x10 2;
   let l : List Nat := []; let s : State := rdTwo; s.aonOn = true ∧ s.CanPost q ∧
   s.headOp q (if write then 0x11 else 0x10) = some (i, d) ∧ (let n := leAt d.bytes 4 4;
   let lba := leAt d.bytes 8 8; ((∀ e ∈ (s.qp q).inflight.take i, e.overlaps d = false)) ∧
   s.legalIn pageModes = true ∧ n ≠ 0 ∧ lba + n ≤ s.hostSectors ∧
   bufferOk (leAt d.bytes 28 2) (leAt d.bytes 24 4) l (n * 4096) = false)) ∧ (let q : Fin 16 := 3;
   let i : Nat := 0; let d : Desc := rj 1 1 128;
   let r : JRec := ({ seq := 1, bytes := List.replicate 128 3 } : JRec); let l : List Nat := [];
   let s : State := rjOne; s.aonOn = true ∧ s.CanPost q ∧ s.headOp q 0x20 = some (i, d) ∧
   s.legalIn anyModes = true ∧ leAt d.bytes 4 4 = 1 ∧ leAt d.bytes 8 8 = r.seq ∧ s.jrn.pool = [r] ∧
   s.jrn.oldest ≤ r.seq ∧ r.seq < s.jrn.next ∧ bufferOk (leAt d.bytes 28 2) (leAt d.bytes 24 4) l 128 = true) ∧
   (let q : Fin 16 := 3; let s : State := rdRuns; s.aonOn = true ∧ s.on .mgt = true ∧
   (((∀ e ∈ (s.qp q).inflight, e.phase ≠ 2))) ∧ (let pre : List Desc := []; let rest : List Desc := [];
   let d : Desc := { blk 0x10 1 with phase := 1 }; s.CanPost q ∧ (s.qp q).inflight = pre ++ d :: rest ∧
   ((∀ e ∈ pre, e.phase = 0)) ∧ 1 ≤ d.phase ∧ (d.op = 0x10 ∨ d.op = 0x11))) ∧ (let q : Fin 16 := 3;
   let s : State := rdDone2; s.aonOn = true ∧ s.on .mgt = true ∧
   (let pre : List Desc := [{ blk 0x10 1 with phase := 1 }]; let rest : List Desc := [];
   let d : Desc := { blk 0x10 1 with phase := 2, done := 1 }; s.CanPost q ∧
   (s.qp q).inflight = pre ++ d :: rest ∧ ((∀ e ∈ pre, e.phase ≠ 2)) ∧ d.phase = 2)) ∧
   (let r : JRec := ({ seq := 1, bytes := List.replicate 128 3 } : JRec); let s : State := jrnOne;
   s.aonOn = true ∧ s.on .dsk = true ∧ s.on .mem = true ∧ s.diskReady = true ∧ s.rch.cur = none ∧
   s.rch.plans = [] ∧ s.srv.winh = 0 ∧ s.rch.paFault = false ∧ s.rch.paCur = none ∧ s.rch.paDue = [] ∧
   s.rch.fhCal = none ∧ s.rch.heatWrite = true ∧ s.leadOver = true ∧ s.jrn.pool = [r] ∧
   r.seq < s.jrn.acked + s.jrn.cap ∧ 0 < s.jrn.cap) := by
  refine ⟨?_, ?_, ?_, ?_, ?_, ?_, ?_, ?_, ?_, ?_, ?_, ?_⟩ <;> decide +kernel

/-- The hypotheses of `Obligations.TheEndpointBehaves` are met. -/
theorem witness_TheEndpointBehaves :
  (let s : State := up; s.aonOn = true ∧ s.on .mgt = true ∧ (let up : Bool := true; s.hq.linkUp ≠ up) ∧
   s.nextQueue = none) ∧ (let s : State := b2; s.aonOn = true ∧ s.on .mgt = true ∧ (let off : BitVec 32 := 0#32;
   (let n : Nat := 8; n ≤ 4096 ∧ (let a := 65536 * s.hq.b2Base + off.toNat; let good := (s.on .mem = true ∧
   ∀ i < n, (a + i) / 65536 < s.shf.total ∧ s.heldBy ((a + i) / 65536) 6 = true); good)) ∧ (let n : Nat := 2;
   n ≤ 4096 ∧ (let a := 65536 * s.hq.b2Base + off.toNat; let good := (s.on .mem = true ∧
   ∀ i < n, (a + i) / 65536 < s.shf.total ∧ s.heldBy ((a + i) / 65536) 6 = true); good ∧
   Memory.wf s.dram = true ∧ (let l : List (Option Byte) := [some 7, none]; l.length = n)))) ∧
   (let off : BitVec 32 := 65535#32; let n : Nat := 2; n ≤ 4096 ∧ (let a := 65536 * s.hq.b2Base + off.toNat;
   let good := (s.on .mem = true ∧ ∀ i < n, (a + i) / 65536 < s.shf.total ∧
   s.heldBy ((a + i) / 65536) 6 = true); (¬ good)))) ∧ (let s : State := hqQ; s.aonOn = true ∧
   s.on .mgt = true ∧ (let k : Nat := 3; s.nextQueue = some k ∧ k < s.hq.qs.length)) := by
  refine ⟨?_, ?_, ?_⟩ <;> decide +kernel

/-- The hypotheses of `Obligations.TheJournalIsKept` are met. -/
theorem witness_TheJournalIsKept :
  (let q : Fin 16 := 3; let i : Nat := 0; let d : Desc := rj 0 0 0; let s : State := rj0; s.aonOn = true ∧
   s.CanPost q ∧ s.headOp q 0x20 = some (i, d) ∧ s.legalIn anyModes = true ∧ (let n := leAt d.bytes 4 4;
   n = 0)) ∧ (let q : Fin 16 := 3; let i : Nat := 0; let d : Desc := rj 2 2 256; let s : State := rjLong;
   s.aonOn = true ∧ s.CanPost q ∧ s.headOp q 0x20 = some (i, d) ∧ s.legalIn anyModes = true ∧
   (let n := leAt d.bytes 4 4; let first := leAt d.bytes 8 8; n ≠ 0 ∧ s.jrn.next < first + n)) ∧
   (let q : Fin 16 := 3; let i : Nat := 0; let d : Desc := rj 1 0 128; let s : State := rjOld; s.aonOn = true ∧
   s.CanPost q ∧ s.headOp q 0x20 = some (i, d) ∧ s.legalIn anyModes = true ∧ (let n := leAt d.bytes 4 4;
   let first := leAt d.bytes 8 8;
   let fits (l : List Nat) := bufferOk (leAt d.bytes 28 2) (leAt d.bytes 24 4) l (n * 128) = true; n ≠ 0 ∧
   first + n ≤ s.jrn.next ∧ first < s.jrn.oldest ∧ (let l := ([] : List Nat); fits l))) ∧ (let q : Fin 16 := 3;
   let i : Nat := 0; let d : Desc := rj 2 1 256; let s : State := rjGood; s.aonOn = true ∧ s.CanPost q ∧
   s.headOp q 0x20 = some (i, d) ∧ s.legalIn anyModes = true ∧ (let n := leAt d.bytes 4 4;
   let first := leAt d.bytes 8 8; (n ≠ 0 ∧ first + n ≤ s.jrn.next) ∧
   (let fits (l : List Nat) := bufferOk (leAt d.bytes 28 2) (leAt d.bytes 24 4) l (n * 128) = true;
   let here := (n ≤ s.jrn.pool.length ∧ ∀ k < n, ∃ r ∈ s.jrn.pool, r.seq = first + k); n ≠ 0 ∧
   first + n ≤ s.jrn.next ∧ s.jrn.oldest ≤ first ∧ (let l := ([] : List Nat); fits l ∧
   (here ∨ (s.on .dsk = true ∧ s.diskReady = true)) ∧
   (let rs : List JRec := [{ seq := 1, bytes := List.replicate 128 0 }, { seq := 2, bytes := List.replicate 128 0 }];
   rs.map (fun r => r.seq) = (List.range n).map (fun k => first + k) ∧
   ((∀ r ∈ rs, (s.jrn.pool ++ s.jrn.medium).find? (fun y => decide (y.seq = r.seq)) = some r))))))) ∧
   (let q : Fin 16 := 3; let i : Nat := 0; let d : Desc := rj 2 1 256; let s : State := rjGone; s.aonOn = true ∧
   s.CanPost q ∧ s.headOp q 0x20 = some (i, d) ∧ s.legalIn anyModes = true ∧ (let n := leAt d.bytes 4 4;
   let first := leAt d.bytes 8 8;
   let fits (l : List Nat) := bufferOk (leAt d.bytes 28 2) (leAt d.bytes 24 4) l (n * 128) = true;
   let here := (n ≤ s.jrn.pool.length ∧ ∀ k < n, ∃ r ∈ s.jrn.pool, r.seq = first + k); n ≠ 0 ∧
   first + n ≤ s.jrn.next ∧ s.jrn.oldest ≤ first ∧ (let l := ([] : List Nat); fits l ∧ (¬ here) ∧
   (s.on .dsk = false ∨ s.diskReady = false)))) ∧ (let q : Fin 16 := 3; let i : Nat := 0;
   let d : Desc := rj 2 1 100; let s : State := rjShort; s.aonOn = true ∧ s.CanPost q ∧
   s.headOp q 0x20 = some (i, d) ∧ s.legalIn anyModes = true ∧ (let n := leAt d.bytes 4 4;
   let first := leAt d.bytes 8 8;
   let fits (l : List Nat) := bufferOk (leAt d.bytes 28 2) (leAt d.bytes 24 4) l (n * 128) = true; n ≠ 0 ∧
   first + n ≤ s.jrn.next ∧ (let l := ([] : List Nat); (¬ fits l)))) ∧ (let q : Fin 16 := 3; let i : Nat := 0;
   let d : Desc := ackD 4; let s : State := ackBad; s.aonOn = true ∧ s.CanPost q ∧
   s.headOp q 0x21 = some (i, d) ∧ s.legalIn anyModes = true ∧ s.jrn.next < leAt d.bytes 8 8) ∧
   (let q : Fin 16 := 3; let i : Nat := 0; let d : Desc := ackD 3; let s : State := ackGood; s.aonOn = true ∧
   s.CanPost q ∧ s.headOp q 0x21 = some (i, d) ∧ s.legalIn anyModes = true ∧ leAt d.bytes 8 8 ≤ s.jrn.next) ∧
   (let v : BitVec 64 := 1#64; let s : State := jrnNone; s.aonOn = true ∧ s.served .service = true ∧
   s.mayWrite .mgmt = true ∧ s.jrn.next < v.toNat) ∧ (let v : BitVec 64 := 1#64; let s : State := rjGood;
   s.aonOn = true ∧ s.served .service = true ∧ s.mayWrite .mgmt = true ∧ v.toNat ≤ s.jrn.acked ∧
   v.toNat ≤ s.jrn.next) ∧ (let v : BitVec 64 := 3#64; let s : State := rjGood; s.aonOn = true ∧
   s.served .service = true ∧ s.mayWrite .mgmt = true ∧ s.jrn.acked < v.toNat ∧ v.toNat ≤ s.jrn.next) ∧
   (let s : State := up; s.aonOn = true ∧ s.jrn.pool = [] ∧
   ((s.srv.winh ≠ 0 ∨ s.rch.paFault = true ∨ s.rch.heatWrite = false ∨ s.rch.cur.isSome = true)) ∧
   (s.served .service = true ∧ s.sys.mode = .service ∧ s.sys.transit = false ∧ s.on .dsk = true ∧
   s.jrn.acked = s.jrn.next)) ∧ (let s : State := jrnDueW; s.aonOn = true ∧ s.on .dsk = true ∧
   s.on .mem = true ∧ s.diskReady = true ∧ s.rch.cur = none ∧ s.rch.plans = [] ∧ s.srv.winh = 0 ∧
   s.rch.paFault = false ∧ s.rch.paCur = none ∧ s.rch.paDue = [] ∧ s.rch.fhCal = none ∧ s.rch.heatWrite = true ∧
   s.leadOver = true ∧ s.jrn.pool ≠ [] ∧ ((∀ r ∈ s.jrn.pool, r.seq < s.jrn.acked + s.jrn.cap))) ∧
   (let s : State := printing; s.aonOn = true ∧ s.served .service = true ∧
   (s.sys.mode ≠ .service ∨ s.on .dsk = false ∨ s.jrn.acked ≠ s.jrn.next)) := by
  refine ⟨?_, ?_, ?_, ?_, ?_, ?_, ?_, ?_, ?_, ?_, ?_, ?_, ?_, ?_⟩ <;> decide +kernel

/-- The hypotheses of `Obligations.DatagramsAreServed` are met. -/
theorem witness_DatagramsAreServed :
  (let p : Fin 2 := (1 : Fin 2); let u : List Byte := pingAnon; let s : State := rated;
   let x : Nat × Instr := (0x12, Instr.zopPing 1 u); s.aonOn = true ∧ s.served .service = true ∧
   s.shaped = true ∧
   x ∈ [(1, Instr.zopRead p u), (2, .zopWrite p u), (3, .zopReadInit p u), (4, .zopReadSeg p u), (5, .zopWriteInit p u), (6, .zopWriteSeg p u), (7, .zopXferAbort p u), (8, .zopAtomic p u), (0x10, .zopOpen p u), (0x11, .zopClose p u), (0x12, .zopPing p u)] ∧
   zopOp u = x.1 ∧ (let port (t : State) : PortCounts := nth {} t.zop.ports p;
   let sec := s.time.now.toNat / 1000000000; let n := if (port s).second = sec then (port s).inSecond else 0;
   let limit := leNat (s.odGet 0x110005 (leBytes 2 2000)); limit ≤ n)) ∧ (let p : Fin 2 := (1 : Fin 2);
   let u : List Byte := pingAnon; let s : State := up; let x : Nat × Instr := (0x12, Instr.zopPing 1 u);
   s.aonOn = true ∧ s.served .service = true ∧ s.shaped = true ∧
   x ∈ [(1, Instr.zopRead p u), (2, .zopWrite p u), (3, .zopReadInit p u), (4, .zopReadSeg p u), (5, .zopWriteInit p u), (6, .zopWriteSeg p u), (7, .zopXferAbort p u), (8, .zopAtomic p u), (0x10, .zopOpen p u), (0x11, .zopClose p u), (0x12, .zopPing p u)] ∧
   zopOp u = x.1 ∧ (let port (t : State) : PortCounts := nth {} t.zop.ports p;
   let sec := s.time.now.toNat / 1000000000; let n := if (port s).second = sec then (port s).inSecond else 0;
   let limit := leNat (s.odGet 0x110005 (leBytes 2 2000)); n < limit ∧ zopFormed u = true ∧
   zopAuth u = false)) ∧ (let p : Fin 2 := (1 : Fin 2); let u : List Byte := (pingAnon.set 0 1);
   let s : State := up; let x : Nat × Instr := (0x12, Instr.zopPing 1 u); s.aonOn = true ∧
   s.served .service = true ∧ s.shaped = true ∧
   x ∈ [(1, Instr.zopRead p u), (2, .zopWrite p u), (3, .zopReadInit p u), (4, .zopReadSeg p u), (5, .zopWriteInit p u), (6, .zopWriteSeg p u), (7, .zopXferAbort p u), (8, .zopAtomic p u), (0x10, .zopOpen p u), (0x11, .zopClose p u), (0x12, .zopPing p u)] ∧
   zopOp u = x.1 ∧ (let port (t : State) : PortCounts := nth {} t.zop.ports p;
   let sec := s.time.now.toNat / 1000000000; let n := if (port s).second = sec then (port s).inSecond else 0;
   let limit := leNat (s.odGet 0x110005 (leBytes 2 2000)); n < limit ∧ zopFormed u = false)) ∧
   (let p : Fin 2 := (1 : Fin 2); let u : List Byte := ping8; let s : State := up;
   let x : Nat × Instr := (0x12, Instr.zopPing 1 u); s.aonOn = true ∧ s.served .service = true ∧
   s.shaped = true ∧
   x ∈ [(1, Instr.zopRead p u), (2, .zopWrite p u), (3, .zopReadInit p u), (4, .zopReadSeg p u), (5, .zopWriteInit p u), (6, .zopWriteSeg p u), (7, .zopXferAbort p u), (8, .zopAtomic p u), (0x10, .zopOpen p u), (0x11, .zopClose p u), (0x12, .zopPing p u)] ∧
   zopOp u = x.1 ∧ (let port (t : State) : PortCounts := nth {} t.zop.ports p;
   let sec := s.time.now.toNat / 1000000000; let n := if (port s).second = sec then (port s).inSecond else 0;
   let limit := leNat (s.odGet 0x110005 (leBytes 2 2000)); n < limit ∧ zopFormed u = true ∧ zopAuth u = true ∧
   ((∀ y ∈ s.zop.sessions, y.id ≠ leAt u 8 4 ∨ u.drop (16 + leAt u 6 2) ≠ hmac256 y.key (u.take (16 + leAt u 6 2)))))) ∧
   (let p : Fin 2 := (1 : Fin 2); let u : List Byte := ping8; let s : State := sessDone;
   let x : Nat × Instr := (0x12, Instr.zopPing 1 u); s.aonOn = true ∧ s.served .service = true ∧
   s.shaped = true ∧
   x ∈ [(1, Instr.zopRead p u), (2, .zopWrite p u), (3, .zopReadInit p u), (4, .zopReadSeg p u), (5, .zopWriteInit p u), (6, .zopWriteSeg p u), (7, .zopXferAbort p u), (8, .zopAtomic p u), (0x10, .zopOpen p u), (0x11, .zopClose p u), (0x12, .zopPing p u)] ∧
   zopOp u = x.1 ∧ (let port (t : State) : PortCounts := nth {} t.zop.ports p;
   let sec := s.time.now.toNat / 1000000000; let n := if (port s).second = sec then (port s).inSecond else 0;
   let limit := leNat (s.odGet 0x110005 (leBytes 2 2000)); let seq := leAt u 12 4; n < limit ∧
   zopFormed u = true ∧ zopAuth u = true ∧ (let y : Session := ssn 8;
   ((∀ z ∈ s.zop.sessions, z.id = y.id → z = y)) ∧ y ∈ s.zop.sessions ∧ y.id = leAt u 8 4 ∧
   u.drop (16 + leAt u 6 2) = hmac256 y.key (u.take (16 + leAt u 6 2)) ∧ seq = y.lastSeq ∧ y.cached ≠ []))) ∧
   (let p : Fin 2 := (1 : Fin 2); let u : List Byte := ping8; let s : State := sessGap;
   let x : Nat × Instr := (0x12, Instr.zopPing 1 u); s.aonOn = true ∧ s.served .service = true ∧
   s.shaped = true ∧
   x ∈ [(1, Instr.zopRead p u), (2, .zopWrite p u), (3, .zopReadInit p u), (4, .zopReadSeg p u), (5, .zopWriteInit p u), (6, .zopWriteSeg p u), (7, .zopXferAbort p u), (8, .zopAtomic p u), (0x10, .zopOpen p u), (0x11, .zopClose p u), (0x12, .zopPing p u)] ∧
   zopOp u = x.1 ∧ (let port (t : State) : PortCounts := nth {} t.zop.ports p;
   let sec := s.time.now.toNat / 1000000000; let n := if (port s).second = sec then (port s).inSecond else 0;
   let limit := leNat (s.odGet 0x110005 (leBytes 2 2000)); let seq := leAt u 12 4; n < limit ∧
   zopFormed u = true ∧ zopAuth u = true ∧ (let y : Session := ssn 5;
   ((∀ z ∈ s.zop.sessions, z.id = y.id → z = y)) ∧ y ∈ s.zop.sessions ∧ y.id = leAt u 8 4 ∧
   u.drop (16 + leAt u 6 2) = hmac256 y.key (u.take (16 + leAt u 6 2)) ∧ seq ≠ y.lastSeq ∧
   seq ≠ y.lastSeq + 1))) ∧ (let p : Fin 2 := (1 : Fin 2); let u : List Byte := ping8; let s : State := inSess;
   let x : Nat × Instr := (0x12, Instr.zopPing 1 u); s.aonOn = true ∧ s.served .service = true ∧
   s.shaped = true ∧
   x ∈ [(1, Instr.zopRead p u), (2, .zopWrite p u), (3, .zopReadInit p u), (4, .zopReadSeg p u), (5, .zopWriteInit p u), (6, .zopWriteSeg p u), (7, .zopXferAbort p u), (8, .zopAtomic p u), (0x10, .zopOpen p u), (0x11, .zopClose p u), (0x12, .zopPing p u)] ∧
   zopOp u = x.1 ∧ (let port (t : State) : PortCounts := nth {} t.zop.ports p;
   let sec := s.time.now.toNat / 1000000000; let n := if (port s).second = sec then (port s).inSecond else 0;
   let limit := leNat (s.odGet 0x110005 (leBytes 2 2000)); let seq := leAt u 12 4; n < limit ∧
   zopFormed u = true ∧ zopAuth u = true ∧ (let y : Session := ssn 7;
   ((∀ z ∈ s.zop.sessions, z.id = y.id → z = y)) ∧ y ∈ s.zop.sessions ∧ y.id = leAt u 8 4 ∧
   u.drop (16 + leAt u 6 2) = hmac256 y.key (u.take (16 + leAt u 6 2)) ∧ seq = y.lastSeq + 1))) ∧
   (let p : Fin 2 := (1 : Fin 2); let u : List Byte := pingLast; let s : State := inSessEnd;
   let x : Nat × Instr := (0x12, Instr.zopPing 1 u); s.aonOn = true ∧ s.served .service = true ∧
   s.shaped = true ∧
   x ∈ [(1, Instr.zopRead p u), (2, .zopWrite p u), (3, .zopReadInit p u), (4, .zopReadSeg p u), (5, .zopWriteInit p u), (6, .zopWriteSeg p u), (7, .zopXferAbort p u), (8, .zopAtomic p u), (0x10, .zopOpen p u), (0x11, .zopClose p u), (0x12, .zopPing p u)] ∧
   zopOp u = x.1 ∧ (let port (t : State) : PortCounts := nth {} t.zop.ports p;
   let sec := s.time.now.toNat / 1000000000; let n := if (port s).second = sec then (port s).inSecond else 0;
   let limit := leNat (s.odGet 0x110005 (leBytes 2 2000)); let seq := leAt u 12 4; n < limit ∧
   zopFormed u = true ∧ zopAuth u = true ∧ (let y : Session := ssn 0xFFFFFFFE;
   ((∀ z ∈ s.zop.sessions, z.id = y.id → z = y)) ∧ y ∈ s.zop.sessions ∧ y.id = leAt u 8 4 ∧
   u.drop (16 + leAt u 6 2) = hmac256 y.key (u.take (16 + leAt u 6 2)) ∧ seq = y.lastSeq + 1 ∧
   seq = 0xFFFFFFFF))) := by
  refine ⟨?_, ?_, ?_, ?_, ?_, ?_, ?_, ?_⟩ <;> decide +kernel

/-- The hypotheses of `Obligations.ZopOperationsAct` are met. -/
theorem witness_ZopOperationsAct :
  (let s : State := up; let key : Nat := 0x600001; objOf key = none ∧ s.oemObj key = none) ∧
   (let via : Via := Via.session 2; let s : State := oemS; let key : Nat := 0x600001; let d : OemDecl := oemd 1;
   objOf key = none ∧ s.oemObj key = some d ∧ (d.ty ≤ 9 ∨ d.size ≤ 1024) ∧ (d.acc ≠ 2 ∧
   s.mayRead via key = .none ∧ s.zop.xfers.length < 4 ∧ (s.oemValue d).length ≤ 65536) ∧
   (let v : List Byte := [1, 2]; s.writeJudge via key d.ty v.length = .none ∧ v.length ≤ d.size ∧
   v.length ≤ 1024 ∧ s.transferOn key = false)) ∧ (let via : Via := Via.session 2; let s : State := oemS;
   let a : Item := (⟨0x600001, 2, [1, 2]⟩ : Item); let b : Item := (⟨0x600001, 2, [3, 4]⟩ : Item);
   via ≠ .anonymous ∧ isCommand a.key = false ∧ (let ra := writeShort via a.key a.ty a.val s;
   let rb := writeShort via b.key b.ty b.val ra.2; ra.1 = .none ∧ rb.1 = .none)) ∧
   (let via : Via := Via.session 2; let s : State := oemS; let a : Item := (⟨0x600001, 2, [1, 2]⟩ : Item);
   let b : Item := (⟨0x600001, 2, [3]⟩ : Item); via ≠ .anonymous ∧ isCommand a.key = false ∧
   (let ra := writeShort via a.key a.ty a.val s; let rb := writeShort via b.key b.ty b.val ra.2; ra.1 = .none ∧
   rb.1 ≠ .none)) ∧ (let via : Via := Via.session 2; let s : State := oemS;
   let a : Item := (⟨0x600001, 2, [1]⟩ : Item); via ≠ .anonymous ∧ isCommand a.key = false ∧
   (let ra := writeShort via a.key a.ty a.val s; ra.1 ≠ .none)) ∧ (let via : Via := Via.session 2;
   let s : State := oemFull; let key : Nat := 0x600001; let d : OemDecl := oemd 1; objOf key = none ∧
   s.oemObj key = some d ∧ (d.ty ≤ 9 ∨ d.size ≤ 1024) ∧ d.acc ≠ 2 ∧ s.mayRead via key = .none ∧
   4 ≤ s.zop.xfers.length) ∧ (let via : Via := Via.session 2; let s : State := oemX; let key : Nat := 0x600001;
   let d : OemDecl := oemd 1; objOf key = none ∧ s.oemObj key = some d ∧ (d.ty ≤ 9 ∨ d.size ≤ 1024) ∧
   (let v : List Byte := [1, 2]; s.writeJudge via key d.ty v.length = .none ∧ v.length ≤ d.size ∧
   v.length ≤ 1024 ∧ s.transferOn key = true)) ∧ (let via : Via := Via.session 2; let id : Nat := 5;
   let s : State := oemX; let n : Nat := 4; via ≠ .anonymous ∧
   ((∀ x ∈ s.zop.xfers, x.id ≠ n ∨ x.write = true))) ∧ (let via : Via := Via.session 2; let id : Nat := 5;
   let s : State := oemX; let n : Nat := 4; let off : Nat := 0; let v : List Byte := [1];
   let x : Xfer := xf true 4 [9] 2; via ≠ .anonymous ∧ v.length ≤ 1024 ∧
   s.zop.xfers.find? (fun y => decide (y.id = n) && (y.write == true)) = some x ∧ off ≠ x.data.length) ∧
   (let via : Via := Via.session 2; let id : Nat := 5; let s : State := oemX; let n : Nat := 4;
   let off : Nat := 1; let v : List Byte := [1]; let x : Xfer := xf true 4 [9] 2; via ≠ .anonymous ∧
   v.length ≤ 1024 ∧ s.zop.xfers.find? (fun y => decide (y.id = n) && (y.write == true)) = some x ∧
   off = x.data.length ∧ off + v.length = x.total ∧ (let t := s.closeXfer x;
   let w := odWrite via x.object (s.typeOf x.object).1 (x.data ++ v) t; w.1 = .none)) ∧
   (let via : Via := Via.session 2; let id : Nat := 5; let s : State := oemX; let n : Nat := 4;
   let x : Xfer := xf true 4 [9] 2; via ≠ .anonymous ∧ s.zop.xfers.find? (fun y => decide (y.id = n)) = some x ∧
   (let y := xf false 3 [7, 0] 2; y ∈ (zServe via id (.xferAbort n) s).2.zop.xfers)) ∧
   (let via : Via := Via.session 2; let id : Nat := 5; let s : State := oemX; let n : Nat := 3;
   let off : Nat := 1; let count : Nat := 2; via ≠ .anonymous ∧ (let x : Xfer := xf false 3 [7, 0] 2;
   s.zop.xfers.find? (fun y => decide (y.id = n) && (y.write == false)) = some x ∧
   (x.total < off + count ∨ 1024 < count))) ∧ (let via : Via := Via.session 2; let id : Nat := 5;
   let s : State := oemX; let n : Nat := 3; let off : Nat := 1; let count : Nat := 1; via ≠ .anonymous ∧
   (let x : Xfer := xf false 3 [7, 0] 2;
   s.zop.xfers.find? (fun y => decide (y.id = n) && (y.write == false)) = some x ∧ off + count ≤ x.total ∧
   count ≤ 1024)) ∧ (let via : Via := Via.session 2; let id : Nat := 5; let s : State := oemX4;
   let n : Nat := 4; let off : Nat := 0; let v : List Byte := [1, 2]; let x : Xfer := xf true 4 [] 4;
   via ≠ .anonymous ∧ v.length ≤ 1024 ∧
   s.zop.xfers.find? (fun y => decide (y.id = n) && (y.write == true)) = some x ∧ off = x.data.length ∧
   off + v.length < x.total) ∧ (let via : Via := Via.session 2; let id : Nat := 5; let s : State := oemX4;
   let n : Nat := 4; let off : Nat := 0; let v : List Byte := [1, 2, 3, 4]; let x : Xfer := xf true 4 [] 4;
   via ≠ .anonymous ∧ v.length ≤ 1024 ∧
   s.zop.xfers.find? (fun y => decide (y.id = n) && (y.write == true)) = some x ∧ off = x.data.length ∧
   off + v.length = x.total ∧ (let t := s.closeXfer x;
   let w := odWrite via x.object (s.typeOf x.object).1 (x.data ++ v) t; w.1 ≠ .none)) ∧
   (let via : Via := Via.session 2; let id : Nat := 5; let s : State := oemS;
   let l : List Item := [⟨0x600001, 2, [1]⟩]; (zServe via id (.atomic l) s).1.abort ≠ .none ∧ via ≠ .anonymous ∧
   l.dropLast.any (fun x => isCommand x.key) = false) ∧ (let via : Via := Via.session 2; via ≠ .anonymous) ∧
   (let via : Via := Via.anonymous; let s : State := oemS; let key : Nat := 0x600001; let d : OemDecl := oemd 1;
   objOf key = none ∧ s.oemObj key = some d ∧ (d.ty ≤ 9 ∨ d.size ≤ 1024) ∧ d.acc ≠ 0 ∧ via = .anonymous) ∧
   (let s : State := key0; let slot : Nat := 1;
   ((nth none s.die.keys slot = none ∨ ∃ k, nth none s.die.keys slot = some k ∧ k.role = 0))) ∧
   (let s : State := sessFull; let slot : Nat := 1; let k := key1; nth none s.die.keys slot = some k ∧
   k.role ≠ 0 ∧ 8 ≤ s.zop.sessions.length) ∧ (let s : State := keyIs; let slot : Nat := 1; let k := key1;
   nth none s.die.keys slot = some k ∧ k.role ≠ 0 ∧ s.zop.sessions.length < 8) := by
  refine ⟨?_, ?_, ?_, ?_, ?_, ?_, ?_, ?_, ?_, ?_, ?_, ?_, ?_, ?_, ?_, ?_, ?_, ?_, ?_, ?_, ?_⟩ <;> decide +kernel

/-- The hypotheses of `Obligations.SessionsKeysAndStores` are met. -/
theorem witness_SessionsKeysAndStores :
  (let s : State := xferOn; s.aonOn = true ∧ s.on .mgt = true) ∧ (let s : State := up; s.aonOn = true ∧
   s.on .mgt = true ∧ (let id : BitVec 16 := 5#16; ((∀ x ∈ s.zop.xfers, x.id ≠ id.toNat))) ∧
   (let p : Fin 2 := 1; (let up : Bool := false; s.shaped = true ∧ nth false s.hq.eth p = up) ∧
   (let up : Bool := true; s.shaped = true ∧ nth false s.hq.eth p ≠ up)) ∧ (s.served .service = true ∧
   s.mayWrite .mgmt = true ∧ (s.shaped = true ∧ s.zop.xfers.all (fun x => !x.write) = true) ∧
   (let bs : List Byte := List.replicate 33 3; s.shaped = true ∧ s.zop.xfers.all (fun x => !x.write) = true ∧
   bs.length = 33 ∧ 2 < leAt bs 32 1) ∧ (let bs : List Byte := List.replicate 33 2; s.shaped = true ∧
   s.zop.xfers.all (fun x => !x.write) = true ∧ bs.length = 33 ∧ leAt bs 32 1 ≤ 2) ∧
   (s.zop.xfers.all (fun x => !x.write) = true ∧ s.die.cfgWriting = none)) ∧ s.die.cfgWriting = none) ∧
   (let s : State := oemX; s.aonOn = true ∧ s.on .mgt = true ∧ (let id : BitVec 16 := 4#16;
   ((∃ x ∈ s.zop.xfers, x.id = id.toNat)))) ∧ (let s : State := cfgBusy; s.aonOn = true ∧ s.on .mgt = true ∧
   (s.served .service = true ∧ s.mayWrite .mgmt = true ∧ s.zop.xfers.all (fun x => !x.write) = true ∧
   s.die.cfgWriting.isSome = true) ∧ (let b := bankS; s.die.cfgWriting = some b)) := by
  refine ⟨?_, ?_, ?_, ?_⟩ <;> decide +kernel

/-- The hypotheses of `Obligations.MailboxAndSmbusAreServed` are met. -/
theorem witness_MailboxAndSmbusAreServed :
  (let s : State := mbxBusy; s.aonOn = true ∧ s.on .mgt = true ∧ s.zop.mbxStatus = 1) ∧ (let s : State := up;
   s.aonOn = true ∧ s.on .mgt = true ∧ (let n := s.zop.mbxReqLen; s.zop.mbxStatus ≠ 1 ∧
   (1384 < n ∨ n ≠ 16 + leAt s.mbxRequest 6 2)) ∧ s.zop.mbxStatus ≠ 1 ∧ (s.served .service = true ∧
   (let i : BitVec 16 := 0x1001#16; (let j : BitVec 8 := 1#8; let r := odRead .smbus (keyOf i j) s;
   r.1 = .none) ∧ (let j : BitVec 8 := 6#8; let ty : BitVec 8 := 1#8; let bs : List Byte := [1];
   (let m : Option Byte := none; let good := pec (s.writeHead (keyOf i j) ty.toNat bs); m ≠ some good) ∧
   (let m : Option Byte := some (pec (up.writeHead (keyOf 0x1001 6) 1 [1]));
   let good := pec (s.writeHead (keyOf i j) ty.toNat bs); m = some good ∧ bs.length ≤ 32))) ∧
   (let i : BitVec 16 := 0x1012#16; let j : BitVec 8 := 1#8; let r := odRead .smbus (keyOf i j) s;
   r.1 ≠ .none) ∧ (let i : BitVec 16 := 0x1100#16; let j : BitVec 8 := 2#8; (objOf (keyOf i j)).isSome = true ∧
   ((∀ o, objOf (keyOf i j) = some o → o.row.acc ≠ .wo)) ∧ keyOf i j ∉ smbReads) ∧
   (let i : BitVec 16 := 0x1000#16; let j : BitVec 8 := 6#8;
   (keyOf i j ∉ smbWrites ∨ s.odGet 0x111002 [1] ≠ [1])))) ∧ (let s : State := mbxNoPair; s.aonOn = true ∧
   s.on .mgt = true ∧ (let n := s.zop.mbxReqLen; s.zop.mbxStatus ≠ 1 ∧ n ≤ 1384 ∧
   n = 16 + leAt s.mbxRequest 6 2 ∧ s.sys.pairA ≠ .active ∧ s.sys.pairB ≠ .active)) ∧ (let s : State := mbxGood;
   s.aonOn = true ∧ s.on .mgt = true ∧ (let n := s.zop.mbxReqLen; s.zop.mbxStatus ≠ 1 ∧ n ≤ 1384 ∧
   n = 16 + leAt s.mbxRequest 6 2 ∧ (s.sys.pairA = .active ∨ s.sys.pairB = .active))) ∧
   (let s : State := mbxServed; s.aonOn = true ∧ s.on .mgt = true ∧ s.zop.mbxStatus = 1 ∧ s.anyPair = true ∧
   zopFormed s.mbxRequest = true ∧ zopAuth s.mbxRequest = false) := by
  refine ⟨?_, ?_, ?_, ?_, ?_⟩ <;> decide +kernel

end Sys2Proof.Tests
end

namespace Sys2Proof.Machine

/-! ## The end of a pair's reload, and the mark of a mismatch (O8)

An update under way on pair B may be a reversion that a mismatch of pair B has begun (R1138). The pair is then marked
as one that has mismatched, and the end of its reload is its rejoining, which takes the mark away and notes the time
from which R62 counts. -/

/-- The state in which the statement has the first reload of a switch that began on pair B end. -/
def State.reloadedOnly (s : State) : State :=
  (s.onSys fun y => { y with pairB := .standby }).onBoot fun b => { b with updStep := 3 }

/-- The first reload of a hot switch that began on pair B: the pair rejoins, on standby, and the switch goes on. -/
theorem pairReloadDone_first_b {s : State} (hmgt : s.on .mgt = true) (hupd : s.boot.updState = 2)
    (hhot : s.boot.cold = false) (hp1 : s.boot.updP1 = .b) (hstep : s.boot.updStep = 2)
    (hb : s.sys.pairB = .inReset) :
    pairReloadDone .b s = ((s.rejoined .b).setPair .b .standby).onBoot fun b => { b with updStep := 3 } := by
  simp [pairReloadDone, State.pair, hmgt, hupd, hhot, hp1, hstep, hb]

/-- A pair that has rejoined is not marked as one that has mismatched. -/
theorem rejoined_b_missB (s : State) : (s.rejoined .b).sys.missB = false := by
  unfold State.rejoined
  cases h : s.sys.missB <;> simp [h]

/-- The command is the end of pair B's reload, and then what the controller does by itself. -/
theorem does_pairReloadDone_b {s : State} (haon : s.aonOn = true) (t : State) :
    Does (.pairReloadDone true) s t ↔ s.after (pairReloadDone .b s) = s.after t := by
  have hexec : exec (.pairReloadDone true) s = .next (s.after (pairReloadDone .b s)) := act_powered _ haon
  rw [Does, hexec, Host.Outcome.next.injEq]

/-- SERVICE, in the trial of a new image, with pair A carrying the engine load and pair B the service load (R1136). -/
def inTrial : State := { State.reset with
  pwr := { doms := List.replicate 7 .on }
  sys := { mode := .service, target := .service, startDue := false }
  boot := { State.reset.boot with trial := true, updState := 3 } }

/-- Pair B mismatches in the trial, and the reversion begins on it (R60, R1138). -/
def revertingOnB : State := lockstepMismatch .b inTrial

/-- The reversion meets the hypotheses of the statement's last clause, and pair B carries the mark of its mismatch. -/
theorem revertingOnB_isFirstReload : revertingOnB.aonOn = true ∧ revertingOnB.on .mgt = true ∧
    revertingOnB.boot.updState = 2 ∧ revertingOnB.boot.cold = false ∧ revertingOnB.boot.updP1 = .b ∧
    revertingOnB.boot.updStep = 2 ∧ revertingOnB.sys.pairB = .inReset ∧ revertingOnB.sys.missB = true := by
  decide +kernel

/-- What the controller does by itself after the reload leaves the mark as it is, in the state that the reload gives
and in the one that the statement gives. -/
theorem revertingOnB_after_missB :
    (revertingOnB.after (pairReloadDone .b revertingOnB)).sys.missB = (pairReloadDone .b revertingOnB).sys.missB ∧
    (revertingOnB.after revertingOnB.reloadedOnly).sys.missB = revertingOnB.reloadedOnly.sys.missB := by
  decide +kernel

/-- Refutes O8, by its last clause: in `revertingOnB` the end of pair B's reload takes the mark of its mismatch away
(R62), where the statement has it change nothing of SYS but the state of pair B. -/
theorem not_linkAndPairsRecover : ¬ Obligations.LinkAndPairsRecover := by
  unfold Obligations.LinkAndPairsRecover
  rintro ⟨-, -, -, -, -, hupdate⟩
  obtain ⟨haon, hmgt, hupd, hhot, hp1, hstep, hb, hmiss⟩ := revertingOnB_isFirstReload
  obtain ⟨hdone, honly⟩ := revertingOnB_after_missB
  have hsame : revertingOnB.after (pairReloadDone .b revertingOnB) = revertingOnB.after revertingOnB.reloadedOnly :=
    (does_pairReloadDone_b haon _).1 ((hupdate _ haon hmgt hupd hhot hp1).2 hstep hb)
  have hcleared : (pairReloadDone .b revertingOnB).sys.missB = false := by
    rw [pairReloadDone_first_b hmgt hupd hhot hp1 hstep hb]
    exact rejoined_b_missB _
  have hkept : revertingOnB.reloadedOnly.sys.missB = true := hmiss
  have habsurd : false = true := calc
    false = (revertingOnB.after (pairReloadDone .b revertingOnB)).sys.missB := (hdone.trans hcleared).symm
    _ = (revertingOnB.after revertingOnB.reloadedOnly).sys.missB := by rw [hsame]
    _ = true := honly.trans hkept
  exact Bool.false_ne_true habsurd

end Sys2Proof.Machine

namespace Sys2Proof.Machine

/-! ## What reset leaves (O4) -/

/-- After reset nothing drives ERR_N, its minimum low time does not run, and it is high (R1091). -/
theorem reset_errFollows : State.reset.errFollows = true := by decide

/-- After reset no heater channel has a pulse, a firing angle or power (R798, R830). -/
theorem reset_heatersHeld : State.reset.heatersHeld = true := by decide

/-- Both pairs are ACTIVE after reset, with the engine load on pair A and the service load on pair B (R65). -/
theorem reset_readReg_sysPair : State.reset.readReg 0x18 = 0x85#32 := by decide

/-- `SYS_MODE`, `SYS_MODE_REQ` and `SYS_SAFE_CAUSE` after reset: OFF, no request, no cause (R119, R120, R122). -/
theorem reset_readReg_mode :
    State.reset.readReg 0x20 = 0#32 ∧ State.reset.readReg 0x24 = 0#32 ∧ State.reset.readReg 0x28 = 0#32 := by decide

/-- `SYS_ID` (R48), and no bad access after reset (R51, R52). -/
theorem reset_readReg_idBad :
    State.reset.readReg 0x0 = 0x77400100#32 ∧ State.reset.readReg 0x10 = 0#32 ∧ State.reset.readReg 0x14 = 0#32 := by decide

/-- Settles O4: the fields by their defaults, and the registers as they read from them. -/
theorem resetLeavesRegistersAndOutputs : Obligations.ResetLeavesRegistersAndOutputs := by
  unfold Obligations.ResetLeavesRegistersAndOutputs
  obtain ⟨hmode, hreq, hcause⟩ := reset_readReg_mode
  exact ⟨⟨rfl, rfl, rfl, rfl, rfl, reset_readReg_sysPair, hmode, hreq, hcause, reset_readReg_idBad⟩,
    reset_errFollows, reset_heatersHeld⟩

/-! ## After a command that leaves nothing to do

Where `State.AtRest` holds, each thing that the controller does by itself (`State.after`) changes nothing, so the state
after the command is the one that its effect gives. -/

section
variable {s t : State} (h : s.AtRest t)
include h

theorem takeSafe_of_atRest : t.takeSafe = t := by
  have hreq := h.noSafe
  have hskip := h.noSkip
  cases t with
  | mk _ _ _ _ _ _ _ evt => cases evt; simp_all [State.takeSafe]

theorem takeOff_of_atRest : t.takeOff = t := by simp [State.takeOff, h.noTransit]

theorem seqGo_of_atRest : t.seqGo = t := by simp [State.seqGo, State.seqKick, h.noSequence]

theorem leaveStep_of_atRest : t.leaveStep = t := by simp [State.leaveStep, h.noLeave]

/-- No step runs, so none has failed by itself, and without a transition none begins. -/
theorem stepsGo_of_atRest : t.stepsGo = t := by
  have hfail : t.stepsFail = t := by simp [State.stepsFail, State.stepBroken, h.noSteps]
  simp [State.stepsGo, hfail, h.noTransit]

/-- READY stays without a committed token, and PRINT without a drain. -/
theorem printFollows_of_atRest : t.printFollows = t := by
  have hready : ¬ (t.sys.mode = .ready ∧ ¬ t.sys.transit ∧ t.flying ≠ []) := fun ⟨hm, _, hf⟩ => hf (h.noCommit hm)
  rw [State.printFollows, if_neg hready, if_neg (by simp [h.noDrain])]

theorem judgeLatched_of_atRest : t.judgeLatched = t := by simp [State.judgeLatched, h.noLatched]

theorem settle1_of_atRest : t.settle1 = t := by
  simp [State.settle1, takeSafe_of_atRest h, takeOff_of_atRest h, seqGo_of_atRest h, h.sequenceEnded,
    leaveStep_of_atRest h, stepsGo_of_atRest h, printFollows_of_atRest h, judgeLatched_of_atRest h]

theorem settle_of_atRest : t.settle = t := by
  have hcal : t.calSettle = t := by simp [State.calSettle, h.noSwitch]
  simp [State.settle, settle1_of_atRest h, hcal, h.marks, h.resetOuts, takeSafe_of_atRest h]

/-- No slot runs that did not run before the command, so none restarts (R771). -/
theorem startSlots_of_atRest (i : Nat) :
    t.startSlots i (t.slotsRunning.filter fun n => !s.slotsRunning.contains n) = t := by
  have hnone : (t.slotsRunning.filter fun n => !s.slotsRunning.contains n) = [] := by
    simpa [List.filter_eq_nil_iff] using h.slots
  rw [hnone, State.startSlots, List.foldl_nil]

theorem goesOn_of_atRest : State.goesOn s t = t := by
  have hsmb : smbGo t = t := by simp [smbGo, h.noHeld]
  simp only [State.goesOn, h.feeds, h.mains, h.frames, h.apc, h.polygons, settle_of_atRest h, hsmb,
    startSlots_of_atRest h, h.books, ite_self]

theorem after_of_atRest : s.after t = { t with pending := s.pending } := by
  simp [State.after, goesOn_of_atRest h, h.heaters, h.errN]

end

/-! ## A read of `SYS_SAFE_TIME_LO` over a store that is out of order (O7)

`sput` takes the word out of the store where it equals what an unlisted key reads as, and looks for its key only up to
the first greater one. In a store whose keys do not rise strictly, a word behind a greater key stays, and a read finds
it. Commands write this store by `sput` or take words out of it, so none leaves it out of order; but the statement
speaks of every state. -/

/-- OFF, with the reset outputs released and the words `l` latched. -/
def released (l : List (Nat × Word)) : State :=
  { State.reset with pwr := { rsto := List.replicate 4 false }, latched := l }

/-- No polygon is locked in `released l`, whatever is latched. -/
theorem released_polySeen (l : List (Nat × Word)) : (released l).polySeen = released l := by
  have hfree : ∀ n ∈ List.range 4, (released l).polyLocked n = false :=
    (by decide +kernel : ∀ n ∈ List.range 4, (released []).polyLocked n = false)
  simp [State.polySeen, List.range_succ, hfree]

/-- The mains axis is not locked in `released l`, and MAINS_OK is 0 (R823). -/
theorem released_mainsUpdate (l : List (Nat × Word)) : (released l).mainsUpdate = released l := by
  have hmains : (released l).mainsNow = (released l).fus.mainsOk :=
    (by decide +kernel : (released []).mainsNow = (released []).fus.mainsOk)
  simp [State.mainsUpdate, hmains]

/-- No rail slot has a level in `released l`, so nothing holds the reset outputs (R1011). -/
theorem released_rstoUpdate (l : List (Nat × Word)) : (released l).rstoUpdate = released l := by
  have hlevel : (released l).levelOk 2 = true := (by decide +kernel : (released []).levelOk 2 = true)
  have hcfg : (released l).pwr.rstoCfg = List.replicate 4 0x80000014#32 := rfl
  have hpins : (released l).pwr.rsto = List.replicate 4 false := rfl
  have hpower : (released l).pwr.losing = false := rfl
  have hlow : fld 0x80000014#32 30 2 = 2 ∧ bitOf 0x80000014#32 29 = false := by decide
  simp [State.rstoUpdate, List.range_succ, nth, hcfg, hlow, hlevel, hpins, hpower]

/-- In `released` there is nothing to do, whatever a command has latched. -/
theorem released_atRest (l l' : List (Nat × Word)) : (released l).AtRest (released l') where
  power := rfl
  noSafe := rfl
  noSkip := rfl
  noTransit := rfl
  noLatched := rfl
  noLeave := rfl
  noSteps := rfl
  noHeld := rfl
  noDrain := rfl
  noSequence := rfl
  sequenceEnded := rfl
  noCommit := fun h => Mode.noConfusion h
  noSwitch := rfl
  marks := rfl
  feeds := rfl
  apc := rfl
  polygons := released_polySeen l'
  frames := rfl
  books := rfl
  mains := released_mainsUpdate l'
  resetOuts := released_rstoUpdate l'
  slots := fun _ hn => absurd hn List.not_mem_nil
  heaters := rfl
  errN := rfl

theorem released_after (l l' : List (Nat × Word)) : (released l).after (released l') = released l' :=
  after_of_atRest (released_atRest l l')

/-- The word that `SYS_SAFE_TIME_HI` reads stands behind a greater key. -/
def outOfOrder : State := released [(0x31, 1), (0x30, 1)]

/-- The high word of the time is 0, so the read has nothing to list, and it does not reach the word listed. -/
theorem outOfOrder_latchedLoRead : latchedLoRead 0x2C#26 outOfOrder = outOfOrder := by decide +kernel

/-- The read of `SYS_SAFE_TIME_HI` finds the word behind the greater key. -/
theorem outOfOrder_bar0Read : outOfOrder.bar0Read 0x30 = 1 := by decide +kernel

/-- Refutes O7, by its clause on `SYS_SAFE_TIME_LO`: in `outOfOrder` the time is 0, and the read leaves the word that
`SYS_SAFE_TIME_HI` then reads as 1 (R123). -/
theorem not_registerAccessesActOrAreDiscarded : ¬ Obligations.RegisterAccessesActOrAreDiscarded := by
  unfold Obligations.RegisterAccessesActOrAreDiscarded
  rintro ⟨-, -, ⟨hlatch, -⟩, -⟩
  obtain ⟨t, hdoes, honly, hread⟩ := hlatch outOfOrder rfl
  obtain ⟨l, rfl⟩ : ∃ l, t = released l := ⟨t.latched, honly⟩
  have hexec : exec (.latchedLoRead 0x2C#26) outOfOrder = .next (outOfOrder.after outOfOrder) := by
    have hact := act_powered (latchedLoRead 0x2C#26) (s := outOfOrder) rfl
    rwa [outOfOrder_latchedLoRead] at hact
  have hsame : released l = outOfOrder := calc
    released l = outOfOrder.after (released l) := (released_after _ l).symm
    _ = outOfOrder.after outOfOrder := Host.Outcome.next.inj (hdoes.symm.trans hexec)
    _ = outOfOrder := released_after _ _
  rw [hsame, outOfOrder_bar0Read] at hread
  exact absurd hread (by decide)

end Sys2Proof.Machine

namespace Sys2Proof.Machine

/-! ## Requests that change no mode (O9) -/

/-- A request answered at once: REQ takes its code and STATUS its outcome, and SEQ counts it (R120). -/
def State.reqAnswered (v : Nat) (r : ReqStatus) (s : State) : State :=
  s.onSys fun y => { y with req := v, reqStatus := r, reqSeq := (y.reqSeq + 1) % 256 }

/-- The code is noted and then the outcome, which is a request answered at once. -/
theorem reqEnd_onSys_req (v : Nat) (r : ReqStatus) (s : State) :
    (s.onSys fun y => { y with req := v }).reqEnd r = s.reqAnswered v r := rfl

/-- No mode has a code of 6 or above (R81). -/
theorem Mode.ofCode_eq_none : ∀ {v : Nat}, 6 ≤ v → Mode.ofCode v = none
  | _ + 6, _ => rfl

/-- The pair that carries a load in service is one of the pairs in service. -/
theorem anyPair_of_served {s : State} {l : Load} (h : s.served l = true) : s.anyPair = true := by
  simp only [State.served, Bool.and_eq_true, decide_eq_true_eq] at h
  obtain ⟨hmgt, hactive⟩ := h
  cases hp : s.carrier l <;> simp_all [State.anyPair, State.pair]

section
variable {s : State} (hpair : s.anyPair = true)
include hpair

/-- A code that no mode has is refused with RANGE, in and outside a transition (R81). -/
theorem modeReqStore_noMode {v : Nat} (hv : 6 ≤ v) :
    modeReqStore v s = (.range, s.reqAnswered v .range) := by
  simp [modeReqStore, hpair, Mode.ofCode_eq_none hv, reqEnd_onSys_req]

/-- PRINT is refused with RANGE, in and outside a transition (R80). -/
theorem modeReqStore_print : modeReqStore 4 s = (.range, s.reqAnswered 4 .range) := by
  simp [modeReqStore, hpair, Mode.ofCode, reqEnd_onSys_req]

/-- In SERVICE, outside a transition, a request for SERVICE is done at once (R79). -/
theorem modeReqStore_service_inService (htransit : s.sys.transit = false) (hmode : s.sys.mode = .service) :
    modeReqStore 2 s = (.none, s.reqAnswered 2 .done) := by
  simp [modeReqStore, hpair, Mode.ofCode, htransit, State.judge, hmode, reqEnd_onSys_req]

end

/-- `SYS_MODE_REQ` takes the three low bits of what is written. -/
theorem modeRequest_reg (v : BitVec 8) (s : State) : modeRequest false v s = (modeReqStore (v.toNat % 8) s).2 := rfl

section
variable {s : State} (hserved : s.served .service = true)
include hserved

/-- A transaction that is served answers with the outcome of its operation, and ends with the checkpoints (R58). -/
theorem dict_of_served (f : State → Abort × State) : s.dict f = ((f s).2.replied (f s).1).checkpoints := by
  rw [State.dict, State.answers, if_pos hserved]

/-- A code that no mode has is refused with RANGE through OD 1001:02 as well, where it may be written. -/
theorem modeRequest_od_noMode (hwrite : s.mayWrite .mgmt = true) {v : BitVec 8} (hv : 6 ≤ v.toNat) :
    modeRequest true v s = ((s.reqAnswered v.toNat .range).replied .range).checkpoints := by
  simp [modeRequest, dict_of_served hserved, hwrite, modeReqStore_noMode (anyPair_of_served hserved) hv]

/-- Where OD 1001:02 may not be written, a request through it is refused and not counted (R113). -/
theorem modeRequest_od_unwritable (hwrite : s.mayWrite .mgmt = false) (v : BitVec 8) :
    modeRequest true v s = (s.replied .stateConflict).checkpoints := by
  simp [modeRequest, dict_of_served hserved, hwrite]

end

/-- With AON power a request has the effect that `modeRequest` gives. -/
theorem does_modeRequest {s t : State} (haon : s.aonOn = true) {od : Bool} {v : BitVec 8}
    (h : modeRequest od v s = t) : Does (.modeRequest od v) s t :=
  h ▸ act_powered (modeRequest od v) haon

/-- Settles O9: each request is answered at once, by what a write of its code stores. -/
theorem requestsThatChangeNoMode : Obligations.RequestsThatChangeNoMode := by
  unfold Obligations.RequestsThatChangeNoMode
  refine ⟨⟨?service, ?print, ?aboveFive⟩, ?noMode⟩
  case service =>
    intro s haon hpair htransit hmode
    refine does_modeRequest haon ?_
    exact (modeRequest_reg _ s).trans (congrArg Prod.snd (modeReqStore_service_inService hpair htransit hmode))
  case print =>
    intro s haon hpair
    exact does_modeRequest haon ((modeRequest_reg _ s).trans (congrArg Prod.snd (modeReqStore_print hpair)))
  case aboveFive =>
    intro v s haon hserved hwrite hv
    exact does_modeRequest haon (modeRequest_od_noMode hserved hwrite hv)
  case noMode =>
    intro v s haon hpair hv
    refine ⟨fun hreg => does_modeRequest haon ?_, fun hserved hwrite => ?_, fun hserved hwrite => ?_⟩
    · rw [modeRequest_reg, Nat.mod_eq_of_lt hreg, modeReqStore_noMode hpair hv]
      rfl
    · exact does_modeRequest haon (modeRequest_od_noMode hserved hwrite hv)
    · exact does_modeRequest haon (modeRequest_od_unwritable hserved hwrite v)

end Sys2Proof.Machine

namespace Sys2Proof.Machine

/-! ## Commands of the timebase: their effect, and where a write of a register carries it out -/

/-- A command whose meaning is the effect `f` turns a powered state into what `f` gives. -/
theorem does_of_effect {i : Instr} {f : State → State} {s t : State} (hexec : exec i s = act f s)
    (haon : s.aonOn = true) (h : f s = t) : Does i s t := by
  rw [Does, hexec, act_powered f haon, h]

/-- Two effects of one command lead to the same state, once the controller has gone on by itself. -/
theorem after_eq_of_does {i : Instr} {f : State → State} {s t : State} (hexec : exec i s = act f s)
    (haon : s.aonOn = true) (h : Does i s t) : s.after t = s.after (f s) :=
  Host.Outcome.next.inj (h.symm.trans (hexec.trans (act_powered f haon)))

/-- A register command is carried out where the domain of its block is on and its class may be written (R46, R113). -/
theorem bar0_of_legal {s : State} {off : Nat} {c : Cls} {d : Dom} (hdom : offDom off = some d) (hon : s.on d = true)
    (hwrite : s.mayWrite c = true) (f : State → State) : s.bar0 off c f = f s := by
  simp [State.bar0, State.badReason, hdom, hon, hwrite]

/-- Every mode permits a write of the class `any`. -/
theorem mayWrite_any (s : State) : s.mayWrite .any = true := by
  have hmode : ∀ m : Mode, Cls.any.mask.getLsbD m.code = true := fun m => by cases m <;> decide
  simp [State.mayWrite, hmode]

/-- A transaction that the service pair serves is complete with its checkpoints (R58). -/
theorem answers_of_served {s : State} (hserved : s.served .service = true) (f : State → State) :
    s.answers f = (f s).checkpoints := by
  rw [State.answers, if_pos hserved]

@[simp] theorem State.checkpoint_culm (l : Load) (s : State) : (s.checkpoint l).culm = s.culm := by
  unfold State.checkpoint; split <;> rfl

@[simp] theorem State.checkpoint_zop (l : Load) (s : State) : (s.checkpoint l).zop = s.zop := by
  unfold State.checkpoint; split <;> rfl

@[simp] theorem State.checkpoints_culm (s : State) : s.checkpoints.culm = s.culm := by
  simp [State.checkpoints]

@[simp] theorem State.checkpoints_zop (s : State) : s.checkpoints.zop = s.zop := by
  simp [State.checkpoints]

/-- SERVICE, with every domain on. -/
def inService : State :=
  { State.reset with
    pwr := { doms := List.replicate 7 .on }
    sys := { mode := .service, target := .service, startDue := false } }

/-! ## Snapshots (O16) -/

/-- `CULM_SNAP_CTRL` with HOLD written as 0 takes the snapshot, and with HOLD written as 1 drops it (R191, R192). -/
theorem snapReq_eq {s : State} (heng : s.on .eng = true) (hold : Bool) :
    snapReq hold s = takeSnapshot (s.onCulm fun c => { c with snapHold := hold }) :=
  bar0_of_legal (d := .eng) (by decide) heng (mayWrite_any s) _

/-- A read of OD 2000:20 while HOLD is 1 answers the live angles, and takes no snapshot (R193). -/
theorem snapshotTake_of_hold {s : State} (heng : s.on .eng = true) (hhold : s.culm.snapHold = true) :
    snapshotTake s = { s with zop := { s.zop with
      reply := .none, replyData := snapBytes s.time.now s.time.stat.code s.culm.snapOf } } := by
  simp [snapshotTake, heng, hhold]

theorem pgfSnapshot_eq {s : State} (hpix : s.on .pix = true) : pgfSnapshot s = s.snapTokens :=
  bar0_of_legal (d := .pix) (by decide) hpix (mayWrite_any s) _

theorem shfSnapshot_eq {s : State} (hmem : s.on .mem = true) : shfSnapshot s = s.snapBooks :=
  bar0_of_legal (d := .mem) (by decide) hmem (mayWrite_any s) _

/-- A read of OD 2800:05 takes a snapshot of the token counts and answers it (R343, R352). -/
theorem tokensTake_of_on {s : State} (hpix : s.on .pix = true) :
    tokensTake s = { s.snapTokens with zop := { s.zop with
      reply := .none, replyData := (s.pgf.counts.flatMap fun w => u32le w.toNat) ++ u64le s.time.now.toNat ++
        [BitVec.ofNat 8 s.time.stat.code] } } := by
  rw [tokensTake, if_neg (by simp [hpix])]
  rfl

/-- A read of OD 2C00:07 takes a snapshot of the books and answers it (R435, R467). -/
theorem booksTake_of_on {s : State} (hmem : s.on .mem = true) :
    booksTake s = { s.snapBooks with zop := { s.zop with
      reply := .none, replyData := s.snapBooks.shf.booksBytes } } := by
  rw [booksTake, if_neg (by simp [hmem])]
  rfl

/-- Settles O16: each register command takes its snapshot, and each read takes it and answers with its checkpoints. -/
theorem snapshotsAreTaken : Obligations.SnapshotsAreTaken := by
  unfold Obligations.SnapshotsAreTaken
  refine ⟨fun s haon heng => ⟨?taken, ?dropped, ?live⟩, fun s haon hpix => ⟨?counts, ?countsRead⟩,
    fun s haon hmem => ⟨?books, ?booksRead⟩⟩
  case taken => exact does_of_effect rfl haon (snapReq_eq heng false)
  case dropped => exact does_of_effect rfl haon (snapReq_eq heng true)
  case live =>
    intro hserved hhold
    refine ⟨_, does_of_effect rfl haon (answers_of_served hserved snapshotTake), ?_⟩
    rw [snapshotTake_of_hold heng hhold, State.checkpoints_culm, State.checkpoints_zop]
    exact ⟨rfl, rfl, rfl⟩
  case counts => exact does_of_effect rfl haon (pgfSnapshot_eq hpix)
  case countsRead =>
    intro hserved
    refine does_of_effect rfl haon ((answers_of_served hserved tokensTake).trans ?_)
    rw [tokensTake_of_on hpix]
    rfl
  case books => exact does_of_effect rfl haon (shfSnapshot_eq hmem)
  case booksRead =>
    intro hserved
    refine does_of_effect rfl haon ((answers_of_served hserved booksTake).trans ?_)
    rw [booksTake_of_on hmem]
    rfl

/-! ## The cancel of a swap that has been passed (O15)

A correction between two ticks may carry the axis of an armed swap past its angle; the swap then happens in the next
tick (R157, R170). The cancel of such a swap takes that mark away together with the arm, which the statement leaves. -/

/-- A swap is armed on an axis that a correction has carried past the angle of the swap. -/
def swapPassing : State :=
  inService.onCulm fun c => { c with swapArmed := true, swapStatus := 1, swapPassed := true }

/-- The state in which the statement has the cancel end. -/
def State.cancelledOnly (s : State) : State :=
  s.onCulm fun c => { c with swapArmed := false, swapStatus := 3 }

/-- A swap may be cancelled in `swapPassing`. -/
theorem swapPassing_mayCancel : swapPassing.aonOn = true ∧ swapPassing.on .eng = true ∧
    swapPassing.mayWrite .shadow = true ∧ swapPassing.culm.swapArmed = true := by decide +kernel

/-- What the controller does by itself leaves the mark as the cancel gives it, and as the statement gives it. -/
theorem swapPassing_after_swapPassed :
    (swapPassing.after (swapCancel swapPassing)).culm.swapPassed = false ∧
    (swapPassing.after swapPassing.cancelledOnly).culm.swapPassed = true := by decide +kernel

/-- Refutes O15, by its clause on the cancel: in `swapPassing` the cancel takes the mark away that the angle has been
passed, which the statement has stay as it is. -/
theorem not_banksAreWrittenAndSwapped : ¬ Obligations.BanksAreWrittenAndSwapped := by
  unfold Obligations.BanksAreWrittenAndSwapped
  rintro ⟨hswap, -⟩
  obtain ⟨haon, heng, hwrite, harmed⟩ := swapPassing_mayCancel
  obtain ⟨-, -, hcancel⟩ := hswap swapPassing haon heng hwrite
  have hsame : swapPassing.after swapPassing.cancelledOnly = swapPassing.after (swapCancel swapPassing) :=
    after_eq_of_does rfl haon (hcancel harmed)
  obtain ⟨hmodel, hstated⟩ := swapPassing_after_swapPassed
  rw [hsame, hmodel] at hstated
  exact Bool.false_ne_true hstated

/-! ## A correction under way when the Sync timer fails (O17)

A failed Sync timer holds the last frequency correction, and a correction of phase under way is still made by slewing
(R180, R183, R184), where the statement ends it. -/

/-- Device time is LOCKED, and slewing has still to correct it. -/
def slewing : State :=
  inService.onTime fun t => { t with stat := .locked, slew := 2 ^ 32 }

/-- The state in which the statement has the failure of the Sync timer end. -/
def State.heldOverStill (s : State) : State :=
  (s.onTime fun t => { t with stat := .holdover, slew := 0 }).raise 43

/-- What the controller does by itself leaves what is still to be slewed. -/
theorem slewing_after_slew :
    (slewing.after (syncTimeout slewing)).time.slew = 2 ^ 32 ∧
    (slewing.after slewing.heldOverStill).time.slew = 0 := by decide +kernel

/-- Refutes O17, by its clause on the Sync timer: in `slewing` the correction under way goes on, where the statement
has it end with the timer. -/
theorem not_deviceTimeRuns : ¬ Obligations.DeviceTimeRuns := by
  unfold Obligations.DeviceTimeRuns
  rintro ⟨-, -, htimeout, -⟩
  have hsame : slewing.after slewing.heldOverStill = slewing.after (syncTimeout slewing) :=
    after_eq_of_does rfl rfl (htimeout slewing rfl rfl)
  obtain ⟨hmodel, hstated⟩ := slewing_after_slew
  rw [hsame, hmodel] at hstated
  exact absurd hstated (by decide)

end Sys2Proof.Machine

namespace Sys2Proof.Machine

/-! ## What leaves the timebase alone

Of what the controller does by itself after a command, the blocks other than the timebase leave its axes, its event
table and its snapshots as they are: one lemma for each operation, in the order of the definitions. -/

/-- Steps that each leave the timebase alone leave it alone together. -/
theorem foldl_culm {α : Type} {f : State → α → State} (h : ∀ t a, (f t a).culm = t.culm) (l : List α) (s : State) :
    (l.foldl f s).culm = s.culm := by
  induction l generalizing s with
  | nil => rfl
  | cons a l ih => rw [List.foldl_cons, ih, h]

/-- The timebase of either branch. -/
theorem culm_ite (c : Prop) [Decidable c] (s t : State) :
    (if c then s else t).culm = if c then s.culm else t.culm := apply_ite State.culm c s t

/-! ### Events and records -/

@[simp] theorem State.errUpdate_culm (s : State) : (State.errUpdate s).culm = s.culm := by
  simp [State.errUpdate, culm_ite]

@[simp] theorem State.post_culm (s : State) (e : Nat) (x : EvEntry) : (State.post s e x).1.culm = s.culm := by
  obtain ⟨h, hh⟩ := post_frame s e x
  rw [hh]

/-! ### Slots that restart -/

@[simp] theorem State.startSlots_culm (i : Nat) (l : List Nat) (s : State) :
    (State.startSlots i l s).culm = s.culm := by
  refine foldl_culm (fun t n => ?_) _ _
  rfl

/-! ### Frames, credits and the frame books -/

@[simp] theorem State.putFrame_culm (f : Nat) (x : Frame) (s : State) : (State.putFrame f x s).culm = s.culm := by
  simp [State.putFrame]

theorem State.credit_culm {p n : Nat} {s t : State} (h : s.credit p n = some t) : t.culm = s.culm := by
  unfold State.credit at h
  split at h
  · cases h; rfl
  · split at h
    · cases h; rfl
    · cases h

@[simp] theorem State.uncredit_culm (p n : Nat) (s : State) : (State.uncredit p n s).culm = s.culm := by
  simp [State.uncredit]

@[simp] theorem State.copyBytes_culm (a b n : Nat) (s : State) : (State.copyBytes a b n s).culm = s.culm := by
  simp [State.copyBytes]

@[simp] theorem State.orphan_culm (f : Nat) (s : State) : (State.orphan f s).culm = s.culm := by
  unfold State.orphan
  split <;> simp [culm_ite]

@[simp] theorem State.repin_culm (f pins : Nat) (s : State) : (State.repin f pins s).culm = s.culm := by
  unfold State.repin
  split <;> simp

@[simp] theorem State.leave_culm (f : Nat) (s : State) : (State.leave f s).culm = s.culm := by
  unfold State.leave
  split <;> simp [culm_ite]

@[simp] theorem State.arrive_culm (f : Nat) (s : State) : (State.arrive f s).culm = s.culm := by
  unfold State.arrive
  dsimp only
  (repeat' split) <;> simp

@[simp] theorem State.makeRoom_culm (n : Nat) (s : State) : (s.makeRoom n).culm = s.culm := by
  induction n generalizing s with
  | zero => rfl
  | succ n ih =>
    unfold State.makeRoom
    split
    · rfl
    · split
      · rw [ih, State.arrive_culm]
      · rfl

@[simp] theorem State.transitRoom_culm (s : State) : (State.transitRoom s).culm = s.culm := by
  simp [State.transitRoom]

@[simp] theorem State.freeFrame_culm (f : Nat) (s : State) : (State.freeFrame f s).culm = s.culm := by
  unfold State.freeFrame
  dsimp only
  (repeat' split) <;> simp

@[simp] theorem State.freeFrames_culm (l : List Nat) (s : State) : (State.freeFrames l s).culm = s.culm := by
  simp [State.freeFrames, foldl_culm]

@[simp] theorem State.enter_culm (f p : Nat) (owner : Option (Nat × Nat × Nat)) (s : State) :
    (State.enter f p owner s).culm = s.culm := by
  simp [State.enter]

@[simp] theorem State.alloc_culm (p : Nat) (owner : Option (Nat × Nat × Nat)) (s : State) :
    (State.alloc p owner s).1.culm = s.culm := by
  unfold State.alloc
  dsimp only
  split <;> simp

@[simp] theorem State.allocFor_culm (a : AllocWait) (s : State) : (State.allocFor a s).1.culm = s.culm := by
  have halloc := State.alloc_culm a.pool a.who.owner s
  unfold State.allocFor
  split
  next t f heq =>
    rw [heq] at halloc
    split <;> simp [← halloc]
  next t heq => rw [← halloc, heq]

@[simp] theorem State.allocWaits_culm (a : AllocWait) (s : State) : (State.allocWaits a s).culm = s.culm := by
  simp [State.allocWaits]

@[simp] theorem State.allocOrWait_culm (a : AllocWait) (s : State) : (State.allocOrWait a s).1.culm = s.culm := by
  have halloc := State.allocFor_culm a s
  unfold State.allocOrWait
  split
  next t f heq => rw [← halloc, heq]
  next t heq => simp [← halloc, heq]

@[simp] theorem State.dropAllocs_culm (p : AllocWait → Bool) (s : State) : (State.dropAllocs p s).culm = s.culm := by
  simp [State.dropAllocs, foldl_culm]

@[simp] theorem State.checkFrames_culm (s : State) : (State.checkFrames s).culm = s.culm := by
  simp [State.checkFrames, culm_ite]

/-! ### Queue pairs, completions and the journal pool -/

@[simp] theorem State.qError_culm (q code : Nat) (s : State) : (State.qError q code s).culm = s.culm := by
  simp [State.qError]

@[simp] theorem State.settleQ_culm (q : Nat) (s : State) : (State.settleQ q s).culm = s.culm := by
  simp [State.settleQ]

@[simp] theorem State.writeCq_culm (q : Nat) (c : Cpl) (sqHead : Nat) (s : State) :
    (State.writeCq q c sqHead s).culm = s.culm := by
  simp [State.writeCq, State.msi]

@[simp] theorem State.flushN_culm (q n : Nat) (s : State) : (State.flushN q n s).culm = s.culm := by
  induction n generalizing s with
  | zero => rfl
  | succ n ih =>
    unfold State.flushN
    repeat' split
    all_goals simp [ih]

@[simp] theorem State.flush_culm (q : Nat) (s : State) : (State.flush q s).culm = s.culm := by
  simp [State.flush, culm_ite]

@[simp] theorem State.complete_culm (q i : Nat) (c : Cpl) (s : State) : (State.complete q i c s).culm = s.culm := by
  unfold State.complete
  split <;> simp

@[simp] theorem State.anchor_culm (s : State) : (State.anchor s).culm = s.culm := by
  simp [State.anchor, culm_ite]

@[simp] theorem State.jrnQueue_culm (k : Nat) (s : State) : (State.jrnQueue k s).culm = s.culm := by
  simp [State.jrnQueue]

@[simp] theorem State.jrnNew_culm (k : Nat) (s : State) : (State.jrnNew k s).1.culm = s.culm := by
  unfold State.jrnNew
  split
  · simp
  · split
    · simp
    next t hcredit =>
      have halloc := State.allocOrWait_culm { pool := 4, who := .record k } t
      rw [State.credit_culm hcredit] at halloc
      split <;> simp_all

@[simp] theorem State.jrnPlace_culm (k : Nat) (s : State) : (State.jrnPlace k s).1.culm = s.culm := by
  unfold State.jrnPlace
  (repeat' split) <;> simp

@[simp] theorem State.jrnAppend_culm (f n : Nat) (body : List Byte) (s : State) :
    (State.jrnAppend f n body s).culm = s.culm := by
  simp [State.jrnAppend, culm_ite]

/-! ### Tokens, their ends and what they hold -/

@[simp] theorem State.putTok_culm (k : Nat) (t : Token) (s : State) : (State.putTok k t s).culm = s.culm := by
  simp [State.putTok]

@[simp] theorem State.checkTokens_culm (s : State) : (State.checkTokens s).culm = s.culm := by
  simp [State.checkTokens, culm_ite]

@[simp] theorem State.notifyToken_culm (k : Nat) (s : State) : (State.notifyToken k s).culm = s.culm := by
  simp [State.notifyToken, culm_ite]

@[simp] theorem State.move_culm (k : Nat) (new : TState) (reason : Nat) (s : State) :
    (State.move k new reason s).culm = s.culm := by
  simp [State.move]

@[simp] theorem State.freeAll_culm (k p : Nat) (s : State) : (State.freeAll k p s).culm = s.culm := by
  simp [State.freeAll, foldl_culm]

@[simp] theorem State.freeSpool_culm (k : Nat) (s : State) : (State.freeSpool k s).culm = s.culm := by
  simp [State.freeSpool, culm_ite, foldl_culm]

@[simp] theorem State.returnRing_culm (k : Nat) (s : State) : (State.returnRing k s).culm = s.culm := by
  simp [State.returnRing]

@[simp] theorem State.creditRest_culm (s : State) : (State.creditRest s).culm = s.culm := by
  simp [State.creditRest, culm_ite]

@[simp] theorem State.cancelRuns_culm (k : Nat) (s : State) : (State.cancelRuns k s).culm = s.culm := by
  simp [State.cancelRuns]

@[simp] theorem State.coderGo_culm (s : State) : (State.coderGo s).culm = s.culm := by
  unfold State.coderGo
  split <;> simp [culm_ite]

@[simp] theorem State.forget_culm (k : Nat) (s : State) : (State.forget k s).culm = s.culm := by
  simp [State.forget]

@[simp] theorem State.releaseToken_culm (k : Nat) (s : State) : (State.releaseToken k s).culm = s.culm := by
  simp [State.releaseToken]

@[simp] theorem State.putRecord_culm (k f n : Nat) (s : State) : (State.putRecord k f n s).culm = s.culm := by
  simp [State.putRecord, culm_ite]

@[simp] theorem State.placeEnd_culm (k : Nat) (s : State) : (State.placeEnd k s).culm = s.culm := by
  have hplace := State.jrnPlace_culm k s
  unfold State.placeEnd
  split
  next t f n heq => simp [← hplace, heq]
  next t heq => simp [← hplace, heq, culm_ite]

@[simp] theorem State.stopReading_culm (k status reason : Nat) (s : State) :
    (State.stopReading k status reason s).culm = s.culm := by
  unfold State.stopReading
  dsimp only
  (repeat' split) <;> simp

@[simp] theorem State.endTok_culm (k : Nat) (new : TState) (reason : Nat) (s : State) :
    (State.endTok k new reason s).culm = s.culm := by
  simp [State.endTok, culm_ite]

@[simp] theorem State.rejectOne_culm (k reason : Nat) (s : State) : (State.rejectOne k reason s).culm = s.culm := by
  simp [State.rejectOne, culm_ite]

@[simp] theorem State.spoilOne_culm (k reason : Nat) (s : State) : (State.spoilOne k reason s).culm = s.culm := by
  simp [State.spoilOne, culm_ite]

@[simp] theorem State.spoilMany_culm (ks : List Nat) (reason : Nat) (s : State) :
    (State.spoilMany ks reason s).culm = s.culm := by
  simp [State.spoilMany, foldl_culm]

@[simp] theorem State.spoilAll_culm (reason : Nat) (s : State) : (State.spoilAll reason s).culm = s.culm := by
  simp [State.spoilAll]

/-! ### Motion axes and sheets -/

@[simp] theorem State.motRaise_culm (src idx : Nat) (s : State) : (State.motRaise src idx s).culm = s.culm := by
  simp [State.motRaise]

@[simp] theorem State.halt_culm (k : Nat) (quick : Bool) (s : State) : (State.halt k quick s).culm = s.culm := by
  simp [State.halt]

@[simp] theorem State.stopSheets_culm (s : State) : (State.stopSheets s).culm = s.culm := by
  simp [State.stopSheets]

@[simp] theorem State.runoutEnd_culm (s : State) : (State.runoutEnd s).culm = s.culm := by
  simp [State.runoutEnd, culm_ite, foldl_culm]

/-! ### Stations -/

@[simp] theorem State.spoilStation_culm (n reason : Nat) (s : State) :
    (State.spoilStation n reason s).culm = s.culm := by
  simp [State.spoilStation]

@[simp] theorem State.gateHoldOn_culm (n : Nat) (s : State) : (State.gateHoldOn n s).culm = s.culm := by
  simp [State.gateHoldOn]

@[simp] theorem State.polySeen_culm (s : State) : (State.polySeen s).culm = s.culm := by
  simp [State.polySeen, culm_ite, foldl_culm]

/-! ### Drive units -/

@[simp] theorem State.attempt_culm (u : Nat) (s : State) : (State.attempt u s).culm = s.culm := by
  simp [State.attempt]

@[simp] theorem State.startUnit_culm (u : Nat) (s : State) : (State.startUnit u s).culm = s.culm := by
  simp [State.startUnit, culm_ite]

@[simp] theorem State.stopUnit_culm (u : Nat) (s : State) : (State.stopUnit u s).culm = s.culm := by
  simp [State.stopUnit]

@[simp] theorem State.startUnits_culm (s : State) : (State.startUnits s).culm = s.culm := by
  simp [State.startUnits, culm_ite, foldl_culm]

@[simp] theorem State.stopUnits_culm (all : Bool) (s : State) : (State.stopUnits all s).culm = s.culm := by
  simp [State.stopUnits, culm_ite, foldl_culm]

@[simp] theorem State.openUnit_culm (u : Nat) (s : State) : (State.openUnit u s).culm = s.culm := by
  simp [State.openUnit]

@[simp] theorem State.openUnits_culm (s : State) : (State.openUnits s).culm = s.culm := by
  simp [State.openUnits, foldl_culm]

/-! ### High voltage and the fuser -/

@[simp] theorem State.fusLeave_culm (s : State) : (State.fusLeave s).culm = s.culm := by
  simp [State.fusLeave, culm_ite]

@[simp] theorem State.fusCheck_culm (s : State) : (State.fusCheck s).culm = s.culm := by
  simp [State.fusCheck, culm_ite]

@[simp] theorem State.stopHeat_culm (s : State) : (State.stopHeat s).culm = s.culm := by
  simp [State.stopHeat, culm_ite, foldl_culm]

@[simp] theorem State.takeFusTables_culm (s : State) : (State.takeFusTables s).culm = s.culm := by
  simp [State.takeFusTables]

@[simp] theorem State.mainsUpdate_culm (s : State) : (State.mainsUpdate s).culm = s.culm := by
  simp [State.mainsUpdate, culm_ite]

@[simp] theorem State.powerOnCut_culm (s : State) : (State.powerOnCut s).culm = s.culm := by
  simp [State.powerOnCut, culm_ite]

/-! ### The disk and its transfers -/

@[simp] theorem State.paWrite_culm (i v : Nat) (s : State) : (State.paWrite i v s).culm = s.culm := by
  simp [State.paWrite]

@[simp] theorem State.heat_culm (code : Nat) (s : State) : (State.heat code s).culm = s.culm := by
  simp [State.heat, culm_ite]

@[simp] theorem State.heatNow_culm (s : State) : (State.heatNow s).culm = s.culm := by
  simp [State.heatNow, culm_ite]

@[simp] theorem State.selectHead_culm (h : Nat) (s : State) : (State.selectHead h s).culm = s.culm := by
  simp [State.selectHead]

@[simp] theorem State.endXfer_culm (status : Nat) (s : State) : (State.endXfer status s).culm = s.culm := by
  unfold State.endXfer
  dsimp only
  (repeat' split) <;> simp

@[simp] theorem State.pieceStop_culm (s : State) : (State.pieceStop s).culm = s.culm := by
  unfold State.pieceStop
  split <;> simp

@[simp] theorem State.cancelPlans_culm (s : State) : (State.cancelPlans s).culm = s.culm := by
  simp [State.cancelPlans, foldl_culm]

@[simp] theorem State.growDefect_culm (lba kind : Nat) (s : State) : (State.growDefect lba kind s).culm = s.culm := by
  simp [State.growDefect, culm_ite]

@[simp] theorem State.writeFailed_culm (s : State) : (State.writeFailed s).culm = s.culm := by
  unfold State.writeFailed
  split <;> simp

@[simp] theorem State.gateCut_culm (src : Nat) (s : State) : (State.gateCut src s).culm = s.culm := by
  simp [State.gateCut, culm_ite]

@[simp] theorem State.abandon_culm (src : Nat) (s : State) : (State.abandon src s).culm = s.culm := by
  simp [State.abandon, culm_ite]

@[simp] theorem State.srvDone_culm (status : Nat) (s : State) : (State.srvDone status s).culm = s.culm := by
  simp [State.srvDone, culm_ite]

@[simp] theorem State.cutXfer_culm (s : State) : (State.cutXfer s).culm = s.culm := by
  unfold State.cutXfer
  dsimp only
  (repeat' split) <;> simp

@[simp] theorem State.park_culm (s0 : State) : (State.park s0).culm = s0.culm := by
  unfold State.park
  split <;> simp

@[simp] theorem State.fireRetract_culm (s : State) : (State.fireRetract s).culm = s.culm := by
  unfold State.fireRetract
  dsimp only
  (repeat' split) <;> simp

@[simp] theorem State.spnStopping_culm (s : State) : (State.spnStopping s).culm = s.culm := by
  simp [State.spnStopping]

@[simp] theorem State.spnStop_culm (s : State) : (State.spnStop s).culm = s.culm := by
  unfold State.spnStop
  split <;> simp [culm_ite]

@[simp] theorem State.seekProfile_culm (turn : Nat) (s : State) : (State.seekProfile turn s).culm = s.culm := by
  simp [State.seekProfile]

@[simp] theorem State.seekTo_culm (h turn : Nat) (s : State) : (State.seekTo h turn s).culm = s.culm := by
  simp [State.seekTo, culm_ite]

@[simp] theorem State.spnAttempt_culm (s : State) : (State.spnAttempt s).culm = s.culm := by
  simp [State.spnAttempt]

@[simp] theorem State.spnStart_culm (s : State) : (State.spnStart s).culm = s.culm := by
  simp [State.spnStart, culm_ite]

/-! ### The Mover, page-outs and the coder -/

@[simp] theorem State.pageWater_culm (s : State) : (State.pageWater s).culm = s.culm := by
  simp [State.pageWater, culm_ite]

@[simp] theorem State.beginPageOut_culm (f : Nat) (x : Frame) (s : State) :
    (State.beginPageOut f x s).culm = s.culm := by
  unfold State.beginPageOut
  split <;> simp

@[simp] theorem State.pageOuts_culm (n : Nat) (s : State) : (State.pageOuts n s).culm = s.culm := by
  induction n generalizing s with
  | zero => rfl
  | succ n ih =>
    unfold State.pageOuts
    repeat' split
    all_goals simp [ih]

@[simp] theorem State.pageOutDue_culm (s : State) : (State.pageOutDue s).culm = s.culm := by
  simp [State.pageOutDue]

@[simp] theorem State.pageOutFailed_culm (f : Nat) (s : State) : (State.pageOutFailed f s).culm = s.culm := by
  unfold State.pageOutFailed
  split <;> simp [culm_ite]

@[simp] theorem State.checkMov_culm (s : State) : (State.checkMov s).culm = s.culm := by
  simp [State.checkMov, culm_ite]

@[simp] theorem State.freeDeferred_culm (s : State) : (State.freeDeferred s).culm = s.culm := by
  simp [State.freeDeferred, culm_ite, foldl_culm]

@[simp] theorem State.movEnd_culm (k : Nat) (st : MovStatus) (lost : Nat) (s : State) :
    (State.movEnd k st lost s).culm = s.culm := by
  simp [State.movEnd]

@[simp] theorem State.movAbort1_culm (k blocks : Nat) (s : State) : (State.movAbort1 k blocks s).culm = s.culm := by
  simp [State.movAbort1, culm_ite]

/-! ###  -/

@[simp] theorem State.fhZone_culm (s : State) : (State.fhZone s).culm = s.culm := by
  unfold State.fhZone
  (repeat' split) <;> simp [culm_ite]

@[simp] theorem State.fhBegin_culm (s : State) : (State.fhBegin s).culm = s.culm := by
  unfold State.fhBegin
  split <;> simp [culm_ite]

/-! ### The servo and the spindle -/

@[simp] theorem State.diskLeaves_culm (s : State) : (State.diskLeaves s).culm = s.culm := by
  simp [State.diskLeaves, culm_ite, foldl_culm]

/-! ### Calibration -/

@[simp] theorem State.holdSlots_culm (l : List Nat) (s : State) : (State.holdSlots l s).culm = s.culm := by
  refine foldl_culm (fun t n => ?_) _ _
  rfl

@[simp] theorem State.freeSlotsOf_culm (l : List Nat) (s : State) : (State.freeSlotsOf l s).culm = s.culm := by
  refine foldl_culm (fun t n => ?_) _ _
  rfl

@[simp] theorem State.calStart_culm (id inst trig : Nat) (s : State) :
    (State.calStart id inst trig s).culm = s.culm := by
  unfold State.calStart
  split <;> simp

@[simp] theorem State.calTrigger_culm (id inst trig : Nat) (s : State) :
    (State.calTrigger id inst trig s).culm = s.culm := by
  simp [State.calTrigger, culm_ite]

@[simp] theorem State.calRelease_culm (id : Nat) (r : CalRun) (s : State) :
    (State.calRelease id r s).culm = s.culm := by
  unfold State.calRelease
  split <;> simp

@[simp] theorem State.calEnd_culm (id outcome : Nat) (s : State) : (State.calEnd id outcome s).culm = s.culm := by
  unfold State.calEnd
  dsimp only
  (repeat' split) <;> simp

@[simp] theorem State.calAbort_culm (p : Nat → Nat → Bool) (s : State) : (State.calAbort p s).culm = s.culm := by
  refine foldl_culm (fun t id => ?_) _ _
  split
  · simp [culm_ite]
  · rfl

@[simp] theorem State.calStartUp_culm (s : State) : (State.calStartUp s).culm = s.culm := by
  refine (foldl_culm (fun t id => ?_) _ _).trans (State.onCal_culm _ _)
  split
  · rfl
  · split <;> simp

/-- The switch-over of calibration 7 touches no axis; those of calibrations 0 and 9 do (R1041). -/
@[simp] theorem State.calSwitch_seven_culm (s : State) : (State.calSwitch 7 s).culm = s.culm := by
  unfold State.calSwitch
  split
  · rfl
  · split
    · rfl
    · rw [State.calEnd_culm]
      refine foldl_culm (fun t i => ?_) _ _
      rfl

@[simp] theorem State.calSettle_culm (s : State) : (State.calSettle s).culm = s.culm := by
  unfold State.calSettle
  split <;> simp [culm_ite]

/-! ### Stations as they are worked -/

@[simp] theorem State.apcCut_culm (n : Nat) (s : State) : (State.apcCut n s).culm = s.culm := by
  simp [State.apcCut]

@[simp] theorem State.apcCuts_culm (s : State) : (State.apcCuts s).culm = s.culm := by
  simp [State.apcCuts, culm_ite, foldl_culm]

@[simp] theorem State.checkStation_culm (fresh : Bool) (n : Nat) (s : State) :
    (State.checkStation fresh n s).culm = s.culm := by
  simp [State.checkStation, culm_ite, foldl_culm]

@[simp] theorem State.enableStation_culm (n : Nat) (s : State) : (State.enableStation n s).culm = s.culm := by
  simp [State.enableStation]

@[simp] theorem State.disableStation_culm (n : Nat) (s : State) : (State.disableStation n s).culm = s.culm := by
  simp [State.disableStation, foldl_culm]

/-! ### A domain's sources -/

@[simp] theorem State.sourcesLost_culm (d : Dom) (s : State) : (State.sourcesLost d s).culm = s.culm := by
  simp [State.sourcesLost]

/-! ### Domains, rails and the sequencer -/

@[simp] theorem State.setDom_culm (d : Dom) (v : DState) (s : State) : (State.setDom d v s).culm = s.culm := by
  simp [State.setDom, culm_ite]

@[simp] theorem State.abandonPageOuts_culm (s : State) : (State.abandonPageOuts s).culm = s.culm := by
  unfold State.abandonPageOuts
  dsimp only
  split <;> simp [culm_ite, foldl_culm]

@[simp] theorem State.abortMover_culm (s : State) : (State.abortMover s).culm = s.culm := by
  simp [State.abortMover, foldl_culm]

@[simp] theorem State.flushJournal_culm (s : State) : (State.flushJournal s).culm = s.culm := by
  simp [State.flushJournal, culm_ite]

@[simp] theorem State.spillJournal_culm (s : State) : (State.spillJournal s).culm = s.culm := by
  simp [State.spillJournal, foldl_culm]

@[simp] theorem State.dropXfers_culm (p : Xfer → Bool) (s : State) : (State.dropXfers p s).culm = s.culm := by
  simp [State.dropXfers]

@[simp] theorem State.runSeq_culm (why : SeqFor) (tasks : List SeqTask) (s : State) :
    (State.runSeq why tasks s).culm = s.culm := by
  simp [State.runSeq]

@[simp] theorem State.planTo_culm (m : Mode) (s : State) : (State.planTo m s).culm = s.culm := by
  simp [State.planTo]

@[simp] theorem State.rstoTake_culm (s : State) : (State.rstoTake s).culm = s.culm := by
  simp [State.rstoTake]

@[simp] theorem State.seqPop_culm (s : State) : (State.seqPop s).culm = s.culm := by
  simp [State.seqPop]

@[simp] theorem State.pmbIssue_culm (k : Nat) (l : List (Nat × Nat)) (s : State) :
    (State.pmbIssue k l s).culm = s.culm := by
  simp [State.pmbIssue, culm_ite]

@[simp] theorem State.slotOff_culm (k : Nat) (s : State) : (State.slotOff k s).culm = s.culm := by
  simp [State.slotOff]

/-! ### The steps of a start -/

@[simp] theorem State.logStep_culm (n method outcome us : Nat) (s : State) :
    (State.logStep n method outcome us s).culm = s.culm := by
  simp [State.logStep]

@[simp] theorem State.endStep_culm (n : Nat) (s : State) : (State.endStep n s).culm = s.culm := by
  simp [State.endStep]

@[simp] theorem State.withoutDisk_culm (s : State) : (State.withoutDisk s).culm = s.culm := by
  simp [State.withoutDisk, culm_ite]

@[simp] theorem State.lossRecords_culm (s : State) : (State.lossRecords s).culm = s.culm := by
  unfold State.lossRecords
  dsimp only
  split
  · rfl
  · refine (State.onDie_culm _ _).trans (foldl_culm (fun t p => ?_) _ _)
    have hplace := State.jrnPlace_culm 1025 t
    split
    · rfl
    · split
      next u f n heq => simp [← hplace, heq]
      next u heq => rw [← hplace, heq]

@[simp] theorem State.skipStep_culm (n : Nat) (s : State) : (State.skipStep n s).culm = s.culm := by
  simp [State.skipStep, culm_ite]

@[simp] theorem State.markStep_culm (n method inst cause arg : Nat) (s : State) :
    (State.markStep n method inst cause arg s).culm = s.culm := by
  simp [State.markStep]

@[simp] theorem State.optionalFailed_culm (n inst cause us arg : Nat) (s : State) :
    (State.optionalFailed n inst cause us arg s).culm = s.culm := by
  simp [State.optionalFailed, culm_ite]

@[simp] theorem State.beginStep_culm (n : Nat) (s : State) : (State.beginStep n s).culm = s.culm := by
  unfold State.beginStep
  split <;> simp

@[simp] theorem State.takeStep_culm (n : Nat) (s : State) : (State.takeStep n s).culm = s.culm := by
  simp [State.takeStep, culm_ite]

@[simp] theorem State.takeSteps_culm (l : List Nat) (s : State) : (State.takeSteps l s).culm = s.culm := by
  simp [State.takeSteps, culm_ite, foldl_culm]

@[simp] theorem State.runSteps_culm (n : Nat) (s : State) : (State.runSteps n s).culm = s.culm := by
  induction n generalizing s with
  | zero => rfl
  | succ n ih =>
    unfold State.runSteps
    repeat' split
    all_goals simp [ih]

@[simp] theorem State.runOptional_culm (s : State) : (State.runOptional s).culm = s.culm := by
  simp [State.runOptional, culm_ite]

@[simp] theorem State.dropStart_culm (s : State) : (State.dropStart s).culm = s.culm := by
  simp [State.dropStart]

/-! ### Modes, SAFE, and the rounds of what goes on by itself -/

@[simp] theorem State.reqEnd_culm (r : ReqStatus) (s : State) : (State.reqEnd r s).culm = s.culm := by
  simp [State.reqEnd]

@[simp] theorem State.drivenEnd_culm (r : ReqStatus) (s : State) : (State.drivenEnd r s).culm = s.culm := by
  simp [State.drivenEnd, culm_ite]

@[simp] theorem State.leaveBegin_culm (off : Bool) (s : State) : (State.leaveBegin off s).culm = s.culm := by
  simp [State.leaveBegin, culm_ite]

@[simp] theorem State.leaveStep_culm (s : State) : (State.leaveStep s).culm = s.culm := by
  unfold State.leaveStep
  split <;> simp [culm_ite, foldl_culm]

@[simp] theorem State.goMode_culm (m : Mode) (s0 : State) : (State.goMode m s0).culm = s0.culm := by
  simp [State.goMode, culm_ite]

@[simp] theorem State.modeIs_culm (m : Mode) (s : State) : (State.modeIs m s).culm = s.culm := by
  simp [State.modeIs, culm_ite]

@[simp] theorem State.engineStart_culm (s : State) : (State.engineStart s).culm = s.culm := by
  simp [State.engineStart, culm_ite]

@[simp] theorem State.contain_culm (s : State) : (State.contain s).culm = s.culm := by
  simp [State.contain, culm_ite, foldl_culm]

@[simp] theorem State.runOut_culm (skip live : Bool) (s : State) : (State.runOut skip live s).culm = s.culm := by
  simp [State.runOut, culm_ite, foldl_culm]

@[simp] theorem State.safeRecord_culm (s : State) : (State.safeRecord s).culm = s.culm := by
  simp [State.safeRecord]

@[simp] theorem State.planSafe_culm (s : State) : (State.planSafe s).culm = s.culm := by
  simp [State.planSafe, culm_ite]

@[simp] theorem State.enterSafe_culm (origin src : Nat) (skip : Bool) (s : State) :
    (State.enterSafe origin src skip s).culm = s.culm := by
  simp [State.enterSafe, culm_ite]

@[simp] theorem State.latchCause_culm (origin src : Nat) (s : State) :
    (State.latchCause origin src s).culm = s.culm := by
  simp [State.latchCause]

@[simp] theorem State.safeStart_culm (origin src : Nat) (s : State) :
    (State.safeStart origin src s).culm = s.culm := by
  simp [State.safeStart, culm_ite]

@[simp] theorem State.safeNow_culm (origin src : Nat) (skip : Bool) (s : State) :
    (State.safeNow origin src skip s).culm = s.culm := by
  simp [State.safeNow, culm_ite]

@[simp] theorem State.takeSafe_culm (s : State) : (State.takeSafe s).culm = s.culm := by
  unfold State.takeSafe
  split <;> simp [culm_ite]

@[simp] theorem State.safeFromStart_culm (s : State) : (State.safeFromStart s).culm = s.culm := by
  simp [State.safeFromStart]

@[simp] theorem State.offIs_culm (s : State) : (State.offIs s).culm = s.culm := by
  simp [State.offIs]

@[simp] theorem State.restartDue_culm (s : State) : (State.restartDue s).culm = s.culm := by
  simp [State.restartDue, culm_ite]

@[simp] theorem State.offLatched_culm (s : State) : (State.offLatched s).culm = s.culm := by
  unfold State.offLatched
  split <;> simp

@[simp] theorem State.failOff_culm (s : State) : (State.failOff s).culm = s.culm := by
  simp [State.failOff]

@[simp] theorem State.mandatoryFailed_culm (n inst cause us arg : Nat) (s : State) :
    (State.mandatoryFailed n inst cause us arg s).culm = s.culm := by
  simp [State.mandatoryFailed, culm_ite]

@[simp] theorem State.readyFailed_culm (s : State) : (State.readyFailed s).culm = s.culm := by
  simp [State.readyFailed]

@[simp] theorem State.seqFailed_culm (s : State) : (State.seqFailed s).culm = s.culm := by
  simp [State.seqFailed, culm_ite]

@[simp] theorem State.undoEnd_culm (s : State) : (State.undoEnd s).culm = s.culm := by
  simp [State.undoEnd, culm_ite]

@[simp] theorem State.seqEnd_culm (s : State) : (State.seqEnd s).culm = s.culm := by
  unfold State.seqEnd
  dsimp only
  split <;> simp [culm_ite]

@[simp] theorem State.takeOff_culm (s : State) : (State.takeOff s).culm = s.culm := by
  simp [State.takeOff, culm_ite]

@[simp] theorem State.rstoUpdate_culm (s : State) : (State.rstoUpdate s).culm = s.culm := by
  simp [State.rstoUpdate, culm_ite, foldl_culm]

@[simp] theorem State.printFollows_culm (s : State) : (State.printFollows s).culm = s.culm := by
  simp [State.printFollows, culm_ite]

@[simp] theorem State.stationMarks_culm (s : State) : (State.stationMarks s).culm = s.culm := by
  simp [State.stationMarks, culm_ite, foldl_culm]

@[simp] theorem State.stepsFail_culm (s : State) : (State.stepsFail s).culm = s.culm := by
  refine foldl_culm (fun t n => ?_) _ _
  split <;> simp

@[simp] theorem State.stepsGo_culm (s0 : State) : (State.stepsGo s0).culm = s0.culm := by
  simp [State.stepsGo, culm_ite]

@[simp] theorem State.go_culm (m : Mode) (s : State) : (State.go m s).culm = s.culm := by
  simp [State.go, culm_ite]

@[simp] theorem State.judge_culm (m : Mode) (s : State) : (State.judge m s).2.culm = s.culm := by
  unfold State.judge
  dsimp only
  (repeat' split) <;> simp

@[simp] theorem State.judgeLatched_culm (s : State) : (State.judgeLatched s).culm = s.culm := by
  unfold State.judgeLatched
  split <;> simp [culm_ite]

end Sys2Proof.Machine

namespace Sys2Proof.Machine

/-! ## A COMMIT that waits (R204), and what the controller does by itself -/

/-- For each axis, whether a COMMIT waits on it for an index edge (R204). -/
def State.commits (s : State) : List Bool := s.culm.axes.map Axis.commit

theorem State.ax_commit_eq (s : State) (k : Nat) : (s.culm.ax k).commit = nth false s.commits k := by
  simp only [State.commits, Culm.ax, nth, List.getD_eq_getElem?_getD, List.getElem?_map]
  cases s.culm.axes[k]? <;> rfl

theorem commits_of_culm {s t : State} (h : t.culm = s.culm) : t.commits = s.commits := by
  rw [State.commits, h, State.commits]

/-- A change of each axis that leaves its waiting COMMIT alone. -/
theorem commits_of_axes_map {s t : State} {f : Axis → Axis} (hf : ∀ a, (f a).commit = a.commit)
    (h : t.culm.axes = s.culm.axes.map f) : t.commits = s.commits := by
  simp [State.commits, h, hf]

theorem foldl_commits {α : Type} {f : State → α → State} (h : ∀ t a, (f t a).commits = t.commits) (l : List α)
    (s : State) : (l.foldl f s).commits = s.commits := by
  induction l generalizing s with
  | nil => rfl
  | cons a l ih => rw [List.foldl_cons, ih, h]

theorem Axis.takeAff_commit (src idx : Nat) (u : Int) (a : Axis) : (a.takeAff src idx u).commit = a.commit := by
  unfold Axis.takeAff
  dsimp only
  split <;> rfl

@[simp] theorem State.refreshAff_commits (src idx : Nat) (u : Int) (s : State) :
    (s.refreshAff src idx u).commits = s.commits :=
  commits_of_axes_map (Axis.takeAff_commit src idx u) rfl

@[simp] theorem State.accFollows_commits (s t : State) : (s.accFollows t).commits = t.commits := by
  refine foldl_commits (fun u k => ?_) _ _
  split
  · rfl
  · exact State.refreshAff_commits _ _ _ _

@[simp] theorem State.swapLost_commits (s : State) : s.swapLost.commits = s.commits := by
  unfold State.swapLost
  split
  · have hdisarm : (s.onCulm (Culm.disarm 4)).commits = s.commits := rfl
    exact (commits_of_culm (State.raise_culm _ _)).trans hdisarm
  · rfl

/-- The axes go OFF with ENG, and a COMMIT that waits on one of them goes on waiting. -/
@[simp] theorem State.engLeaves_commits (s : State) : s.engLeaves.commits = s.commits := by
  have hoff : (s.onCulm fun c => { c with axes := c.axes.map Axis.toOff, due := [] }).commits = s.commits :=
    commits_of_axes_map (f := Axis.toOff) (fun _ => rfl) rfl
  exact (State.swapLost_commits _).trans hoff

@[simp] theorem State.domainLeaves_commits (d : Dom) (off : Bool) (s : State) :
    (s.domainLeaves d off).commits = s.commits := by
  have hcal : (s.calAbort fun id _ => calInDomain d id).commits = s.commits :=
    commits_of_culm (State.calAbort_culm _ _)
  unfold State.domainLeaves
  dsimp only
  rw [commits_of_culm (State.sourcesLost_culm _ _), ← hcal]
  generalize (s.calAbort fun id _ => calInDomain d id) = t
  cases d with
  | eng => exact State.engLeaves_commits t
  | mem => exact commits_of_culm (by simp [culm_ite])
  | dsk => exact commits_of_culm (State.diskLeaves_culm t)
  | pix | aon | mgt | ana | img => rfl

@[simp] theorem State.domainBegin_commits (d : Dom) (goal : DState) (s : State) :
    (s.domainBegin d goal).commits = s.commits := by
  unfold State.domainBegin
  dsimp only
  refine (commits_of_culm ((State.onPwr_culm _ _).trans (State.setDom_culm _ _ _))).trans ?_
  split
  · exact State.domainLeaves_commits _ _ _
  · exact commits_of_culm (by simp [culm_ite])

@[simp] theorem State.seqKick_commits (n : Nat) (s : State) : (State.seqKick n s).commits = s.commits := by
  induction n generalizing s with
  | zero => rfl
  | succ n ih =>
    have hpop : (State.seqKick n s.seqPop).commits = s.commits := (ih _).trans (commits_of_culm (State.seqPop_culm _))
    unfold State.seqKick
    split
    · rfl
    next d g _ _ =>
      have hdisk : s.diskLeaves.commits = s.commits := commits_of_culm (State.diskLeaves_culm _)
      have hbegin := State.domainBegin_commits d g s
      split_ifs
      · rfl
      · exact hpop
      · rfl
      · exact hdisk
      · exact hbegin
    · split_ifs
      · exact hpop
      · rfl
      · rfl
    · split_ifs
      · rfl
      · exact hpop
      · exact commits_of_culm (by simp)

/-- One round of what the controller does by itself touches the axes by the sequencer alone. -/
@[simp] theorem State.settle1_commits (s : State) : s.settle1.commits = s.commits := by
  have hseq : s.takeSafe.takeOff.seqGo.commits = s.commits :=
    (State.seqKick_commits _ _).trans (commits_of_culm (by simp))
  exact (commits_of_culm (by simp [State.settle1, culm_ite])).trans hseq

@[simp] theorem State.settle_commits (s : State) : s.settle.commits = s.commits := by
  have hrounds : s.settle1.settle1.settle1.settle1.commits = s.commits := by simp
  exact (commits_of_culm (by simp [State.settle, culm_ite])).trans hrounds

/-! ## The mark that a served SMBus transaction leaves -/

/-- Where the service load is in service after the checkpoints, its own has been counted (R58). -/
theorem checkpoints_counted (s : State) (h : s.checkpoints.served .service = true) :
    s.checkpoints.sys.ckptService ≠ 0 := by
  unfold State.checkpoints at h ⊢
  generalize s.checkpoint .engine = t at h ⊢
  by_cases ht : t.served .service = true
  · simp [State.checkpoint, ht]
  · rw [State.checkpoint, if_neg ht] at h
    exact absurd h ht

/-- The transaction that the target holds waits on, or it is served and its checkpoint is counted. -/
theorem smbGo_cases (s : State) : smbGo s = s ∨ ∃ t : State, smbGo s = t.checkpoints := by
  unfold smbGo
  split
  · split
    · exact .inr ⟨_, rfl⟩
    · exact .inl rfl
  · exact .inl rfl

/-- What `s` and `t` have in common where the service load is as much in service, and as many of its checkpoints are
counted. -/
def State.SameService (s t : State) : Prop :=
  t.served .service = s.served .service ∧ t.sys.ckptService = s.sys.ckptService

theorem State.SameService.trans {s t u : State} (h : s.SameService t) (h' : t.SameService u) : s.SameService u :=
  ⟨h'.1.trans h.1, h'.2.trans h.2⟩

theorem foldl_sameService {α : Type} {f : State → α → State} (h : ∀ t a, State.SameService t (f t a)) (l : List α)
    (s : State) : s.SameService (l.foldl f s) := by
  induction l generalizing s with
  | nil => exact ⟨rfl, rfl⟩
  | cons a l ih => exact (h s a).trans (ih _)

theorem startSlots_sameService (i : Nat) (l : List Nat) (s : State) : s.SameService (s.startSlots i l) :=
  foldl_sameService (f := fun t n => t.onTs n _) (fun _ _ => ⟨rfl, rfl⟩) _ _

theorem raise_sameService (n : Nat) (s : State) : s.SameService (s.raise n) := by
  obtain ⟨_, _, _, h⟩ := raise_frame s n
  rw [h]
  exact ⟨rfl, rfl⟩

theorem glume_sameService (k : Nat) (p : Bool) (n : Nat) (l : List Byte) (s : State) :
    s.SameService (s.glume k p n l) := by
  obtain ⟨_, _, _, h⟩ := glume_frame s k p n l
  rw [h]
  exact ⟨rfl, rfl⟩

theorem checkFrames_sameService (s : State) : s.SameService s.checkFrames := by
  unfold State.checkFrames
  split
  · exact ⟨rfl, rfl⟩
  · exact ((raise_sameService _ _).trans (glume_sameService _ _ _ _ _)).trans (glume_sameService _ _ _ _ _)

theorem stopHeat_sameService (s : State) : s.SameService s.stopHeat := by
  refine foldl_sameService (fun t k => ?_) _ _
  split <;> exact ⟨rfl, rfl⟩

theorem errUpdate_sameService (s : State) : s.SameService s.errUpdate := by
  obtain ⟨_, h⟩ := errUpdate_frame s
  rw [h]
  exact ⟨rfl, rfl⟩

/-! ## No waiting COMMIT is applied by what the controller does by itself -/

/-- What follows the SMBus transaction that waited: the slots that restart, and the check of the frame identities. -/
def State.goesOnEnd (s t : State) : State :=
  let u := t.startSlots s.teff.instant (t.slotsRunning.filter fun n => !s.slotsRunning.contains n)
  if u.on .mem then u.checkFrames else u

theorem goesOnEnd_culm (s t : State) : (s.goesOnEnd t).culm = t.culm := by
  simp [State.goesOnEnd, culm_ite]

theorem goesOnEnd_sameService (s t : State) : t.SameService (s.goesOnEnd t) := by
  unfold State.goesOnEnd
  dsimp only
  split
  · exact (startSlots_sameService _ _ _).trans (checkFrames_sameService _)
  · exact startSlots_sameService _ _ _

/-- What goes on by itself leaves the COMMITs that wait, or ends with the service load out of service or with a
checkpoint of it: only an SMBus transaction that is served may write what applies them. -/
theorem goesOn_commits (s t : State) (hserved : (s.goesOn t).served .service = true)
    (hcount : (s.goesOn t).sys.ckptService = 0) : (s.goesOn t).commits = t.commits := by
  have hfirst : (if t.on .eng then (s.accFollows t).mainsUpdate else t).commits = t.commits := by
    split
    · exact (commits_of_culm (State.mainsUpdate_culm _)).trans (State.accFollows_commits s t)
    · rfl
  have hparts : ∃ u : State, u.commits = t.commits ∧ s.goesOn t = s.goesOnEnd (smbGo u) := by
    refine ⟨_, ?_, rfl⟩
    rw [State.settle_commits, ← hfirst]
    generalize (if t.on .eng then (s.accFollows t).mainsUpdate else t) = t1
    exact commits_of_culm (by simp [culm_ite])
  obtain ⟨u, hu, hgoes⟩ := hparts
  rw [hgoes] at hserved hcount ⊢
  have hend := goesOnEnd_sameService s (smbGo u)
  rw [hend.1] at hserved
  rw [hend.2] at hcount
  rcases smbGo_cases u with hwait | ⟨v, hv⟩
  · rw [commits_of_culm (goesOnEnd_culm _ _), hwait, hu]
  · rw [hv] at hserved hcount
    exact absurd hcount (checkpoints_counted v hserved)

/-- What follows what goes on by itself: heaters that may not fire stop, and ERR_N is driven. -/
theorem after_end_culm (u : State) : u.stopHeat.errUpdate.culm = u.culm := by simp

theorem after_end_sameService (u : State) : u.SameService u.stopHeat.errUpdate :=
  (stopHeat_sameService u).trans (errUpdate_sameService _)

/-- Where after a command the service load is in service and no checkpoint of it is counted, the COMMITs that wait are
those that the command's effect has left. -/
theorem after_commits (s t : State) (hserved : (s.after t).served .service = true)
    (hcount : (s.after t).sys.ckptService = 0) : (s.after t).commits = t.commits := by
  unfold State.after at hserved hcount ⊢
  generalize hu : (if t.aonOn then s.goesOn t else t) = u at hserved hcount ⊢
  have hculm := after_end_culm u
  have hsame := after_end_sameService u
  generalize u.stopHeat.errUpdate = w at hserved hcount hculm hsame ⊢
  have hservedU : u.served .service = true := hsame.1.symm.trans hserved
  have hcountU : u.sys.ckptService = 0 := hsame.2.symm.trans hcount
  have hcommits : ({ w with pending := s.pending } : State).commits = u.commits := commits_of_culm hculm
  refine hcommits.trans ?_
  split at hu
  · subst hu
    exact goesOn_commits s t hservedU hcountU
  · rw [hu]

end Sys2Proof.Machine

namespace Sys2Proof.Machine

/-- A COMMIT that waits in the state that a command's effect gives waits on, where the service load is in service after
the command and no checkpoint of it is counted. -/
theorem commit_waits_on {i : Instr} {s t : State} {k : Nat} {f : State → State} (hexec : exec i s = act f s)
    (haon : s.aonOn = true) (hserved : (s.after (f s)).served .service = true)
    (hcount : (s.after (f s)).sys.ckptService = 0) (hdoes : Does i s t) (hwaits : (t.culm.ax k).commit = true) :
    ((s.after (f s)).culm.ax k).commit = true := by
  have hsame : s.after t = s.after (f s) := after_eq_of_does hexec haon hdoes
  rw [← hsame] at hserved hcount ⊢
  rw [State.ax_commit_eq, after_commits s t hserved hcount, ← State.ax_commit_eq, hwaits]

/-! ## A COMMIT on an axis that loses its lock (O13)

A COMMIT on a LOCKED axis waits for the next index edge. When misses take the axis to LOST instead, the shadow copy is
applied at once (R204, R1051), where the statement has the miss change nothing but the state and the counts. -/

/-- Axis 0 is LOCKED with a COMMIT that waits, has missed as often as its filter permits, and misses again. -/
def losingLock : State :=
  inService.onCulm (Culm.modAx 0 fun a =>
    { a with cfg := 0x82000000#32, st := .locked, theta := 2 ^ 64 + 2 ^ 63, missRow := 15, commit := true })

/-- `losingLock` meets the hypotheses of the statement's clause on the miss that costs the lock. -/
theorem losingLock_misses : losingLock.aonOn = true ∧ losingLock.on .eng = true ∧ (losingLock.culm.ax 0).source ≠ 7 ∧
    (losingLock.culm.ax 0).st = .locked ∧ (losingLock.culm.ax 0).missed = true ∧
    fld (losingLock.axFilt 0) 8 4 ≤ (losingLock.culm.ax 0).missRow ∧ (losingLock.culm.ax 0).commit = true := by
  decide +kernel

/-- After the miss the service load is in service with no checkpoint counted, and the COMMIT has been applied. -/
theorem losingLock_after : (losingLock.after (indexMissAll 0 losingLock)).served .service = true ∧
    (losingLock.after (indexMissAll 0 losingLock)).sys.ckptService = 0 ∧
    ((losingLock.after (indexMissAll 0 losingLock)).culm.ax 0).commit = false := by
  decide +kernel

/-- Refutes O13, by its clause on the miss that costs the lock: in `losingLock` the COMMIT that waits on the axis is
applied with it, where the statement has it wait on. -/
theorem not_indexEdgesAndMissesAreJudged : ¬ Obligations.IndexEdgesAndMissesAreJudged := by
  unfold Obligations.IndexEdgesAndMissesAreJudged
  rintro ⟨-, -, hmiss⟩
  obtain ⟨haon, heng, hsource, hlocked, hmissed, hrow, hcommit⟩ := losingLock_misses
  obtain ⟨t, hdoes, hax, -⟩ := (hmiss 0 losingLock haon heng hsource hlocked hmissed).2 hrow
  have hwaits : (t.culm.ax 0).commit = true := (congrArg Axis.commit hax).trans hcommit
  obtain ⟨hserved, hcount, happlied⟩ := losingLock_after
  have hwaitsOn : ((losingLock.after (indexMissAll 0 losingLock)).culm.ax 0).commit = true :=
    commit_waits_on rfl haon hserved hcount hdoes hwaits
  exact Bool.false_ne_true (happlied.symm.trans hwaitsOn)

/-! ## A COMMIT on an axis that is configured in OFF (O14)

An axis that goes OFF with its domain keeps the COMMIT that waits on it. The configuration write that sets EN applies
the shadow copy, since the axis is not LOCKED (R204), where the statement has the write change nothing but the
configuration and the counts. -/

/-- Axis 0 is in OFF with EN = 0, and a COMMIT waits on it. -/
def offWithCommit : State := inService.onCulm (Culm.modAx 0 fun a => { a with commit := true })

/-- `offWithCommit` meets the hypotheses of the statement's clause on a legal write that sets EN. -/
theorem offWithCommit_configures : offWithCommit.aonOn = true ∧ offWithCommit.on .eng = true ∧
    offWithCommit.mayWrite .fixed = true ∧ offWithCommit.axisWriteBad 0 0 0x82000000#32 = false ∧
    (offWithCommit.culm.ax 0).en = false ∧ (offWithCommit.culm.ax 0).st = .off ∧ bitOf 0x82000000#32 31 = true ∧
    offWithCommit.shaped = true ∧ (offWithCommit.culm.ax 0).commit = true := by
  decide +kernel

/-- After the write the service load is in service with no checkpoint counted, and the COMMIT has been applied. -/
theorem offWithCommit_after :
    (offWithCommit.after (axisWord 0 0 0x82000000#32 offWithCommit)).served .service = true ∧
    (offWithCommit.after (axisWord 0 0 0x82000000#32 offWithCommit)).sys.ckptService = 0 ∧
    ((offWithCommit.after (axisWord 0 0 0x82000000#32 offWithCommit)).culm.ax 0).commit = false := by
  decide +kernel

/-- Refutes O14, by its clause on the write that sets EN: in `offWithCommit` the COMMIT that waits on the axis is
applied with it, where the statement has it wait on. -/
theorem not_axisConfigurationIsApplied : ¬ Obligations.AxisConfigurationIsApplied := by
  unfold Obligations.AxisConfigurationIsApplied
  rintro ⟨hwrite, -⟩
  obtain ⟨haon, heng, hmay, hlegal, hoff, hst, hen, hshaped, hcommit⟩ := offWithCommit_configures
  obtain ⟨hclause, -⟩ := hwrite 0 0x82000000#32 offWithCommit haon heng hmay
  obtain ⟨t, hdoes, -, hax⟩ := hclause hlegal hoff hst hen hshaped
  have hwaits : (t.culm.ax 0).commit = true := (congrArg Axis.commit hax).trans hcommit
  obtain ⟨hserved, hcount, happlied⟩ := offWithCommit_after
  have hwaitsOn : ((offWithCommit.after (axisWord 0 0 0x82000000#32 offWithCommit)).culm.ax 0).commit = true :=
    commit_waits_on rfl haon hserved hcount hdoes hwaits
  exact Bool.false_ne_true (happlied.symm.trans hwaitsOn)

end Sys2Proof.Machine

namespace Sys2Proof.Machine

/-! ## Station tables and screens (O20) -/

/-- Two changes of one station are one change. -/
theorem State.onLs_onLs (n : Nat) (f g : Station → Station) (s : State) :
    (s.onLs n f).onLs n g = s.onLs n fun t => g (f t) := by
  simp only [State.onLs, modAt, List.modify_modify_eq]
  rfl

/-- `LSn_TBL` lies in a block of IMG. -/
theorem offDom_lsTbl (n : Fin 4) : offDom (lsBase n + 0x30) = some .img := by
  decide +revert

/-- The word that TABLE_GO writes holds GO and its point (R297). -/
theorem tableGo_word {w : Fin 4} (hw : w.val < 3) :
    bitOf (placeB true 31 ||| place (w % 3) 0 2) 31 = true ∧ fld (placeB true 31 ||| place (w % 3) 0 2) 0 2 = w := by
  decide +revert

/-- The word that TABLE_CANCEL writes holds GO and WHEN 3 (R297). -/
theorem tableCancel_word : bitOf (placeB true 31 ||| 3) 31 = true ∧ fld (placeB true 31 ||| 3) 0 2 = 3 := by
  decide

section
variable {s : State} {n : Nat} {v : Word} (hgo : bitOf v 31 = true)
include hgo

/-- A GO with WHEN 3 ends an armed apply (R281). -/
theorem tblStore_cancel (hwhen : fld v 0 2 = 3) (harmed : (s.st n).tblArmed = true) :
    (tblStore n v s).2 = s.onLs n fun t => { t with tblWhen := 3, tblArmed := false, tblStatus := .cancelled } := by
  simp [tblStore, hgo, hwhen, harmed, State.onLs_onLs]

variable (hwhen : fld v 0 2 ≠ 3) (hfree : (s.st n).tblArmed = false)
  (hgood : tablesBad (s.shadowTables n) (fld (s.lsReg n 0) 0 8) (fld (s.lsReg n 0) 16 4) (s.nbeam n) = false)
include hwhen hfree hgood

/-- A GO of good tables on an enabled station arms them (R279). -/
theorem tblStore_arms (hon : s.stEnabled n = true) :
    (tblStore n v s).2 = s.onLs n fun t =>
      { t with tblWhen := fld v 0 2, tblPoint := fld v 0 2, tblTick := s.culm.tick, tblArmed := true,
               tblSwapSeen := false, tblStatus := .armed } := by
  simp [tblStore, hgo, hwhen, hfree, hgood, hon, State.onLs_onLs]

/-- A GO of good tables on a station that is not enabled applies them at once, and reports it (R285). -/
theorem tblStore_applies (hoff : s.stEnabled n = false) :
    (tblStore n v s).2 = (s.onLs n fun t =>
      { t with tblWhen := fld v 0 2, tbl := s.shadowTables n, tblArmed := false, tblSwapSeen := false,
               tblStatus := .applied }).raise (stSource n 6) := by
  have hshadow : ∀ f, (s.onLs n f).shadowTables n = s.shadowTables n := fun _ => rfl
  simp [tblStore, hgo, hwhen, hfree, hgood, hoff, State.takeTables, State.onLs_onLs, hshadow]

end

section
variable {s : State} (himg : s.on .img = true) (hwrite : s.mayWrite .shadow = true)
include himg hwrite

/-- With IMG on and the shadow class writable, TABLE_GO and TABLE_CANCEL write `LSn_TBL`. -/
theorem tableGo_eq (n w : Fin 4) :
    tableGo n w s = (tblStore n (placeB true 31 ||| place (w % 3) 0 2) s).2 :=
  bar0_of_legal (offDom_lsTbl n) himg hwrite _

theorem tableCancel_eq (n : Fin 4) : tableCancel n s = (tblStore n (placeB true 31 ||| 3) s).2 :=
  bar0_of_legal (offDom_lsTbl n) himg hwrite _

/-- Screens are armed while none is (R321). -/
theorem screenCmdStore_arm {n : Nat} (hfree : (s.st n).screenApply ≠ 1) :
    screenCmdStore n 1 s = (.none, s.onLs n fun t => { t with screenApply := 1 }) := by
  simp [screenCmdStore, himg, hwrite, hfree]

/-- A cancel of armed screens takes them from the page that was to bring them into force (R321, R322). -/
theorem screenCmdStore_cancel {n : Nat} (harmed : (s.st n).screenApply = 1) :
    screenCmdStore n 2 s = (.none, s.onLs n fun t =>
      { t with screenApply := 3, pages := t.pages.map fun p => { p with screens := false } }) := by
  simp [screenCmdStore, himg, hwrite, harmed]

/-- A screen set that its judgement accepts is stored in the shadow copy (R319, R320). -/
theorem screenStore_accepted {n i : Nat} {bs : List Byte} {sc : Screen} (hbs : bs ≠ [])
    (hset : screenOf bs = (.none, some sc)) (hfree : (s.st n).screenApply ≠ 1) :
    screenStore n i bs s =
      (.none, s.onLs n fun t => { t with shadowScreens := modAt t.shadowScreens i fun _ => sc }) := by
  simp [screenStore, himg, hwrite, hbs, hset, hfree]

/-- A screen set that its judgement refuses is answered with its abort, and stores nothing (R320). -/
theorem screenStore_refused {n i : Nat} {bs : List Byte} {a : Abort} (hbs : bs ≠ [])
    (hset : screenOf bs = (a, none)) : screenStore n i bs s = (a, s) := by
  simp [screenStore, himg, hwrite, hbs, hset]

end

/-- The screen set of one cell, with the thresholds of its three subpixels (R319). -/
def oneCell (a b c : Byte) : List Byte := [1, 0, 1, 0, 0, 0, 0, 0, 0, 0x94, 0xAA, 0xBF, 0, 0, 0, 0, a, b, c]

/-- A set of one cell is accepted when its thresholds do not fall (R320). -/
theorem screenOf_oneCell {a b c : Byte} (hab : a.toNat ≤ b.toNat) (hbc : b.toNat ≤ c.toNat) :
    screenOf (oneCell a b c) = (.none, some
      { w := 1, h := 1, px := 0, py := 0, lvl := [0, 0x94, 0xAA, 0xBF], cells := [a.toNat, b.toNat, c.toNat] }) := by
  simp [screenOf, oneCell, leAt, slice, leNat, List.range_succ, nth, hab, hbc]

/-- A head that is cut short is refused with LENGTH (R320). -/
theorem screenOf_short : screenOf [1, 0, 1, 0] = (.length, none) := by decide

/-- Settles O20: each command of the tables writes `LSn_TBL`, and each of the screens is a transaction that is served. -/
theorem tablesAndScreens : Obligations.TablesAndScreens := by
  unfold Obligations.TablesAndScreens
  refine ⟨?go, ?cancel, ?arm, ?disarm, ?store, ?short⟩
  case go =>
    intro n w s hw haon himg hwrite hfree hgood
    obtain ⟨hgo, hpoint⟩ := tableGo_word hw
    have hwhen : fld (placeB true 31 ||| place (w % 3) 0 2) 0 2 ≠ 3 := by
      rw [hpoint]
      exact hw.ne
    refine ⟨fun hon => does_of_effect rfl haon ?_, fun hoff => does_of_effect rfl haon ?_⟩
    · rw [tableGo_eq himg hwrite, tblStore_arms hgo hwhen hfree hgood hon, hpoint]
    · rw [tableGo_eq himg hwrite, tblStore_applies hgo hwhen hfree hgood hoff, hpoint, stSource,
        Nat.add_right_comm]
  case cancel =>
    intro n s haon himg hwrite harmed
    obtain ⟨hgo, hwhen⟩ := tableCancel_word
    exact does_of_effect rfl haon ((tableCancel_eq himg hwrite n).trans (tblStore_cancel hgo hwhen harmed))
  case arm =>
    intro n s haon himg hwrite hserved hfree
    refine does_of_effect rfl haon ((dict_of_served hserved _).trans ?_)
    rw [screenCmdStore_arm himg hwrite hfree]
  case disarm =>
    intro n s haon himg hwrite hserved harmed
    refine does_of_effect rfl haon ((dict_of_served hserved _).trans ?_)
    rw [screenCmdStore_cancel himg hwrite harmed]
  case store =>
    intro n i a b c s haon himg hwrite hserved hfree hab hbc
    refine does_of_effect rfl haon ((dict_of_served hserved _).trans ?_)
    rw [screenStore_accepted himg hwrite (List.cons_ne_nil _ _) (screenOf_oneCell hab hbc) hfree]
  case short =>
    intro n i s haon himg hwrite hserved
    refine does_of_effect rfl haon ((dict_of_served hserved _).trans ?_)
    rw [screenStore_refused himg hwrite (List.cons_ne_nil _ _) screenOf_short]

/-! ## A line end whose page has left the station (O19)

A token that ends in the middle of a line takes its page off the station (R420 to R422), while the pixel clock runs on
and the first pixels of zones still to come stay listed. The line end then drops what is listed (R264), where the
statement has it change nothing but the clock. -/

/-- A line of token 3's page runs on station 0, with a zone still to come. -/
def midLine : State :=
  inService.onLs 0 fun t =>
    { t with lineOn := true, zoneDue := [(0, 0, 0)], pages := [{ slot := 3, turn := 1, div := 0, sweep := some 0 }] }

/-- Token 3 has ended, and its page has left the station. -/
def pageLeft : State := midLine.releaseToken 3

/-- The state in which the statement has the line end. -/
def State.clockStopped (s : State) (n : Nat) : State := s.onLs n fun t => { t with lineOn := false }

/-- `pageLeft` meets the hypotheses of the statement's clause on a line end with no page on the station. -/
theorem pageLeft_lineRuns : pageLeft.aonOn = true ∧ pageLeft.on .img = true ∧ (pageLeft.st 0).lineOn = true ∧
    (pageLeft.st 0).pages = [] := by decide +kernel

/-- What the controller does by itself leaves the list of zones as the line end gives it, and as the statement gives
it. -/
theorem pageLeft_after_zoneDue :
    ((pageLeft.after (lineEnd 0 pageLeft)).st 0).zoneDue = [] ∧
    ((pageLeft.after (pageLeft.clockStopped 0)).st 0).zoneDue ≠ [] := by decide +kernel

/-- Refutes O19, by its clause on a line end with no page on the station: in `pageLeft` the line end drops the zone
still to come, which the statement has stay listed. -/
theorem not_linesAndSamples : ¬ Obligations.LinesAndSamples := by
  unfold Obligations.LinesAndSamples
  rintro ⟨hend, -⟩
  obtain ⟨haon, himg, hline, hpages⟩ := pageLeft_lineRuns
  have hsame : pageLeft.after (pageLeft.clockStopped 0) = pageLeft.after (lineEnd 0 pageLeft) :=
    after_eq_of_does rfl haon (hend 0 pageLeft haon himg hline hpages)
  obtain ⟨hmodel, hstated⟩ := pageLeft_after_zoneDue
  rw [hsame] at hstated
  exact hstated hmodel

/-! ## REARM of an enabled station whose checks fail (O18)

REARM writes DISABLE as it stands, and a write of 0 makes the checks of R219 again (R276). An enabled station whose
scanner axis no longer fits is disabled by it, with CFG_ERR (log entry 109), where the statement has it stay enabled. -/

/-- Station 0 is present and enabled with its latch set, and its scanner, axis 1, has no configuration. -/
def enabledUnfit : State :=
  (inService.setReg 0x200000 0x80080178#32).onLs 0 fun t => { t with disable := false, ilkLatch := true }

/-- The state in which the statement has REARM of an enabled station end. -/
def State.rearmedOnly (s : State) (n : Nat) : State :=
  s.onLs n fun t => { t with ilkLatch := false, bootDisabled := false }

/-- `enabledUnfit` meets the hypotheses of the statement's clause on REARM, and its station fails the checks. -/
theorem enabledUnfit_mayRearm : enabledUnfit.aonOn = true ∧ enabledUnfit.on .img = true ∧
    enabledUnfit.mayWrite .mgmt = true ∧ enabledUnfit.sys.laserOff = false ∧ (enabledUnfit.st 0).ilkLocal = false ∧
    (enabledUnfit.st 0).disable = false ∧ enabledUnfit.stationFits 0 = false := by decide +kernel

/-- What the controller does by itself leaves DISABLE as REARM gives it, and as the statement gives it. -/
theorem enabledUnfit_after_disable :
    ((enabledUnfit.after (rearm 0 enabledUnfit)).st 0).disable = true ∧
    ((enabledUnfit.after (enabledUnfit.rearmedOnly 0)).st 0).disable = false := by decide +kernel

/-- Refutes O18, by its clause on REARM of an enabled station: in `enabledUnfit` it disables the station, which the
statement has stay enabled. -/
theorem not_stationsAreGuarded : ¬ Obligations.StationsAreGuarded := by
  unfold Obligations.StationsAreGuarded
  rintro ⟨⟨-, hrearm, -⟩, -⟩
  obtain ⟨haon, himg, hwrite, hlaser, hlocal, henabled, -⟩ := enabledUnfit_mayRearm
  obtain ⟨hclause, -⟩ := hrearm 0 enabledUnfit haon himg hwrite hlaser hlocal
  have hsame : enabledUnfit.after (enabledUnfit.rearmedOnly 0) = enabledUnfit.after (rearm 0 enabledUnfit) :=
    after_eq_of_does rfl haon (hclause henabled)
  obtain ⟨hmodel, hstated⟩ := enabledUnfit_after_disable
  rw [hsame, hmodel] at hstated
  exact Bool.false_ne_true hstated.symm

end Sys2Proof.Machine

namespace Sys2Proof.Machine

/-! ## What leaves the pages' part of the state alone

The controller's own work between two commands reaches the slots of tokens in a few places only. These equations, one
for each function that does not, let the proofs about that work speak of those places alone. -/

theorem foldl_pgf {α : Type} {f : State → α → State} (h : ∀ t a, (f t a).pgf = t.pgf) (l : List α)
    (s : State) : (l.foldl f s).pgf = s.pgf := by
  induction l generalizing s with
  | nil => rfl
  | cons a l ih => rw [List.foldl_cons, ih, h]

theorem pgf_ite (c : Prop) [Decidable c] (s t : State) :
    (if c then s else t).pgf = if c then s.pgf else t.pgf := apply_ite State.pgf c s t

/-! ### Events -/

@[simp] theorem State.errUpdate_pgf (s : State) : s.errUpdate.pgf = s.pgf := by
  simp [State.errUpdate, pgf_ite]

@[simp] theorem State.msi_pgf (i : Nat) (s : State) : (s.msi i).pgf = s.pgf := by
  simp [State.msi]

@[simp] theorem State.post_pgf (e : Nat) (x : EvEntry) (s : State) : (s.post e x).1.pgf = s.pgf := by
  obtain ⟨_, h⟩ := post_frame s e x
  rw [h]

@[simp] theorem gainCommitStore_pgf (k : Nat) (v : Word) (s : State) : (gainCommitStore k v s).pgf = s.pgf := by
  simp [gainCommitStore]

@[simp] theorem State.startSlots_pgf (i : Nat) (l : List Nat) (s : State) : (s.startSlots i l).pgf = s.pgf := by
  refine foldl_pgf (fun t n => ?_) _ _
  rfl

/-! ### Frames, credits and allocations -/

@[simp] theorem State.putFrame_pgf (f : Nat) (x : Frame) (s : State) : (s.putFrame f x).pgf = s.pgf := by
  simp [State.putFrame]

theorem State.credit_pgf (p n : Nat) {s t : State} (h : s.credit p n = some t) : t.pgf = s.pgf := by
  unfold State.credit at h
  split_ifs at h <;> cases h <;> rfl

@[simp] theorem State.uncredit_pgf (p n : Nat) (s : State) : (s.uncredit p n).pgf = s.pgf := by
  simp [State.uncredit]

@[simp] theorem State.copyBytes_pgf (a b n : Nat) (s : State) : (s.copyBytes a b n).pgf = s.pgf := by
  simp [State.copyBytes]

@[simp] theorem State.orphan_pgf (f : Nat) (s : State) : (s.orphan f).pgf = s.pgf := by
  unfold State.orphan
  (repeat' split) <;> simp

@[simp] theorem State.repin_pgf (f pins : Nat) (s : State) : (s.repin f pins).pgf = s.pgf := by
  unfold State.repin
  split <;> simp

@[simp] theorem State.leave_pgf (f : Nat) (s : State) : (s.leave f).pgf = s.pgf := by
  unfold State.leave
  dsimp only
  (repeat' split) <;> simp

@[simp] theorem State.arrive_pgf (f : Nat) (s : State) : (s.arrive f).pgf = s.pgf := by
  unfold State.arrive
  dsimp only
  (repeat' split) <;> simp

@[simp] theorem State.makeRoom_pgf (n : Nat) (s : State) : (s.makeRoom n).pgf = s.pgf := by
  induction n generalizing s with
  | zero => rfl
  | succ n ih =>
    unfold State.makeRoom
    split
    · rfl
    · split
      · rw [ih, State.arrive_pgf]
      · rfl

@[simp] theorem State.transitRoom_pgf (s : State) : s.transitRoom.pgf = s.pgf := by
  simp [State.transitRoom]

@[simp] theorem State.freeFrame_pgf (f : Nat) (s : State) : (s.freeFrame f).pgf = s.pgf := by
  unfold State.freeFrame
  dsimp only
  (repeat' split) <;> simp

@[simp] theorem State.freeFrames_pgf (l : List Nat) (s : State) : (s.freeFrames l).pgf = s.pgf := by
  simp [State.freeFrames, foldl_pgf]

@[simp] theorem State.enter_pgf (f p : Nat) (owner : Option (Nat × Nat × Nat)) (s : State) :
    (s.enter f p owner).pgf = s.pgf := by
  simp [State.enter]

@[simp] theorem State.alloc_pgf (p : Nat) (owner : Option (Nat × Nat × Nat)) (s : State) :
    (s.alloc p owner).1.pgf = s.pgf := by
  unfold State.alloc
  dsimp only
  (repeat' split) <;> simp

@[simp] theorem State.allocFor_pgf (a : AllocWait) (s : State) : (s.allocFor a).1.pgf = s.pgf := by
  have halloc := State.alloc_pgf a.pool a.who.owner s
  unfold State.allocFor
  split
  next t f heq =>
    rw [heq] at halloc
    split <;> simp [← halloc]
  next t heq => rw [← halloc, heq]

@[simp] theorem State.allocWaits_pgf (a : AllocWait) (s : State) : (s.allocWaits a).pgf = s.pgf := by
  simp [State.allocWaits]

@[simp] theorem State.allocOrWait_pgf (a : AllocWait) (s : State) : (s.allocOrWait a).1.pgf = s.pgf := by
  have halloc := State.allocFor_pgf a s
  unfold State.allocOrWait
  split
  next t f heq => rw [← halloc, heq]
  next t heq => simp [← halloc, heq]

@[simp] theorem State.dropAllocs_pgf (p : AllocWait → Bool) (s : State) : (s.dropAllocs p).pgf = s.pgf := by
  simp [State.dropAllocs, foldl_pgf]

@[simp] theorem State.checkFrames_pgf (s : State) : s.checkFrames.pgf = s.pgf := by
  simp [State.checkFrames, pgf_ite]

/-! ### Queue pairs, completions and the journal -/

@[simp] theorem State.qError_pgf (q code : Nat) (s : State) : (s.qError q code).pgf = s.pgf := by
  simp [State.qError]

@[simp] theorem State.writeCq_pgf (q : Nat) (c : Cpl) (sqHead : Nat) (s : State) :
    (s.writeCq q c sqHead).pgf = s.pgf := by
  simp [State.writeCq]

@[simp] theorem State.flushN_pgf (q n : Nat) (s : State) : (s.flushN q n).pgf = s.pgf := by
  induction n generalizing s with
  | zero => rfl
  | succ n ih =>
    unfold State.flushN
    repeat' split
    all_goals simp [ih]

@[simp] theorem State.flush_pgf (q : Nat) (s : State) : (s.flush q).pgf = s.pgf := by
  simp [State.flush, State.settleQ, pgf_ite]

@[simp] theorem State.complete_pgf (q i : Nat) (c : Cpl) (s : State) : (s.complete q i c).pgf = s.pgf := by
  unfold State.complete
  split <;> simp

@[simp] theorem State.anchor_pgf (s : State) : s.anchor.pgf = s.pgf := by
  simp [State.anchor, pgf_ite]

@[simp] theorem State.jrnQueue_pgf (k : Nat) (s : State) : (s.jrnQueue k).pgf = s.pgf := by
  simp [State.jrnQueue]

@[simp] theorem State.jrnNew_pgf (k : Nat) (s : State) : (s.jrnNew k).1.pgf = s.pgf := by
  unfold State.jrnNew
  split
  · simp
  · split
    · simp
    next t hcredit =>
      have halloc := State.allocOrWait_pgf { pool := 4, who := .record k } t
      rw [State.credit_pgf _ _ hcredit] at halloc
      split <;> simp_all

@[simp] theorem State.jrnPlace_pgf (k : Nat) (s : State) : (s.jrnPlace k).1.pgf = s.pgf := by
  unfold State.jrnPlace
  (repeat' split) <;> simp

@[simp] theorem State.jrnAppend_pgf (f n : Nat) (body : List Byte) (s : State) :
    (s.jrnAppend f n body).pgf = s.pgf := by
  simp [State.jrnAppend, pgf_ite]

/-! ### What a token holds besides its record -/

@[simp] theorem State.checkTokens_pgf (s : State) : s.checkTokens.pgf = s.pgf := by
  simp [State.checkTokens, pgf_ite]

@[simp] theorem State.notifyToken_pgf (k : Nat) (s : State) : (s.notifyToken k).pgf = s.pgf := by
  simp [State.notifyToken, pgf_ite]

@[simp] theorem State.freeAll_pgf (k p : Nat) (s : State) : (s.freeAll k p).pgf = s.pgf := by
  simp [State.freeAll, foldl_pgf]

@[simp] theorem State.freeSpool_pgf (k : Nat) (s : State) : (s.freeSpool k).pgf = s.pgf := by
  simp [State.freeSpool, pgf_ite, foldl_pgf]

@[simp] theorem State.creditRest_pgf (s : State) : s.creditRest.pgf = s.pgf := by
  simp [State.creditRest, pgf_ite]

@[simp] theorem State.coderGo_pgf (s : State) : s.coderGo.pgf = s.pgf := by
  unfold State.coderGo
  (repeat' split) <;> simp

@[simp] theorem State.forget_pgf (k : Nat) (s : State) : (s.forget k).pgf = s.pgf := by
  simp [State.forget]

/-! ### Motion, drives and the fuser -/

@[simp] theorem State.halt_pgf (k : Nat) (quick : Bool) (s : State) : (s.halt k quick).pgf = s.pgf := by
  simp [State.halt]

@[simp] theorem State.runoutEnd_pgf (s : State) : s.runoutEnd.pgf = s.pgf := by
  simp [State.runoutEnd, State.motRaise, pgf_ite, foldl_pgf]

@[simp] theorem State.gateHoldOn_pgf (n : Nat) (s : State) : (s.gateHoldOn n).pgf = s.pgf := by
  simp [State.gateHoldOn]

@[simp] theorem State.polySeen_pgf (s : State) : s.polySeen.pgf = s.pgf := by
  simp [State.polySeen, pgf_ite, foldl_pgf]

@[simp] theorem State.startUnit_pgf (u : Nat) (s : State) : (s.startUnit u).pgf = s.pgf := by
  simp [State.startUnit, State.attempt, pgf_ite]

@[simp] theorem State.stopUnit_pgf (u : Nat) (s : State) : (s.stopUnit u).pgf = s.pgf := by
  simp [State.stopUnit]

@[simp] theorem State.startUnits_pgf (s : State) : s.startUnits.pgf = s.pgf := by
  simp [State.startUnits, pgf_ite, foldl_pgf]

@[simp] theorem State.stopUnits_pgf (all : Bool) (s : State) : (s.stopUnits all).pgf = s.pgf := by
  simp [State.stopUnits, pgf_ite, foldl_pgf]

@[simp] theorem State.openUnit_pgf (u : Nat) (s : State) : (s.openUnit u).pgf = s.pgf := by
  simp [State.openUnit]

@[simp] theorem State.openUnits_pgf (s : State) : s.openUnits.pgf = s.pgf := by
  simp [State.openUnits, foldl_pgf]

@[simp] theorem State.stopHeat_pgf (s : State) : s.stopHeat.pgf = s.pgf := by
  simp [State.stopHeat, pgf_ite, foldl_pgf]

@[simp] theorem State.takeFusTables_pgf (s : State) : s.takeFusTables.pgf = s.pgf := by
  simp [State.takeFusTables]

/-! ### The disk -/

@[simp] theorem State.paWrite_pgf (i v : Nat) (s : State) : (s.paWrite i v).pgf = s.pgf := by
  simp [State.paWrite]

@[simp] theorem State.heat_pgf (code : Nat) (s : State) : (s.heat code).pgf = s.pgf := by
  simp [State.heat, pgf_ite]

@[simp] theorem State.heatNow_pgf (s : State) : s.heatNow.pgf = s.pgf := by
  simp [State.heatNow, pgf_ite]

@[simp] theorem State.endXfer_pgf (status : Nat) (s : State) : (s.endXfer status).pgf = s.pgf := by
  unfold State.endXfer
  dsimp only
  (repeat' split) <;> simp

@[simp] theorem State.pieceStop_pgf (s : State) : s.pieceStop.pgf = s.pgf := by
  unfold State.pieceStop
  split <;> simp

@[simp] theorem State.growDefect_pgf (lba kind : Nat) (s : State) : (s.growDefect lba kind).pgf = s.pgf := by
  simp [State.growDefect, pgf_ite]

@[simp] theorem State.writeFailed_pgf (s : State) : s.writeFailed.pgf = s.pgf := by
  unfold State.writeFailed
  split <;> simp

@[simp] theorem State.gateCut_pgf (src : Nat) (s : State) : (s.gateCut src).pgf = s.pgf := by
  simp [State.gateCut, pgf_ite]

@[simp] theorem State.abandon_pgf (src : Nat) (s : State) : (s.abandon src).pgf = s.pgf := by
  simp [State.abandon, pgf_ite]

@[simp] theorem State.srvDone_pgf (status : Nat) (s : State) : (s.srvDone status).pgf = s.pgf := by
  simp [State.srvDone, pgf_ite]

@[simp] theorem State.cutXfer_pgf (s : State) : s.cutXfer.pgf = s.pgf := by
  unfold State.cutXfer
  dsimp only
  (repeat' split) <;> simp

@[simp] theorem State.park_pgf (s0 : State) : s0.park.pgf = s0.pgf := by
  unfold State.park
  split <;> simp

@[simp] theorem State.fireRetract_pgf (s : State) : s.fireRetract.pgf = s.pgf := by
  unfold State.fireRetract
  dsimp only
  (repeat' split) <;> simp

@[simp] theorem State.spnStopping_pgf (s : State) : s.spnStopping.pgf = s.pgf := by
  simp [State.spnStopping]

@[simp] theorem State.spnStop_pgf (s : State) : s.spnStop.pgf = s.pgf := by
  unfold State.spnStop
  (repeat' split) <;> simp

@[simp] theorem State.seekTo_pgf (h turn : Nat) (s : State) : (s.seekTo h turn).pgf = s.pgf := by
  simp [State.seekTo, State.selectHead, State.seekProfile, pgf_ite]

@[simp] theorem State.spnStart_pgf (s : State) : s.spnStart.pgf = s.pgf := by
  simp [State.spnStart, State.spnAttempt, pgf_ite]

/-! ### Page-outs and the Mover -/

@[simp] theorem State.beginPageOut_pgf (f : Nat) (x : Frame) (s : State) : (s.beginPageOut f x).pgf = s.pgf := by
  unfold State.beginPageOut
  split <;> simp

@[simp] theorem State.pageOuts_pgf (n : Nat) (s : State) : (s.pageOuts n).pgf = s.pgf := by
  induction n generalizing s with
  | zero => rfl
  | succ n ih =>
    unfold State.pageOuts
    repeat' split
    all_goals simp [ih]

@[simp] theorem State.pageOutDue_pgf (s : State) : s.pageOutDue.pgf = s.pgf := by
  simp [State.pageOutDue, State.pageWater, pgf_ite]

@[simp] theorem State.pageOutFailed_pgf (f : Nat) (s : State) : (s.pageOutFailed f).pgf = s.pgf := by
  unfold State.pageOutFailed
  (repeat' split) <;> simp

@[simp] theorem State.freeDeferred_pgf (s : State) : s.freeDeferred.pgf = s.pgf := by
  simp [State.freeDeferred, pgf_ite, foldl_pgf]

/-! ### The disk goes out of service -/

@[simp] theorem State.fhZone_pgf (s : State) : s.fhZone.pgf = s.pgf := by
  unfold State.fhZone
  dsimp only
  (repeat' split) <;> simp

@[simp] theorem State.fhBegin_pgf (s : State) : s.fhBegin.pgf = s.pgf := by
  unfold State.fhBegin
  (repeat' split) <;> simp

@[simp] theorem State.diskLeaves_pgf (s : State) : s.diskLeaves.pgf = s.pgf := by
  simp [State.diskLeaves, pgf_ite, foldl_pgf]

/-! ### Calibration -/

@[simp] theorem State.holdSlots_pgf (l : List Nat) (s : State) : (s.holdSlots l).pgf = s.pgf := by
  refine foldl_pgf (fun t n => ?_) _ _
  rfl

@[simp] theorem State.freeSlotsOf_pgf (l : List Nat) (s : State) : (s.freeSlotsOf l).pgf = s.pgf := by
  refine foldl_pgf (fun t n => ?_) _ _
  rfl

@[simp] theorem State.calStart_pgf (id inst trig : Nat) (s : State) : (s.calStart id inst trig).pgf = s.pgf := by
  unfold State.calStart
  split <;> simp

@[simp] theorem State.calTrigger_pgf (id inst trig : Nat) (s : State) : (s.calTrigger id inst trig).pgf = s.pgf := by
  simp [State.calTrigger, pgf_ite]

@[simp] theorem State.calRelease_pgf (id : Nat) (r : CalRun) (s : State) : (s.calRelease id r).pgf = s.pgf := by
  unfold State.calRelease
  split <;> simp

@[simp] theorem State.calEnd_pgf (id outcome : Nat) (s : State) : (s.calEnd id outcome).pgf = s.pgf := by
  unfold State.calEnd
  dsimp only
  (repeat' split) <;> simp

@[simp] theorem State.calAbort_pgf (p : Nat → Nat → Bool) (s : State) : (s.calAbort p).pgf = s.pgf := by
  refine foldl_pgf (fun t n => ?_) _ _
  (repeat' split) <;> simp

@[simp] theorem State.calStartUp_pgf (s : State) : s.calStartUp.pgf = s.pgf := by
  refine foldl_pgf (fun t n => ?_) _ _
  (repeat' split) <;> simp

@[simp] theorem State.iofsStore_pgf (k : Nat) (ms : List Int) (s : State) : (s.iofsStore k ms).pgf = s.pgf := by
  refine foldl_pgf (fun t n => ?_) _ _
  rfl

@[simp] theorem State.calApply_pgf (id : Nat) (r : CalRun) (ms : List Int) (s : State) :
    (s.calApply id r ms).pgf = s.pgf := by
  simp only [State.calApply]
  split
  case h_6 => exact foldl_pgf (fun t i => State.onCal_pgf _ t) _ _
  case h_5 => rfl
  all_goals simp

@[simp] theorem State.calSwitch_pgf (id : Nat) (s : State) : (s.calSwitch id).pgf = s.pgf := by
  unfold State.calSwitch
  (repeat' split) <;> simp

@[simp] theorem State.calSettle_pgf (s : State) : s.calSettle.pgf = s.pgf := by
  unfold State.calSettle
  (repeat' split) <;> simp

/-! ### Stations -/

@[simp] theorem State.apcCut_pgf (n : Nat) (s : State) : (s.apcCut n).pgf = s.pgf := by
  simp [State.apcCut]

@[simp] theorem State.apcCuts_pgf (s : State) : s.apcCuts.pgf = s.pgf := by
  simp [State.apcCuts, pgf_ite, foldl_pgf]

@[simp] theorem State.checkStation_pgf (fresh : Bool) (n : Nat) (s : State) :
    (s.checkStation fresh n).pgf = s.pgf := by
  simp [State.checkStation, pgf_ite, foldl_pgf]

@[simp] theorem State.enableStation_pgf (n : Nat) (s : State) : (s.enableStation n).pgf = s.pgf := by
  simp [State.enableStation]

/-! ### Domains and the power sequence -/

@[simp] theorem State.sourcesLost_pgf (d : Dom) (s : State) : (s.sourcesLost d).pgf = s.pgf := by
  simp [State.sourcesLost]

@[simp] theorem State.abandonPageOuts_pgf (s : State) : s.abandonPageOuts.pgf = s.pgf := by
  unfold State.abandonPageOuts
  dsimp only
  split <;> simp [pgf_ite, foldl_pgf]

@[simp] theorem State.abortMover_pgf (s : State) : s.abortMover.pgf = s.pgf := by
  simp [State.abortMover, State.movAbort1, State.movEnd, State.checkMov, pgf_ite, foldl_pgf]

@[simp] theorem State.flushJournal_pgf (s : State) : s.flushJournal.pgf = s.pgf := by
  simp [State.flushJournal, pgf_ite]

@[simp] theorem State.spillJournal_pgf (s : State) : s.spillJournal.pgf = s.pgf := by
  simp [State.spillJournal, foldl_pgf]

@[simp] theorem State.engLeaves_pgf (s : State) : s.engLeaves.pgf = s.pgf := by
  simp [State.engLeaves, State.swapLost, pgf_ite]

@[simp] theorem State.dropXfers_pgf (p : Xfer → Bool) (s : State) : (s.dropXfers p).pgf = s.pgf := by
  simp [State.dropXfers]

@[simp] theorem State.domainLeaves_pgf (d : Dom) (off : Bool) (s : State) : (s.domainLeaves d off).pgf = s.pgf := by
  unfold State.domainLeaves
  cases d <;> simp [pgf_ite]

@[simp] theorem State.runSeq_pgf (why : SeqFor) (tasks : List SeqTask) (s : State) :
    (s.runSeq why tasks).pgf = s.pgf := by
  simp [State.runSeq]

@[simp] theorem State.planTo_pgf (m : Mode) (s : State) : (s.planTo m).pgf = s.pgf := by
  simp [State.planTo]

@[simp] theorem State.seqPop_pgf (s : State) : s.seqPop.pgf = s.pgf := by
  simp [State.seqPop, State.rstoTake]

@[simp] theorem State.domainBegin_pgf (d : Dom) (goal : DState) (s : State) : (s.domainBegin d goal).pgf = s.pgf := by
  simp [State.domainBegin, State.setDom, pgf_ite]

@[simp] theorem State.slotOff_pgf (k : Nat) (s : State) : (s.slotOff k).pgf = s.pgf := by
  simp [State.slotOff, State.pmbIssue, pgf_ite]

@[simp] theorem State.seqKick_pgf (n : Nat) (s : State) : (s.seqKick n).pgf = s.pgf := by
  induction n generalizing s with
  | zero => rfl
  | succ n ih =>
    unfold State.seqKick
    split <;> simp [pgf_ite, ih]

@[simp] theorem State.seqGo_pgf (s : State) : s.seqGo.pgf = s.pgf := by
  simp [State.seqGo]

/-! ### The start and the modes -/

@[simp] theorem State.logStep_pgf (n method outcome us : Nat) (s : State) :
    (s.logStep n method outcome us).pgf = s.pgf := by
  simp [State.logStep]

@[simp] theorem State.endStep_pgf (n : Nat) (s : State) : (s.endStep n).pgf = s.pgf := by
  simp [State.endStep]

@[simp] theorem State.withoutDisk_pgf (s : State) : s.withoutDisk.pgf = s.pgf := by
  simp [State.withoutDisk, pgf_ite]

@[simp] theorem State.lossRecords_pgf (s : State) : s.lossRecords.pgf = s.pgf := by
  unfold State.lossRecords
  dsimp only
  split
  · rfl
  · refine (State.onDie_pgf _ _).trans (foldl_pgf (fun t p => ?_) _ _)
    have hplace := State.jrnPlace_pgf 1025 t
    split
    · rfl
    · split
      next u f n heq => simp [← hplace, heq]
      next u heq => rw [← hplace, heq]

@[simp] theorem State.markStep_pgf (n method inst cause arg : Nat) (s : State) :
    (s.markStep n method inst cause arg).pgf = s.pgf := by
  simp [State.markStep]

@[simp] theorem State.beginStep_pgf (n : Nat) (s : State) : (s.beginStep n).pgf = s.pgf := by
  unfold State.beginStep
  split <;> simp

@[simp] theorem State.dropStart_pgf (s : State) : s.dropStart.pgf = s.pgf := by
  simp [State.dropStart]

@[simp] theorem State.reqEnd_pgf (r : ReqStatus) (s : State) : (s.reqEnd r).pgf = s.pgf := by
  simp [State.reqEnd]

@[simp] theorem State.drivenEnd_pgf (r : ReqStatus) (s : State) : (s.drivenEnd r).pgf = s.pgf := by
  simp [State.drivenEnd, pgf_ite]

@[simp] theorem State.leaveBegin_pgf (off : Bool) (s : State) : (s.leaveBegin off).pgf = s.pgf := by
  simp [State.leaveBegin, pgf_ite]

@[simp] theorem State.leaveStep_pgf (s : State) : s.leaveStep.pgf = s.pgf := by
  unfold State.leaveStep
  split <;> simp [pgf_ite, foldl_pgf]

@[simp] theorem State.goMode_pgf (m : Mode) (s0 : State) : (s0.goMode m).pgf = s0.pgf := by
  simp [State.goMode, State.powerOnCut, pgf_ite]

@[simp] theorem State.modeIs_pgf (m : Mode) (s : State) : (s.modeIs m).pgf = s.pgf := by
  simp [State.modeIs, pgf_ite]

@[simp] theorem State.stopSheets_pgf (s : State) : s.stopSheets.pgf = s.pgf := by
  simp [State.stopSheets]

@[simp] theorem State.runOut_pgf (skip live : Bool) (s : State) : (s.runOut skip live).pgf = s.pgf := by
  unfold State.runOut
  split
  · rfl
  · split
    · rw [State.stopUnits_pgf, State.stopSheets_pgf]
      exact foldl_pgf (fun t k => State.halt_pgf _ _ t) _ _
    · dsimp only
      rw [State.runoutEnd_pgf, State.onMot_pgf]
      refine foldl_pgf (fun t k => ?_) _ _
      (repeat' split) <;> simp

@[simp] theorem State.safeRecord_pgf (s : State) : s.safeRecord.pgf = s.pgf := by
  simp [State.safeRecord]

@[simp] theorem State.planSafe_pgf (s : State) : s.planSafe.pgf = s.pgf := by
  simp [State.planSafe, pgf_ite]

@[simp] theorem State.latchCause_pgf (origin src : Nat) (s : State) : (s.latchCause origin src).pgf = s.pgf := by
  simp [State.latchCause]

@[simp] theorem State.safeFromStart_pgf (s : State) : s.safeFromStart.pgf = s.pgf := by
  simp [State.safeFromStart]

@[simp] theorem State.offIs_pgf (s : State) : s.offIs.pgf = s.pgf := by
  simp [State.offIs]

@[simp] theorem State.restartDue_pgf (s : State) : s.restartDue.pgf = s.pgf := by
  simp [State.restartDue, pgf_ite]

@[simp] theorem State.offLatched_pgf (s : State) : s.offLatched.pgf = s.pgf := by
  unfold State.offLatched
  split <;> simp

@[simp] theorem State.failOff_pgf (s : State) : s.failOff.pgf = s.pgf := by
  simp [State.failOff]

@[simp] theorem State.undoEnd_pgf (s : State) : s.undoEnd.pgf = s.pgf := by
  simp [State.undoEnd, State.seqFailed, State.mandatoryFailed, State.readyFailed, pgf_ite]

@[simp] theorem State.takeOff_pgf (s : State) : s.takeOff.pgf = s.pgf := by
  simp [State.takeOff, pgf_ite]

@[simp] theorem State.rstoUpdate_pgf (s : State) : s.rstoUpdate.pgf = s.pgf := by
  simp [State.rstoUpdate, pgf_ite, foldl_pgf]

@[simp] theorem State.printFollows_pgf (s : State) : s.printFollows.pgf = s.pgf := by
  simp [State.printFollows, pgf_ite]

@[simp] theorem State.stationMarks_pgf (s : State) : s.stationMarks.pgf = s.pgf := by
  simp [State.stationMarks, pgf_ite, foldl_pgf]

@[simp] theorem State.accFollows_pgf (s t : State) : (s.accFollows t).pgf = t.pgf := by
  simp [State.accFollows, State.refreshAff, pgf_ite, foldl_pgf]

end Sys2Proof.Machine

namespace Sys2Proof.Machine

/-! ## A token stays in its slot, with its number

What goes on by itself after a command may move a token to another state, but never to FREE, and it never changes the
token's number, unless it ends with the service load out of service or with a checkpoint of it. -/

/-- A slot reads as the value last put in it, where that is not the default: putting the default only takes one entry
out of the store. -/
theorem sget_sput_self {β : Type} [DecidableEq β] {d v : β} (hv : v ≠ d) (k : Nat) (l : List (Nat × β)) :
    sget d k (sput d v k l) = v := by
  induction l with
  | nil => simp [sput, hv, sget, find?]
  | cons e l ih =>
    unfold sput
    rw [if_neg hv, if_neg hv]
    split
    · simp [sget, find?]
    · split
      · simp [sget, find?]
      next hne => simpa [sget, find?, hne] using ih

theorem sget_sput_other {β : Type} [DecidableEq β] (d v : β) {j k : Nat} (h : k ≠ j) (l : List (Nat × β)) :
    sget d k (sput d v j l) = sget d k l := by
  induction l with
  | nil => unfold sput; split <;> simp [sget, find?, h]
  | cons e l ih =>
    unfold sput
    split
    · split <;> simp [sget, find?, h]
    · split
      next heq => split <;> simp [sget, find?, h, ← heq]
      · by_cases hk : k = e.1
        · simp [sget, find?, hk]
        · simpa [sget, find?, hk] using ih

/-- Slot k holds a token, whose number is n. -/
def Pgf.Holds (g : Pgf) (k n : Nat) : Prop := (sget {} k g.tokens).state ≠ .free ∧ (sget {} k g.tokens).num = n

section
variable {s : State} {k n : Nat}

theorem putTok_holds {j : Nat} {v : Token} (hv : j = k → v.state ≠ .free ∧ v.num = n) (h : s.pgf.Holds k n) :
    (s.putTok j v).pgf.Holds k n := by
  by_cases hj : j = k
  · have hne : v ≠ {} := fun he => (hv hj).1 (by rw [he])
    subst hj
    show (sget {} j (sput {} v j s.pgf.tokens)).state ≠ .free ∧ (sget {} j (sput {} v j s.pgf.tokens)).num = n
    rw [sget_sput_self hne]
    exact hv rfl
  · show (sget {} k (sput {} v j s.pgf.tokens)).state ≠ .free ∧ (sget {} k (sput {} v j s.pgf.tokens)).num = n
    rw [sget_sput_other _ _ (Ne.symm hj)]
    exact h

/-- A change of a token that leaves its state and its number. -/
theorem onTok_holds {j : Nat} {f : Token → Token} (hf : ∀ t, (f t).state = t.state ∧ (f t).num = t.num)
    (h : s.pgf.Holds k n) : (s.onTok j f).pgf.Holds k n := by
  refine putTok_holds (fun hj => ?_) h
  subst hj
  rw [(hf _).1, (hf _).2]
  exact h

theorem ite_holds {c : Prop} [Decidable c] {t : State} (hs : s.pgf.Holds k n) (ht : t.pgf.Holds k n) :
    (if c then s else t).pgf.Holds k n := by
  split
  · exact hs
  · exact ht

theorem foldl_holds {α : Type} {f : State → α → State} (hf : ∀ t a, t.pgf.Holds k n → (f t a).pgf.Holds k n)
    (l : List α) (h : s.pgf.Holds k n) : (l.foldl f s).pgf.Holds k n := by
  induction l generalizing s with
  | nil => exact h
  | cons a l ih => exact ih (hf s a h)

theorem count_tokens (g : Pgf) (old new : TState) : (g.count old new).tokens = g.tokens := by
  cases old <;> cases new <;> rfl

theorem move_holds (j : Nat) {new : TState} (reason : Nat) (hnew : new ≠ .free) (h : s.pgf.Holds k n) :
    (s.move j new reason).pgf.Holds k n := by
  have hput : (s.putTok j { s.tok j with
      state := new, reason := reason, time := s.time.now, tstat := s.time.stat.code }).pgf.Holds k n :=
    putTok_holds (fun hj => ⟨hnew, by subst hj; exact h.2⟩) h
  simpa [State.move, Pgf.Holds, count_tokens] using hput

theorem cancelRuns_holds (j : Nat) (h : s.pgf.Holds k n) : (s.cancelRuns j).pgf.Holds k n := by
  unfold State.cancelRuns
  exact onTok_holds (fun _ => ⟨rfl, rfl⟩) (by simpa using h)

theorem releaseToken_holds (j : Nat) (h : s.pgf.Holds k n) : (s.releaseToken j).pgf.Holds k n := by
  simp only [State.releaseToken, State.returnRing]
  refine onTok_holds (fun _ => ⟨rfl, rfl⟩) (onTok_holds (fun _ => ⟨rfl, rfl⟩) ?_)
  simpa using cancelRuns_holds j h

theorem placeEnd_holds (j : Nat) (h : s.pgf.Holds k n) : (s.placeEnd j).pgf.Holds k n := by
  have hplace := State.jrnPlace_pgf j s
  rw [← hplace] at h
  unfold State.placeEnd
  split
  next t f m heq =>
    rw [heq] at h
    unfold State.putRecord
    split
    · simpa using h
    · exact onTok_holds (fun _ => ⟨rfl, rfl⟩) (by simpa using h)
  next t heq =>
    rw [heq] at h
    split
    · exact h
    · exact onTok_holds (fun _ => ⟨rfl, rfl⟩) h

theorem stopReading_holds (j status reason : Nat) (h : s.pgf.Holds k n) :
    (s.stopReading j status reason).pgf.Holds k n := by
  have hread : ((if (s.tok j).creditWait = 0 then s.uncredit 1 (s.tok j).hdr.submitFrames else s).onTok j
      fun x => { x with reading := false, creditWait := 0 }).pgf.Holds k n :=
    onTok_holds (fun _ => ⟨rfl, rfl⟩) (by simpa [pgf_ite] using h)
  unfold State.stopReading
  dsimp only
  split
  · generalize State.onTok j _ _ = s1 at hread ⊢
    (repeat' split) <;> simpa using hread
  · exact h

theorem endTok_holds (j : Nat) {new : TState} (reason : Nat) (hnew : new ≠ .free) (h : s.pgf.Holds k n) :
    (s.endTok j new reason).pgf.Holds k n := by
  have hmove : ((s.move j new reason).onTok j fun t => { t with spoilMark := false }).pgf.Holds k n :=
    onTok_holds (fun _ => ⟨rfl, rfl⟩) (move_holds j reason hnew h)
  unfold State.endTok
  extract_lets s1 s2
  have hraise : s2.pgf.Holds k n := by simpa [s2, pgf_ite] using hmove
  exact stopReading_holds j 12 reason (placeEnd_holds j (releaseToken_holds j hraise))

theorem rejectOne_holds (j reason : Nat) (h : s.pgf.Holds k n) : (s.rejectOne j reason).pgf.Holds k n := by
  unfold State.rejectOne
  split
  · exact endTok_holds j reason (by decide) h
  · exact h

theorem spoilOne_holds (j reason : Nat) (h : s.pgf.Holds k n) : (s.spoilOne j reason).pgf.Holds k n := by
  unfold State.spoilOne
  dsimp only
  split
  · have hmark : ((s.onTok j fun t => { t with spoilMark := true, reason := reason }).raise 82).pgf.Holds k n := by
      rw [State.raise_pgf]
      exact onTok_holds (fun _ => ⟨rfl, rfl⟩) h
    rw [State.freeAll_pgf]
    exact cancelRuns_holds j hmark
  · exact h

theorem spoilMany_holds (l : List Nat) (reason : Nat) (h : s.pgf.Holds k n) : (s.spoilMany l reason).pgf.Holds k n :=
  foldl_holds (fun _ _ => spoilOne_holds _ _) _ (foldl_holds (fun _ _ => spoilOne_holds _ _) _ h)

theorem fusCheck_holds (h : s.pgf.Holds k n) : s.fusCheck.pgf.Holds k n := by
  unfold State.fusCheck State.fusLeave
  dsimp only
  split_ifs
  · exact h
  · exact h
  · exact h
  · refine spoilMany_holds _ _ ?_
    simpa using h

theorem mainsUpdate_holds (h : s.pgf.Holds k n) : s.mainsUpdate.pgf.Holds k n := by
  unfold State.mainsUpdate
  dsimp only
  have hcheck : ∀ t : State, t.pgf = s.pgf → t.fusCheck.pgf.Holds k n := fun t ht => fusCheck_holds (ht ▸ h)
  split_ifs
  · exact h
  · exact h
  · rw [State.takeFusTables_pgf]
    exact hcheck _ (by simp)
  · exact hcheck _ (by simp)

theorem disableStation_holds (j : Nat) (h : s.pgf.Holds k n) : (s.disableStation j).pgf.Holds k n := by
  unfold State.disableStation
  dsimp only
  rw [State.calAbort_pgf]
  exact spoilMany_holds _ _ (by simpa [foldl_pgf] using h)

/-! ### The start -/

theorem skipStep_holds (j : Nat) (h : s.pgf.Holds k n) : (s.skipStep j).pgf.Holds k n := by
  unfold State.skipStep
  split_ifs
  · simpa using h
  · rw [State.onLs_pgf]
    exact disableStation_holds _ h
  · simpa using h
  · exact h

theorem optionalFailed_holds (j inst cause us arg : Nat) (h : s.pgf.Holds k n) :
    (s.optionalFailed j inst cause us arg).pgf.Holds k n := by
  unfold State.optionalFailed
  exact skipStep_holds _ (by simpa [pgf_ite] using h)

theorem takeStep_holds (j : Nat) (h : s.pgf.Holds k n) : (s.takeStep j).pgf.Holds k n := by
  unfold State.takeStep
  refine ite_holds ?_ (ite_holds (ite_holds ?_ (skipStep_holds _ ?_)) ?_)
  all_goals simpa [pgf_ite] using h

theorem takeSteps_holds (l : List Nat) (h : s.pgf.Holds k n) : (s.takeSteps l).pgf.Holds k n := by
  refine foldl_holds (fun t j ht => ?_) _ h
  split
  · exact ht
  · exact takeStep_holds _ ht

theorem runSteps_holds (m : Nat) (h : s.pgf.Holds k n) : (State.runSteps m s).pgf.Holds k n := by
  induction m generalizing s with
  | zero => exact h
  | succ m ih =>
    unfold State.runSteps
    split
    · exact h
    · split
      · exact h
      · exact ih (takeStep_holds _ h)

theorem runOptional_holds (h : s.pgf.Holds k n) : s.runOptional.pgf.Holds k n := by
  unfold State.runOptional
  dsimp only
  split
  · have h1 := takeSteps_holds [9, 10, 11, 12, 13] h
    have h2 := ite_holds (c := (s.takeSteps [9, 10, 11, 12, 13]).boot.running = 0) (takeSteps_holds [14] h1) h1
    exact ite_holds (takeSteps_holds [15] h2) h2
  · exact h

theorem engineStart_holds (h : s.pgf.Holds k n) : s.engineStart.pgf.Holds k n := by
  unfold State.engineStart
  dsimp only
  split_ifs
  · exact runOptional_holds (by simpa using h)
  all_goals simpa using h

theorem stepsFail_holds (h : s.pgf.Holds k n) : s.stepsFail.pgf.Holds k n := by
  refine foldl_holds (fun t j ht => ?_) _ h
  split
  · exact optionalFailed_holds _ _ _ _ _ ht
  · exact ht

theorem stepsGo_holds (h : s.pgf.Holds k n) : s.stepsGo.pgf.Holds k n := by
  have hfail := stepsFail_holds h
  unfold State.stepsGo
  dsimp only
  split_ifs
  · simpa using hfail
  · exact runSteps_holds _ hfail
  · exact runOptional_holds hfail
  · exact hfail

/-! ### SAFE and the modes -/

theorem contain_holds (h : s.pgf.Holds k n) : s.contain.pgf.Holds k n := by
  unfold State.contain
  dsimp only
  have hgate : ((((List.range 4).foldl (fun t n => t.gateHoldOn n) s).onPgf fun g => { g with gate := none }).spoilAll
      22).pgf.Holds k n := by
    refine spoilMany_holds _ _ ?_
    simpa [Pgf.Holds, foldl_pgf] using h
  generalize State.spoilAll _ _ = s2 at hgate ⊢
  have hreject := fun l : List Nat =>
    foldl_holds (f := fun t k => t.rejectOne k 6) (fun _ _ => rejectOne_holds _ _) l hgate
  have hplans : ∀ t : State, t.pgf.Holds k n → t.cancelPlans.pgf.Holds k n := fun t ht =>
    foldl_holds (fun _ _ => cancelRuns_holds _) _ ht
  have hcalm := hplans _ (hreject (s2.waitingSlots.filter fun k => decide ((s2.tok k).state = .armed)))
  simpa [pgf_ite] using hcalm

theorem enterSafe_holds (origin src : Nat) (skip : Bool) (h : s.pgf.Holds k n) :
    (s.enterSafe origin src skip).pgf.Holds k n := by
  unfold State.enterSafe
  dsimp only
  simp only [State.planSafe_pgf, State.onPwr_pgf, State.safeRecord_pgf, pgf_ite, State.anchor_pgf, ite_self,
    State.raise_pgf, State.runOut_pgf]
  exact contain_holds (by simpa using h)

theorem safeStart_holds (origin src : Nat) (h : s.pgf.Holds k n) : (s.safeStart origin src).pgf.Holds k n := by
  have hcontain : (s.drivenEnd .failed).contain.pgf.Holds k n := contain_holds (by simpa using h)
  simpa [State.safeStart, pgf_ite] using hcontain

theorem safeNow_holds (origin src : Nat) (skip : Bool) (h : s.pgf.Holds k n) :
    (s.safeNow origin src skip).pgf.Holds k n := by
  unfold State.safeNow
  split
  · exact safeStart_holds _ _ h
  · exact enterSafe_holds _ _ _ h

theorem takeSafe_holds (h : s.pgf.Holds k n) : s.takeSafe.pgf.Holds k n := by
  unfold State.takeSafe
  split
  · exact h
  · extract_lets skip e s1 s2
    have h1 : s1.pgf.Holds k n := h
    clear_value s1
    have h2 : s2.pgf.Holds k n := by
      have hcontain := contain_holds h1
      unfold s2
      split
      · rwa [State.runOut_pgf]
      · exact h1
    split_ifs
    · simpa using h2
    · simpa using h1
    · exact h1
    · exact safeNow_holds _ _ _ h1

theorem seqEnd_holds (h : s.pgf.Holds k n) : s.seqEnd.pgf.Holds k n := by
  unfold State.seqEnd
  dsimp only
  split
  · split
    · exact engineStart_holds (by simpa using h)
    · simpa using h
  all_goals simpa [pgf_ite] using h

theorem go_holds (m : Mode) (h : s.pgf.Holds k n) : (s.go m).pgf.Holds k n := by
  unfold State.go
  split
  · exact safeNow_holds _ _ _ h
  · simpa using h

/-- A request that is judged leaves the tokens, or starts the change of mode that it asks for. -/
theorem judge_cases (m : Mode) : (s.judge m).2.pgf = s.pgf ∨ (s.judge m).2 = s.go m := by
  unfold State.judge
  dsimp only
  (repeat' split) <;> simp

theorem judge_holds (m : Mode) (h : s.pgf.Holds k n) : (s.judge m).2.pgf.Holds k n := by
  rcases judge_cases (s := s) m with hsame | hgo
  · rwa [hsame]
  · rw [hgo]
    exact go_holds m h

theorem judgeLatched_holds (h : s.pgf.Holds k n) : s.judgeLatched.pgf.Holds k n := by
  unfold State.judgeLatched
  split
  · split
    · exact h
    · exact judge_holds _ h
  · exact h

theorem settle1_holds (h : s.pgf.Holds k n) : s.settle1.pgf.Holds k n := by
  have hseq : s.takeSafe.takeOff.seqGo.pgf.Holds k n := by simpa using takeSafe_holds h
  unfold State.settle1
  dsimp only
  generalize s.takeSafe.takeOff.seqGo = s1 at hseq ⊢
  refine judgeLatched_holds ?_
  rw [State.printFollows_pgf]
  refine stepsGo_holds ?_
  rw [State.leaveStep_pgf]
  split
  · exact seqEnd_holds hseq
  · exact hseq

theorem settle_holds (h : s.pgf.Holds k n) : s.settle.pgf.Holds k n := by
  have hrounds := settle1_holds (settle1_holds (settle1_holds (settle1_holds h)))
  refine takeSafe_holds ?_
  simpa [pgf_ite] using hrounds

/-- What goes on by itself leaves the number of a token that a slot holds, or ends with the service load out of service
or with a checkpoint of it: an SMBus transaction that is served may do anything that a dictionary write does. -/
theorem goesOn_holds (s0 : State) (h : s.pgf.Holds k n) (hserved : (s0.goesOn s).served .service = true)
    (hcount : (s0.goesOn s).sys.ckptService = 0) : (s0.goesOn s).pgf.Holds k n := by
  have hfirst : (if s.on .eng then (s0.accFollows s).mainsUpdate else s).pgf.Holds k n := by
    split
    · exact mainsUpdate_holds (by simpa using h)
    · exact h
  obtain ⟨u, hu, hgoes⟩ : ∃ u : State, u.pgf.Holds k n ∧ s0.goesOn s = s0.goesOnEnd (smbGo u) := by
    refine ⟨_, ?_, rfl⟩
    generalize (if s.on .eng then (s0.accFollows s).mainsUpdate else s) = t1 at hfirst ⊢
    exact settle_holds (by simpa [pgf_ite] using hfirst)
  have hend : ∀ t : State, (s0.goesOnEnd t).pgf = t.pgf := fun t => by simp [State.goesOnEnd, pgf_ite]
  rw [hgoes] at hserved hcount ⊢
  have hsame := goesOnEnd_sameService s0 (smbGo u)
  rw [hsame.1] at hserved
  rw [hsame.2] at hcount
  rcases smbGo_cases u with hwait | ⟨v, hv⟩
  · rwa [hend, hwait]
  · rw [hv] at hserved hcount
    exact absurd hcount (checkpoints_counted v hserved)

/-- Where after a command the service load is in service and no checkpoint of it is counted, a slot still holds the
token that the command's effect has left there. -/
theorem after_holds (s0 : State) (h : s.pgf.Holds k n) (hserved : (s0.after s).served .service = true)
    (hcount : (s0.after s).sys.ckptService = 0) : (s0.after s).pgf.Holds k n := by
  unfold State.after at hserved hcount ⊢
  generalize hu : (if s.aonOn then s0.goesOn s else s) = u at hserved hcount ⊢
  have hpgf : u.stopHeat.errUpdate.pgf = u.pgf := by simp
  have hsame := after_end_sameService u
  generalize u.stopHeat.errUpdate = w at hserved hcount hpgf hsame ⊢
  have hservedU : u.served .service = true := hsame.1.symm.trans hserved
  have hcountU : u.sys.ckptService = 0 := hsame.2.symm.trans hcount
  suffices hholds : u.pgf.Holds k n from (show w.pgf.Holds k n by rwa [hpgf])
  split at hu
  · subst hu
    exact goesOn_holds s0 h hservedU hcountU
  · rwa [← hu]

end
end Sys2Proof.Machine

namespace Sys2Proof.Machine

/-! ## A page of zeros in a slot that the store of the tokens lists twice (O5, O52)

The statements ask nothing of the store of the tokens. Where it lists slot 0 twice, its first entry is what the slot
reads as, an ended token that leaves the slot free. A page header of zeros, submitted on queue 0 with token number 0 at
device time 0, makes a token with every field at its default; putting that in the slot takes the first entry out of the
store, and the slot then reads as the second one, a token in flight. SUBMIT_PAGE goes on with that token. -/

/-- A SUBMIT_PAGE whose page header is all zeros. -/
def zeroPage : Desc := { bytes := 1#8 :: List.replicate 63 0#8, sqHead := 0 }

/-- READY, with every domain on and the link up; PAGE queue 0 holds a page of zeros; slot 0 is listed twice. -/
def slotListedTwice : State :=
  { State.reset with
    pending := [.submitPage 0 (some [])]
    pwr := { doms := List.replicate 7 .on }
    sys := { mode := .ready, target := .ready, startDue := false }
    regs := [(0xA01010, 0x800F0000#32)]
    hq := { linkUp := true
            qs := { active := true, inflight := [zeroPage] } :: List.replicate 15 {} }
    pgf := { nextNum := 0
             tokens := [(0, { state := .delivered, recorded := true }), (0, { num := 7, state := .committed })] } }

theorem slotListedTwice_balanced : slotListedTwice.pgf.balanced = true := by decide

/-- The page's command takes the token in flight to SUBMITTED, which is no transition of R314: it is counted out of
those in flight, and neither as delivered nor as spoiled. -/
theorem step_slotListedTwice : ∃ t, step slotListedTwice = .next t ∧ t.pgf.balanced = false := by
  refine ⟨_, rfl, ?_⟩
  decide +kernel

/-- Refutes O5, in the identities of the token counters: the token that a page of zeros makes equals the default, so
that where the store lists its slot twice, the slot reads as the second entry, a token in flight. SUBMIT_PAGE then moves
that token to SUBMITTED, which takes 1 from the tokens in flight and adds it nowhere. -/
theorem not_stepsKeepTheBooks : ¬ Obligations.StepsKeepTheBooks := by
  unfold Obligations.StepsKeepTheBooks
  rintro ⟨-, ⟨-, hsteps⟩, -⟩
  obtain ⟨t, hstep, hunbalanced⟩ := step_slotListedTwice
  exact absurd ((hsteps slotListedTwice t slotListedTwice_balanced hstep).symm.trans hunbalanced) (by decide)

/-- What O52 asks for before a SUBMIT_PAGE takes effect, with slot 0 as the free one. -/
theorem slotListedTwice_maySubmit : slotListedTwice.aonOn = true ∧ slotListedTwice.CanPost 0 ∧
    slotListedTwice.headOp 0 1 = some (0, zeroPage) ∧ slotListedTwice.legalIn pageModes = true ∧
    slotListedTwice.on .pix = true ∧ slotListedTwice.on .mem = true ∧ slotListedTwice.freeSlot = some 0 := by
  decide +kernel

/-- The model's SUBMIT_PAGE leaves number 7 in the slot, with the service load in service and no checkpoint counted. -/
theorem slotListedTwice_submitted :
    let w := slotListedTwice.after (submitPage 0 (some []) slotListedTwice)
    w.served .service = true ∧ w.sys.ckptService = 0 ∧ (w.tok 0).num = 7 := by
  decide +kernel

/-- Refutes O52, in the clause of a page that is rejected: its token is to have the next number, which is 0. Where the
store lists the slot twice, the token made of a page of zeros is not read back from it, and the command rejects the one
of the second entry, number 7. What goes on after the command changes no number (`after_holds`), so no state that the
clause could name leads to the model's outcome. -/
theorem not_pagesAreSubmitted : ¬ Obligations.PagesAreSubmitted := by
  unfold Obligations.PagesAreSubmitted
  rintro ⟨⟨-, hsubmit, -, -⟩, -⟩
  obtain ⟨haon, hpost, hhead, hlegal, hpix, hmem, hfree⟩ := slotListedTwice_maySubmit
  obtain ⟨-, hpages⟩ := (hsubmit 0 0 zeroPage slotListedTwice haon hpost hhead).2 hlegal hpix hmem
  obtain ⟨-, -, hfits⟩ := hpages []
  obtain ⟨-, -, hrejects⟩ := hfits (by decide +kernel)
  obtain ⟨t, hdoes, hstate, -, hnum, -⟩ := hrejects 0 hfree (by decide +kernel) (by decide +kernel)
  have hsame : slotListedTwice.after t = slotListedTwice.after (submitPage 0 (some []) slotListedTwice) :=
    after_eq_of_does rfl haon hdoes
  obtain ⟨hserved, hcount, hseven⟩ := slotListedTwice_submitted
  have hholds : t.pgf.Holds 0 0 := ⟨by rw [show sget {} 0 t.pgf.tokens = t.tok 0 from rfl, hstate]; decide, hnum⟩
  rw [← hsame] at hserved hcount hseven
  have hzero : ((slotListedTwice.after t).tok 0).num = 0 := (after_holds slotListedTwice hholds hserved hcount).2
  exact absurd (hzero.symm.trans hseven) (by decide)

end Sys2Proof.Machine

namespace Sys2Proof.Machine

/-! ## Frames that are allocated and freed -/

/-- What allocating and freeing frames leaves alone: everything but the books of Sheaf, the bytes of the DRAM, and what
the sources that it raises reach. -/
def State.besideSheaf (s : State) : State := { s with shf := {}, dram := [], evt := {}, hq := {}, sys := {} }

theorem foldl_besideSheaf {α : Type} {f : State → α → State} (h : ∀ t a, (f t a).besideSheaf = t.besideSheaf)
    (l : List α) (s : State) : (l.foldl f s).besideSheaf = s.besideSheaf := by
  induction l generalizing s with
  | nil => rfl
  | cons a l ih => rw [List.foldl_cons, ih, h]

@[simp] theorem State.onShf_besideSheaf (f : Shf → Shf) (s : State) : (s.onShf f).besideSheaf = s.besideSheaf := rfl

@[simp] theorem State.onPool_besideSheaf (p : Nat) (f : Pool → Pool) (s : State) :
    (s.onPool p f).besideSheaf = s.besideSheaf := rfl

@[simp] theorem State.putFrame_besideSheaf (f : Nat) (x : Frame) (s : State) :
    (s.putFrame f x).besideSheaf = s.besideSheaf := rfl

@[simp] theorem State.copyBytes_besideSheaf (a b n : Nat) (s : State) :
    (s.copyBytes a b n).besideSheaf = s.besideSheaf := rfl

@[simp] theorem State.raise_besideSheaf (n : Nat) (s : State) : (s.raise n).besideSheaf = s.besideSheaf := by
  obtain ⟨_, _, _, h⟩ := raise_frame s n
  rw [h]
  rfl

theorem State.credit_besideSheaf {p n : Nat} {s t : State} (h : s.credit p n = some t) :
    t.besideSheaf = s.besideSheaf := by
  unfold State.credit at h
  split_ifs at h <;> cases h <;> rfl

@[simp] theorem State.orphan_besideSheaf (f : Nat) (s : State) : (s.orphan f).besideSheaf = s.besideSheaf := by
  unfold State.orphan
  (repeat' split) <;> simp

@[simp] theorem State.repin_besideSheaf (f pins : Nat) (s : State) :
    (s.repin f pins).besideSheaf = s.besideSheaf := by
  unfold State.repin
  split <;> simp

@[simp] theorem State.leave_besideSheaf (f : Nat) (s : State) : (s.leave f).besideSheaf = s.besideSheaf := by
  unfold State.leave
  dsimp only
  (repeat' split) <;> simp

@[simp] theorem State.arrive_besideSheaf (f : Nat) (s : State) : (s.arrive f).besideSheaf = s.besideSheaf := by
  unfold State.arrive
  dsimp only
  (repeat' split) <;> simp

@[simp] theorem State.transitRoom_besideSheaf (s : State) : s.transitRoom.besideSheaf = s.besideSheaf := by
  unfold State.transitRoom
  generalize 16 = n
  induction n generalizing s with
  | zero => rfl
  | succ n ih =>
    unfold State.makeRoom
    split
    · rfl
    · split
      · rw [ih, State.arrive_besideSheaf]
      · rfl

@[simp] theorem State.freeFrame_besideSheaf (f : Nat) (s : State) :
    (s.freeFrame f).besideSheaf = s.besideSheaf := by
  unfold State.freeFrame
  dsimp only
  (repeat' split) <;> simp

@[simp] theorem State.enter_besideSheaf (f p : Nat) (owner : Option (Nat × Nat × Nat)) (s : State) :
    (s.enter f p owner).besideSheaf = s.besideSheaf := by
  simp [State.enter]

@[simp] theorem State.alloc_besideSheaf (p : Nat) (owner : Option (Nat × Nat × Nat)) (s : State) :
    (s.alloc p owner).1.besideSheaf = s.besideSheaf := by
  unfold State.alloc
  dsimp only
  split <;> simp

@[simp] theorem State.allocFor_besideSheaf (a : AllocWait) (s : State) :
    (s.allocFor a).1.besideSheaf = s.besideSheaf := by
  have halloc := State.alloc_besideSheaf a.pool a.who.owner s
  unfold State.allocFor
  split
  next t f heq =>
    rw [heq] at halloc
    split <;> simp [← halloc]
  next t heq => rw [← halloc, heq]

@[simp] theorem State.allocOrWait_besideSheaf (a : AllocWait) (s : State) :
    (s.allocOrWait a).1.besideSheaf = s.besideSheaf := by
  have halloc := State.allocFor_besideSheaf a s
  unfold State.allocOrWait
  split
  next t f heq => rw [← halloc, heq]
  next t heq => simp [← halloc, heq, State.allocWaits]

@[simp] theorem State.allocPlane_besideSheaf (p k q n i : Nat) (s : State) :
    (State.allocPlane p k q n i s).besideSheaf = s.besideSheaf := by
  induction n generalizing i s with
  | zero => rfl
  | succ n ih => rw [State.allocPlane, ih, State.allocOrWait_besideSheaf]

theorem husk_of_besideSheaf {s t : State} (h : s.besideSheaf = t.besideSheaf) : s.husk = t.husk :=
  (congrArg State.husk h : s.besideSheaf.husk = t.besideSheaf.husk)

theorem pgf_of_besideSheaf {s t : State} (h : s.besideSheaf = t.besideSheaf) : s.pgf = t.pgf :=
  (congrArg State.pgf h : s.besideSheaf.pgf = t.besideSheaf.pgf)

/-- The token of a slot lies in the pages' part of the state. -/
theorem tok_of_pgf {s t : State} (h : s.pgf = t.pgf) (k : Nat) : s.tok k = t.tok k :=
  congrArg (fun g : Pgf => sget ({} : Token) k g.tokens) h

end Sys2Proof.Machine

namespace Sys2Proof.Machine

/-! ## A plane enters the spool pool (O22) -/

/-- The token of a plane that is in the spool pool, with its stream and its extents. -/
def Token.spooled (p ext : Nat) (stream : List Byte) (t : Token) : Token :=
  { t with planes := modAt t.planes p fun _ =>
    { input := [], coded := stream, ready := true, extent := some ext } }

/-- A plane that a token does not have reads as one without input. -/
theorem lt_length_of_input {l : List PlaneData} {p : Nat} (h : (nth {} l p).input ≠ []) : p < l.length := by
  by_contra hge
  exact h (congrArg PlaneData.input (List.getD_eq_default l {} (Nat.le_of_not_lt hge)))

theorem spooled_plane {p : Nat} (ext : Nat) (stream : List Byte) {t : Token} (hp : p < t.planes.length) :
    nth {} (t.spooled p ext stream).planes p =
      { input := [], coded := stream, ready := true, extent := some ext } :=
  nth_modAt_same {} t.planes p _ hp

/-- The token of an unlisted slot has no plane in the spool pool. -/
theorem noPlane_ready (p : Nat) : (nth {} ({} : Token).planes p).ready = false := by
  rw [nth, List.getD_eq_getElem?_getD, List.getElem?_getD_replicate_default_eq]

/-- A slot with a plane in the spool pool is read back: its token is not the one of an unlisted slot. -/
theorem tok_onTok_spooled {k p : Nat} (ext : Nat) (stream : List Byte) {s : State}
    (hp : p < (s.tok k).planes.length) :
    (s.onTok k (Token.spooled p ext stream)).tok k = (s.tok k).spooled p ext stream := by
  refine sget_sput_self (fun hdefault => ?_) k _
  have hready : (nth {} ((s.tok k).spooled p ext stream).planes p).ready = true := by rw [spooled_plane ext stream hp]
  rw [hdefault] at hready
  exact Bool.false_ne_true ((noPlane_ready p).symm.trans hready)

/-- Beside what Sheaf does, the plane's token is all that changes. -/
theorem enterSpool_besideSheaf (k p ext : Nat) (stream : List Byte) (s : State) :
    (s.enterSpool k p ext stream).besideSheaf = (s.onTok k (Token.spooled p ext stream)).besideSheaf := by
  unfold State.enterSpool
  dsimp only
  refine (foldl_besideSheaf (fun _ _ => State.freeFrame_besideSheaf _ _) _ _).trans ?_
  rw [State.allocPlane_besideSheaf]
  rfl

@[simp] theorem enterSpool_husk (k p ext : Nat) (stream : List Byte) (s : State) :
    (s.enterSpool k p ext stream).husk = s.husk :=
  (husk_of_besideSheaf (enterSpool_besideSheaf k p ext stream s)).trans (State.onTok_husk k _ s)

/-- The coder goes on without touching the queue of planes, or the mark that a plane waits. -/
theorem coderGo_queue (s : State) :
    s.coderGo.husk.coding = s.husk.coding ∧ s.coderGo.husk.coderWaits = s.husk.coderWaits := by
  unfold State.coderGo
  (repeat' split) <;> simp

/-- The plane in progress is left, and the next of the queue follows (R385). -/
theorem coderLeaves_queue (s : State) :
    s.coderLeaves.husk.coding = s.husk.coding.drop 1 ∧ s.coderLeaves.husk.coderWaits = false :=
  coderGo_queue _

@[simp] theorem State.coderLeaves_pgf (s : State) : s.coderLeaves.pgf = s.pgf := by
  simp [State.coderLeaves]

/-- What the coder makes of a raw plane, and what it counts (R389, R395). -/
def State.planeCode (k p : Nat) (s : State) : List Byte × CodeCounts :=
  codePlane s.husk.effort ((s.tok k).hdr.ratioOf p) (s.tok k).hdr.width (s.tok k).hdr.height
    (nth {} (s.tok k).planes p).input (s.tok k).tagInput (s.tok k).hdr.tags

/-- The coder's counters and sources 89 and 91 for a coded plane (R389, R395). -/
def State.countCoded (c : CodeCounts) (s : State) : State :=
  let x := s.husk
  let counted := { s with husk := { x with
    cntBlocks := satAdd 0xFFFFFFFF x.cntBlocks c.blocks, cntFlat := satAdd 0xFFFFFFFF x.cntFlat c.flat
    cntTwo := satAdd 0xFFFFFFFF x.cntTwo c.two, cntPred := satAdd 0xFFFFFFFF x.cntPred c.pred
    cntQuant := satAdd 0xFFFFFFFF x.cntQuant c.quant, cntTagred := satAdd 0xFFFFFFFF x.cntTagred c.tagred } }
  let raised := if 0 < c.quant then counted.raise 89 else counted
  if 0 < c.tagred then raised.raise 91 else raised

/-- The end of a plane: it enters the spool pool, the coder goes on, and the plane is counted. -/
theorem finishPlane_eq (k p ext : Nat) (s : State) :
    s.finishPlane k p ext = (s.enterSpool k p ext (s.planeCode k p).1).coderLeaves.countCoded (s.planeCode k p).2 := rfl

@[simp] theorem State.countCoded_pgf (c : CodeCounts) (s : State) : (s.countCoded c).pgf = s.pgf := by
  simp [State.countCoded, pgf_ite]

theorem countCoded_queue (c : CodeCounts) (s : State) :
    (s.countCoded c).husk.coding = s.husk.coding ∧ (s.countCoded c).husk.coderWaits = s.husk.coderWaits := by
  unfold State.countCoded
  dsimp only
  split_ifs <;> simp

/-- A plane that is finished changes the tokens as its entry into the spool pool does. -/
theorem finishPlane_pgf (k p ext : Nat) (s : State) :
    (s.finishPlane k p ext).pgf = (s.onTok k (Token.spooled p ext (s.planeCode k p).1)).pgf := by
  rw [finishPlane_eq, State.countCoded_pgf, State.coderLeaves_pgf]
  exact pgf_of_besideSheaf (enterSpool_besideSheaf _ _ _ _ _)

/-- A plane that is finished leaves the queue, and the coder does not wait. -/
theorem finishPlane_queue (k p ext : Nat) (s : State) :
    (s.finishPlane k p ext).husk.coding = s.husk.coding.drop 1 ∧ (s.finishPlane k p ext).husk.coderWaits = false := by
  obtain ⟨hcoding, hwaits⟩ :=
    countCoded_queue (s.planeCode k p).2 (s.enterSpool k p ext (s.planeCode k p).1).coderLeaves
  rw [finishPlane_eq, hcoding, hwaits, ← enterSpool_husk k p ext (s.planeCode k p).1 s]
  exact coderLeaves_queue _

/-- Credits within the budget are granted (R409). -/
theorem credit_of_room {s : State} {p n : Nat} (hroom : (s.pool p).issued + n ≤ s.budget p) :
    ∃ t, s.credit p n = some t := by
  unfold State.credit
  split_ifs
  · exact ⟨s, rfl⟩
  · exact ⟨_, rfl⟩

section
variable {k p : Nat} {s : State} (go : Nat → State → State)

/-- A plane whose token finds no run of extents free ends in the rejection of its token (R424). -/
theorem askSpool_rejects (hext : s.findExtents ((s.tok k).hdr.frames p) = none) :
    s.askSpool k p go = s.reject k 7 := by
  rw [State.askSpool]
  simp only [hext]

/-- A plane of f frames with its extents and its credits goes on into the spool pool (R424). -/
theorem askSpool_goes {e f : Nat} {u : State} (hframes : (s.tok k).hdr.frames p = f) (hext : s.findExtents f = some e)
    (hcredit : s.credit 3 f = some u) : s.askSpool k p go = go e u := by
  rw [State.askSpool, hframes]
  simp only [hext, hcredit]

end

section
variable {k p : Nat} {rest : List (Nat × Nat)} {s : State} (hpix : s.on .pix = true) (hmem : s.on .mem = true)
  (hbusy : s.husk.busy = true) (hwaits : s.husk.coderWaits = false) (hcoding : s.husk.coding = (k, p) :: rest)
include hpix hmem hbusy hwaits hcoding

/-- The end of the coder's work on a plane is its request for extents and spool credits. -/
theorem planeCoded_asks : planeCoded s = s.askSpool k p (State.finishPlane k p) := by
  simp [planeCoded, hcoding, hpix, hmem, hbusy, hwaits]

/-- A plane with its extents and its credits enters the spool pool, and the next of the queue follows (R385, R424). -/
theorem planeCoded_enters {e : Nat} (hext : s.findExtents ((s.tok k).hdr.frames p) = some e)
    (hroom : (s.pool 3).issued + (s.tok k).hdr.frames p ≤ s.budget 3)
    (hinput : (nth {} (s.tok k).planes p).input ≠ []) :
    (planeCoded s).husk.coding = rest ∧ (planeCoded s).husk.coderWaits = false ∧
    (nth {} ((planeCoded s).tok k).planes p).ready = true ∧
    (nth {} ((planeCoded s).tok k).planes p).extent = some e := by
  obtain ⟨u, hcredit⟩ := credit_of_room hroom
  have hbeside := State.credit_besideSheaf hcredit
  have htok : u.tok k = s.tok k := tok_of_pgf (pgf_of_besideSheaf hbeside) k
  have hplane : p < (u.tok k).planes.length := htok ▸ lt_length_of_input hinput
  have henters : planeCoded s = u.finishPlane k p e := by
    rw [planeCoded_asks hpix hmem hbusy hwaits hcoding, askSpool_goes _ rfl hext hcredit]
  obtain ⟨hrest, hgoes⟩ := finishPlane_queue k p e u
  rw [husk_of_besideSheaf hbeside, hcoding] at hrest
  rw [henters, tok_of_pgf (finishPlane_pgf k p e u) k, tok_onTok_spooled e _ hplane, spooled_plane e _ hplane]
  exact ⟨hrest, hgoes, rfl, rfl⟩

end

end Sys2Proof.Machine

namespace Sys2Proof.Machine

/-! ## A token that ends keeps its state and its reason (O22)

The end of a token is one transition (R314); giving back what the token held, its end record, and the end of its reading
leave the state and the reason that the transition has set. -/

/-- Every slot that holds a token in `s` holds it in `t` in the same state, with the same reason. -/
def State.KeepsOutcomes (s t : State) : Prop :=
  ∀ k, (s.tok k).state ≠ .free → (t.tok k).state = (s.tok k).state ∧ (t.tok k).reason = (s.tok k).reason

theorem State.KeepsOutcomes.of_pgf {s t : State} (h : t.pgf = s.pgf) : s.KeepsOutcomes t := fun k _ => by
  rw [tok_of_pgf h k]
  exact ⟨rfl, rfl⟩

theorem State.KeepsOutcomes.trans {s t u : State} (hst : s.KeepsOutcomes t) (htu : t.KeepsOutcomes u) :
    s.KeepsOutcomes u := fun k hk => by
  obtain ⟨hstate, hreason⟩ := hst k hk
  obtain ⟨hstate', hreason'⟩ := htu k (hstate ▸ hk)
  exact ⟨hstate'.trans hstate, hreason'.trans hreason⟩

/-- A change of a token that leaves its state and its reason. -/
theorem State.KeepsOutcomes.onTok {s t : State} (h : s.KeepsOutcomes t) (j : Nat) {f : Token → Token}
    (hf : ∀ x, (f x).state = x.state ∧ (f x).reason = x.reason := by exact fun _ => ⟨rfl, rfl⟩) :
    s.KeepsOutcomes (t.onTok j f) := fun k hk => by
  obtain ⟨hstate, hreason⟩ := h k hk
  by_cases hj : k = j
  · subst hj
    have hne : f (t.tok k) ≠ {} := fun he => hk (hstate.symm.trans ((hf _).1.symm.trans (by rw [he])))
    have hread : (t.onTok k f).tok k = f (t.tok k) := sget_sput_self hne k _
    rw [hread]
    exact ⟨(hf _).1.trans hstate, (hf _).2.trans hreason⟩
  · have hread : (t.onTok j f).tok k = t.tok k := sget_sput_other _ _ hj _
    rw [hread]
    exact ⟨hstate, hreason⟩

theorem cancelRuns_keepsOutcomes (j : Nat) (s : State) : s.KeepsOutcomes (s.cancelRuns j) := by
  unfold State.cancelRuns
  refine .onTok (.of_pgf ?_) j
  simp

theorem releaseToken_keepsOutcomes (j : Nat) (s : State) : s.KeepsOutcomes (s.releaseToken j) := by
  unfold State.releaseToken
  extract_lets s1 s2
  have hring : s.KeepsOutcomes s2 := by
    refine .onTok (.trans (cancelRuns_keepsOutcomes j s) (.of_pgf ?_)) j
    simp [s1]
  have hgiven : s.KeepsOutcomes (s2.onTok j fun t =>
      { t with planes := t.planes.map fun p => { p with extent := none }, plan := [] }) := .onTok hring j
  exact .trans hgiven (.of_pgf rfl)

theorem putRecord_keepsOutcomes (j f n : Nat) (s : State) : s.KeepsOutcomes (s.putRecord j f n) := by
  unfold State.putRecord
  split
  · exact .of_pgf (State.jrnAppend_pgf f n _ s)
  · exact .onTok (.of_pgf (State.jrnAppend_pgf f n _ s)) j

theorem placeEnd_keepsOutcomes (j : Nat) (s : State) : s.KeepsOutcomes (s.placeEnd j) := by
  have hplace : s.KeepsOutcomes (s.jrnPlace j).1 := .of_pgf (State.jrnPlace_pgf j s)
  unfold State.placeEnd
  split
  next t f n heq =>
    rw [heq] at hplace
    exact .trans hplace (putRecord_keepsOutcomes j f n t)
  next t heq =>
    rw [heq] at hplace
    split
    · exact hplace
    · exact .onTok hplace j

theorem stopReading_keepsOutcomes (j status reason : Nat) (s : State) :
    s.KeepsOutcomes (s.stopReading j status reason) := by
  have hread : s.KeepsOutcomes ((if (s.tok j).creditWait = 0 then s.uncredit 1 (s.tok j).hdr.submitFrames
      else s).onTok j fun x => { x with reading := false, creditWait := 0 }) := by
    refine .onTok (.of_pgf ?_) j
    simp [pgf_ite]
  unfold State.stopReading
  dsimp only
  split
  · refine .trans hread (.of_pgf ?_)
    generalize State.onTok j _ _ = s1
    (repeat' split) <;> simp
  · exact .of_pgf rfl

/-- One transition sets the state and the reason (R314). -/
theorem move_outcome (k : Nat) {new : TState} (reason : Nat) (hnew : new ≠ .free) (s : State) :
    ((s.move k new reason).tok k).state = new ∧ ((s.move k new reason).tok k).reason = reason := by
  have hmoved : (s.move k new reason).tok k =
      { s.tok k with state := new, reason := reason, time := s.time.now, tstat := s.time.stat.code } := by
    have hput := sget_sput_self (d := ({} : Token)) (v := { s.tok k with
      state := new, reason := reason, time := s.time.now, tstat := s.time.stat.code })
      (fun he => hnew (congrArg Token.state he)) k s.pgf.tokens
    simpa [State.move, State.tok, State.putTok, count_tokens] using hput
  rw [hmoved]
  exact ⟨rfl, rfl⟩

/-- A token that ends has the state and the reason of its end (R314, R340). -/
theorem endTok_outcome (k : Nat) {new : TState} (reason : Nat) (hnew : new ≠ .free) (s : State) :
    ((s.endTok k new reason).tok k).state = new ∧ ((s.endTok k new reason).tok k).reason = reason := by
  have hkeeps : (s.move k new reason).KeepsOutcomes (s.endTok k new reason) := by
    unfold State.endTok
    extract_lets s1 s2
    have hraise : (s.move k new reason).KeepsOutcomes s2 := by
      refine .trans (.onTok (.of_pgf rfl) k) (.of_pgf (s := s1) ?_)
      simp [s2, pgf_ite]
    exact .trans (.trans (.trans hraise (releaseToken_keepsOutcomes k s2)) (placeEnd_keepsOutcomes k _))
      (stopReading_keepsOutcomes k 12 reason _)
  obtain ⟨hstate, hreason⟩ := move_outcome k reason hnew s
  obtain ⟨hstate', hreason'⟩ := hkeeps k (by rwa [hstate])
  exact ⟨hstate'.trans hstate, hreason'.trans hreason⟩

/-- A waiting token without a partner is REJECTED with the reason given (R314, R315). -/
theorem reject_outcome {k : Nat} (reason : Nat) {s : State} (hwaits : (s.tok k).waits = true)
    (hpartner : (s.tok k).partner = none) :
    ((s.reject k reason).tok k).state = .rejected ∧ ((s.reject k reason).tok k).reason = reason := by
  have hone : s.reject k reason = s.endTok k .rejected reason := by
    simp [State.reject, State.rejectOne, hwaits, hpartner]
  rw [hone]
  exact endTok_outcome k reason (by decide) s

end Sys2Proof.Machine

namespace Sys2Proof.Machine

/-! ## A band that a decoder takes (O22) -/

@[simp] theorem State.countMalformed_ls (n k p j : Nat) (cols : List Nat) (s : State) :
    (s.countMalformed n k p j cols).ls = s.ls := by
  unfold State.countMalformed
  split <;> simp

/-- A page of a station, once token k's page has j bands decoded. -/
def SPage.banded (k j : Nat) (p : SPage) : SPage := if p.slot = k then { p with bands := j } else p

theorem SPage.banded_place (k j : Nat) (p : SPage) :
    (p.banded k j).slot = p.slot ∧ (p.banded k j).sweep = p.sweep := by
  unfold SPage.banded
  split <;> exact ⟨rfl, rfl⟩

/-- A band that is decoded joins the bands that are kept, and its page counts it (R380). -/
theorem decodeBand_station {n : Nat} {s : State} (hn : n < s.ls.length) (p : SPage) (kept : List DBand) :
    (∃ b : DBand, b.slot = p.slot ∧ b.band = p.bands ∧ ((s.decodeBand n p kept).st n).bandStore = kept ++ [b]) ∧
    ((s.decodeBand n p kept).st n).pages = (s.st n).pages.map (SPage.banded p.slot (p.bands + 1)) := by
  unfold State.decodeBand State.st
  dsimp only
  rw [State.countMalformed_ls]
  simp only [State.onLs]
  rw [nth_modAt_same _ _ _ _ hn]
  exact ⟨⟨_, rfl, rfl, rfl⟩, rfl⟩

/-- A station that does not exist has no pages. -/
theorem lt_length_of_pages {n : Nat} {s : State} {p : SPage} {rest : List SPage} (h : (s.st n).pages = p :: rest) :
    n < s.ls.length := by
  by_contra hge
  have hnone : (s.st n).pages = [] := congrArg Station.pages (List.getD_eq_default s.ls {} (Nat.le_of_not_lt hge))
  exact List.cons_ne_nil p rest (h.symm.trans hnone)

/-- The first band of the page in flight is the next to be decoded, where its frames are resident and the band store is
empty (R380). -/
theorem decodeNext_first {n : Nat} {s : State} {p : SPage} {rest : List SPage} (hpix : s.on .pix = true)
    (himg : s.on .img = true) (hpages : (s.st n).pages = p :: rest) (hfirst : p.bands = 0)
    (hbands : 0 < (s.tok p.slot).hdr.nb) (hspoil : (s.tok p.slot).spoilMark = false)
    (hplane : (s.tok p.slot).hdr.has (fld (s.lsReg n 0) 26 2) = true) (hstore : (s.st n).bandStore = [])
    (hresident : ∀ i ≤ ((s.tok p.slot).hdr.bb (fld (s.lsReg n 0) 26 2) - 1) / 65536,
      s.resident p.slot (fld (s.lsReg n 0) 26 2) i = true) :
    s.decodeNext n = some (p, []) := by
  have hnext : ((p :: rest).take 2).find? (fun x => decide (x.bands < (s.tok x.slot).hdr.nb)) = some p := by
    simp [hfirst, hbands]
  simp only [State.decodeNext, hpages, hnext]
  simpa [hpix, himg, hfirst, hspoil, hplane, hstore, Nat.lt_succ_iff] using hresident

/-- Settles O22: a plane with room enters the spool pool (`planeCoded_enters`), its token is rejected where no extents
are free (`reject_outcome`), and the decoder takes the first band of the page in flight (`decodeBand_station`). -/
theorem planesAreCodedAndBandsDecoded : Obligations.PlanesAreCodedAndBandsDecoded := by
  unfold Obligations.PlanesAreCodedAndBandsDecoded
  refine ⟨?_, ?_, ?_⟩
  · intro k p e rest s haon hpix hmem hbusy hwaits hcoding hext hroom hinput
    exact ⟨_, does_of_effect rfl haon rfl, planeCoded_enters hpix hmem hbusy hwaits hcoding hext hroom hinput⟩
  · intro k p rest s haon hpix hmem hbusy hwaits hcoding hext htoken hpartner
    have hrejects : planeCoded s = s.reject k 7 := by
      rw [planeCoded_asks hpix hmem hbusy hwaits hcoding, askSpool_rejects _ hext]
    exact ⟨_, does_of_effect rfl haon hrejects, reject_outcome 7 htoken hpartner⟩
  · intro n p rest s haon hpix himg hpages hfirst hbands hspoil hplane hstore hresident
    have hdecodes : bandDecode n s = s.decodeBand n p [] := by
      rw [bandDecode, decodeNext_first hpix himg hpages hfirst hbands hspoil hplane hstore hresident]
    obtain ⟨⟨b, hslot, hband, hkept⟩, hcounted⟩ := decodeBand_station (lt_length_of_pages hpages) p []
    refine ⟨_, does_of_effect rfl haon hdecodes, ?_, ?_, ?_⟩
    · simp [hkept, hslot, hband, hfirst]
    · simp [hcounted, SPage.banded_place]
    · rw [hcounted, hfirst]
      intro q hq hqslot
      obtain ⟨x, -, rfl⟩ := List.mem_map.mp hq
      rw [(x.banded_place p.slot (0 + 1)).1] at hqslot
      simp [SPage.banded, hqslot]

end Sys2Proof.Machine

namespace Sys2Proof.Machine

/-! ## A transfer of no sectors (O26)

The statement does not say that the waiting transfer has a sector left. One of no sectors ends at once, with OK, before
CAPACITY, the disk and the credit are judged, so that it does not wait where the credit lies below its estimate. -/

/-- A host read of no sectors, of entry 5 of queue 2. -/
def emptyRead : DXfer := { kind := .hostRead 2 5, lba := 0, count := 0 }

/-- SERVICE, with every domain on and a disk of two heads and 1,000 turns ready. `emptyRead` waits and has its frame; a
plan run waits too, and the credit is 0. -/
def emptyReadWaits : State :=
  { State.reset with
    pwr := { doms := List.replicate 7 .on }
    sys := { mode := .service, target := .service, startDue := false }
    regs := [(0x500004, 0x00600002#32), (0x500014, 1000#32)]
    spn := { st := .atSpeed, rpmSet := State.reset.fmtRpm }
    srv := { st := .follow }
    shf := { frames := [(3, { st := .held, pool := 4, block := some (2 * 65536 + 5) })] }
    rch := { waiting := [emptyRead], plans := [{ kind := .plan 3 0, lba := 0, count := 16 }] } }

/-- A piece takes a revolution at least (R577). -/
theorem estimate_pos {s : State} (hrev : 0 < s.tRev) (x : DXfer) (n : Nat) : 0 < s.estimate x n := by
  unfold State.estimate
  dsimp only
  positivity

/-- What O26 asks of the state before the first piece waits for its credit. -/
theorem emptyReadWaits_lacksCredit :
    emptyReadWaits.aonOn = true ∧ emptyReadWaits.on .dsk = true ∧ emptyReadWaits.rch.cur = none ∧
      (emptyReadWaits.frameOfBlock (2 * 65536 + 5)).isSome = true ∧ emptyReadWaits.rch.waiting = [emptyRead] ∧
      emptyReadWaits.journalDue = false ∧ emptyReadWaits.rch.fhCal = none ∧ emptyReadWaits.calOn 7 0 = false ∧
      emptyReadWaits.rch.writing = false ∧ emptyRead.lba + emptyRead.count ≤ emptyReadWaits.capacity ∧
      emptyReadWaits.diskReady = true ∧ emptyReadWaits.rch.plans ≠ [] ∧ emptyReadWaits.rch.credit = 0 ∧
      0 < emptyReadWaits.tRev := by
  refine ⟨?_, ?_, ?_, ?_, ?_, ?_, ?_, ?_, ?_, ?_, ?_, ?_, ?_, ?_⟩ <;> decide

set_option maxRecDepth 4096 in
/-- The command takes the transfer, which ends: nothing waits any more. -/
theorem exec_emptyReadWaits : ∃ t, exec (.nonprintPieceStart 0) emptyReadWaits = .next t ∧ t.rch.waiting = [] := by
  refine ⟨_, rfl, ?_⟩
  rfl

set_option maxRecDepth 4096 in
/-- Had the transfer waited for its credit, it would wait after what goes on by itself. -/
theorem after_emptyReadWaits : (emptyReadWaits.after emptyReadWaits.follows).rch.waiting = [emptyRead] := by
  rfl

/-- Refutes O26, in the clause of a piece whose estimate exceeds the credit: `emptyRead` is to wait, and the model ends
it, since it has no sector left to read. -/
theorem not_diskWorkStarts : ¬ Obligations.DiskWorkStarts := by
  unfold Obligations.DiskWorkStarts
  rintro ⟨hpieces, -, -⟩
  obtain ⟨haon, hdsk, hcur, hframe, hwaiting, hjournal, hcal, hheld, hwriting, hfits, hready, hplans, hcredit,
    hrev⟩ := emptyReadWaits_lacksCredit
  obtain ⟨-, -, -, hprint⟩ := hpieces 0 2 5 emptyRead emptyReadWaits haon hdsk hcur hframe hwaiting hjournal
    rfl hcal hheld rfl hwriting
  have hwaits : Does (.nonprintPieceStart 0) emptyReadWaits emptyReadWaits.follows :=
    (hprint hfits hready hplans).2 (hcredit ▸ estimate_pos hrev _ _)
  obtain ⟨t, hexec, hnone⟩ := exec_emptyReadWaits
  have hsame : t = emptyReadWaits.after emptyReadWaits.follows := Host.Outcome.next.inj (hexec.symm.trans hwaits)
  rw [hsame, after_emptyReadWaits] at hnone
  exact List.cons_ne_nil _ _ hnone

end Sys2Proof.Machine

namespace Sys2Proof.Machine

/-- With DSK on, the causes are brought up to date after an effect of the disk. -/
theorem inDisk_of_on {s : State} (hdsk : s.on .dsk = true) (f : State → State) : s.inDisk f = (f s).follows :=
  if_pos hdsk

/-! ## Frames of the preamplifier port, and the heater -/

theorem Rch.nextFrame_eq (r : Rch) : ∃ a l, r.nextFrame = { r with paCur := a, paDue := l } := by
  unfold Rch.nextFrame
  split
  · exact ⟨_, _, rfl⟩
  · exact ⟨r.paCur, r.paDue, rfl⟩

/-- An automatic write changes the frames of the port alone (R519). -/
theorem State.paWrite_eq (i v : Nat) (s : State) :
    ∃ a l, s.paWrite i v = s.onRch fun r => { r with paCur := a, paDue := l } := by
  obtain ⟨a, l, h⟩ := Rch.nextFrame_eq { s.rch with paDue := s.rch.paDue ++
    [{ read := true, addr := (s.paMap i).1, data := 0, fn := some i, value := some v }] }
  exact ⟨a, l, congrArg (fun r => { s with rch := r }) h⟩

/-- A heater code that is sent changes the heater and the frames of the port alone (R520). -/
theorem State.heat_eq (code : Nat) (s : State) :
    ∃ c a l, s.heat code = s.onRch fun r => { r with heater := c, paCur := a, paDue := l } := by
  unfold State.heat
  split
  · exact ⟨s.rch.heater, s.rch.paCur, s.rch.paDue, rfl⟩
  · obtain ⟨a, l, h⟩ := State.paWrite_eq 4 code (s.onRch fun r => { r with heater := code })
    exact ⟨code, a, l, h⟩

theorem State.heatNow_eq (s : State) :
    ∃ c a l, s.heatNow = s.onRch fun r => { r with heater := c, paCur := a, paDue := l } := by
  unfold State.heatNow
  split
  · exact ⟨s.rch.heater, s.rch.paCur, s.rch.paDue, rfl⟩
  · exact State.heat_eq _ _

/-! ## What the disk's work leaves alone of the fly height -/

/-- What the calibration of the fly height reads and writes: the registers, the calibrations, its run and its STATUS. -/
def State.flyHeight (s : State) : List (Nat × Word) × Cal × Option FhCal × Nat :=
  (s.regs, s.cal, s.rch.fhCal, s.rch.fhStatus)

theorem flyHeight_iff {s t : State} : t.flyHeight = s.flyHeight ↔
    t.regs = s.regs ∧ t.cal = s.cal ∧ t.rch.fhCal = s.rch.fhCal ∧ t.rch.fhStatus = s.rch.fhStatus := by
  simp [State.flyHeight]

theorem flyHeight_ite (c : Prop) [Decidable c] (s t : State) :
    (if c then s else t).flyHeight = if c then s.flyHeight else t.flyHeight := apply_ite _ _ _ _

theorem onRch_flyHeight {f : Rch → Rch} (hf : ∀ r, (f r).fhCal = r.fhCal ∧ (f r).fhStatus = r.fhStatus) (s : State) :
    (s.onRch f).flyHeight = s.flyHeight := by
  obtain ⟨hcal, hstatus⟩ := hf s.rch
  simp [State.flyHeight, hcal, hstatus]

@[simp] theorem State.raise_flyHeight (n : Nat) (s : State) : (s.raise n).flyHeight = s.flyHeight := by
  simp [State.flyHeight]

@[simp] theorem State.faultRecord_flyHeight (n : Nat) (l : List Nat) (s : State) :
    (s.faultRecord n l).flyHeight = s.flyHeight := by
  simp [State.flyHeight]

@[simp] theorem State.onSrv_flyHeight (f : Srv → Srv) (s : State) : (s.onSrv f).flyHeight = s.flyHeight := rfl

@[simp] theorem State.onCmd_flyHeight (q c : Nat) (f : Desc → Desc) (s : State) :
    (s.onCmd q c f).flyHeight = s.flyHeight := rfl

@[simp] theorem State.putFrame_flyHeight (f : Nat) (x : Frame) (s : State) :
    (s.putFrame f x).flyHeight = s.flyHeight := rfl

@[simp] theorem State.paWrite_flyHeight (i v : Nat) (s : State) : (s.paWrite i v).flyHeight = s.flyHeight := by
  obtain ⟨_, _, h⟩ := State.paWrite_eq i v s
  rw [h]
  rfl

@[simp] theorem State.heat_flyHeight (code : Nat) (s : State) : (s.heat code).flyHeight = s.flyHeight := by
  obtain ⟨_, _, _, h⟩ := State.heat_eq code s
  rw [h]
  rfl

@[simp] theorem State.heatNow_flyHeight (s : State) : s.heatNow.flyHeight = s.flyHeight := by
  obtain ⟨_, _, _, h⟩ := State.heatNow_eq s
  rw [h]
  rfl

@[simp] theorem State.creditRest_flyHeight (s : State) : s.creditRest.flyHeight = s.flyHeight := by
  unfold State.creditRest
  split <;> rfl

@[simp] theorem State.endXfer_flyHeight (status : Nat) (s : State) : (s.endXfer status).flyHeight = s.flyHeight := by
  unfold State.endXfer
  dsimp only
  split
  · rfl
  · rw [State.heatNow_flyHeight, State.creditRest_flyHeight]
    (repeat' split) <;> simp <;> rfl

@[simp] theorem State.growDefect_flyHeight (lba kind : Nat) (s : State) :
    (s.growDefect lba kind).flyHeight = s.flyHeight := by
  unfold State.growDefect
  split
  · exact State.raise_flyHeight _ _
  · rfl

@[simp] theorem State.writeFailed_flyHeight (s : State) : s.writeFailed.flyHeight = s.flyHeight := by
  unfold State.writeFailed
  split
  · rfl
  next x _ =>
    have hdefect : ((s.growDefect (x.lba + x.done) 2).raise 113).flyHeight = s.flyHeight := by simp
    exact (State.endXfer_flyHeight _ _).trans hdefect

@[simp] theorem State.abandon_flyHeight (src : Nat) (s : State) : (s.abandon src).flyHeight = s.flyHeight := by
  have hcut : (s.gateCut src).flyHeight = s.flyHeight := by
    unfold State.gateCut
    split
    · exact State.raise_flyHeight _ _
    · rfl
  simp [State.abandon, flyHeight_ite, hcut]

/-- A cause that is set may abandon the sector being written, and end its transfer (R504, R505, R585). -/
@[simp] theorem State.setCause_flyHeight (i : Nat) (s : State) : (s.setCause i).flyHeight = s.flyHeight := by
  unfold State.setCause
  dsimp only
  split
  · rfl
  · rw [State.abandon_flyHeight]
    (repeat' split) <;> simp

@[simp] theorem State.clearCause_flyHeight (i : Nat) (s : State) : (s.clearCause i).flyHeight = s.flyHeight := rfl

@[simp] theorem State.follows_flyHeight (s : State) : s.follows.flyHeight = s.flyHeight := by
  unfold State.follows
  dsimp only
  (repeat' split) <;> simp [State.clearCause_flyHeight]

@[simp] theorem State.selectHead_flyHeight (h : Nat) (s : State) : (s.selectHead h).flyHeight = s.flyHeight := by
  unfold State.selectHead
  dsimp only
  rw [State.paWrite_flyHeight]
  refine (onRch_flyHeight ?_ _).trans ?_
  · exact fun _ => ⟨rfl, rfl⟩
  · simp only [State.paWrite_flyHeight, State.onSrv_flyHeight]
    exact onRch_flyHeight (fun _ => ⟨rfl, rfl⟩) s

@[simp] theorem State.seekTo_flyHeight (h turn : Nat) (s : State) : (s.seekTo h turn).flyHeight = s.flyHeight := by
  simp [State.seekTo, State.seekProfile, flyHeight_ite]

/-! ## `RCH_FH_CMD` (R543) -/

theorem fld_or (a b : Word) (lo n : Nat) : fld (a ||| b) lo n = fld a lo n ||| fld b lo n := by
  simp only [fld, BitVec.toNat_or, ← Nat.shiftRight_eq_div_pow, Nat.shiftRight_or_distrib, Nat.or_mod_two_pow]

/-- The word that FH_CAL_START writes holds GO and the head, and the register keeps its head and its zones. -/
theorem fhCal_word (h : Fin 4) (z : BitVec 8) :
    let v : Word := placeB true 31 ||| place h 16 2 ||| place z.toNat 8 8
    bitOf v 31 = true ∧ fld v 16 2 = h ∧ v &&& 0x0003FF00 = place h 16 2 ||| place z.toNat 8 8 := by
  have hhead : ∀ h : Fin 4, fld (placeB true 31 ||| place h 16 2) 16 2 = h ∧
      (placeB true 31 ||| place h 16 2) &&& 0x0003FF00#32 = place h 16 2 := by decide
  have hzones : ∀ z : BitVec 8, fld (place z.toNat 8 8) 16 2 = 0 ∧
      place z.toNat 8 8 &&& 0x0003FF00#32 = place z.toNat 8 8 := by
    decide
  obtain ⟨hfld, hmask⟩ := hhead h
  obtain ⟨hfld', hmask'⟩ := hzones z
  refine ⟨?_, ?_, ?_⟩
  · have hgo : (placeB true 31).getLsbD 31 = true := by decide
    simp [bitOf, hgo]
  · rw [fld_or, hfld, hfld', Nat.or_zero]
  · exact BitVec.and_or_distrib_right.trans (congrArg₂ _ hmask hmask')

/-! ## The touchdown calibration -/

/-- A run of ID 8 that holds no slot and has no further instance ends: its registers stay, and RCH forgets
it (R1046). -/
theorem calEnd_fh {s : State} {r : CalRun} (outcome : Nat) (hrun : (s.calCh 8).run = some r) (hslots : r.slots = [])
    (hturn : (s.calCh 8).turn = []) :
    (s.calEnd 8 outcome).rch.fhCal = none ∧ (s.calEnd 8 outcome).regs = s.regs ∧
      (s.calEnd 8 outcome).rch.fhStatus = if s.rch.fhStatus = 1 then 0 else s.rch.fhStatus := by
  obtain ⟨c, a, l, hheat⟩ := State.heatNow_eq
    (s.onRch fun x => { x with fhCal := none, fhStatus := if x.fhStatus = 1 then 0 else x.fhStatus })
  have hrelease : s.calRelease 8 r = (s.onRch fun x =>
      { x with fhCal := none, fhStatus := if x.fhStatus = 1 then 0 else x.fhStatus }).heatNow := by
    simp [State.calRelease, State.freeSlotsOf, hslots]
  unfold State.calEnd
  simp only [hrun, hturn, hrelease, hheat]
  split <;> simp [State.onCalRec]

/-- From `s` to `t` a touchdown calibration stays asked for, with its STATUS, and the calibrations stay. -/
def State.KeepsFhRun (s t : State) : Prop :=
  t.rch.fhCal.isSome = true ∧ t.rch.fhStatus = s.rch.fhStatus ∧ t.cal = s.cal

/-- The next zone restarts the search, seeks its head and sends the first heater code (R528). -/
theorem fhZone_keepsFhRun {s : State} (hcal : s.rch.fhCal.isSome = true) : s.KeepsFhRun s.fhZone := by
  unfold State.fhZone
  split
  · exact ⟨hcal, rfl, rfl⟩
  split
  · exact ⟨hcal, rfl, rfl⟩
  next c _ _ z _ _ =>
    dsimp only
    generalize hu : (s.onRch fun r => { r with fhCal := some { c with htr := s.htrStart, td := none } }) = u
    have hsent : ∀ code, ((if u.diskReady then u.seekTo c.head (z * u.turns / 8) else u).heat code).flyHeight =
        u.flyHeight := by
      simp [flyHeight_ite]
    obtain ⟨-, hkept, hrun, hstatus⟩ := flyHeight_iff.mp (hsent _)
    subst hu
    exact ⟨by rw [hrun]; rfl, hstatus, hkept⟩

/-- The run begins, or other work of the disk goes first (R527, R579). -/
theorem fhBegin_keepsFhRun {s : State} (hcal : s.rch.fhCal.isSome = true) : s.KeepsFhRun s.fhBegin := by
  unfold State.fhBegin
  split
  · split
    · exact ⟨hcal, rfl, rfl⟩
    · exact fhZone_keepsFhRun (s := s.onRch _) rfl
  · exact ⟨hcal, rfl, rfl⟩

/-- The run of ID 8 that has started is no longer pending. -/
theorem calCh_started_pending (run : Option CalRun) (s : State) :
    ((s.onCalCh 8 fun c => { c with run := run, pending := none, pendHold := false }).calCh 8).pending = none := by
  simp only [State.calCh, State.onCalCh, State.onCal_cal, nth, modAt, List.getD_eq_getElem?_getD,
    List.getElem?_modify_eq]
  cases s.cal.chans[8]? <;> rfl

/-- A run of ID 8 starts: no run of it is pending any more (R1044). -/
theorem calStart_fh (inst trig : Nat) (s : State) :
    (s.calStart 8 inst trig).rch.fhStatus = 1 ∧ (s.calStart 8 inst trig).rch.fhCal.isSome = true ∧
      ((s.calStart 8 inst trig).calCh 8).pending = none := by
  have hbegin : ∀ u : State, u.rch.fhCal.isSome = true → u.rch.fhStatus = 1 → (u.calCh 8).pending = none →
      u.fhBegin.rch.fhStatus = 1 ∧ u.fhBegin.rch.fhCal.isSome = true ∧ (u.fhBegin.calCh 8).pending = none := by
    intro u hrun hstatus hpending
    obtain ⟨hrun', hstatus', hkept⟩ := fhBegin_keepsFhRun hrun
    exact ⟨hstatus'.trans hstatus, hrun', by rw [State.calCh, hkept]; exact hpending⟩
  exact hbegin _ rfl rfl (calCh_started_pending _ s)

/-! ## FH_CAL_ZONE_STEP (R528) -/

section
variable {s : State} {c : FhCal} {v z : Nat} {rest : List Nat} (hdsk : s.on .dsk = true) (hcal : s.rch.fhCal = some c)
  (hzones : c.zones = z :: rest)
include hdsk hcal

/-- A calibration that has not begun lets a step pass (R527, R579). -/
theorem fhCalZoneStep_waits (hbegun : c.begun = false) : fhCalZoneStep v s = s.follows := by
  simp [fhCalZoneStep, inDisk_of_on hdsk, hcal, hbegun]

include hzones

/-- Below the threshold the next heater code is tried. -/
theorem fhCalZoneStep_rises (hbegun : c.begun = true) (hv : v ≤ (s.rchReg 0x58).toNat) (hhtr : c.htr ≠ 255) :
    fhCalZoneStep v s =
      ((s.onRch fun r => { r with fhCal := some { c with htr := c.htr + 1 } }).heat (c.htr + 1)).follows := by
  simp [fhCalZoneStep, inDisk_of_on hdsk, hcal, hzones, hbegun, Nat.not_lt.mpr hv, hhtr]

/-- At code 255 the zone fails with STATUS 3. -/
theorem fhCalZoneStep_fails (hbegun : c.begun = true) (hv : v ≤ (s.rchReg 0x58).toNat) (hhtr : c.htr = 255) :
    fhCalZoneStep v s = (s.fhFail 3).follows := by
  simp [fhCalZoneStep, inDisk_of_on hdsk, hcal, hzones, hbegun, Nat.not_lt.mpr hv, hhtr]

/-- The first search has found its code, and the second one begins. -/
theorem fhCalZoneStep_searches (hbegun : c.begun = true) (hv : (s.rchReg 0x58).toNat < v) (htd : c.td = none) :
    fhCalZoneStep v s = ((s.onRch fun r =>
      { r with fhCal := some { c with td := some c.htr, htr := s.htrStart } }).heat s.htrStart).follows := by
  simp [fhCalZoneStep, inDisk_of_on hdsk, hcal, hzones, hbegun, hv, htd]
  rfl

/-- The second search agrees with the first, and the zone has its codes. -/
theorem fhCalZoneStep_agrees {td : Nat} (hbegun : c.begun = true) (hv : (s.rchReg 0x58).toNat < v)
    (htd : c.td = some td)
    (hclose : ((td : Int) - (c.htr : Int)).natAbs ≤ fld (s.rchReg 0x54) 0 4) :
    fhCalZoneStep v s = (((s.setReg (0x500410 + 0x40 * c.head + 4 * z)
      (place (td - fld (s.rchReg 0x54) 8 8) 8 8 |||
        place (td - fld (s.rchReg 0x54) 16 8) 0 8)).raise 123).fhNext).follows := by
  simp [fhCalZoneStep, inDisk_of_on hdsk, hcal, hzones, hbegun, hv, htd, Nat.not_lt.mpr hclose]

end

section
variable {s : State} {c : FhCal} {r : CalRun} {z : Nat} (hcal : s.rch.fhCal = some c) (hzones : c.zones = [z])
  (hrun : (s.calCh 8).run = some r) (hslots : r.slots = []) (hturn : (s.calCh 8).turn = [])
include hcal hzones hrun hslots hturn

/-- After the last zone of a calibration in which none has failed, STATUS is 2 (R543). -/
theorem fhNext_done (hbad : c.bad = 0) :
    s.fhNext.rch.fhCal = none ∧ s.fhNext.regs = s.regs ∧ s.fhNext.rch.fhStatus = 2 := by
  have hends : s.fhNext =
      ((s.onRch fun r => { r with fhStatus := 2 }).onRch fun r => { r with fhNew := some c.head }).calEnd 8 1 := by
    simp [State.fhNext, hcal, hzones, hbad]
  rw [hends]
  exact calEnd_fh 1 hrun hslots hturn

/-- After the last zone of a calibration in which one has failed at code 255, STATUS is 3 (R543, R1049). -/
theorem fhNext_failed (hbad : c.bad = 3) :
    s.fhNext.rch.fhCal = none ∧ s.fhNext.regs = s.regs ∧ s.fhNext.rch.fhStatus = 3 := by
  have hends : s.fhNext = (s.onRch fun r => { r with fhStatus := 3 }).calEnd 8 3 := by
    simp [State.fhNext, hcal, hzones, hbad]
  rw [hends]
  exact calEnd_fh 3 hrun hslots hturn

/-- A last zone that fails with 3 ends the calibration with it. -/
theorem fhFail_last :
    (s.fhFail 3).rch.fhCal = none ∧ (s.fhFail 3).regs = s.regs ∧ (s.fhFail 3).rch.fhStatus = 3 := by
  have hbad : ((s.onRch fun r => { r with fhCal := r.fhCal.map fun c =>
      { c with bad := if c.bad = 3 then 3 else 3 } }).raise 124).rch.fhCal = some { c with bad := 3 } := by
    simp [hcal]
  have hch : ∀ f : Rch → Rch, ((s.onRch f).raise 124).calCh 8 = s.calCh 8 := by simp [State.calCh]
  have hends := fhNext_failed hbad hzones ((congrArg CalCh.run (hch _)).trans hrun) hslots
    ((congrArg CalCh.turn (hch _)).trans hturn) rfl
  rwa [State.raise_regs, State.onRch_regs] at hends

end

/-! ## TOUCHDOWN, FH_CAL_START and the clear of the grown-defect list -/

/-- A touchdown outside calibration lowers the codes of the zone under the head (R529). -/
theorem touchdown_regs {v : Nat} {s : State} (hdsk : s.on .dsk = true) (hcal : s.rch.fhCal = none)
    (hv : (s.rchReg 0x58).toNat < v) :
    (touchdown v s).regs = (s.setReg (0x500410 + 0x40 * s.rch.head + 4 * s.zone)
      (lower2 (s.reg (0x500410 + 0x40 * s.rch.head + 4 * s.zone)))).regs := by
  have hidle : s.rch.fhRuns = false := by simp [Rch.fhRuns, hcal]
  rw [touchdown, inDisk_of_on hdsk, (flyHeight_iff.mp (State.follows_flyHeight _)).1, if_neg (by simp [hidle, hv])]
  dsimp only
  rw [(flyHeight_iff.mp (State.heatNow_flyHeight _)).1, State.faultRecord_regs, State.raise_regs, State.onRch_regs]

/-- With DSK on, FH_CAL_START writes `RCH_FH_CMD`. -/
theorem fhCalStart_eq {s : State} (hdsk : s.on .dsk = true) (h : Nat) (z : BitVec 8) :
    fhCalStart h z s = (fhCmdStore (placeB true 31 ||| place h 16 2 ||| place z.toNat 8 8) s).2 :=
  bar0_of_legal (d := .dsk) (by decide) hdsk (mayWrite_any s) _

section
variable {s : State} {h : Fin 4} (hhead : h.val < s.heads) (hwrite : s.mayWrite .setp = true) (z : BitVec 8)
include hhead hwrite

/-- A start that its preconditions refuse leaves STATUS 5 (R527, R543). -/
theorem fhCmdStore_refused (hpre : s.calPre 8 h = false) :
    (fhCmdStore (placeB true 31 ||| place h 16 2 ||| place z.toNat 8 8) s).2 =
      s.onRch fun r => { r with fhWord := place h 16 2 ||| place z.toNat 8 8, fhStatus := 5 } := by
  obtain ⟨hgo, hfld, hmask⟩ := fhCal_word h z
  simp only [fhCmdStore, hgo, hfld, hmask, hwrite, hpre, Nat.not_le.mpr hhead, if_true, if_false, Bool.not_true,
    Bool.and_false, Bool.not_false, Bool.false_eq_true]
  rfl

/-- A start that its preconditions allow is a run of ID 8 on the head (R527, R1049). -/
theorem fhCmdStore_starts (heng : s.on .eng = true) (hpre : s.calPre 8 h = true) (hfree : s.calBusy 8 h = false) :
    (fhCmdStore (placeB true 31 ||| place h 16 2 ||| place z.toNat 8 8) s).2 =
      (s.onRch fun r => { r with fhWord := place h 16 2 ||| place z.toNat 8 8 }).calStart 8 h 0 := by
  obtain ⟨hgo, hfld, hmask⟩ := fhCal_word h z
  simp only [fhCmdStore, hgo, hfld, hmask, hwrite, heng, hpre, hfree, Nat.not_le.mpr hhead, if_true, if_false,
    Bool.not_true, Bool.and_self, Bool.false_eq_true]

end

/-- The clear of the grown-defect list, where the class may be written. -/
theorem glistClearStore_clears {s : State} (hdsk : s.on .dsk = true) (hwrite : s.mayWrite .test = true) :
    glistClearStore 1 s = (.none, { s with die := { s.die with glist := [] } }) := by
  simp [glistClearStore, hdsk, hwrite]

/-- Settles O29: the touchdown, each outcome of a step of a zone, the start, and the clear. What is brought up to date
after a command of the disk leaves the registers and the calibration alone (`follows_flyHeight`). -/
theorem flyHeightIsCalibrated : Obligations.FlyHeightIsCalibrated := by
  unfold Obligations.FlyHeightIsCalibrated
  have hfollows (t : State) := flyHeight_iff.mp (State.follows_flyHeight t)
  refine ⟨?touchdown, ?step, ?start, ?clear⟩
  case touchdown =>
    intro v s haon hdsk hcal hv
    exact ⟨_, does_of_effect rfl haon rfl, touchdown_regs hdsk hcal hv⟩
  case step =>
    intro v z rest c s haon hdsk hcal hzones
    have hheats (f : Rch → Rch) (code : Nat) : (((s.onRch f).heat code).follows).flyHeight = (s.onRch f).flyHeight := by
      simp
    refine ⟨?waits, ?rises, ?searches, ?agrees, ?fails⟩
    case waits => exact fun hbegun => does_of_effect rfl haon (fhCalZoneStep_waits hdsk hcal hbegun)
    case rises =>
      intro hbegun hv hhtr
      obtain ⟨hregs, -, hrun, -⟩ := flyHeight_iff.mp (hheats _ (c.htr + 1))
      exact ⟨_, does_of_effect rfl haon (fhCalZoneStep_rises hdsk hcal hzones hbegun hv hhtr), hrun, hregs⟩
    case searches =>
      intro hbegun hv htd
      obtain ⟨hregs, -, hrun, -⟩ := flyHeight_iff.mp (hheats _ s.htrStart)
      exact ⟨_, does_of_effect rfl haon (fhCalZoneStep_searches hdsk hcal hzones hbegun hv htd), hrun, hregs⟩
    case agrees =>
      rintro td r hbegun hv htd rfl hbad hrun hslots hturn hclose
      refine ⟨_, does_of_effect rfl haon (fhCalZoneStep_agrees hdsk hcal hzones hbegun hv htd hclose), ?_⟩
      generalize place _ _ _ ||| place _ _ _ = codes
      generalize hu : (s.setReg (0x500410 + 0x40 * c.head + 4 * z) codes).raise 123 = u
      obtain ⟨hend, hregs, hstatus⟩ := fhNext_done (s := u) (r := r) (by subst hu; simpa using hcal) hzones
        (by subst hu; simpa [State.calCh] using hrun) hslots (by subst hu; simpa [State.calCh] using hturn) hbad
      obtain ⟨hregs', -, hend', hstatus'⟩ := hfollows u.fhNext
      exact ⟨hend'.trans hend, hstatus'.trans hstatus, hregs'.trans (hregs.trans (by rw [← hu, State.raise_regs]))⟩
    case fails =>
      rintro r hbegun hv hhtr rfl hrun hslots hturn
      obtain ⟨hend, hregs, hstatus⟩ := fhFail_last hcal hzones hrun hslots hturn
      obtain ⟨hregs', -, hend', hstatus'⟩ := hfollows (s.fhFail 3)
      exact ⟨_, does_of_effect rfl haon (fhCalZoneStep_fails hdsk hcal hzones hbegun hv hhtr), hend'.trans hend,
        hstatus'.trans hstatus, hregs'.trans hregs⟩
  case start =>
    intro h z s haon hdsk hhead hwrite
    refine ⟨fun hmode => ?_, fun heng hmode htransit hclaim hfree _ => ?_⟩
    · exact does_of_effect rfl haon
        ((fhCalStart_eq hdsk h z).trans (fhCmdStore_refused hhead hwrite z (by simp [State.calPre, hmode])))
    · have hpre : s.calPre 8 h = true := by simp [State.calPre, hdsk, hmode, htransit, hclaim]
      exact ⟨_, does_of_effect rfl haon
        ((fhCalStart_eq hdsk h z).trans (fhCmdStore_starts hhead hwrite z heng hpre hfree)), calStart_fh _ _ _⟩
  case clear =>
    intro s haon hdsk hwrite hserved
    refine does_of_effect rfl haon ((dict_of_served hserved _).trans ?_)
    rw [glistClearStore_clears hdsk hwrite]

end Sys2Proof.Machine

namespace Sys2Proof.Machine

/-! ## The queue pairs as a source is raised -/

@[simp] theorem State.overflow_qs (e : Nat) (s : State) : (s.overflow e).hq.qs = s.hq.qs := by
  unfold State.overflow
  dsimp only
  split <;> rfl

/-- A host event goes to an event queue, or is held or dropped (R955). -/
@[simp] theorem State.post_qs (s : State) (e : Nat) (x : EvEntry) : (s.post e x).1.hq.qs = s.hq.qs := by
  have hdue : (s.overflow e).hq.qs = s.hq.qs := State.overflow_qs e s
  unfold State.post
  dsimp only
  split_ifs <;> first | rfl | exact hdue

theorem raise1_qs (s : State) (b : Bool) (n : Nat) : (s.raise1 b n).1.hq.qs = s.hq.qs := by
  have hmark : (s.markRaised n).1.hq.qs = s.hq.qs := by
    unfold State.markRaised
    dsimp only
    split
    · exact State.post_qs _ _ _
    · rfl
  have hsafe : ∀ (t : State) r, (t.decideSafe n r).hq = t.hq := fun t r => by
    obtain ⟨_, _, h⟩ := decideSafe_frame t n r
    rw [h]
  have htrap : ∀ t : State, (t.trap n).hq = t.hq := fun t => by
    obtain ⟨_, h⟩ := trap_frame t n
    rw [h]
  have hwrite : ∀ (t : State) r pre, (t.writeEntries n r pre b).1.hq = t.hq := fun t r pre => by
    obtain ⟨_, h⟩ := writeEntries_frame t n r pre b
    rw [h]
  unfold State.raise1
  split
  · rfl
  · dsimp only
    rw [hwrite]
    split_ifs <;> simp [hsafe, htrap, hmark]

/-- A raise leaves the queue pairs alone: only event queues take its entries. -/
@[simp] theorem State.raise_qs (n : Nat) (s : State) : (s.raise n).hq.qs = s.hq.qs := by
  have hfold (l : List Nat) (t : State) : (l.foldl (fun t x => (t.raise1 false x).1) t).hq.qs = t.hq.qs := by
    induction l generalizing t with
    | nil => rfl
    | cons a l ih => rw [List.foldl_cons, ih, raise1_qs]
  have hfold' (l : List Nat) (t : State × List Nat) :
      (l.foldl (fun (t : State × List Nat) x => let u := t.1.raise1 false x; (u.1, t.2 ++ u.2)) t).1.hq.qs =
        t.1.hq.qs := by
    induction l generalizing t with
    | nil => rfl
    | cons a l ih =>
      rw [List.foldl_cons, ih]
      exact raise1_qs _ _ _
  unfold State.raise
  dsimp only
  rw [hfold, hfold', raise1_qs]

/-! ## What a pass of the read channel leaves alone -/

/-- RCH without what one pass changes: the loops, the defect flag, the detector output and the counts of marks, decodes
and defects; and without the time that it takes of the running piece. -/
def Rch.besidePass (r : Rch) : Rch :=
  { r with pieceUs := 0, loops := {}, defect := false, soft := [], cntDefect := 0, cntSmdis := 0, cntSmmiss := 0,
           cntTagmis := 0, cntShiftok := 0 }

/-- The state without what one pass changes, and without what the sources that it raises reach. -/
def State.besidePass (s : State) : State :=
  { s with rch := s.rch.besidePass, evt := {}, sys := {}, hq := { qs := s.hq.qs } }

@[simp] theorem State.raise_besidePass (n : Nat) (s : State) : (s.raise n).besidePass = s.besidePass := by
  have hqs := State.raise_qs n s
  obtain ⟨_, _, _, h⟩ := raise_frame s n
  rw [h] at hqs ⊢
  unfold State.besidePass
  rw [hqs]

theorem onRch_besidePass {f : Rch → Rch} (hf : ∀ r, (f r).besidePass = r.besidePass) (s : State) :
    (s.onRch f).besidePass = s.besidePass :=
  congrArg (fun r => { s with rch := r, evt := {}, sys := {}, hq := { qs := s.hq.qs } }) (hf s.rch)

@[simp] theorem State.passDone_besidePass (w : RWork) (s : State) : (s.passDone w).besidePass = s.besidePass := by
  unfold State.passDone
  dsimp only
  split
  · exact State.raise_besidePass _ _
  · rfl

@[simp] theorem State.countMarks_besidePass (m : Marks) (s : State) : (s.countMarks m).besidePass = s.besidePass := by
  cases m
  case differ | missed => exact State.raise_besidePass _ _
  case both | single => rfl

@[simp] theorem State.frontPass_besidePass (p : ReadPass) (th step : Nat) (s : State) :
    (s.frontPass p th step).2.besidePass = s.besidePass := by
  have hkeep : ∀ (bits : List RBit) flags (t : State), (t.keepSoft bits flags).besidePass = t.besidePass :=
    fun _ _ _ => rfl
  simp [State.frontPass, hkeep]

@[simp] theorem State.countTags_besidePass (n : Nat) (s : State) : (State.countTags n s).besidePass = s.besidePass := by
  induction n generalizing s with
  | zero => rfl
  | succ n ih =>
    rw [State.countTags, ih]
    exact State.raise_besidePass _ _

/-- The decodes count the tags that differ, and a shift that passes (R496, R500). -/
theorem decodeSoft_eq (m : Option Nat × Option Nat) (iter lba : Nat) (s : State) :
    ∃ n k, (s.decodeSoft m iter lba).2 = (State.countTags n s).onRch fun x => { x with cntShiftok := k } := by
  unfold State.decodeSoft
  split
  · exact ⟨0, s.rch.cntShiftok, rfl⟩
  · dsimp only
    generalize tryDecodes _ _ _ _ _ = r
    obtain ⟨c, place, n⟩ := r
    dsimp only
    have hsame : State.countTags n s = (State.countTags n s).onRch fun x =>
      { x with cntShiftok := (State.countTags n s).rch.cntShiftok } := rfl
    cases c
    case bad | tag => exact ⟨n, _, hsame⟩
    case good u =>
      dsimp only
      split
      · exact ⟨n, _, rfl⟩
      · exact ⟨n, _, hsame⟩

@[simp] theorem State.decodeSoft_besidePass (m : Option Nat × Option Nat) (iter lba : Nat) (s : State) :
    (s.decodeSoft m iter lba).2.besidePass = s.besidePass := by
  obtain ⟨n, k, h⟩ := decodeSoft_eq m iter lba s
  rw [h]
  exact (onRch_besidePass (fun _ => rfl) _).trans (State.countTags_besidePass _ _)

theorem readPass_besidePass {p : ReadPass} {th iter step lba : Nat} {s w : State} {m : Marks} {c : Checked}
    (hread : s.readPass p th iter step lba = (m, c, w)) : w.besidePass = s.besidePass := by
  have hw : w = (s.readPass p th iter step lba).2.2 := by rw [hread]
  rw [hw, State.readPass]
  simp

/-! ## What a pass counts -/

/-- The one decode of a sector whose marks are not single (R495, R496). -/
theorem tryDecodes_once (soft : List Int) (al : Int × Int) (lba iter : Nat) :
    ∃ c k, tryDecodes soft al lba iter 0 = (c, k, if c = .tag then 1 else 0) := by
  simp only [tryDecodes, Nat.zero_add, List.range_one, List.map_cons, List.map_nil]
  generalize checkDecode lba _ = c
  cases c <;> exact ⟨_, _, rfl⟩

@[simp] theorem countTags_cntSmmiss (n : Nat) (s : State) :
    (State.countTags n s).rch.cntSmmiss = s.rch.cntSmmiss := by
  induction n generalizing s with
  | zero => rfl
  | succ n ih => simp [State.countTags, ih]

@[simp] theorem countTags_soft (n : Nat) (s : State) : (State.countTags n s).rch.soft = s.rch.soft := by
  induction n generalizing s with
  | zero => rfl
  | succ n ih => simp [State.countTags, ih]

/-- The decodes change neither the count of missed marks nor the detector output. -/
theorem decodeSoft_keeps (m : Option Nat × Option Nat) (iter lba : Nat) (s : State) :
    (s.decodeSoft m iter lba).2.rch.cntSmmiss = s.rch.cntSmmiss ∧
      (s.decodeSoft m iter lba).2.rch.soft = s.rch.soft := by
  obtain ⟨n, k, h⟩ := decodeSoft_eq m iter lba s
  simp [h]

/-- A decode that is not of a single mark counts its sector once where its tag differs (R500). -/
theorem decodeSoft_cntTagmis {m : Option Nat × Option Nat} (hm : judgeMarks m.1 m.2 ≠ .single) {iter lba : Nat}
    {s t : State} {c : Checked} (hdecode : s.decodeSoft m iter lba = (c, t)) :
    t.rch.cntTagmis = if c = .tag then satInc 0xFFFFFFFF s.rch.cntTagmis else s.rch.cntTagmis := by
  unfold State.decodeSoft at hdecode
  split at hdecode
  · cases hdecode
    rfl
  next al _ =>
    obtain ⟨d, k, hone⟩ := tryDecodes_once s.rch.soft al lba iter
    dsimp only at hdecode
    rw [if_neg hm, hone] at hdecode
    cases d
    case bad =>
      cases hdecode
      rfl
    case tag =>
      cases hdecode
      simp [State.countTags]
    case good u =>
      cases hdecode
      simp only [reduceCtorEq, if_false]
      split <;> rfl

/-- The front end counts a sector whose marks are both missed (R495). -/
theorem frontPass_counts (p : ReadPass) (th step : Nat) (s : State) :
    (s.frontPass p th step).2.rch.cntTagmis = s.rch.cntTagmis ∧ (s.frontPass p th step).2.rch.cntSmmiss =
      if judgeMarks (s.frontPass p th step).1.1 (s.frontPass p th step).1.2 = .missed then
        satInc 0xFFFFFFFF s.rch.cntSmmiss
      else s.rch.cntSmmiss := by
  have hmarks : ∀ (m : Marks) (t : State), (t.countMarks m).rch.cntTagmis = t.rch.cntTagmis ∧
      (t.countMarks m).rch.cntSmmiss = if m = .missed then satInc 0xFFFFFFFF t.rch.cntSmmiss else t.rch.cntSmmiss := by
    intro m t
    cases m <;> simp [State.countMarks]
  have hdone : ∀ w : RWork, (s.passDone w).rch.cntTagmis = s.rch.cntTagmis ∧
      (s.passDone w).rch.cntSmmiss = s.rch.cntSmmiss := by
    intro w
    unfold State.passDone
    dsimp only
    split <;> simp
  unfold State.frontPass
  dsimp only
  rw [(hmarks _ _).1, (hmarks _ _).2, State.keepSoft, State.onRch_rch, (hdone _).1, (hdone _).2]
  exact ⟨rfl, rfl⟩

/-- What one pass counts, by its marks and by the outcome of its decode (R495, R500). -/
theorem readPass_counts {p : ReadPass} {th iter step lba : Nat} {s w : State} {m : Marks} {c : Checked}
    (hread : s.readPass p th iter step lba = (m, c, w)) :
    w.rch.cntSmmiss = (if m = .missed then satInc 0xFFFFFFFF s.rch.cntSmmiss else s.rch.cntSmmiss) ∧
      w.rch.soft = (s.frontPass p th step).2.rch.soft ∧
      (m ≠ .single → w.rch.cntTagmis = if c = .tag then satInc 0xFFFFFFFF s.rch.cntTagmis else s.rch.cntTagmis) := by
  obtain ⟨htags, hmisses⟩ := frontPass_counts p th step s
  unfold State.readPass at hread
  dsimp only at hread
  obtain ⟨rfl, rfl, rfl⟩ : _ ∧ _ ∧ _ := by simpa only [Prod.mk.injEq] using hread
  obtain ⟨hmisses', hsoft⟩ := decodeSoft_keeps (s.frontPass p th step).1 iter lba (s.frontPass p th step).2
  exact ⟨hmisses'.trans hmisses, hsoft, fun hm =>
    (decodeSoft_cntTagmis hm Prod.mk.eta.symm).trans (by rw [htags])⟩

/-- Without a defect flag the detector output of the second read of step 7 is what its bits bring, summed with that of
the first (R489, R506). -/
theorem frontPass_summed {p : ReadPass} {l : List Byte} {s : State} {first : List Int} (hp : p.carries l)
    (th step : Nat) (hlen : 0 < fld (s.rchReg 0x24) 8 8) (hsome : s.rch.firstSoft = some first) :
    (s.frontPass p th step).2.rch.soft = softSum first (p.bits.map (·.llr)) := by
  obtain ⟨ev, hev⟩ := hp.2.1
  have hdrop : (s.passSet step).dropTh ≤ 256 := by
    have : fld (s.rchReg 0x24) 24 8 < 256 := Nat.mod_lt _ (by decide)
    simp only [State.passSet]
    split <;> omega
  have hflags : ∀ loops : RLoop,
      (RWork.pass (s.passSet step) (preLevel p.bits) 0 p.bits { loops := loops }).flags.reverse =
        List.replicate p.bits.length false := by
    intro loops
    rw [preLevel_even p.bits ev hev, RWork.pass_flags _ _ _ hdrop hlen _ _ _ rfl hev]
    simp
  have hmarks : ∀ (m : Marks) (t : State), (t.countMarks m).rch.soft = t.rch.soft := by
    intro m t
    cases m <;> simp [State.countMarks]
  have hfirst : ∀ w : RWork, (s.passDone w).rch.firstSoft = s.rch.firstSoft := fun w =>
    congrArg (·.rch.firstSoft) (State.passDone_besidePass w s)
  simp only [State.frontPass, hflags, hmarks, State.keepSoft, State.onRch_rch, hfirst, hsome, softOf_even]

end Sys2Proof.Machine

namespace Sys2Proof.Machine

/-! ## A ready disk stays ready -/

/-- What readiness is read from (R477, R566). -/
def State.readiness (s : State) : Pwr × Spn × List (Nat × Word) × SrvSt := (s.pwr, s.spn, s.regs, s.srv.st)

theorem State.readiness_eq (s : State) : s.readiness = (s.pwr, s.spn, s.regs, s.srv.st) := rfl

theorem diskReady_of_readiness {s t : State} (h : t.readiness = s.readiness) : t.diskReady = s.diskReady := by
  obtain ⟨hpwr, hspn, hregs, hst⟩ : t.pwr = s.pwr ∧ t.spn = s.spn ∧ t.regs = s.regs ∧ t.srv.st = s.srv.st := by
    simpa [State.readiness_eq] using h
  simp only [State.diskReady, State.spinReady, State.on, State.dom, State.fmtRpm, State.rchReg, State.reg, hpwr, hspn,
    hregs, hst]
  rfl

/-- On a ready disk the SERVO and SPINDLE causes clear, and nothing else follows (R582). -/
theorem follows_of_ready {s : State} (h : s.diskReady = true) :
    ∃ causes, s.follows = s.onSrv fun v => { v with winh := causes } := by
  obtain ⟨⟨⟨hdsk, hspeed⟩, hset⟩, hfollow⟩ :
      ((s.on .dsk = true ∧ s.spn.st = .atSpeed) ∧ s.spn.rpmSet = s.fmtRpm) ∧ s.srv.st = .follow := by
    simpa [State.diskReady, State.spinReady] using h
  have hspin : (s.clearCause 4).spinReady = true := by
    rw [show (s.clearCause 4).spinReady = s.spinReady from rfl]
    simp [State.spinReady, hdsk, hspeed, hset]
  have hclear : s.follows = (s.clearCause 4).clearCause 5 := by
    simp only [State.follows, hdsk, hfollow, hspin, Bool.not_true, Bool.false_eq_true, if_false, if_true]
  exact ⟨_, hclear⟩

/-! ## The end of a host read -/

/-- A block command is served from a frame, and not from a plan. -/
theorem planFrame_hostRead {x : DXfer} {q c : Nat} (hkind : x.kind = .hostRead q c) (s : State) :
    s.planFrame x = none := by
  simp [State.planFrame, hkind]

theorem State.creditRest_eq (s : State) : ∃ k, s.creditRest = s.onRch fun r => { r with credit := k } := by
  unfold State.creditRest
  split
  · exact ⟨s.rch.credit, rfl⟩
  · exact ⟨0, rfl⟩

/-- A host read that fails ends with its status in the descriptor of its command (R510). -/
theorem endXfer_hostRead {s : State} {x : DXfer} {q c status : Nat} (hcur : s.rch.cur = some x)
    (hkind : x.kind = .hostRead q c) (hstatus : status ≠ 0) :
    ∃ k h a l, s.endXfer status =
      ((s.onCmd q c fun d => { d with phase := 2, status := status, done := x.done }).onRch fun r =>
        { r with cur := none, recov := .fresh, firstSoft := none, abandoned := false, rewrites := 0, writing := false,
                 stopNext := false, heatWrite := false, heatWin := 0, pieceUs := 0, credit := k, heater := h,
                 paCur := a, paDue := l }).onSrv fun v => { v with ofs := 0 } := by
  unfold State.endXfer
  simp only [hcur, hkind, hstatus, false_and, if_false]
  generalize hu : State.onCmd q c _ _ = u
  obtain ⟨k, hk⟩ := u.creditRest_eq
  obtain ⟨h, a, l, hheat⟩ := u.creditRest.heatNow_eq
  rw [hheat, hk, ← hu]
  exact ⟨k, h, a, l, rfl⟩

/-! ## What follows a read attempt -/

/-- A host read stands at a sector that is neither the last of its transfer nor of its piece, on a ready disk. -/
def State.AtSector (s : State) (x : DXfer) (q c : Nat) : Prop :=
  s.rch.cur = some x ∧ x.kind = .hostRead q c ∧ x.cut = false ∧ s.rch.stopNext = false ∧ x.done + 1 < x.count ∧
    x.done + 1 < s.rch.pieceEnd ∧ s.diskReady = true

section
variable {s : State} {x : DXfer} {q c : Nat} (h : s.AtSector x q c)
include h

theorem State.AtSector.cur : s.rch.cur = some x := h.1

theorem State.AtSector.kind : x.kind = .hostRead q c := h.2.1

theorem State.AtSector.ready : s.diskReady = true := h.2.2.2.2.2.2

end

/-- What is read from beside a pass is the same after it. -/
theorem eq_of_besidePass {α : Type} {s w : State} (hw : w.besidePass = s.besidePass) (f : State → α)
    (hf : ∀ v : State, f v.besidePass = f v) : f w = f s := by
  rw [← hf w, hw, hf s]

theorem State.AtSector.of_besidePass {s w : State} {x : DXfer} {q c : Nat} (h : s.AtSector x q c)
    (hw : w.besidePass = s.besidePass) : w.AtSector x q c := by
  obtain ⟨hcur, hkind, huncut, hruns, hmore, hpiece, hready⟩ := h
  exact ⟨(eq_of_besidePass hw (·.rch.cur) fun _ => rfl).trans hcur, hkind, huncut,
    (eq_of_besidePass hw (·.rch.stopNext) fun _ => rfl).trans hruns, hmore,
    hpiece.trans_eq (eq_of_besidePass hw (·.rch.pieceEnd) fun _ => rfl).symm,
    (diskReady_of_readiness (eq_of_besidePass hw State.readiness fun _ => rfl)).trans hready⟩

/-- The pass `w` of the sector in `s` has landed in `t`. -/
def Lands (x : DXfer) (user : List Byte) (recovered : Bool) (s w t : State) : Prop :=
  t.rch.cur = some { x with done := x.done + 1, recovered := x.recovered || recovered } ∧ t.rch.recov = .fresh ∧
    t.rch.cntRead = satInc 0xFFFFFFFF s.rch.cntRead ∧ t.rch.cntLadder = s.rch.cntLadder ∧
    t.rch.cntSmmiss = w.rch.cntSmmiss ∧ t.rch.cntTagmis = w.rch.cntTagmis ∧ t.rch.soft = w.rch.soft ∧
    t.rch.firstSoft = none ∧ t.srv.ofs = 0 ∧ t.dram = (w.landBytes x user).dram

/-- After the pass `w` of the sector in `s`, step `j` of the ladder is due in `t`, with `ran` steps run or begun. -/
def Climbs (x : DXfer) (j ran ladders : Nat) (s w t : State) : Prop :=
  t.rch.cur = some x ∧ t.rch.recov = .ladder j ran ∧ t.rch.cntRead = s.rch.cntRead ∧
    t.rch.cntTagmis = w.rch.cntTagmis ∧ t.rch.cntLadder = ladders

/-- The read of the sector in `s` has failed for good in `t`. -/
def Fails (x : DXfer) (q c : Nat) (s t : State) : Prop :=
  t.rch.cur = none ∧ t.rch.cntRfail = satInc 0xFFFFFFFF s.rch.cntRfail ∧
    t.die.glist = s.die.glist ++ [(x.lba + x.done, 1)] ∧
    t.hq.qs = (s.onCmd q c fun d => { d with phase := 2, status := 2, done := x.done }).hq.qs

/-- The bytes of a host read go to DRAM, and change nothing else. -/
theorem landBytes_hostRead {x : DXfer} {q c : Nat} (hkind : x.kind = .hostRead q c) (user : List Byte) (s : State) :
    s.landBytes x user = { s with dram := (s.landBytes x user).dram } := by
  simp only [State.landBytes, planFrame_hostRead hkind, hkind]
  split <;> rfl

theorem landBytes_dram_congr {s t : State} {x : DXfer} {q c : Nat} (hkind : x.kind = .hostRead q c)
    (hshf : t.shf = s.shf) (hdram : t.dram = s.dram) (user : List Byte) :
    (t.landBytes x user).dram = (s.landBytes x user).dram := by
  have hframe : t.frameOfBlock (q * 65536 + c) = s.frameOfBlock (q * 65536 + c) := by
    simp only [State.frameOfBlock, hshf]
  simp only [State.landBytes, planFrame_hostRead hkind, hkind, hframe]
  cases s.frameOfBlock (q * 65536 + c) <;> simp [State.storeBytes, hdram]

/-- The transfer goes on with the next sector (R507). -/
theorem sectorDone_goesOn {s : State} {x : DXfer} {q c : Nat} (h : s.AtSector x q c) (recovered : Bool) :
    ∃ e a l, s.sectorDone recovered = (s.onRch fun r =>
      { r with cur := some { x with done := x.done + 1, recovered := x.recovered || recovered }, recov := .fresh,
               firstSoft := none, rewrites := 0, abandoned := false, heater := e, paCur := a,
               paDue := l }).onSrv fun v => { v with ofs := 0 } := by
  obtain ⟨hcur, -, huncut, hruns, hmore, hpiece, -⟩ := h
  unfold State.sectorDone
  simp only [hcur]
  rw [if_neg (Nat.not_le.mpr hmore), if_neg (by simp [huncut]), if_neg (by simp [hruns, Nat.not_le.mpr hpiece])]
  obtain ⟨e, a, l, hheat⟩ := State.heatNow_eq ((s.onRch fun r =>
    { r with cur := some { x with done := x.done + 1, recovered := x.recovered || recovered }, recov := .fresh,
             firstSoft := none, rewrites := 0, abandoned := false }).onSrv fun v => { v with ofs := 0 })
  exact ⟨e, a, l, hheat⟩

section
variable {s w : State} {x : DXfer} {q c : Nat}

/-- A sector that has passed its checks lands, and the transfer goes on (R499, R507). -/
theorem landSector_lands (h : s.AtSector x q c) (hw : w.besidePass = s.besidePass) (user : List Byte)
    (recovered : Bool) : Lands x user recovered s w (w.landSector user recovered).follows := by
  have hcur := (h.of_besidePass hw).cur
  generalize hu : (w.onRch fun r => { r with cntRead := satInc 0xFFFFFFFF r.cntRead, goodLoops := r.loops }) = u
  have hlands : w.landSector user recovered = (u.landBytes x user).sectorDone recovered := by
    rw [← hu, State.landSector, hcur]
  have hat : (u.landBytes x user).AtSector x q c := by
    have hkept : u.AtSector x q c := by
      have hat := h.of_besidePass hw
      subst hu
      exact hat
    rw [landBytes_hostRead h.kind]
    exact hkept
  obtain ⟨e, a, l, hgoes⟩ := sectorDone_goesOn hat recovered
  have hready : (w.landSector user recovered).diskReady = true := by
    rw [hlands, hgoes]
    exact hat.ready
  obtain ⟨causes, hfollows⟩ := follows_of_ready hready
  have hdram : (u.landBytes x user).dram = (w.landBytes x user).dram :=
    landBytes_dram_congr h.kind (by rw [← hu, State.onRch_shf]) (by rw [← hu, State.onRch_dram]) user
  rw [hfollows, hlands, hgoes]
  rw [landBytes_hostRead h.kind, hdram, ← hu]
  exact ⟨rfl, rfl, eq_of_besidePass hw (fun v => satInc 0xFFFFFFFF v.rch.cntRead) fun _ => rfl,
    eq_of_besidePass hw (·.rch.cntLadder) fun _ => rfl, rfl, rfl, rfl, rfl, rfl, rfl⟩

/-! ### The ladder -/

theorem ladderStep_eq (j ran : Nat) (s : State) :
    ∃ o e a l, s.ladderStep j ran = (s.onRch fun r =>
      { r with recov := .ladder j ran, firstSoft := none, heater := e, paCur := a, paDue := l }).onSrv fun v =>
      { v with ofs := o } := by
  unfold State.ladderStep
  dsimp only
  generalize hu : State.onSrv _ _ = u
  obtain ⟨e, a, l, hheat⟩ := u.heatNow_eq
  rw [hheat, ← hu]
  exact ⟨_, e, a, l, rfl⟩

/-- The next step of the ladder is read from the registers (R506, R507). -/
theorem ladderNext_of_regs {s t : State} (hregs : t.regs = s.regs) {i ran : Nat} :
    t.ladderNext x i ran = s.ladderNext x i ran := by
  have hreg : t.rchReg 0x30 = s.rchReg 0x30 := by simp only [State.rchReg, State.reg, hregs]
  simp only [State.ladderNext, hreg]

theorem ladderNext_of_besidePass (hw : w.besidePass = s.besidePass) (i ran : Nat) :
    w.ladderNext x i ran = s.ladderNext x i ran :=
  ladderNext_of_regs (eq_of_besidePass hw State.regs fun _ => rfl)

/-- An attempt outside the ladder that has failed enters it, which counts (R506, R509). -/
theorem toLadder_enters (h : s.AtSector x q c) (hw : w.besidePass = s.besidePass)
    (hrecov : ∀ i ran, s.rch.recov ≠ .ladder i ran) {j : Nat} (hnext : s.ladderNext x 0 0 = some j) :
    Climbs x j 1 (satInc 0xFFFFFFFF s.rch.cntLadder) s w w.toLadder.follows := by
  have hat := h.of_besidePass hw
  have hrecov' : w.rch.recov = s.rch.recov := eq_of_besidePass hw (·.rch.recov) fun _ => rfl
  generalize hu : (w.onRch fun r => { r with cntLadder := satInc 0xFFFFFFFF r.cntLadder }).raise 116 = u
  have hrch : u.rch = { w.rch with cntLadder := satInc 0xFFFFFFFF w.rch.cntLadder } := by
    rw [← hu, State.raise_rch]
    rfl
  have hnext' : u.ladderNext x 0 0 = some j := by
    rw [← hnext, ← ladderNext_of_besidePass hw]
    exact ladderNext_of_regs (by rw [← hu, State.raise_regs, State.onRch_regs])
  have henters : w.toLadder = u.ladderStep j 1 := by
    unfold State.toLadder
    simp only [hat.cur, hu, hnext']
    split
    next i ran heq => exact absurd (hrecov'.symm.trans heq) (hrecov i ran)
    · rfl
  obtain ⟨o, e, a, l, hstep⟩ := ladderStep_eq j 1 u
  have hready : w.toLadder.diskReady = true := by
    rw [henters, hstep]
    refine (diskReady_of_readiness ?_).trans hat.ready
    rw [← hu]
    simp [State.readiness_eq]
  obtain ⟨causes, hfollows⟩ := follows_of_ready hready
  rw [hfollows, henters, hstep]
  exact ⟨(congrArg Rch.cur hrch).trans hat.cur, rfl,
    (congrArg Rch.cntRead hrch).trans (eq_of_besidePass hw (·.rch.cntRead) fun _ => rfl),
    (congrArg Rch.cntTagmis hrch).trans rfl,
    (congrArg Rch.cntLadder hrch).trans (eq_of_besidePass hw (fun v => satInc 0xFFFFFFFF v.rch.cntLadder) fun _ => rfl)⟩

/-- A step that has failed leads to the next enabled one (R506). -/
theorem toLadder_climbs (h : s.AtSector x q c) (hw : w.besidePass = s.besidePass) {i ran j : Nat}
    (hrecov : s.rch.recov = .ladder i ran) (hnext : s.ladderNext x i ran = some j) :
    Climbs x j (ran + 1) s.rch.cntLadder s w w.toLadder.follows := by
  have hat := h.of_besidePass hw
  have hrecov' : w.rch.recov = .ladder i ran := (eq_of_besidePass hw (·.rch.recov) fun _ => rfl).trans hrecov
  have hclimbs : w.toLadder = w.ladderStep j (ran + 1) := by
    simp only [State.toLadder, hat.cur, hrecov', ladderNext_of_besidePass hw, hnext]
  obtain ⟨o, e, a, l, hstep⟩ := ladderStep_eq j (ran + 1) w
  have hready : w.toLadder.diskReady = true := by
    rw [hclimbs, hstep]
    exact hat.ready
  obtain ⟨causes, hfollows⟩ := follows_of_ready hready
  rw [hfollows, hclimbs, hstep]
  exact ⟨hat.cur, rfl, eq_of_besidePass hw (·.rch.cntRead) fun _ => rfl, rfl,
    eq_of_besidePass hw (·.rch.cntLadder) fun _ => rfl⟩

/-- Past the last step the LBA is a grown defect, and the transfer ends with its status (R506, R508, R510). -/
theorem toLadder_fails (h : s.AtSector x q c) (hw : w.besidePass = s.besidePass) {i ran : Nat}
    (hrecov : s.rch.recov = .ladder i ran) (hnext : s.ladderNext x i ran = none) (hroom : s.die.glist.length < 4096) :
    Fails x q c s w.toLadder.follows := by
  have hat := h.of_besidePass hw
  have hrecov' : w.rch.recov = .ladder i ran := (eq_of_besidePass hw (·.rch.recov) fun _ => rfl).trans hrecov
  have hdie : w.die = s.die := eq_of_besidePass hw State.die fun _ => rfl
  have hqs : w.hq.qs = s.hq.qs := eq_of_besidePass hw (·.hq.qs) fun _ => rfl
  generalize hu : ((w.growDefect (x.lba + x.done) 1).raise 112).onRch (fun r =>
    { r with cntRfail := satInc 0xFFFFFFFF r.cntRfail }) = u
  have hgrown : w.growDefect (x.lba + x.done) 1 =
      { w with die := { w.die with glist := w.die.glist ++ [(x.lba + x.done, 1)] } } :=
    if_neg (by rw [hdie]; exact Nat.not_le.mpr hroom)
  have hfails : w.toLadder = u.endXfer 2 := by
    simp only [State.toLadder, hat.cur, hrecov', ladderNext_of_besidePass hw, hnext, State.readFailed, h.kind, hu]
  have hcur : u.rch.cur = some x := by
    rw [← hu, hgrown]
    simpa using hat.cur
  obtain ⟨k, e, a, l, hends⟩ := endXfer_hostRead hcur h.kind (status := 2) (by decide)
  have hready : w.toLadder.diskReady = true := by
    rw [hfails, hends]
    refine (diskReady_of_readiness ?_).trans hat.ready
    rw [← hu, hgrown]
    simp [State.readiness_eq, State.onCmd, State.onQp, State.onHq]
  obtain ⟨causes, hfollows⟩ := follows_of_ready hready
  have hqs' : u.hq.qs = s.hq.qs := by
    rw [← hu, hgrown, ← hqs]
    simp
  rw [hfollows, hfails, hends]
  refine ⟨rfl, ?_, ?_, ?_⟩
  · rw [← hu, hgrown]
    simpa using eq_of_besidePass hw (fun v => satInc 0xFFFFFFFF v.rch.cntRfail) fun _ => rfl
  · rw [← hu, hgrown, ← hdie]
    simp [State.onCmd, State.onQp, State.onHq]
  · simp [State.onCmd, State.onQp, State.onHq, hqs']

end

end Sys2Proof.Machine

namespace Sys2Proof.Machine

/-! ## The bytes of a sector in DRAM (R398, R499) -/

theorem find?_none_of_keys {β : Type} {k : Nat} {l : List (Nat × β)} (h : ∀ e ∈ l, e.1 ≠ k) : find? k l = none := by
  induction l with
  | nil => rfl
  | cons e l ih =>
    obtain ⟨he, hl⟩ := List.forall_mem_cons.mp h
    rw [find?, if_neg he.symm]
    exact ih hl

/-- A key that a store does not list is not listed after a write of another one. -/
theorem find?_sput_none {β : Type} [DecidableEq β] {d v : β} {j k : Nat} (hjk : k ≠ j) {l : List (Nat × β)}
    (h : find? k l = none) : find? k (sput d v j l) = none := by
  induction l with
  | nil => unfold sput; split <;> simp [find?, hjk]
  | cons e l ih =>
    have hk : k ≠ e.1 := fun hk => by simp [find?, hk] at h
    have hl : find? k l = none := by simpa [find?, hk] using h
    unfold sput
    split_ifs <;> simp [find?, hjk, hk, hl, ih hl]

/-- A key that a store does not list reads as what is written there, be it what an unlisted key reads as. -/
theorem sget_sput_unlisted {β : Type} [DecidableEq β] {d v : β} {k : Nat} {l : List (Nat × β)} (h : find? k l = none) :
    sget d k (sput d v k l) = v := by
  by_cases hv : v = d
  · subst hv
    induction l with
    | nil => simp [sput, sget, find?]
    | cons e l ih =>
      have hk : k ≠ e.1 := fun hk => by simp [find?, hk] at h
      have hl : find? k l = none := by simpa [find?, hk] using h
      unfold sput
      rw [if_pos rfl, if_neg hk]
      split
      · simp [sget, find?, hk, hl]
      · simpa [sget, find?, hk] using ih hl
  · exact sget_sput_self hv k l

/-- A write of bytes one after the other leaves the other cells. -/
theorem sget_storeFold_other {a k : Nat} (l : List Byte) (n : Nat) (d : List (Nat × Byte)) (hk : k < a + n) :
    sget 0 k ((l.zipIdx n).foldl (fun d b => sput 0 b.1 (a + b.2) d) d) = sget 0 k d := by
  induction l generalizing n d with
  | nil => rfl
  | cons b l ih =>
    rw [List.zipIdx_cons, List.foldl_cons, ih _ _ (by omega)]
    exact sget_sput_other 0 b (by dsimp only; omega) d

/-- Bytes that are written one after the other, to cells that are not listed, read back. -/
theorem sget_storeFold (a : Nat) (l : List Byte) (n : Nat) (d : List (Nat × Byte))
    (h : ∀ j, n ≤ j → j < n + l.length → find? (a + j) d = none) {i : Nat} (hi : i < l.length) :
    sget 0 (a + (n + i)) ((l.zipIdx n).foldl (fun d b => sput 0 b.1 (a + b.2) d) d) = l.getD i 0 := by
  induction l generalizing n d i with
  | nil => simp at hi
  | cons b l ih =>
    rw [List.length_cons] at h hi
    rw [List.zipIdx_cons, List.foldl_cons]
    cases i with
    | zero =>
      rw [sget_storeFold_other l _ _ (by omega)]
      exact sget_sput_unlisted (h n le_rfl (by omega))
    | succ i =>
      have hrest := ih (n + 1) (sput 0 b (a + n) d)
        (fun j hj hj' => find?_sput_none (by omega) (h j (by omega) (by omega))) (i := i) (by omega)
      rw [show n + (i + 1) = n + 1 + i by omega, List.getD_cons_succ]
      exact hrest

/-- Bytes that are put into DRAM read back (R398). -/
theorem storeBytes_reads (a : Nat) (l : List Byte) (s : State) {i : Nat} (hi : i < l.length) :
    sget 0 (a + i) (s.storeBytes a l).dram = l.getD i 0 := by
  have hcleared : ∀ j, 0 ≤ j → j < 0 + l.length →
      find? (a + j) (s.dram.filter fun c => !decide (a ≤ c.1 ∧ c.1 < a + l.length)) = none := by
    intro j _ hj
    refine find?_none_of_keys fun e he hkey => ?_
    have hout := (List.mem_filter.mp he).2
    simp only [hkey, Bool.not_eq_true', decide_eq_false_iff_not] at hout
    omega
  have hreads := sget_storeFold a l 0 _ hcleared hi
  rwa [Nat.zero_add] at hreads

/-- A host read's sector lands in the frame of its command (R499). -/
theorem landBytes_reads {s : State} {x : DXfer} {q c f : Nat} (hkind : x.kind = .hostRead q c)
    (hframe : s.frameOfBlock (q * 65536 + c) = some f) (user : List Byte) {i : Nat} (hi : i < 4096) :
    sget 0 (65536 * f + 4096 * (x.done % 16) + i) (s.landBytes x (padTo 4096 user)).dram = user.getD i 0 := by
  have hlands : s.landBytes x (padTo 4096 user) =
      s.storeBytes (65536 * f + 4096 * (x.done % 16)) (padTo 4096 user) := by
    simp only [State.landBytes, planFrame_hostRead hkind, hkind, hframe]
  rw [hlands, storeBytes_reads _ _ _ (by rwa [padTo_length])]
  simp [padTo, slice, List.getD_eq_getElem?_getD, List.getElem?_range hi]

/-! ## Tags and scrambler seeds -/

theorem leNat_leBytes_mod (n v : Nat) : leNat (leBytes n v) = v % 256 ^ n := by
  induction n generalizing v with
  | zero => simp [leBytes, leNat, Nat.mod_one]
  | succ n ih =>
    rw [leBytes, leNat, ih, Nat.pow_succ', Nat.mod_mul, BitVec.toNat_ofNat]

/-- Tags of different sectors differ modulo 2^32 (R481). -/
theorem u32be_ne {a b : Nat} (h : a % 2 ^ 32 ≠ b % 2 ^ 32) : u32be a ≠ u32be b := by
  intro heq
  have hle : leBytes 4 a = leBytes 4 b := List.reverse_injective heq
  exact h (by simpa only [leNat_leBytes_mod, show 256 ^ 4 = 2 ^ 32 from rfl] using congrArg leNat hle)

/-! ## Decodes in their order, and the window of a mark -/

/-- The first decode that passes is taken, whatever failed before it (R496). -/
theorem firstGood_append (k : Nat) (l t : List Checked) (u : List Byte) (h : ∀ c ∈ l, ∀ v, c ≠ .good v) :
    firstGood k (l ++ .good u :: t) = (.good u, k + l.length) := by
  induction l generalizing k with
  | nil => rfl
  | cons c l ih =>
    obtain ⟨hc, hl⟩ := List.forall_mem_cons.mp h
    have hrest : firstGood (k + 1) (l ++ .good u :: t) = (.good u, k + (l.length + 1)) := by
      rw [ih _ hl]
      congr 1
      omega
    cases c
    case good v => exact absurd rfl (hc v)
    case bad => exact hrest
    case tag =>
      rw [List.cons_append, firstGood, hrest]
      rfl

theorem bestMark_mem {pred : Nat} {l : List (Nat × Nat)} {o : Option (Nat × Nat)} {m : Nat × Nat}
    (h : bestMark pred l o = some m) : m ∈ l ∨ o = some m := by
  induction l generalizing o with
  | nil => exact .inr h
  | cons x l ih =>
    rcases ih h with hl | ho
    · exact .inl (List.mem_cons_of_mem _ hl)
    · cases o with
      | none => exact .inl (by simp [Option.some.inj ho])
      | some b =>
        dsimp only at ho
        split at ho
        · exact .inl (by simp [Option.some.inj ho])
        · exact .inr ho

/-- A mark that is found lies in its window, whole, agrees well enough, and has no defect flag (R492 to R494). -/
theorem findMark_some {mark : Word} {pred w th : Nat} {bits : List RBit} {flags : List Bool} {x : Nat}
    (h : findMark mark pred w th bits flags = some x) :
    pred - w ≤ x ∧ x ≤ pred - w + 2 * w ∧ x + 32 ≤ bits.length ∧ th ≤ agreement mark (bits.drop x) ∧
      ((flags.drop x).take 32).any id = false := by
  obtain ⟨m, hm, rfl⟩ := Option.map_eq_some_iff.mp h
  have hmem := (bestMark_mem hm).resolve_right (by simp)
  obtain ⟨hcand, hth⟩ := List.mem_filter.mp hmem
  obtain ⟨p, hp, rfl⟩ := List.mem_map.mp hcand
  obtain ⟨hwin, hok⟩ := List.mem_filter.mp hp
  obtain ⟨i, hi, rfl⟩ := List.mem_map.mp hwin
  rw [Bool.and_eq_true, decide_eq_true_eq, Bool.not_eq_true'] at hok
  have := List.mem_range.mp hi
  exact ⟨by omega, by omega, hok.1, of_decide_eq_true hth, hok.2⟩

/-- The judgement of the two marks and the alignment that they give (R495). -/
theorem marks_judged :
    (∀ a b : Nat, judgeMarks (some a) (some b) = (if b = a + 19184 then .both else .differ) ∧
      alignOf (some a) (some b) = some ((b : Int) - 19152, (b : Int) + 32)) ∧
    (∀ a : Nat, judgeMarks (some a) none = .single ∧ judgeMarks none (some a) = .single ∧
      alignOf (some a) none = some ((a : Int) + 32, (a : Int) + 19216) ∧
      alignOf none (some a) = some ((a : Int) - 19152, (a : Int) + 32)) := by
  refine ⟨fun a b => ⟨rfl, ?_⟩, fun a => ⟨rfl, rfl, rfl, rfl⟩⟩
  rw [alignOf]
  split
  next hb =>
    have hfirst : (a : Int) + 32 = (b : Int) - 19152 := by omega
    rw [hfirst]
  · rfl

end Sys2Proof.Machine

namespace Sys2Proof.Machine

/-! ## One read attempt of a host read -/

/-- What follows from the marks and the decode of a pass, and the state that it has left (R496 to R500, R506). -/
def judgePass (step : Nat) (relaxedNext : Bool) : Marks × Checked × State → State
  | (_, .good u, w) => w.landSector u (decide (0 < step) || !relaxedNext)
  | (_, .tag, w) => w.toLadder
  | (m, .bad, w) =>
    if relaxedNext && decide (m = .missed ∨ m = .single) then w.onRch fun r => { r with recov := .relaxed }
    else w.toLadder

section
variable {s w : State} {x : DXfer} {q c : Nat} (h : s.AtSector x q c)
include h

/-- Time under a host read is added to the piece (R577). -/
theorem earn_hostRead (us : Nat) : s.earn us = s.onRch fun r => { r with pieceUs := r.pieceUs + us } := by
  simp only [State.earn, h.cur, h.kind]

/-- A host read has its frame already, and needs no landing frame (R417). -/
theorem landingFrame_hostRead : s.landingFrame x = (s, true) := by
  simp only [State.landingFrame, planFrame_hostRead h.kind]

variable {p : ReadPass} {th iter step lba : Nat} {m : Marks} {d : Checked}

theorem pass_besidePass (hpass : (s.earn p.us).readPass p th iter step lba = (m, d, w)) :
    w.besidePass = s.besidePass := by
  rw [readPass_besidePass hpass, earn_hostRead h]
  exact onRch_besidePass (fun _ => rfl) s

/-- What a pass has counted, and the detector output that it has left. -/
theorem pass_counts (hpass : (s.earn p.us).readPass p th iter step lba = (m, d, w)) :
    w.rch.cntSmmiss = (if m = .missed then satInc 0xFFFFFFFF s.rch.cntSmmiss else s.rch.cntSmmiss) ∧
      w.rch.soft = ((s.earn p.us).frontPass p th step).2.rch.soft ∧
      (m ≠ .single → w.rch.cntTagmis = if d = .tag then satInc 0xFFFFFFFF s.rch.cntTagmis else s.rch.cntTagmis) := by
  have hsame : (s.earn p.us).rch.cntSmmiss = s.rch.cntSmmiss ∧ (s.earn p.us).rch.cntTagmis = s.rch.cntTagmis := by
    rw [earn_hostRead h]
    exact ⟨rfl, rfl⟩
  obtain ⟨hmisses, hsoft, htags⟩ := readPass_counts hpass
  rw [hsame.1] at hmisses
  rw [hsame.2] at htags
  exact ⟨hmisses, hsoft, htags⟩

section
variable (hpass : (s.earn p.us).readPass p th iter step (x.lba + x.done) = (m, d, w))
  (hstep : step ≠ 7 ∨ s.rch.firstSoft.isSome = true)
include hpass hstep

/-- An attempt that is not the first read of step 7 is judged by its pass. -/
theorem attemptRead_eq (relaxedNext : Bool) :
    s.attemptRead p th iter step relaxedNext = judgePass step relaxedNext (m, d, w) := by
  have hjudged : ¬ (decide (step = 7) && s.rch.firstSoft.isNone) = true := by
    rcases hstep with hne | hsome
    · simp [hne]
    · simp [Option.isSome_iff_ne_none.mp hsome]
  rw [← hpass]
  unfold State.attemptRead
  simp only [h.cur, landingFrame_hostRead h]
  rw [if_neg hjudged]
  generalize (s.earn p.us).readPass p th iter step (x.lba + x.done) = r
  obtain ⟨m, d, w⟩ := r
  cases d <;> rfl

/-- An attempt whose decode passes lands (R499). -/
theorem attemptRead_lands {u : List Byte} (hgood : d = .good u) (relaxedNext : Bool) :
    Lands x u (decide (0 < step) || !relaxedNext) s w (s.attemptRead p th iter step relaxedNext).follows := by
  subst hgood
  rw [attemptRead_eq h hpass hstep]
  exact landSector_lands h (pass_besidePass h hpass) _ _

/-- The first attempt, in which both marks are missed, leads to the relaxed reread (R497). -/
theorem attemptRead_misses (hbad : d = .bad) (hmissed : m = .missed) :
    let t := (s.attemptRead p th iter step true).follows
    t.rch.cur = some x ∧ t.rch.recov = .relaxed ∧ t.rch.cntRead = s.rch.cntRead ∧
      t.rch.cntSmmiss = satInc 0xFFFFFFFF s.rch.cntSmmiss := by
  subst hbad hmissed
  have hw := pass_besidePass h hpass
  have hrelaxes : s.attemptRead p th iter step true = w.onRch fun r => { r with recov := .relaxed } := by
    rw [attemptRead_eq h hpass hstep]
    rfl
  have hready : (w.onRch fun r => { r with recov := .relaxed }).diskReady = true := (h.of_besidePass hw).ready
  obtain ⟨causes, hfollows⟩ := follows_of_ready hready
  rw [hrelaxes, hfollows]
  exact ⟨(h.of_besidePass hw).cur, rfl, eq_of_besidePass hw (·.rch.cntRead) fun _ => rfl, (pass_counts h hpass).1⟩

/-- An attempt that has failed, and that no relaxed reread follows, goes to the ladder (R500, R506). -/
theorem attemptRead_toLadder {relaxedNext : Bool} (hfails : d = .tag ∨ d = .bad ∧ relaxedNext = false) :
    s.attemptRead p th iter step relaxedNext = w.toLadder := by
  rw [attemptRead_eq h hpass hstep]
  rcases hfails with rfl | ⟨rfl, rfl⟩ <;> rfl

end

/-- The first read of step 7 leaves its detector output (R506). -/
theorem attemptRead_first (hnone : s.rch.firstSoft = none) :
    let t := (s.attemptRead p th iter 7 false).follows
    t.rch.cur = some x ∧ t.rch.recov = s.rch.recov ∧ t.rch.firstSoft = some t.rch.soft ∧
      t.rch.cntRead = s.rch.cntRead := by
  have hw : ((s.earn p.us).frontPass p th 7).2.besidePass = s.besidePass := by
    rw [State.frontPass_besidePass, earn_hostRead h]
    exact onRch_besidePass (fun _ => rfl) s
  have hkeeps : s.attemptRead p th iter 7 false =
      ((s.earn p.us).frontPass p th 7).2.onRch fun r => { r with firstSoft := some r.soft } := by
    unfold State.attemptRead
    simp only [h.cur, landingFrame_hostRead h, hnone]
    rfl
  rw [hkeeps]
  generalize ((s.earn p.us).frontPass p th 7).2 = w at hw
  have hready : (w.onRch fun r => { r with firstSoft := some r.soft }).diskReady = true := (h.of_besidePass hw).ready
  obtain ⟨causes, hfollows⟩ := follows_of_ready hready
  rw [hfollows]
  exact ⟨(h.of_besidePass hw).cur, eq_of_besidePass hw (·.rch.recov) fun _ => rfl, rfl,
    eq_of_besidePass hw (·.rch.cntRead) fun _ => rfl⟩

/-! ## Passes that carry a sector, and passes that carry no mark -/

section
variable {u : List Byte} (hlen : 0 < fld (s.rchReg 0x24) 8 8) (hth : th ≤ 32)
include hlen hth

/-- A pass that carries the sector as it was written passes every check, summed with a first read of it or not. -/
theorem pass_carries (iter step : Nat)
    (hsum : ∀ l, s.rch.firstSoft = some l → hardBits l = bitsMsb (trackSector (x.lba + x.done) u))
    (hp : p.carries (trackSector (x.lba + x.done) u)) :
    ∃ w, (s.earn p.us).readPass p th iter step (x.lba + x.done) = (.both, .good (padTo 4096 u), w) := by
  rw [earn_hostRead h]
  exact readPass_good p th iter step _ u _ hp hlen hth hsum

/-- A pass that carries the sector of another LBA with the same scrambler seed fails on its tag (R500). -/
theorem pass_otherTag {other : Nat} (iter step : Nat) (hfresh : s.rch.firstSoft = none)
    (hp : p.carries (trackSector other u))
    (hseed : other % 32767 = (x.lba + x.done) % 32767) (htag : other % 2 ^ 32 ≠ (x.lba + x.done) % 2 ^ 32) :
    ∃ w, (s.earn p.us).readPass p th iter step (x.lba + x.done) = (.both, .tag, w) := by
  rw [earn_hostRead h]
  refine readPass_otherTag p th iter step _ other u _ hp hlen hth (fun l hl => ?_) ?_ (u32be_ne htag)
  · exact absurd (hfresh.symm.trans hl) (by simp)
  · simp only [scrSeed, hseed]

end

/-- In step 7 the detector output of the two reads is summed (R496, R506). -/
theorem pass_summed {l : List Int} {sector : List Byte} (hfirst : s.rch.firstSoft = some l)
    (hlen : 0 < fld (s.rchReg 0x24) 8 8) (hp : p.carries sector)
    (hpass : (s.earn p.us).readPass p th iter step lba = (m, d, w)) :
    w.rch.soft = softSum l (p.bits.map (·.llr)) := by
  rw [(pass_counts h hpass).2.1, earn_hostRead h]
  exact frontPass_summed hp th step hlen hfirst

end

/-! ## The commands -/

section
variable {s : State} (hdsk : s.on .dsk = true) (hread : s.canRead = true)
include hdsk hread

theorem sectorReadComplete_attempts (hrecov : s.rch.recov = .fresh) (p : ReadPass) :
    sectorReadComplete p s = (s.attemptRead p s.thNormal s.iterNormal 0 true).follows := by
  simp [sectorReadComplete, inDisk_of_on hdsk, hread, hrecov]

theorem relaxedReread_attempts (hrecov : s.rch.recov = .relaxed) (p : ReadPass) :
    relaxedReread p s = (s.attemptRead p (fld (s.rchReg 0x20) 8 6) s.iterNormal 0 false).follows := by
  simp [relaxedReread, inDisk_of_on hdsk, hread, hrecov]

/-- The iterations of a ladder step (R506). -/
def State.iterLadder (s : State) (i : Nat) : Nat := if i = 2 then fld (s.rchReg 0x2C) 16 8 else s.iterNormal

theorem ladderStep_attempts {i ran : Nat} (hrecov : s.rch.recov = .ladder i ran) (p : ReadPass) :
    ladderStep p s = (s.attemptRead p s.thNormal (s.iterLadder i) i false).follows := by
  simp only [ladderStep, inDisk_of_on hdsk, hrecov, hread, if_true]
  rfl

end

end Sys2Proof.Machine

namespace Sys2Proof.Machine

/-! ## Each command of a read, by the outcome of its attempt (O27) -/

section
variable {s w : State} {x : DXfer} {q c : Nat} {p : ReadPass} {m : Marks} {u : List Byte} (haon : s.aonOn = true)
  (hdsk : s.on .dsk = true) (hread : s.canRead = true) (h : s.AtSector x q c)
include haon hdsk hread h

theorem sectorReadComplete_lands (hrecov : s.rch.recov = .fresh)
    (hpass : (s.earn p.us).readPass p s.thNormal s.iterNormal 0 (x.lba + x.done) = (m, .good u, w)) :
    ∃ t, Does (.sectorReadComplete p) s t ∧ Lands x u false s w t :=
  ⟨_, does_of_effect rfl haon (sectorReadComplete_attempts hdsk hread hrecov p),
    attemptRead_lands h hpass (.inl (by decide)) rfl true⟩

theorem sectorReadComplete_misses (hrecov : s.rch.recov = .fresh)
    (hpass : (s.earn p.us).readPass p s.thNormal s.iterNormal 0 (x.lba + x.done) = (.missed, .bad, w)) :
    ∃ t, Does (.sectorReadComplete p) s t ∧ t.rch.cur = some x ∧ t.rch.recov = .relaxed ∧
      t.rch.cntRead = s.rch.cntRead ∧ t.rch.cntSmmiss = satInc 0xFFFFFFFF s.rch.cntSmmiss :=
  ⟨_, does_of_effect rfl haon (sectorReadComplete_attempts hdsk hread hrecov p),
    attemptRead_misses h hpass (.inl (by decide)) rfl rfl⟩

theorem sectorReadComplete_enters {j : Nat} (hrecov : s.rch.recov = .fresh)
    (hpass : (s.earn p.us).readPass p s.thNormal s.iterNormal 0 (x.lba + x.done) = (m, .tag, w))
    (hnext : s.ladderNext x 0 0 = some j) :
    ∃ t, Does (.sectorReadComplete p) s t ∧ Climbs x j 1 (satInc 0xFFFFFFFF s.rch.cntLadder) s w t := by
  refine ⟨_, does_of_effect rfl haon (sectorReadComplete_attempts hdsk hread hrecov p), ?_⟩
  rw [attemptRead_toLadder h hpass (.inl (by decide)) (.inl rfl)]
  exact toLadder_enters h (pass_besidePass h hpass) (by simp [hrecov]) hnext

theorem relaxedReread_lands (hrecov : s.rch.recov = .relaxed)
    (hpass : (s.earn p.us).readPass p (fld (s.rchReg 0x20) 8 6) s.iterNormal 0 (x.lba + x.done) = (m, .good u, w)) :
    ∃ t, Does (.relaxedReread p) s t ∧ Lands x u true s w t :=
  ⟨_, does_of_effect rfl haon (relaxedReread_attempts hdsk hread hrecov p),
    attemptRead_lands h hpass (.inl (by decide)) rfl false⟩

theorem relaxedReread_enters {j : Nat} (hrecov : s.rch.recov = .relaxed)
    (hpass : (s.earn p.us).readPass p (fld (s.rchReg 0x20) 8 6) s.iterNormal 0 (x.lba + x.done) = (m, .bad, w))
    (hnext : s.ladderNext x 0 0 = some j) :
    ∃ t, Does (.relaxedReread p) s t ∧ Climbs x j 1 (satInc 0xFFFFFFFF s.rch.cntLadder) s w t := by
  refine ⟨_, does_of_effect rfl haon (relaxedReread_attempts hdsk hread hrecov p), ?_⟩
  rw [attemptRead_toLadder h hpass (.inl (by decide)) (.inr ⟨rfl, rfl⟩)]
  exact toLadder_enters h (pass_besidePass h hpass) (by simp [hrecov]) hnext

section
variable {i ran : Nat} (hrecov : s.rch.recov = .ladder i ran)
include hrecov

theorem ladderStep_first (hi : i = 7) (hnone : s.rch.firstSoft = none) :
    ∃ t, Does (.ladderStep p) s t ∧ t.rch.cur = some x ∧ t.rch.recov = .ladder 7 ran ∧
      t.rch.firstSoft = some t.rch.soft ∧ t.rch.cntRead = s.rch.cntRead := by
  subst hi
  obtain ⟨hcur, hstays, hkept, hcount⟩ :=
    attemptRead_first h (p := p) (th := s.thNormal) (iter := s.iterLadder 7) hnone
  exact ⟨_, does_of_effect rfl haon (ladderStep_attempts hdsk hread hrecov p), hcur, hstays.trans hrecov, hkept, hcount⟩

variable (hsummed : i ≠ 7 ∨ s.rch.firstSoft.isSome = true)
include hsummed

theorem ladderStep_lands
    (hpass : (s.earn p.us).readPass p s.thNormal (s.iterLadder i) i (x.lba + x.done) = (m, .good u, w)) :
    ∃ t, Does (.ladderStep p) s t ∧ Lands x u true s w t := by
  have hlands := attemptRead_lands h hpass hsummed rfl false
  rw [Bool.not_false, Bool.or_true] at hlands
  exact ⟨_, does_of_effect rfl haon (ladderStep_attempts hdsk hread hrecov p), hlands⟩

variable (hpass : (s.earn p.us).readPass p s.thNormal (s.iterLadder i) i (x.lba + x.done) = (m, .bad, w))
include hpass

theorem ladderStep_climbs {j : Nat} (hnext : s.ladderNext x i ran = some j) :
    ∃ t, Does (.ladderStep p) s t ∧ Climbs x j (ran + 1) s.rch.cntLadder s w t := by
  refine ⟨_, does_of_effect rfl haon (ladderStep_attempts hdsk hread hrecov p), ?_⟩
  rw [attemptRead_toLadder h hpass hsummed (.inr ⟨rfl, rfl⟩)]
  exact toLadder_climbs h (pass_besidePass h hpass) hrecov hnext

theorem ladderStep_fails (hnext : s.ladderNext x i ran = none) (hroom : s.die.glist.length < 4096) :
    ∃ t, Does (.ladderStep p) s t ∧ Fails x q c s t := by
  refine ⟨_, does_of_effect rfl haon (ladderStep_attempts hdsk hread hrecov p), ?_⟩
  rw [attemptRead_toLadder h hpass hsummed (.inr ⟨rfl, rfl⟩)]
  exact toLadder_fails h (pass_besidePass h hpass) hrecov hnext hroom

end

end

/-- A sector that may be read is on a ready disk (R477). -/
theorem diskReady_of_canRead {s : State} (hread : s.canRead = true) : s.diskReady = true := by
  simp only [State.canRead, Bool.and_eq_true] at hread
  exact hread.1.1.1

/-- Settles O27: the outcome of each attempt follows from its pass, whatever the pass brings; a pass that carries the
sector passes its checks (`pass_carries`), and one that is shorter than a mark misses both (`readPass_missed`). -/
theorem sectorsAreReadAndRecovered : Obligations.SectorsAreReadAndRecovered := by
  unfold Obligations.SectorsAreReadAndRecovered
  refine ⟨?reads, ?marks⟩
  case marks =>
    exact ⟨marks_judged.1, marks_judged.2, rfl, rfl, fun k l t u => firstGood_append k l t u, by decide,
      fun lba u => ⟨parityOk_codeword lba u, codeword_length lba u, checkDecode_codeword lba u⟩,
      fun _ _ _ _ _ _ _ => findMark_some⟩
  case reads =>
    intro p q c x s haon hdsk hread hcur hkind hcut hstop hmore hpiece
    dsimp only
    have h : s.AtSector x q c := ⟨hcur, hkind, hcut, hstop, hmore, hpiece, diskReady_of_canRead hread⟩
    have hunsummed (hnone : s.rch.firstSoft = none) (sector : List Byte) :
        ∀ l, s.rch.firstSoft = some l → hardBits l = bitsMsb sector :=
      fun l hl => absurd (hnone.symm.trans hl) (by simp)
    have hiter {i : Nat} (hi : i ≠ 2) : s.iterLadder i = s.iterNormal := if_neg hi
    refine ⟨?carried, ?short, ?otherTag, ?relaxedCarried, ?relaxedShort, ?ladderCarried, ?summed, ?ladderShort,
      ?ladderShortLast, ?good, ?missed, ?tag, ?relaxedGood, ?ladderGood, ?first, ?ladderBad, ?ladderBadLast⟩
    case carried =>
      rintro u f hrecov ⟨hlen, hnone⟩ hth hp hframe -
      obtain ⟨w, hpass⟩ := pass_carries h hlen hth s.iterNormal 0 (hunsummed hnone _) hp
      obtain ⟨t, hdoes, hcur', hfresh, hcount, -, hmisses', htags', -, -, -, hdram⟩ :=
        sectorReadComplete_lands haon hdsk hread h hrecov hpass
      obtain ⟨hmisses, -, htags⟩ := pass_counts h hpass
      have hframe' : w.frameOfBlock (q * 65536 + c) = some f :=
        (eq_of_besidePass (pass_besidePass h hpass) (·.frameOfBlock (q * 65536 + c)) fun _ => rfl).trans hframe
      refine ⟨t, hdoes, by simpa using hcur', hfresh, hcount, hmisses'.trans hmisses,
        htags'.trans (htags (by decide)), fun i hi => ?_⟩
      rw [hdram]
      exact landBytes_reads hkind hframe' u hi
    case short =>
      intro hrecov hshort
      obtain ⟨w, hpass⟩ := readPass_missed p s.thNormal s.iterNormal 0 (x.lba + x.done) (s.earn p.us) hshort
      exact sectorReadComplete_misses haon hdsk hread h hrecov hpass
    case otherTag =>
      rintro u other j hrecov ⟨hlen, hnone⟩ hth hp hseed htag hnext
      obtain ⟨w, hpass⟩ := pass_otherTag h hlen hth s.iterNormal 0 hnone hp hseed htag
      obtain ⟨t, hdoes, hcur', hdue, -, htags, hladder⟩ :=
        sectorReadComplete_enters haon hdsk hread h hrecov hpass hnext
      exact ⟨t, hdoes, hcur', hdue, htags.trans ((pass_counts h hpass).2.2 (by decide)), hladder⟩
    case relaxedCarried =>
      rintro u hrecov ⟨hlen, hnone⟩ hth hp
      obtain ⟨w, hpass⟩ := pass_carries h hlen hth s.iterNormal 0 (hunsummed hnone _) hp
      obtain ⟨t, hdoes, hcur', hfresh, hcount, -⟩ := relaxedReread_lands haon hdsk hread h hrecov hpass
      exact ⟨t, hdoes, by simpa using hcur', hfresh, hcount⟩
    case relaxedShort =>
      intro j hrecov hshort hnext
      obtain ⟨w, hpass⟩ :=
        readPass_missed p (fld (s.rchReg 0x20) 8 6) s.iterNormal 0 (x.lba + x.done) (s.earn p.us) hshort
      obtain ⟨t, hdoes, hcur', hdue, hcount, -⟩ := relaxedReread_enters haon hdsk hread h hrecov hpass hnext
      exact ⟨t, hdoes, hcur', hdue, hcount⟩
    case ladderCarried =>
      rintro i ran u hrecov hi ⟨hlen, hnone⟩ hth hp
      obtain ⟨w, hpass⟩ := pass_carries h hlen hth (s.iterLadder i) i (hunsummed hnone _) hp
      obtain ⟨t, hdoes, hcur', hfresh, hcount, -, -, -, -, -, hofs, -⟩ :=
        ladderStep_lands haon hdsk hread h hrecov (.inl hi) hpass
      exact ⟨t, hdoes, by simpa using hcur', hfresh, hcount, hofs⟩
    case summed =>
      intro ran u l hrecov hfirst hbits hlen hth hp
      have hsum : ∀ l', s.rch.firstSoft = some l' → hardBits l' = bitsMsb (trackSector (x.lba + x.done) u) :=
        fun l' hl' => Option.some.inj (hfirst.symm.trans hl') ▸ hbits
      obtain ⟨w, hpass⟩ := pass_carries h hlen hth (s.iterLadder 7) 7 hsum hp
      obtain ⟨t, hdoes, hcur', -, -, -, -, -, hsoft, hnone, -⟩ :=
        ladderStep_lands haon hdsk hread h hrecov (.inr (by simp [hfirst])) hpass
      exact ⟨t, hdoes, by simpa using hcur', hsoft.trans (pass_summed h hfirst hlen hp hpass), hnone⟩
    case ladderShort =>
      intro i ran j hrecov hsummed hshort hnext
      obtain ⟨w, hpass⟩ := readPass_missed p s.thNormal (s.iterLadder i) i (x.lba + x.done) (s.earn p.us) hshort
      obtain ⟨t, hdoes, hcur', hdue, -, -, hladder⟩ :=
        ladderStep_climbs haon hdsk hread h hrecov hsummed hpass hnext
      exact ⟨t, hdoes, hcur', hdue, hladder⟩
    case ladderShortLast =>
      intro i ran hrecov hsummed hshort hnext hroom
      obtain ⟨w, hpass⟩ := readPass_missed p s.thNormal (s.iterLadder i) i (x.lba + x.done) (s.earn p.us) hshort
      exact ladderStep_fails haon hdsk hread h hrecov hsummed hpass hnext hroom
    case good =>
      intro m u w hrecov hpass
      obtain ⟨t, hdoes, hcur', hfresh, hcount, -⟩ := sectorReadComplete_lands haon hdsk hread h hrecov hpass
      exact ⟨t, hdoes, by simpa using hcur', hfresh, hcount⟩
    case missed => exact fun w hrecov hpass => sectorReadComplete_misses haon hdsk hread h hrecov hpass
    case tag =>
      intro m w j hrecov hpass hnext
      obtain ⟨t, hdoes, hcur', hdue, -, htags, hladder⟩ :=
        sectorReadComplete_enters haon hdsk hread h hrecov hpass hnext
      exact ⟨t, hdoes, hcur', hdue, fun hm => htags.trans ((pass_counts h hpass).2.2 hm), hladder⟩
    case relaxedGood =>
      intro m u w hrecov hpass
      obtain ⟨t, hdoes, hcur', -, hcount, -⟩ := relaxedReread_lands haon hdsk hread h hrecov hpass
      exact ⟨t, hdoes, by simpa using hcur', hcount⟩
    case ladderGood =>
      intro i ran m u w hrecov _ hi hsummed hpass
      rw [← hiter hi] at hpass
      obtain ⟨t, hdoes, hcur', -, -, hladder, -, -, -, -, hofs, -⟩ :=
        ladderStep_lands haon hdsk hread h hrecov hsummed hpass
      exact ⟨t, hdoes, by simpa using hcur', hladder, hofs⟩
    case first => exact fun ran hrecov hnone => ladderStep_first haon hdsk hread h hrecov rfl hnone
    case ladderBad =>
      intro i ran j m w hrecov hi hsummed hpass hnext
      rw [← hiter hi] at hpass
      obtain ⟨t, hdoes, hcur', hdue, -, -, hladder⟩ :=
        ladderStep_climbs haon hdsk hread h hrecov hsummed hpass hnext
      exact ⟨t, hdoes, hcur', hdue, hladder⟩
    case ladderBadLast =>
      intro i ran m w hrecov hi hsummed hpass hnext hroom
      rw [← hiter hi] at hpass
      exact ladderStep_fails haon hdsk hread h hrecov hsummed hpass hnext hroom

end Sys2Proof.Machine

namespace Sys2Proof.Machine

/-! ## A motion axis after a change of it, and the rest of MOT -/

theorem mx_onMx_same {s : State} {k : Nat} (hk : k < s.mot.axes.length) (f : MAxis → MAxis) :
    (s.onMx k f).mx k = f (s.mx k) :=
  nth_modAt_same _ _ _ _ hk

@[simp] theorem onMx_sheets (k : Nat) (f : MAxis → MAxis) (s : State) : (s.onMx k f).mot.sheets = s.mot.sheets := rfl

@[simp] theorem onMx_axes_length (k : Nat) (f : MAxis → MAxis) (s : State) :
    (s.onMx k f).mot.axes.length = s.mot.axes.length := List.length_modify _ _ _

/-- Two changes of an axis are one. -/
theorem onMx_onMx (k : Nat) (f g : MAxis → MAxis) (s : State) :
    (s.onMx k f).onMx k g = s.onMx k fun m => g (f m) := by
  simp [State.onMx, modAt, List.modify_modify_eq, Function.comp_def]

/-- An axis that the store does not list reads as a disabled one. -/
theorem lt_axes_of_enabled {s : State} {k : Nat} (h : (s.mx k).st ≠ .disabled) : k < s.mot.axes.length := by
  by_contra hk
  exact h (by simp [State.mx, nth, List.getElem?_eq_none (Nat.le_of_not_lt hk)])

@[simp] theorem refreshAff_mot (src idx : Nat) (u : Int) (s : State) : (s.refreshAff src idx u).mot = s.mot := rfl

@[simp] theorem accOut_mot (k : Nat) (s t : State) : (State.accOut k s t).mot = t.mot := by
  unfold State.accOut
  split <;> rfl

@[simp] theorem motRaise_mot (src idx : Nat) (s : State) :
    (s.motRaise src idx).mot = { s.mot with lastSource := src, lastIndex := idx } := by
  simp [State.motRaise]

theorem mx_of_axes_eq {s t : State} (h : t.mot.axes = s.mot.axes) (k : Nat) : t.mx k = s.mx k := by
  rw [State.mx, State.mx, h]

/-! ## A write of `MOT_AXk_CMD` (R683) -/

/-- The fields of a command with GO = 1 are stored. -/
def State.commanded (s : State) (k op : Nat) (queue ien : Bool) : State :=
  s.onMx k fun m => { m with cmdWord := placeB queue 27 ||| placeB ien 26 ||| place op 0 4 }

theorem axisCommand_of_legal {s : State} (k : Fin 12) (op : Nat) (queue ien : Bool) (f : State → Nat × State)
    (heng : s.on .eng = true) (hwrite : s.mayWrite .setp = true) :
    axisCommand k op queue ien f s =
      (f (s.commanded k op queue ien)).2.onMx k
        fun m => { m with cmdStatus := (f (s.commanded k op queue ien)).1 } :=
  bar0_of_legal (d := .eng) ((by decide : ∀ k : Fin 12, offDom (0x601008 + 0x80 * k) = some .eng) k) heng hwrite _

section
variable {s : State} {k op : Nat} {ien : Bool}

/-! ## What a move OP answers (R634, R635, R638) -/

theorem cmdMove_refused_of_busy (h : (s.mx k).st = .moving ∨ (s.mx k).st = .homing ∨ (s.mx k).st = .stopping) :
    s.cmdMove k op false ien = (3, s) := by
  rcases h with h | h | h <;> simp [State.cmdMove, h]

theorem cmdMove_refused_of_limit (hidle : (s.mx k).st = .idle)
    (hlimit : s.limitActive k (s.moveTo k op (s32 (s.motReg k 0x0C))).1 = true) :
    s.cmdMove k op false ien = (3, s) := by
  simp [State.cmdMove, hidle, hlimit]

theorem cmdMove_starts (hidle : (s.mx k).st = .idle)
    (hfree : s.limitActive k (s.moveTo k op (s32 (s.motReg k 0x0C))).1 = false) :
    s.cmdMove k op false ien =
      (1, (s.startMove k op (s32 (s.motReg k 0x0C)) ien).firstStep State.track k) := by
  simp [State.cmdMove, hidle, hfree]

theorem cmdMove_queued (hdis : (s.mx k).st ≠ .disabled) (hfault : (s.mx k).st ≠ .fault)
    (hnone : (s.mx k).queue = none) :
    s.cmdMove k op true ien =
      (2, s.onMx k fun m => { m with queue := some { op := op, target := s32 (s.motReg k 0x0C), ien := ien } }) := by
  simp [State.cmdMove, hdis, hfault, hnone]

theorem cmdMove_full (hdis : (s.mx k).st ≠ .disabled) (hfault : (s.mx k).st ≠ .fault)
    (hfull : (s.mx k).queue.isSome = true) : s.cmdMove k op true ien = (4, s) := by
  simp [State.cmdMove, hdis, hfault, hfull]

/-! ## A move that starts, and its first step -/

/-- The axis as a move has started on it, before a step. -/
theorem mx_startMove (hk : k < s.mot.axes.length) (target : Int) :
    (s.startMove k op target ien).mx k =
      { s.mx k with
        st := .moving, holding := false, ien := ien,
        prof := { x := (s.mx k).prof.x, v := (s.genOf k).vs, a := 0, dir := (s.moveTo k op target).1,
                  xt := (s.moveTo k op target).2.getD (s.mx k).prof.x, vs := (s.genOf k).vs, vc := (s.genOf k).vc,
                  phase := .accel, position := (s.moveTo k op target).2.isSome } } := by
  rw [State.startMove, State.launch, onMx_onMx, mx_onMx_same hk]

@[simp] theorem startMove_axes_length (target : Int) :
    (s.startMove k op target ien).mot.axes.length = s.mot.axes.length := by
  simp [State.startMove, State.launch]

/-- An evaluation changes neither the position nor where the move goes. -/
theorem eval_keeps (p : Profile) (g : Gen) (dt : Nat) (free : Int) :
    (p.eval g dt free).x = p.x ∧ (p.eval g dt free).dir = p.dir ∧ (p.eval g dt free).xt = p.xt ∧
      (p.eval g dt free).position = p.position := by
  unfold Profile.eval
  dsimp only
  split <;> exact ⟨rfl, rfl, rfl, rfl⟩

/-- A step moves the profile by one microstep, and changes nothing else of the axis (R624). -/
theorem stepProf_mx (hk : k < s.mot.axes.length) :
    ∃ p, (s.stepProf k).mx k = { s.mx k with prof := p } ∧ p.x = (s.mx k).prof.x + (s.mx k).prof.dir * 2 ^ 24 ∧
      p.xt = (s.mx k).prof.xt ∧ p.position = (s.mx k).prof.position := by
  obtain ⟨hx, hdir, hxt, hpos⟩ := eval_keeps (s.mx k).prof (s.genOf k) (s.mx k).prof.interval (sx 32 s.fresh)
  have hstep (p : Profile) (c : Prop) [Decidable c] (d : Bool) :
      (if d then (((if c then s.used else s).onMx k fun m => { m with prof := p }).motRaise 149 k)
        else (if c then s.used else s).onMx k fun m => { m with prof := p }).mx k = { s.mx k with prof := p } := by
    have hused : (if c then s.used else s).mot = s.mot := by split <;> rfl
    have hset : ((if c then s.used else s).onMx k fun m => { m with prof := p }).mx k = { s.mx k with prof := p } := by
      rw [mx_onMx_same (by rwa [hused]), State.mx, hused]; rfl
    cases d
    · exact hset
    · exact (mx_of_axes_eq (by simp) k).trans hset
  refine ⟨_, hstep _ _ _, ?_, hxt, hpos⟩
  simp [hx, hdir]

theorem stepProf_sheets : (s.stepProf k).mot.sheets = s.mot.sheets := by
  unfold State.stepProf
  dsimp only
  split_ifs <;> simp

theorem stepProf_axes_length : (s.stepProf k).mot.axes.length = s.mot.axes.length := by
  unfold State.stepProf
  dsimp only
  split_ifs <;> simp

/-- New microstep tables change neither the state of the axis nor its profile (R642). -/
theorem stepTables_mx (hk : k < s.mot.axes.length) :
    ((s.stepTables k).mx k).st = (s.mx k).st ∧ ((s.stepTables k).mx k).prof = (s.mx k).prof := by
  rw [State.stepTables, mx_onMx_same hk]
  cases (s.mx k).tblNew with
  | none => exact ⟨rfl, rfl⟩
  | some l => dsimp only; split <;> exact ⟨rfl, rfl⟩

/-- With no sheet in the path there is none to follow (R656). -/
theorem track_of_noSheets (h : s.mot.sheets = []) (du : Int) : s.track k du = s := by
  have hmoved : s.movedBy k = [] := by simp [State.movedBy, h]
  simp [State.track, State.trackN, State.carry, State.trackAll, hmoved]

theorem homeTravelled_of_moving (h : (s.mx k).st = .moving) (n : Nat) : s.homeTravelled k n = s := by
  simp [State.homeTravelled, h]

theorem motEnd_of_underway (h : (s.mx k).st = .moving)
    (hway : (s.mx k).prof.position = true → (s.mx k).prof.x ≠ (s.mx k).prof.xt) : s.motEnd k = s := by
  simpa [State.motEnd, h] using fun hpos hx => absurd hx (hway hpos)

/-- A step that neither begins nor ends at the target of its move takes the axis one microstep on (R624). -/
theorem stepOnce_of_underway (hk : k < s.mot.axes.length) (hst : (s.mx k).st = .moving) (hsheets : s.mot.sheets = [])
    (hhere : (s.mx k).prof.position = true → (s.mx k).prof.x ≠ (s.mx k).prof.xt)
    (hnext : (s.mx k).prof.position = true →
      (s.mx k).prof.x + (s.mx k).prof.dir * 2 ^ 24 ≠ (s.mx k).prof.xt) :
    ((s.stepOnce State.track k).mx k).st = .moving ∧
      ((s.stepOnce State.track k).mx k).prof.x = (s.mx k).prof.x + (s.mx k).prof.dir * 2 ^ 24 ∧
      (s.stepOnce State.track k).mot.axes.length = s.mot.axes.length := by
  obtain ⟨p, hp, hx, hxt, hpos⟩ := stepProf_mx hk
  have hlen : ((s.stepProf k).stepTables k).mot.axes.length = s.mot.axes.length :=
    (onMx_axes_length ..).trans stepProf_axes_length
  obtain ⟨htblSt, htblProf⟩ := stepTables_mx (s := s.stepProf k) (k := k) (by rwa [stepProf_axes_length])
  rw [hp] at htblSt htblProf
  generalize hu : (s.stepProf k).stepTables k = u at hlen htblSt htblProf
  have hnosheets : u.mot.sheets = [] := by
    rw [← hu]
    exact stepProf_sheets.trans hsheets
  have hmoving : (u.mx k).st = .moving := htblSt.trans hst
  have hway : (u.mx k).prof.position = true → (u.mx k).prof.x ≠ (u.mx k).prof.xt := by
    rw [htblProf, hpos, hx, hxt]
    exact hnext
  have hstep : s.stepOnce State.track k =
      State.accOut k (u.refreshAff 1 k (u.mAcc k)) (u.refreshAff 1 k (u.mAcc k)) := by
    rw [State.stepOnce, if_neg (by rintro ⟨-, h, h'⟩; exact hhere h h'), hu]
    dsimp only
    rw [track_of_noSheets (s := u.refreshAff 1 k (u.mAcc k)) hnosheets,
      homeTravelled_of_moving (s := u.refreshAff 1 k (u.mAcc k)) hmoving,
      motEnd_of_underway (s := u.refreshAff 1 k (u.mAcc k)) hmoving hway]
  have haxes : (s.stepOnce State.track k).mot.axes = u.mot.axes := by rw [hstep, accOut_mot, refreshAff_mot]
  rw [mx_of_axes_eq haxes, haxes, htblProf]
  exact ⟨hmoving, hx, hlen⟩

/-- With nothing queued, a step is one step. -/
theorem stepWith_of_noQueue (h : (s.mx k).queue = none) (tr : Nat → Int → State → State) :
    s.stepWith tr k = s.stepOnce tr k := by
  simp [State.stepWith, h]

/-- The first step of a stepper takes its axis one microstep on (R625). -/
theorem firstStep_of_underway (hk : k < s.mot.axes.length) (hstepper : s.mServo k = false)
    (hqueue : (s.mx k).queue = none) (hst : (s.mx k).st = .moving) (hsheets : s.mot.sheets = [])
    (hhere : (s.mx k).prof.position = true → (s.mx k).prof.x ≠ (s.mx k).prof.xt)
    (hnext : (s.mx k).prof.position = true →
      (s.mx k).prof.x + (s.mx k).prof.dir * 2 ^ 24 ≠ (s.mx k).prof.xt) :
    ((s.firstStep State.track k).mx k).st = .moving ∧
      ((s.firstStep State.track k).mx k).prof.x = (s.mx k).prof.x + (s.mx k).prof.dir * 2 ^ 24 ∧
      (s.firstStep State.track k).mot.axes.length = s.mot.axes.length := by
  rw [State.firstStep, hstepper, if_neg Bool.false_ne_true, stepWith_of_noQueue hqueue]
  exact stepOnce_of_underway hk hst hsheets hhere hnext

end

/-! ## The move commands (O33) -/

/-- The command `i` is the move OP `op` (R634). -/
def IsMove (i : Instr) (k : Fin 12) (op : Nat) (queue ien : Bool) : Prop :=
  ∀ s, exec i s = act (axisCommand k op queue ien (State.cmdMove k op queue ien)) s

/-- The commands of moves, with their OPs. -/
def moves (k : Fin 12) (queue ien : Bool) : List (Instr × Nat) :=
  [(.moveAbsolute k queue ien, 0), (.moveRelative k queue ien, 1), (.velocityPositive k queue ien, 2),
    (.velocityNegative k queue ien, 3)]

theorem isMove_of_mem {k : Fin 12} {queue ien : Bool} : ∀ r ∈ moves k queue ien, IsMove r.1 k r.2 queue ien := by
  simp only [moves, List.forall_mem_cons]
  exact ⟨fun _ => rfl, fun _ => rfl, fun _ => rfl, fun _ => rfl, by simp⟩

/-- The commands of moves that do not ask for the queue slot, with their OPs, and the direction and the target that the
statement gives each. -/
def State.moveRows (s : State) (k : Fin 12) (ien : Bool) : List (Instr × Nat × Int × Option Int) :=
  let x := (s.mx k).prof.x
  let target := s32 (s.motReg k 0x0C)
  [(.moveAbsolute k false ien, 0, if x ≤ target * 2 ^ 24 then 1 else -1, some (target * 2 ^ 24)),
   (.moveRelative k false ien, 1, if 0 ≤ target then 1 else -1, some (x + target * 2 ^ 24)),
   (.velocityPositive k false ien, 2, 1, none), (.velocityNegative k false ien, 3, -1, none)]

/-- Each row is a move OP, toward where the model has the OP go (R629). -/
theorem moveRows_spec {s : State} {k : Fin 12} {ien : Bool} : ∀ r ∈ s.moveRows k ien,
    IsMove r.1 k r.2.1 false ien ∧ s.moveTo k r.2.1 (s32 (s.motReg k 0x0C)) = r.2.2 := by
  simp only [State.moveRows, List.forall_mem_cons]
  exact ⟨⟨fun _ => rfl, rfl⟩, ⟨fun _ => rfl, rfl⟩, ⟨fun _ => rfl, rfl⟩, ⟨fun _ => rfl, rfl⟩, by simp⟩

/-- Without QUEUE the word stored is IEN and OP. -/
theorem cmdWord_unqueued (op : Nat) (ien : Bool) :
    placeB false 27 ||| placeB ien 26 ||| place op 0 4 = placeB ien 26 ||| place op 0 4 := by
  rw [show placeB false 27 = 0#32 from rfl, BitVec.zero_or]

/-- The move OP `op` of a command without QUEUE has started, toward the target in its register. -/
def State.started (s : State) (k op : Nat) (ien : Bool) : State :=
  (s.commanded k op false ien).startMove k op (s32 (s.motReg k 0x0C)) ien

@[simp] theorem started_axes_length (s : State) (k op : Nat) (ien : Bool) :
    (s.started k op ien).mot.axes.length = s.mot.axes.length := by
  simp [State.started, State.commanded]

section
variable {s : State} {k op : Nat} {queue ien : Bool} (hk : k < s.mot.axes.length)
include hk

theorem commanded_mx : (s.commanded k op queue ien).mx k =
    { s.mx k with cmdWord := placeB queue 27 ||| placeB ien 26 ||| place op 0 4 } :=
  mx_onMx_same hk _

/-- Where a move OP goes does not depend on the fields of the command. -/
theorem commanded_moveTo (target : Int) : (s.commanded k op queue ien).moveTo k op target = s.moveTo k op target := by
  unfold State.moveTo
  rw [commanded_mx hk]

/-- The axis as the move of a command has started on it, before a step (R625, R627, R629). -/
theorem started_mx : (s.started k op ien).mx k =
    { s.mx k with
      cmdWord := placeB false 27 ||| placeB ien 26 ||| place op 0 4, st := .moving, holding := false, ien := ien,
      prof := { x := (s.mx k).prof.x, v := ((s.commanded k op false ien).genOf k).vs, a := 0,
                dir := (s.moveTo k op (s32 (s.motReg k 0x0C))).1,
                xt := (s.moveTo k op (s32 (s.motReg k 0x0C))).2.getD (s.mx k).prof.x,
                vs := ((s.commanded k op false ien).genOf k).vs, vc := ((s.commanded k op false ien).genOf k).vc,
                phase := .accel, position := (s.moveTo k op (s32 (s.motReg k 0x0C))).2.isSome } } := by
  rw [State.started, mx_startMove ((onMx_axes_length ..).symm ▸ hk), commanded_mx hk, commanded_moveTo hk]

end

/-- The velocity of a servo axis has no floor (R627). -/
theorem genOf_vs_of_servo {s : State} {k : Nat} (h : s.mServo k = true) : (s.genOf k).vs = 0 := by
  simp [State.genOf, h]

/-- A position that is not the target of a move is not where the move ends, if it ends at a target. -/
theorem ne_target_of_ne {xt : Option Int} {y d : Int} (h : xt ≠ some y) : xt.isSome = true → y ≠ xt.getD d := by
  cases xt with
  | none => simp
  | some z => exact fun _ hy => h (by rw [hy]; rfl)

section
variable {s : State} {k : Fin 12} {op : Nat} {queue ien : Bool} {i : Instr} (haon : s.aonOn = true)
  (heng : s.on .eng = true) (hwrite : s.mayWrite .setp = true)
include haon heng hwrite

theorem does_of_isMove (hmove : IsMove i k op queue ien) {a : Nat} {t : State}
    (h : (s.commanded k op queue ien).cmdMove k op queue ien = (a, t)) :
    Does i s (t.onMx k fun m => { m with cmdStatus := a }) := by
  refine does_of_effect (hmove s) haon ?_
  rw [axisCommand_of_legal k op queue ien _ heng hwrite, h]

/-- A move that is refused stores its fields and the status alone. -/
theorem does_of_refused (hmove : IsMove i k op false ien)
    (h : (s.commanded k op false ien).cmdMove k op false ien = (3, s.commanded k op false ien)) :
    Does i s (s.onMx k fun m => { m with cmdWord := placeB ien 26 ||| place op 0 4, cmdStatus := 3 }) := by
  have hdoes := does_of_isMove haon heng hwrite hmove h
  rwa [State.commanded, onMx_onMx, cmdWord_unqueued] at hdoes

theorem busy_refuses (hmove : IsMove i k op false ien)
    (h : (s.mx k).st = .moving ∨ (s.mx k).st = .homing ∨ (s.mx k).st = .stopping) :
    Does i s (s.onMx k fun m => { m with cmdWord := placeB ien 26 ||| place op 0 4, cmdStatus := 3 }) := by
  have hk : (k : Nat) < s.mot.axes.length := lt_axes_of_enabled (by rcases h with h | h | h <;> simp [h])
  exact does_of_refused haon heng hwrite hmove (cmdMove_refused_of_busy (by rwa [commanded_mx hk]))

theorem limit_refuses (hmove : IsMove i k op false ien) (hidle : (s.mx k).st = .idle)
    (hlimit : s.limitActive k (s.moveTo k op (s32 (s.motReg k 0x0C))).1 = true) :
    Does i s (s.onMx k fun m => { m with cmdWord := placeB ien 26 ||| place op 0 4, cmdStatus := 3 }) := by
  have hk : (k : Nat) < s.mot.axes.length := lt_axes_of_enabled (by simp [hidle])
  refine does_of_refused haon heng hwrite hmove (cmdMove_refused_of_limit (by rwa [commanded_mx hk]) ?_)
  rwa [commanded_moveTo hk]

/-- A move of an idle axis, toward no active limit switch, starts, and a stepper issues its first step. -/
theorem does_of_starts (hmove : IsMove i k op false ien) (hidle : (s.mx k).st = .idle)
    (hfree : s.limitActive k (s.moveTo k op (s32 (s.motReg k 0x0C))).1 = false) :
    Does i s (((s.started k op ien).firstStep State.track k).onMx k fun m => { m with cmdStatus := 1 }) := by
  have hk : (k : Nat) < s.mot.axes.length := lt_axes_of_enabled (by simp [hidle])
  refine does_of_isMove haon heng hwrite hmove (cmdMove_starts (by rwa [commanded_mx hk]) ?_)
  rwa [commanded_moveTo hk]

theorem servo_starts (hmove : IsMove i k op false ien) (hidle : (s.mx k).st = .idle) {d : Int × Option Int}
    (hd : s.moveTo k op (s32 (s.motReg k 0x0C)) = d) (hfree : s.limitActive k d.1 = false)
    (hservo : s.mServo k = true) :
    ∃ t, Does i s t ∧ (t.mx k).st = .moving ∧ (t.mx k).cmdStatus = 1 ∧ (t.mx k).ien = ien ∧
      (t.mx k).prof.x = (s.mx k).prof.x ∧ (t.mx k).prof.v = 0 ∧ (t.mx k).prof.a = 0 ∧ (t.mx k).prof.dir = d.1 ∧
      (t.mx k).prof.xt = d.2.getD (s.mx k).prof.x ∧ (t.mx k).prof.position = d.2.isSome := by
  subst hd
  have hk : (k : Nat) < s.mot.axes.length := lt_axes_of_enabled (by simp [hidle])
  have hv : ((s.commanded k op false ien).genOf k).vs = 0 := genOf_vs_of_servo hservo
  refine ⟨_, does_of_starts haon heng hwrite hmove hidle hfree, ?_⟩
  rw [State.firstStep, if_pos (by exact hservo), mx_onMx_same (by simpa using hk), started_mx hk]
  exact ⟨rfl, rfl, rfl, rfl, hv, rfl, rfl, rfl, rfl⟩

theorem stepper_starts (hmove : IsMove i k op false ien) (hidle : (s.mx k).st = .idle) {d : Int × Option Int}
    (hd : s.moveTo k op (s32 (s.motReg k 0x0C)) = d) (hfree : s.limitActive k d.1 = false)
    (hstepper : s.mServo k = false) (hsheets : s.mot.sheets = []) (hqueue : (s.mx k).queue = none)
    (hhere : d.2 ≠ some (s.mx k).prof.x) (hnext : d.2 ≠ some ((s.mx k).prof.x + d.1 * 2 ^ 24)) :
    ∃ t, Does i s t ∧ (t.mx k).st = .moving ∧ (t.mx k).cmdStatus = 1 ∧
      (t.mx k).prof.x = (s.mx k).prof.x + d.1 * 2 ^ 24 := by
  subst hd
  have hk : (k : Nat) < s.mot.axes.length := lt_axes_of_enabled (by simp [hidle])
  refine ⟨_, does_of_starts haon heng hwrite hmove hidle hfree, ?_⟩
  have hmx := started_mx (op := op) (ien := ien) hk
  obtain ⟨hst, hx, hlen⟩ := firstStep_of_underway (s := s.started k op ien) (by simpa using hk) hstepper
    (by rwa [hmx]) (by rw [hmx]) hsheets (by rw [hmx]; exact ne_target_of_ne hhere) (by rw [hmx]; exact ne_target_of_ne hnext)
  rw [hmx] at hx
  rw [mx_onMx_same (by simpa [hlen] using hk)]
  exact ⟨hst, rfl, hx⟩

end

/-- Settles O33: each command is the move of its OP (`moveRows_spec`, `isMove_of_mem`), and the state of the axis, its
limit switch and its queue slot decide which of its answers it gives. -/
theorem movesStartQueueOrAreRefused : Obligations.MovesStartQueueOrAreRefused := by
  unfold Obligations.MovesStartQueueOrAreRefused
  intro k ien s haon heng hwrite
  refine ⟨?starts, ?limit, ?busy, ?queue⟩
  case starts =>
    intro hidle r hr hfree
    obtain ⟨hmove, hto⟩ := moveRows_spec (s := s) r hr
    exact ⟨servo_starts haon heng hwrite hmove hidle hto hfree,
      stepper_starts haon heng hwrite hmove hidle hto hfree⟩
  case limit =>
    intro hidle r hr hlimit
    obtain ⟨hmove, hto⟩ := moveRows_spec (s := s) r hr
    exact limit_refuses haon heng hwrite hmove hidle (hto.symm ▸ hlimit)
  case busy =>
    intro hst r hr
    exact busy_refuses haon heng hwrite (moveRows_spec (s := s) r hr).1 hst
  case queue =>
    intro hdis hfault r hr
    have hmove := isMove_of_mem r hr
    have hk : (k : Nat) < s.mot.axes.length := lt_axes_of_enabled hdis
    have hmx := commanded_mx (op := r.2) (queue := true) (ien := ien) hk
    refine ⟨fun hnone => ?_, fun hfull => ?_⟩
    · have hdoes := does_of_isMove haon heng hwrite hmove
        (cmdMove_queued (by rwa [hmx]) (by rwa [hmx]) (by rwa [hmx]))
      rwa [State.commanded, onMx_onMx, onMx_onMx] at hdoes
    · have hdoes := does_of_isMove haon heng hwrite hmove
        (cmdMove_full (by rwa [hmx]) (by rwa [hmx]) (by rwa [hmx]))
      rwa [State.commanded, onMx_onMx] at hdoes

end Sys2Proof.Machine

namespace Sys2Proof.Machine

/-! ## A stopped sheet whose token is in flight (O35)

A SAFE entry whose cause concerns motion stops the sheets and leaves their tokens in flight, with the spoil marked (R100,
R101). CLEAR_JAM then takes the sheets off the path (R667), and the tokens end with them (R314, log entry 126), where the
statement has the clear change nothing but MOT and raise source 153. -/

/-- SERVICE, after such an entry: sheet 1 is stopped in the path, with token 3 in flight on it and marked. -/
def sheetLeftBySafe : State :=
  (inService.onTok 3 fun t =>
    { t with state := .imaged, spoilMark := true, reason := 22, sheet := some 1 }).onMot fun m =>
      { m with sheets := [{ num := 1, front := 3, stopped := true }], nextSheet := 2, fed := 1, inPath := 1 }

/-- The MOT block in which the statement has CLEAR_JAM end. -/
def State.clearedMot (s : State) : Mot :=
  let n := BitVec.ofNat 32 (s.mot.sheets.filter fun x => x.stopped).length
  { s.mot with sheets := s.mot.sheets.filter fun x => !x.stopped, jam := none, pathStatus := 1,
               inPath := s.mot.inPath - n, cleared := s.mot.cleared + n }

/-- The state in which the statement has CLEAR_JAM end. -/
def State.sheetsCleared (s : State) : State := (s.onMot fun _ => s.clearedMot).motRaise 153 0

/-- `sheetLeftBySafe` meets the hypotheses of the statement's clause on CLEAR_JAM, the identity of R670 with them. -/
theorem sheetLeftBySafe_mayClear :
    sheetLeftBySafe.aonOn = true ∧ sheetLeftBySafe.on .eng = true ∧ sheetLeftBySafe.mayWrite .setp = true ∧
      sheetLeftBySafe.mayClear = true ∧
      sheetLeftBySafe.mot.fed = sheetLeftBySafe.mot.delivered + sheetLeftBySafe.mot.purged +
        sheetLeftBySafe.mot.inPath + sheetLeftBySafe.mot.cleared := by
  decide

set_option maxRecDepth 4096 in
/-- What the controller does by itself leaves the token as CLEAR_JAM leaves it, and as the statement does. -/
theorem sheetLeftBySafe_after_token :
    ((sheetLeftBySafe.after (clearJam sheetLeftBySafe)).tok 3).state = .spoiled ∧
    ((sheetLeftBySafe.after sheetLeftBySafe.sheetsCleared).tok 3).state = .imaged :=
  ⟨rfl, rfl⟩

/-- Refutes O35, by its clause on CLEAR_JAM: in `sheetLeftBySafe` the token of the sheet that is cleared ends SPOILED,
where the statement has it stay in flight. -/
theorem not_thePathIsWatched : ¬ Obligations.ThePathIsWatched := by
  unfold Obligations.ThePathIsWatched
  rintro ⟨-, -, hclear, -⟩
  obtain ⟨haon, heng, hwrite, hmay, -⟩ := sheetLeftBySafe_mayClear
  obtain ⟨-, hdoes, -⟩ := hclear sheetLeftBySafe haon heng hwrite
  have hsame : sheetLeftBySafe.after sheetLeftBySafe.sheetsCleared = sheetLeftBySafe.after (clearJam sheetLeftBySafe) :=
    after_eq_of_does rfl haon (hdoes hmay)
  obtain ⟨hmodel, hstated⟩ := sheetLeftBySafe_after_token
  rw [hsame, hmodel] at hstated
  exact TState.noConfusion hstated

end Sys2Proof.Machine

namespace Sys2Proof.Machine

/-! ## The commands of a drive unit (R746) -/

/-- The command `i` writes OP `op` into the command register of unit u, where `f` carries it out. -/
def IsUnitCommand (i : Instr) (u : Fin 24) (op : Nat) (f : State → Nat × State) : Prop :=
  ∀ s, exec i s = act (duCommand u op f) s

section
variable (u : Fin 24)

theorem unitStart_isUnitCommand : IsUnitCommand (.unitStart u) u 0 (State.cmdStart u) := fun _ => rfl
theorem unitStop_isUnitCommand : IsUnitCommand (.unitStop u) u 1 (State.cmdStopUnit u false) := fun _ => rfl
theorem unitCoast_isUnitCommand : IsUnitCommand (.unitCoast u) u 2 (State.cmdStopUnit u true) := fun _ => rfl
theorem unitFaultClear_isUnitCommand : IsUnitCommand (.unitFaultClear u) u 3 (State.cmdClearUnit u) := fun _ => rfl
theorem advanceTableApply_isUnitCommand : IsUnitCommand (.advanceTableApply u) u 4
    fun s => (1, s.onDu u fun d => { d with advArmed := true }) := fun _ => rfl

end

/-! ## A drive unit after a change of it, and what the change leaves -/

theorem du_onDu_same {s : State} {u : Nat} (hu : u < s.drv.units.length) (f : DUnit → DUnit) :
    (s.onDu u f).du u = f (s.du u) :=
  nth_modAt_same _ _ _ _ hu

@[simp] theorem onDu_units_length (u : Nat) (f : DUnit → DUnit) (s : State) :
    (s.onDu u f).drv.units.length = s.drv.units.length := List.length_modify _ _ _

/-- Two changes of a unit are one. -/
theorem onDu_onDu (u : Nat) (f g : DUnit → DUnit) (s : State) :
    (s.onDu u f).onDu u g = s.onDu u fun d => g (f d) := by
  simp [State.onDu, modAt, List.modify_modify_eq, Function.comp_def]

/-- A unit that the store does not list reads as a disabled one. -/
theorem lt_units_of_enabled {s : State} {u : Nat} (h : (s.du u).st ≠ .disabled) : u < s.drv.units.length := by
  by_contra hu
  exact h (by simp [State.du, nth, List.getElem?_eq_none (Nat.le_of_not_lt hu)])

/-- Of a change of a unit only what it makes of the unit as it stands matters. -/
theorem onDu_congr {s : State} {u : Nat} {f g : DUnit → DUnit} (h : f (s.du u) = g (s.du u)) :
    s.onDu u f = s.onDu u g := by
  have hunits : modAt s.drv.units u f = modAt s.drv.units u g := by
    refine List.ext_getElem? fun i => ?_
    simp only [modAt, List.getElem?_modify]
    by_cases hi : u = i
    · subst hi
      cases hget : s.drv.units[u]? with
      | none => rfl
      | some d =>
        have hd : s.du u = d := by simp [State.du, nth, hget]
        simpa [hd] using h
    · simp [hi]
  simp [State.onDu, hunits]

theorem du_of_units_eq {s t : State} (h : t.drv.units = s.drv.units) (u : Nat) : t.du u = s.du u := by
  rw [State.du, State.du, h]

/-- A source of DRV that is raised changes no unit. -/
@[simp] theorem drvRaise_du (n i u : Nat) (s : State) : (s.drvRaise n i).du u = s.du u :=
  du_of_units_eq (by simp [State.drvRaise]) u

/-! ## A write of `DRV_Uu_CMD` (R746) -/

/-- The OP of a command with GO = 1 is stored. -/
def State.duCommanded (s : State) (u op : Nat) : State := s.onDu u fun d => { d with cmdOp := op }

@[simp] theorem duCommanded_units_length (s : State) (u op : Nat) :
    (s.duCommanded u op).drv.units.length = s.drv.units.length := onDu_units_length ..

/-- A stored OP leaves the state of the unit. -/
@[simp] theorem duCommanded_st (s : State) (u op : Nat) : ((s.duCommanded u op).du u).st = (s.du u).st := by
  by_cases hu : u < s.drv.units.length
  · rw [State.duCommanded, du_onDu_same hu]
  · rw [State.duCommanded, State.du, State.onDu, nth_modAt, if_neg fun h => hu h.2, State.du]

/-- The write of the class of an OP reaches the command register of a unit: a start is judged in every mode (R694). -/
theorem duCommand_of_legal {s : State} (u : Fin 24) (op : Nat) (f : State → Nat × State)
    (heng : s.on .eng = true) (hwrite : s.mayWrite .setp = true) :
    duCommand u op f s =
      let r := if op ≤ 2 ∧ (s.duSrc u = 1 ∨ s.duSrc u = 2) then (3, s.duCommanded u op) else f (s.duCommanded u op)
      r.2.onDu u fun d => { d with cmdStatus := r.1 } := by
  have hdom : offDom (0x68100C + 0x80 * u) = some .eng :=
    (by decide : ∀ u : Fin 24, offDom (0x68100C + 0x80 * u) = some .eng) u
  have hmay : s.mayWrite (if op = 0 then .any else .setp) = true := by
    split
    · exact mayWrite_any s
    · exact hwrite
  rw [duCommand, bar0_of_legal hdom heng hmay]
  simp only [hwrite, if_true]
  rfl

section
variable {s : State} {u : Fin 24} {i : Instr} {op : Nat} {f : State → Nat × State}
  (hcmd : IsUnitCommand i u op f) (haon : s.aonOn = true) (heng : s.on .eng = true)
  (hwrite : s.mayWrite .setp = true)
include hcmd haon heng hwrite

/-- A unit that an axis or a station drives takes none of OPs 0 to 2 (R746). -/
theorem unitCommand_refused_of_driven (hop : op ≤ 2) (hsrc : s.duSrc u = 1 ∨ s.duSrc u = 2) :
    Does i s (s.onDu u fun d => { d with cmdOp := op, cmdStatus := 3 }) := by
  refine does_of_effect (hcmd s) haon ?_
  rw [duCommand_of_legal u op f heng hwrite, if_pos ⟨hop, hsrc⟩, State.duCommanded, onDu_onDu]

section
variable (hown : op ≤ 2 → s.duSrc u ≠ 1 ∧ s.duSrc u ≠ 2)
include hown

/-- A unit of its own setpoint or duty answers with what its OP gives. -/
theorem does_of_unitCommand {a : Nat} {t : State} (h : f (s.duCommanded u op) = (a, t)) :
    Does i s (t.onDu u fun d => { d with cmdStatus := a }) := by
  refine does_of_effect (hcmd s) haon ?_
  have hnot : ¬(op ≤ 2 ∧ (s.duSrc u = 1 ∨ s.duSrc u = 2)) := fun ⟨hop, hsrc⟩ =>
    hsrc.elim (hown hop).1 (hown hop).2
  rw [duCommand_of_legal u op f heng hwrite, if_neg hnot, h]

theorem unitCommand_refused {a : Nat} (h : f (s.duCommanded u op) = (a, s.duCommanded u op)) :
    Does i s (s.onDu u fun d => { d with cmdOp := op, cmdStatus := a }) := by
  have hdoes := does_of_unitCommand hcmd haon heng hwrite hown h
  rwa [State.duCommanded, onDu_onDu] at hdoes

/-- An OP that changes its own unit by `g` changes it, with the OP and the STATUS stored, by `k`. -/
theorem unitCommand_changes {a : Nat} {g k : DUnit → DUnit}
    (h : f (s.duCommanded u op) = (a, (s.duCommanded u op).onDu u g))
    (hk : ∀ d, { g { d with cmdOp := op } with cmdStatus := a } = k d) : Does i s (s.onDu u k) := by
  have hdoes := does_of_unitCommand hcmd haon heng hwrite hown h
  rwa [State.duCommanded, onDu_onDu, onDu_onDu, funext hk] at hdoes

end
end

/-! ## What the OPs answer (R694, R709, R746, R1040) -/

section
variable {s : State} {u : Nat}

theorem startUnit_of_idle (hidle : (s.du u).st = .idle) (hcal : s.unitCal u = false) (hlive : s.engineLive = true)
    (hcut : s.drv.hardCut = false) :
    s.startUnit u = (s.attempt u).onDu u fun d => { d with attempts := 1, catches := 0, fcode := 0 } :=
  if_neg (by simp [hidle, hcal, hlive, hcut])

theorem cmdStart_starts (hidle : (s.du u).st = .idle) (hcal : s.unitCal u = false) (hlive : s.engineLive = true)
    (hcut : s.drv.hardCut = false) (hen : s.duEn u = true) (hcount : s.duCount u ≠ 0) :
    s.cmdStart u = (1, s.startUnit u) := by
  simp [State.cmdStart, hidle, hcal, hlive, hcut, hen, hcount]

theorem cmdStart_refused (hcal : s.unitCal u = false) (h : s.engineLive = false ∨ s.drv.hardCut = true) :
    s.cmdStart u = (3, s) :=
  (if_neg (by simp [hcal])).trans (if_pos (by rcases h with h | h <;> simp [h]))

/-- A unit in FAULT refuses a stop and a coast; a running one takes them. -/
theorem cmdStopUnit_answers (coast : Bool) :
    ((s.du u).st = .fault → s.cmdStopUnit u coast = (3, s)) ∧
      ((s.du u).st = .run → s.cmdStopUnit u coast =
        (1, if coast then s.onDu u fun d =>
            { d with st := .coast, stopWanted := true, attemptWait := false, catchWait := false, regenCoast := false,
                     lowSides := false, commAt := none }
          else s.stopUnit u)) := by
  constructor <;> intro h
  · simp [State.cmdStopUnit, h]
  · cases coast <;> simp [State.cmdStopUnit, h]

/-- A running motor that is stopped goes to STOPPING, where its rotor is waited for (R722). -/
theorem stopUnit_of_run (hrun : (s.du u).st = .run) (htype : s.duType u = 1) :
    s.stopUnit u = s.onDu u fun d =>
      { d with st := .stopping, stopWanted := true, attemptWait := false, regenCoast := false, commAt := none } := by
  rw [State.stopUnit]
  exact onDu_congr (by simp [hrun, htype])

theorem cmdClearUnit_clears (hfault : (s.du u).st = .fault) :
    s.cmdClearUnit u = (1, s.onDu u fun d => { d with st := .idle, fcode := 0, attempts := 0 }) :=
  if_pos hfault

theorem cmdClearUnit_refused (hfault : (s.du u).st ≠ .fault) : s.cmdClearUnit u = (3, s) := if_neg hfault

/-! ## Attempts, catches and the stopped rotor (R720 to R722) -/

@[simp] theorem attempt_units_length : (s.attempt u).drv.units.length = s.drv.units.length := onDu_units_length ..

/-- The unit after a fresh attempt begins with SENSE if it is a three-phase motor, and with RUN if not (R719). -/
theorem attempt_du (hu : u < s.drv.units.length) :
    ((s.attempt u).du u).st = (if s.duType u = 1 then .sense else .run) ∧
      ((s.attempt u).du u).attemptWait = false := by
  rw [State.attempt, du_onDu_same hu]
  exact ⟨rfl, rfl⟩

/-- A fault whose code reaches no motion axis: the unit is in FAULT with that code (R735). -/
theorem faultUnit_du {fcode : Nat} (hfault : (s.du u).st ≠ .fault) (hdis : (s.du u).st ≠ .disabled)
    (hcode : ¬(fcode = 3 ∨ fcode = 5 ∨ fcode = 6)) :
    ((s.faultUnit u fcode).du u).st = .fault ∧ ((s.faultUnit u fcode).du u).fcode = fcode := by
  rw [State.faultUnit, if_neg (not_or.2 ⟨hfault, hdis⟩)]
  simp only [hcode, and_false, if_false, drvRaise_du, du_onDu_same (lt_units_of_enabled hdis), and_self]

/-- RAMP_MAX ends an attempt in RAMP: with attempts left the bridges open and the rotor is waited for; with none the unit
faults (R720, R721). -/
theorem unitAttemptFailed_of_ramp (heng : s.on .eng = true) (htype : s.duType u = 1) (hramp : (s.du u).st = .ramp) :
    unitAttemptFailed u 1 0 s =
      if fld (s.drvReg u 0x20) 28 3 < (s.du u).attempts then (s.drvRaise 161 u).faultUnit u 1
      else s.onDu u fun d => { d with st := .coast, attemptWait := true, commAt := none } :=
  if_neg (by simp [State.attemptFails, heng, htype, hramp])

/-- A backward turn within the bound fails no attempt (R720). -/
theorem unitAttemptFailed_within {degrees : Nat} (hturn : degrees ≤ fld (s.drvReg u 0x20) 20 8) :
    unitAttemptFailed u 0 degrees s = s := by
  have hnot : s.attemptFails u 0 degrees = false :=
    Bool.and_eq_false_imp.2 fun _ => decide_eq_false (Nat.not_lt.2 hturn)
  exact if_pos (by simp [hnot])

/-- CATCH_TIME ends a catch; the third failure gives the rotor up (R722 steps 6 and 7). -/
theorem catchTimeout_of_catching (heng : s.on .eng = true) (htype : s.duType u = 1) (hcatch : (s.du u).st = .catching) :
    catchTimeout u s =
      if 3 ≤ (s.du u).catches then s.giveUp u
      else s.onDu u fun d => { d with st := .coast, catchWait := true, zcInt := [], zcLast := none, commAt := none } := by
  simp [catchTimeout, heng, htype, hcatch]

/-- The stopped rotor of a failed attempt begins the next one, which is counted (R720). -/
theorem unitStopped_retries (heng : s.on .eng = true) (hwait : (s.du u).attemptWait = true)
    (hlive : s.engineLive = true) :
    s.unitStopped u = (s.attempt u).onDu u fun x => { x with attempts := satInc 15 (s.du u).attempts } :=
  (if_neg (by simp [heng])).trans ((if_pos hwait).trans (if_pos hlive))

/-- The stopped rotor ends a commanded stop (R746). -/
theorem unitStopped_ends (heng : s.on .eng = true) (hst : (s.du u).st = .stopping)
    (hwait : (s.du u).attemptWait = false) (hwanted : (s.du u).stopWanted = true) :
    s.unitStopped u = s.onDu u fun d => { d with st := .idle, lowSides := false, omega := 0 } := by
  simp [State.unitStopped, heng, hst, hwait, hwanted]

end

/-! ## The commands of a unit and the ends of its waits (O37) -/

section
variable {s : State} {u : Fin 24} (haon : s.aonOn = true) (heng : s.on .eng = true)
include haon heng

section
variable (hwrite : s.mayWrite .setp = true)
include hwrite

/-- A start of an idle unit begins its first attempt (R719, R746). -/
theorem unitStart_starts (hown : s.duSrc u ≠ 1 ∧ s.duSrc u ≠ 2) (hidle : (s.du u).st = .idle)
    (hcal : s.unitCal u = false) (hlive : s.engineLive = true) (hcut : s.drv.hardCut = false) (hen : s.duEn u = true)
    (hcount : s.duCount u ≠ 0) :
    ∃ t, Does (.unitStart u) s t ∧ (t.du u).cmdStatus = 1 ∧ (t.du u).attempts = 1 ∧
      (t.du u).st = (if s.duType u = 1 then .sense else .run) ∧ (t.du u).fcode = 0 := by
  have hu : (u : Nat) < s.drv.units.length := lt_units_of_enabled (by simp [hidle])
  have hidle' : ((s.duCommanded u 0).du u).st = .idle := (duCommanded_st s u 0).trans hidle
  have hanswer := (cmdStart_starts hidle' hcal hlive hcut hen hcount).trans
    (congrArg (Prod.mk 1) (startUnit_of_idle hidle' hcal hlive hcut))
  refine ⟨_, does_of_unitCommand (unitStart_isUnitCommand u) haon heng hwrite (fun _ => hown) hanswer, ?_⟩
  rw [onDu_onDu, du_onDu_same (by simpa using hu)]
  exact ⟨rfl, rfl, (attempt_du (by simpa using hu)).1, rfl⟩

theorem unitStart_refused (hown : s.duSrc u ≠ 1 ∧ s.duSrc u ≠ 2) (hcal : s.unitCal u = false)
    (h : s.engineLive = false ∨ s.drv.hardCut = true) :
    Does (.unitStart u) s (s.onDu u fun d => { d with cmdOp := 0, cmdStatus := 3 }) :=
  unitCommand_refused (unitStart_isUnitCommand u) haon heng hwrite (fun _ => hown)
    (cmdStart_refused (s := s.duCommanded u 0) hcal h)

theorem unitStop_stops (hown : s.duSrc u ≠ 1 ∧ s.duSrc u ≠ 2) (hrun : (s.du u).st = .run) (htype : s.duType u = 1) :
    Does (.unitStop u) s (s.onDu u fun d =>
      { d with cmdOp := 1, cmdStatus := 1, st := .stopping, stopWanted := true, attemptWait := false,
               regenCoast := false, commAt := none }) := by
  have hrun' : ((s.duCommanded u 1).du u).st = .run := (duCommanded_st s u 1).trans hrun
  exact unitCommand_changes (unitStop_isUnitCommand u) haon heng hwrite (fun _ => hown)
    (((cmdStopUnit_answers false).2 hrun').trans (congrArg (Prod.mk 1) (stopUnit_of_run hrun' htype))) fun _ => rfl

theorem unitCoast_coasts (hown : s.duSrc u ≠ 1 ∧ s.duSrc u ≠ 2) (hrun : (s.du u).st = .run) :
    Does (.unitCoast u) s (s.onDu u fun d =>
      { d with cmdOp := 2, cmdStatus := 1, st := .coast, stopWanted := true, attemptWait := false, catchWait := false,
               regenCoast := false, lowSides := false, commAt := none }) :=
  unitCommand_changes (unitCoast_isUnitCommand u) haon heng hwrite (fun _ => hown)
    ((cmdStopUnit_answers true).2 ((duCommanded_st s u 2).trans hrun)) fun _ => rfl

/-- A unit in FAULT takes neither a stop nor a coast. -/
theorem unitStop_unitCoast_refused (hown : s.duSrc u ≠ 1 ∧ s.duSrc u ≠ 2) (hfault : (s.du u).st = .fault) :
    Does (.unitStop u) s (s.onDu u fun d => { d with cmdOp := 1, cmdStatus := 3 }) ∧
      Does (.unitCoast u) s (s.onDu u fun d => { d with cmdOp := 2, cmdStatus := 3 }) :=
  ⟨unitCommand_refused (unitStop_isUnitCommand u) haon heng hwrite (fun _ => hown)
      ((cmdStopUnit_answers false).1 ((duCommanded_st s u 1).trans hfault)),
    unitCommand_refused (unitCoast_isUnitCommand u) haon heng hwrite (fun _ => hown)
      ((cmdStopUnit_answers true).1 ((duCommanded_st s u 2).trans hfault))⟩

theorem unitFaultClear_clears (hfault : (s.du u).st = .fault) :
    Does (.unitFaultClear u) s (s.onDu u fun d =>
      { d with cmdOp := 3, cmdStatus := 1, st := .idle, fcode := 0, attempts := 0 }) :=
  unitCommand_changes (unitFaultClear_isUnitCommand u) haon heng hwrite (fun h => absurd h (by decide))
    (cmdClearUnit_clears ((duCommanded_st s u 3).trans hfault)) fun _ => rfl

theorem unitFaultClear_refused (hfault : (s.du u).st ≠ .fault) :
    Does (.unitFaultClear u) s (s.onDu u fun d => { d with cmdOp := 3, cmdStatus := 3 }) :=
  unitCommand_refused (unitFaultClear_isUnitCommand u) haon heng hwrite (fun h => absurd h (by decide))
    (cmdClearUnit_refused (by rwa [duCommanded_st]))

theorem advanceTableApply_arms :
    Does (.advanceTableApply u) s (s.onDu u fun d => { d with cmdOp := 4, cmdStatus := 1, advArmed := true }) :=
  unitCommand_changes (advanceTableApply_isUnitCommand u) haon heng hwrite (fun h => absurd h (by decide))
    rfl fun _ => rfl

end

theorem unitAttemptFailed_fault (htype : s.duType u = 1) (hramp : (s.du u).st = .ramp)
    (hused : fld (s.drvReg u 0x20) 28 3 < (s.du u).attempts) :
    ∃ t, Does (.unitAttemptFailed u 1 0) s t ∧ (t.du u).st = .fault ∧ (t.du u).fcode = 1 := by
  refine ⟨_, does_of_effect rfl haon ((unitAttemptFailed_of_ramp heng htype hramp).trans (if_pos hused)), ?_⟩
  exact faultUnit_du (by simp [hramp]) (by simp [hramp]) (by decide)

theorem rotorStopped_retries (htype : s.duType u = 1) (hcoast : (s.du u).st = .coast)
    (hwait : (s.du u).attemptWait = true) (hlive : s.engineLive = true) :
    ∃ t, Does (.rotorStopped (some u)) s t ∧ (t.du u).st = .sense ∧
      (t.du u).attempts = satInc 15 (s.du u).attempts ∧ (t.du u).attemptWait = false := by
  have hu : (u : Nat) < s.drv.units.length := lt_units_of_enabled (by simp [hcoast])
  obtain ⟨hst, hready⟩ := attempt_du hu
  refine ⟨_, does_of_effect rfl haon (unitStopped_retries heng hwait hlive), ?_⟩
  rw [du_onDu_same (by simpa using hu)]
  exact ⟨hst.trans (if_pos htype), rfl, hready⟩

end

/-- Settles O37: a command of a unit is the answer of its OP on the stored command (`does_of_unitCommand`), and each end
of a wait is one case of its event. -/
theorem unitsStartStopAndCatch : Obligations.UnitsStartStopAndCatch := by
  unfold Obligations.UnitsStartStopAndCatch
  refine ⟨fun u s haon heng hwrite => ⟨fun haxis hstation => ?own, unitFaultClear_clears haon heng hwrite,
      unitFaultClear_refused haon heng hwrite, advanceTableApply_arms haon heng hwrite, fun hdriven => ?driven⟩,
    fun u s haon heng htype => ⟨fun hramp => ?attempt, fun deg _ hturn => ?within, fun hcatch => ?caught,
      rotorStopped_retries haon heng htype, fun hst hwait hwanted => ?stopped⟩⟩
  case own =>
    have hown := And.intro haxis hstation
    exact ⟨unitStart_starts haon heng hwrite hown,
      fun hcal hdead => unitStart_refused haon heng hwrite hown hcal (.inl hdead),
      fun hcal hcut => unitStart_refused haon heng hwrite hown hcal (.inr hcut),
      unitStop_stops haon heng hwrite hown, unitCoast_coasts haon heng hwrite hown,
      unitStop_unitCoast_refused haon heng hwrite hown⟩
  case driven =>
    exact ⟨unitCommand_refused_of_driven (unitStart_isUnitCommand u) haon heng hwrite (by decide) hdriven,
      unitCommand_refused_of_driven (unitStop_isUnitCommand u) haon heng hwrite (by decide) hdriven,
      unitCommand_refused_of_driven (unitCoast_isUnitCommand u) haon heng hwrite (by decide) hdriven⟩
  case attempt =>
    exact ⟨fun hleft => does_of_effect rfl haon ((unitAttemptFailed_of_ramp heng htype hramp).trans
        (if_neg (Nat.not_lt.2 hleft))),
      unitAttemptFailed_fault haon heng htype hramp⟩
  case within => exact does_of_effect rfl haon (unitAttemptFailed_within hturn)
  case caught =>
    exact ⟨fun hleft => does_of_effect rfl haon ((catchTimeout_of_catching heng htype hcatch).trans
        (if_neg (Nat.not_le.2 hleft))),
      fun hthird => does_of_effect rfl haon ((catchTimeout_of_catching heng htype hcatch).trans (if_pos hthird))⟩
  case stopped => exact does_of_effect rfl haon (unitStopped_ends heng hst hwait hwanted)

end Sys2Proof.Machine
